-- ==== Sys2Proof/Word.lean ====
section
/-! DEFINITION. The byte of the lines, and the two units of elapsed time. -/

namespace Sys2Proof

/-- A byte of a gauge reply or of a link frame: the only thing this part treats as bits on its lines. -/
abbrev Byte := BitVec 8

/-- Elapsed time is kept in milliseconds; a setting in seconds is this many of them. -/
abbrev secondMs : Nat := 1000

end Sys2Proof
end

