-- ==== Sys2Proof/Syntax.lean ====
section
/-! DEFINITION. The names the manual uses (stations, chambers, bodies, actuators, signals …), the small containers indexed
by them, and the ONE inductive of commands: one constructor per row of spec/opcode_table.json, with the row's operands. -/

namespace Sys2Proof

/-! ## Names -/

/-- The three control positions. -/
inductive Station where
  | uc | lc | tc
  deriving DecidableEq, Repr

/-- The two chambers. -/
inductive Chamber where
  | c1 | c2
  deriving DecidableEq, Repr

/-- The other of the two chambers. -/
def Chamber.other : Chamber → Chamber
  | .c1 => .c2
  | .c2 => .c1

/-- The four bodies of water, in the order of the site model. -/
inductive Body where
  | up | lp | c1 | c2
  deriving DecidableEq, Repr

/-- The body of water of a chamber. -/
def Chamber.body : Chamber → Body
  | .c1 => .c1
  | .c2 => .c2

/-- The two gauges of a body. -/
inductive GaugeSide where
  | a | b
  deriving DecidableEq, Repr

/-- The upper or the lower end of a chamber: it names a gate, a chamber sluice or an approach. -/
inductive Side where
  | upper | lower
  deriving DecidableEq, Repr

/-- The opposite end. -/
def Side.other : Side → Side
  | .upper => .lower
  | .lower => .upper

/-- The pound at an end: UP at the upper end, LP at the lower one. -/
def Side.pound : Side → Body
  | .upper => .up
  | .lower => .lp

/-- R10: a pair of bodies that a gate or sluice joins. `across .upper k` is UP and Ck, `across .lower k` is LP and Ck. -/
inductive Pair where
  | across (e : Side) (k : Chamber)
  | cross
  deriving DecidableEq, Repr

/-- A sluice: one of the four chamber sluices, or the cross sluice. -/
inductive Sluice where
  | chamber (k : Chamber) (e : Side)
  | cross
  deriving DecidableEq, Repr

/-- The nine actuators of the drive line. -/
inductive Actuator where
  | gate (k : Chamber) (e : Side)
  | sluice (q : Sluice)
  deriving DecidableEq, Repr

/-- A lockage's direction: UP from the lower to the upper pound. -/
inductive Direction where
  | up | down
  deriving DecidableEq, Repr

/-- The opposite direction. -/
def Direction.other : Direction → Direction
  | .up => .down
  | .down => .up

/-- The end at which a batch of this direction enters: the lower one for UP. -/
def Direction.entryEnd : Direction → Side
  | .up => .lower
  | .down => .upper

/-- The end at which a batch of this direction leaves. -/
def Direction.exitEnd (d : Direction) : Side := d.entryEnd.other

/-- The class of a passage order. -/
inductive OrderClass where
  | normal | priority
  deriving DecidableEq, Repr

/-- The mode of a chamber. -/
inductive Mode where
  | automatic | directed
  deriving DecidableEq, Repr

/-- The reports of a gate drive (The drive line). -/
inductive GateReport where
  | closedReached | openReached | leftClosed | leftOpen | driveFault
  deriving DecidableEq, Repr

/-- R27: the answers a drive may give to the STATUS query. -/
inductive StatusAnswer where
  | closed | opened | intermediate | movingOpen | movingClosed
  | atRest (step : Nat)
  | moving (target step : Nat)
  | fault (step : Option Nat)
  deriving DecidableEq, Repr

/-- What a SLUICE request may name; naming the cross sluice is refused (R60). -/
inductive SluiceChoice where
  | upper | lower | cross
  deriving DecidableEq, Repr

/-- The four signals of a chamber. -/
inductive Signal where
  | eu | el | xu | xl
  deriving DecidableEq, Repr

/-- The three lamps of a signal. -/
inductive LampName where
  | redA | redB | green
  deriving DecidableEq, Repr

/-- One of the 24 lamps. -/
structure LampId where
  chamber : Chamber
  signal : Signal
  lamp : LampName
  deriving DecidableEq, Repr

/-- The two flash generators. -/
inductive Generator where
  | a | b
  deriving DecidableEq, Repr

/-- The eleven notice kinds, in their numbered order. -/
inductive NoticeKind where
  | fault | entryOverdue | leaveOverdue | batchBound | fillSlow | journalWatermark | journalPressure
  | conductTaken | vesselHeld | clockUnset | settingsDefaulted
  deriving DecidableEq, Repr

/-- Every notice kind, in its numbered order. -/
def NoticeKind.all : List NoticeKind :=
  [.fault, .entryOverdue, .leaveOverdue, .batchBound, .fillSlow, .journalWatermark, .journalPressure,
    .conductTaken, .vesselHeld, .clockUnset, .settingsDefaulted]

/-- The two attention modes. -/
inductive AttentionMode where
  | level | pulse
  deriving DecidableEq, Repr

/-- How a window's cursor moves. -/
inductive WindowStep where
  | up | down | stay
  deriving DecidableEq, Repr

/-- R178: why a frame that ran to its abandonment without a gap is bad. -/
inductive BadCause where
  | length | framing | crc
  deriving DecidableEq, Repr

/-- R176: the two strap inputs of a port; `true` is high. -/
structure Straps where
  first : Bool
  second : Bool
  deriving DecidableEq, Repr

/-- R78: the arguments of ADD VESSEL, as carried: `exempt` is the raw choice byte, since R79 refuses it out of its set. -/
structure VesselArgs where
  mark : List Byte
  operator : Nat
  length : Nat
  beam : Nat
  draught : Nat
  deadweight : Nat
  exempt : Nat
  ceiling : Nat
  deriving DecidableEq, Repr

/-- R84: the arguments of SEEK. `care` has one flag per mark position; `heldToo` is the filter ACTIVE and HELD. -/
structure SeekArgs where
  key : List Byte
  care : List Bool
  operator : Nat
  operatorCare : Bool
  heldToo : Bool
  deriving DecidableEq, Repr

/-! ## Containers: a fixed number of like things, one field each -/

/-- One value for each station. -/
structure PerStation (α : Type) where
  uc : α
  lc : α
  tc : α
  deriving DecidableEq, Repr

/-- The value of one station. -/
def PerStation.get {α : Type} (v : PerStation α) : Station → α
  | .uc => v.uc
  | .lc => v.lc
  | .tc => v.tc

/-- Replace the value of one station. -/
def PerStation.set {α : Type} (v : PerStation α) (st : Station) (x : α) : PerStation α :=
  match st with
  | .uc => { v with uc := x }
  | .lc => { v with lc := x }
  | .tc => { v with tc := x }

/-- One value for each chamber. -/
structure PerChamber (α : Type) where
  c1 : α
  c2 : α
  deriving DecidableEq, Repr

/-- The value of one chamber. -/
def PerChamber.get {α : Type} (v : PerChamber α) : Chamber → α
  | .c1 => v.c1
  | .c2 => v.c2

/-- Replace the value of one chamber. -/
def PerChamber.set {α : Type} (v : PerChamber α) (k : Chamber) (x : α) : PerChamber α :=
  match k with
  | .c1 => { v with c1 := x }
  | .c2 => { v with c2 := x }

/-- One value for each body. -/
structure PerBody (α : Type) where
  up : α
  lp : α
  c1 : α
  c2 : α
  deriving DecidableEq, Repr

/-- The value of one body. -/
def PerBody.get {α : Type} (v : PerBody α) : Body → α
  | .up => v.up
  | .lp => v.lp
  | .c1 => v.c1
  | .c2 => v.c2

/-- Replace the value of one body. -/
def PerBody.set {α : Type} (v : PerBody α) (b : Body) (x : α) : PerBody α :=
  match b with
  | .up => { v with up := x }
  | .lp => { v with lp := x }
  | .c1 => { v with c1 := x }
  | .c2 => { v with c2 := x }

/-- One value for each gauge of a body. -/
structure PerGauge (α : Type) where
  a : α
  b : α
  deriving DecidableEq, Repr

/-- The value of one gauge. -/
def PerGauge.get {α : Type} (v : PerGauge α) : GaugeSide → α
  | .a => v.a
  | .b => v.b

/-- Replace the value of one gauge. -/
def PerGauge.set {α : Type} (v : PerGauge α) (g : GaugeSide) (x : α) : PerGauge α :=
  match g with
  | .a => { v with a := x }
  | .b => { v with b := x }

/-- One value for each end of a chamber. -/
structure PerEnd (α : Type) where
  upper : α
  lower : α
  deriving DecidableEq, Repr

/-- The value of one end. -/
def PerEnd.get {α : Type} (v : PerEnd α) : Side → α
  | .upper => v.upper
  | .lower => v.lower

/-- Replace the value of one end. -/
def PerEnd.set {α : Type} (v : PerEnd α) (e : Side) (x : α) : PerEnd α :=
  match e with
  | .upper => { v with upper := x }
  | .lower => { v with lower := x }

/-- One value for each direction. -/
structure PerDirection (α : Type) where
  up : α
  down : α
  deriving DecidableEq, Repr

/-- The value of one direction. -/
def PerDirection.get {α : Type} (v : PerDirection α) : Direction → α
  | .up => v.up
  | .down => v.down

/-- Replace the value of one direction. -/
def PerDirection.set {α : Type} (v : PerDirection α) (d : Direction) (x : α) : PerDirection α :=
  match d with
  | .up => { v with up := x }
  | .down => { v with down := x }

/-- One value for each signal of a chamber. -/
structure PerSignal (α : Type) where
  eu : α
  el : α
  xu : α
  xl : α
  deriving DecidableEq, Repr

/-- The value of one signal. -/
def PerSignal.get {α : Type} (v : PerSignal α) : Signal → α
  | .eu => v.eu
  | .el => v.el
  | .xu => v.xu
  | .xl => v.xl

/-- Replace the value of one signal. -/
def PerSignal.set {α : Type} (v : PerSignal α) (g : Signal) (x : α) : PerSignal α :=
  match g with
  | .eu => { v with eu := x }
  | .el => { v with el := x }
  | .xu => { v with xu := x }
  | .xl => { v with xl := x }

/-- One value for each lamp of a signal. -/
structure PerLamp (α : Type) where
  redA : α
  redB : α
  green : α
  deriving DecidableEq, Repr

/-- The value of one lamp. -/
def PerLamp.get {α : Type} (v : PerLamp α) : LampName → α
  | .redA => v.redA
  | .redB => v.redB
  | .green => v.green

/-- Replace the value of one lamp. -/
def PerLamp.set {α : Type} (v : PerLamp α) (l : LampName) (x : α) : PerLamp α :=
  match l with
  | .redA => { v with redA := x }
  | .redB => { v with redB := x }
  | .green => { v with green := x }

/-! ## The commands -/

/-- The part's commands and events: one constructor for each row of the table. A command that is a station's request
carries the station that sends it first. -/
inductive Instr where
  /-- Power-on or the reset line, with the strap inputs as they stand (R186, R176). -/
  | powerOnReset (straps : PerStation Straps)
  /-- The RESTART request (R190). -/
  | restart (st : Station)
  /-- The restart itself, with the strap inputs as they stand (R190, R176). -/
  | restartEvent (straps : PerStation Straps)
  /-- The gauge line is free and takes the head of the round queue (R2). -/
  | roundStart
  /-- A body's round timer expires (R2). -/
  | roundTimerExpiry (b : Body)
  /-- A complete gauge reply within 20 ms, its four bytes (R1). -/
  | gaugeReply (b1 b2 b3 b4 : Byte)
  /-- No complete gauge reply within 20 ms (R1). -/
  | noReply
  /-- Stray bytes on the gauge line (R1). -/
  | gaugeStrayBytes (bytes : List Byte)
  /-- A body's hold timer expires (R3). -/
  | holdTimerExpiry (b : Body)
  /-- A SETTLING pair has been equal for EQ_SETTLE (R11). -/
  | settleExpiry (p : Pair)
  /-- The trail timer expires (R13). -/
  | trailTimerExpiry
  /-- FORCE FAST ON or OFF (R4). -/
  | forceFast (st : Station) (on : Bool)
  /-- READ LEVELS (R14). -/
  | readLevels (st : Station)
  /-- The drive controller starts a polling cycle (R17). -/
  | drivePollCycle
  /-- A gate drive's report (R20). -/
  | gateReport (k : Chamber) (e : Side) (r : GateReport)
  /-- REACHED(step) from a sluice drive (R24). -/
  | sluiceReport (q : Sluice) (step : Nat)
  /-- The outstanding report poll gets no answer within 20 ms (R17). -/
  | driveAnswerTimeout
  /-- The correct echo of an order (R17). -/
  | orderEcho (a : Actuator)
  /-- An order's echo is missing or wrong (R17). -/
  | echoTimeout (a : Actuator)
  /-- Stray bytes on the drive line (R17). -/
  | driveStrayBytes (bytes : List Byte)
  /-- A drive's answer to the STATUS query (R27). -/
  | statusAnswer (a : Actuator) (ans : StatusAnswer)
  /-- A STATUS query gets no valid answer (R27). -/
  | statusTimeout (a : Actuator)
  /-- A gate's movement timer reaches GATE_LIMIT (R22). -/
  | gateMovementTimeout (k : Chamber) (e : Side)
  /-- A sluice's movement timer reaches SLUICE_LIMIT (R25). -/
  | sluiceMovementTimeout (q : Sluice)
  /-- STEP_INTERVAL runs out for a ramp waiting on it (R31). -/
  | rampIntervalExpiry (q : Sluice)
  /-- SERVICE ON (R37). -/
  | serviceOn (st : Station) (k : Chamber)
  /-- SERVICE OFF (R39). -/
  | serviceOff (st : Station) (k : Chamber)
  /-- SET MODE (R40). -/
  | setMode (st : Station) (k : Chamber) (m : Mode)
  /-- The phase timer reaches FILL_LIMIT (R46). -/
  | fillSlow (k : Chamber)
  /-- The phase timer reaches twice FILL_LIMIT (R46). -/
  | equaliseTimeout (k : Chamber)
  /-- The entry timer reaches ENTRY_LIMIT (R47). -/
  | entryOverdue (k : Chamber)
  /-- The leave timer reaches its clear-out point (R49). -/
  | clearOut (k : Chamber)
  /-- The leave timer reaches LEAVE_LIMIT (R49). -/
  | leaveOverdue (k : Chamber)
  /-- CONFIRM IN, with the set of order numbers present, if one is given (R108). -/
  | confirmIn (st : Station) (k : Chamber) (present : Option (List Nat))
  /-- CONFIRM CLEAR (R110). -/
  | confirmClear (st : Station) (k : Chamber)
  /-- HALT (R50). -/
  | halt (st : Station) (k : Chamber)
  /-- RESUME (R53). -/
  | resume (st : Station) (k : Chamber)
  /-- ABANDON BATCH (R112). -/
  | abandonBatch (st : Station) (k : Chamber)
  /-- BIND (R114). -/
  | bind (st : Station) (k : Chamber) (d : Direction)
  /-- GATE OPEN (R58). -/
  | gateOpen (st : Station) (k : Chamber) (e : Side)
  /-- GATE CLOSE (R58). -/
  | gateClose (st : Station) (k : Chamber) (e : Side)
  /-- GATE STOP (R58). -/
  | gateStop (st : Station) (k : Chamber) (e : Side)
  /-- FILL with its flag "cross allowed" (R59). -/
  | fill (st : Station) (k : Chamber) (cross : Bool)
  /-- EMPTY with its flag "cross allowed" (R59). -/
  | empty (st : Station) (k : Chamber) (cross : Bool)
  /-- SLUICE (R60). -/
  | sluice (st : Station) (k : Chamber) (which : SluiceChoice) (step : Nat)
  /-- READ CHAMBER (R63). -/
  | readChamber (st : Station) (k : Chamber)
  /-- A wish's wait timer reaches CROSS_WAIT (R66). -/
  | wishExpiry (k : Chamber)
  /-- The cross phase timer reaches CROSS_LIMIT (R70). -/
  | crossSlow
  /-- ADD VESSEL (R78). -/
  | addVessel (st : Station) (v : VesselArgs)
  /-- DELETE VESSEL (R82). -/
  | deleteVessel (st : Station) (slot : Nat)
  /-- SEEK (R84). -/
  | seek (st : Station) (q : SeekArgs)
  /-- SEEK NEXT (R85). -/
  | seekNext (st : Station)
  /-- HOLD (R87). -/
  | hold (st : Station) (slot : Nat)
  /-- RELEASE (R88). -/
  | release (st : Station) (slot : Nat)
  /-- SETTLE (R148). -/
  | settle (st : Station) (slot amount : Nat)
  /-- ENTER ORDER (R96). -/
  | enterOrder (st : Station) (slot : Nat) (d : Direction) (laden : Bool) (cls : OrderClass)
  /-- CANCEL ORDER (R97). -/
  | cancelOrder (st : Station) (n : Nat)
  /-- READ BOOK (R115). -/
  | readBook (st : Station) (d : Direction) (pos : Nat)
  /-- READ BATCH (R115). -/
  | readBatch (st : Station) (k : Chamber)
  /-- The book's formation timer expires (R98). -/
  | formationTimerExpiry
  /-- A flash generator's phase runs out (R122). -/
  | flashPhaseChange (g : Generator)
  /-- A change on a lamp's proving input (R123). -/
  | provingInput (l : LampId) (current : Bool)
  /-- A lit lamp's no-current time reaches 200 ms (R123). -/
  | lampFailed (l : LampId)
  /-- LAMP TEST (R125). -/
  | lampTest (st : Station) (k : Chamber)
  /-- The 5 s of a lamp test run out (R126). -/
  | lampTestEnd (k : Chamber)
  /-- SWAP TARIFF (R131). -/
  | swapTariff (st : Station)
  /-- SET CLOCK (R133). -/
  | setClock (st : Station) (day second : Nat)
  /-- The set site clock advances by one second (R133). -/
  | siteClockTick
  /-- SUBSCRIBE with its optional watermark (R153). -/
  | subscribe (st : Station) (watermark : Option Nat)
  /-- UNSUBSCRIBE naming a station (R153). -/
  | unsubscribe (st who : Station)
  /-- READ JOURNAL (R158). -/
  | readJournal (st : Station)
  /-- READ JOURNAL STATUS (R159). -/
  | readJournalStatus (st : Station)
  /-- READ TALLIES with its flag "clear" (R161). -/
  | readTallies (st : Station) (clear : Bool)
  /-- READ SITE ACCOUNT (R149). -/
  | readSiteAccount (st : Station)
  /-- SETTLE SITE (R149). -/
  | settleSite (st : Station)
  /-- A request frame arrives on a link: its bytes from the length byte to the last CRC byte (R177, R178). -/
  | requestFrame (st : Station) (bytes : List Byte)
  /-- A bad frame is abandoned (R178). -/
  | badFrame (st : Station) (cause : BadCause)
  /-- More than 20 ms pass between two bytes of a frame (R178). -/
  | frameGapTimeout (st : Station)
  /-- A byte reaches a receiver outside a whole frame (R178, R176). -/
  | strayLinkByte (st : Station) (byte : Byte) (framingError : Bool)
  /-- The last byte of a port's replies has been sent (R179). -/
  | replySent (st : Station)
  /-- A station's silence timer expires (R164). -/
  | linkLost (st : Station)
  /-- CLAIM (R165). -/
  | claim (st : Station) (k : Chamber)
  /-- RELEASE CONDUCT (R166). -/
  | releaseConduct (st : Station) (k : Chamber)
  /-- READ NOTICES (R169). -/
  | readNotices (st : Station)
  /-- SET NOTICE MASK, with the kinds ENABLED (R170). -/
  | setNoticeMask (st : Station) (enabled : List NoticeKind)
  /-- SET ATTENTION MODE (R171). -/
  | setAttentionMode (st : Station) (m : AttentionMode)
  /-- An attention pulse runs out (R171). -/
  | attentionPulseEnd (st : Station)
  /-- READ FAULT (R174). -/
  | readFault (st : Station)
  /-- CLEAR FAULT (R174). -/
  | clearFault (st : Station)
  /-- SET WINDOW, the collection as its raw choice, since R183 refuses one that is not of the four. -/
  | setWindow (st : Station) (collection cursor : Nat) (move : WindowStep) (first last : Nat)
  /-- READ NEXT with its optional count (R184). -/
  | readNext (st : Station) (count : Option Nat)
  /-- WRITE NEXT with its optional count and the bytes of its values (R184). -/
  | writeNext (st : Station) (count : Option Nat) (data : List Byte)
  /-- READ AT (R185). -/
  | readAt (st : Station) (collection index first last : Nat)
  /-- WRITE AT with the bytes of its values (R185). -/
  | writeAt (st : Station) (collection index first last : Nat) (data : List Byte)
  /-- STORE SETTINGS (R189). -/
  | storeSettings (st : Station)
  /-- The store's read-back ends, matching or not (R189). -/
  | storeReadbackEnd (matched : Bool)
  /-- A drive answers the report poll with NONE, or with an answer that fails its check (R17). -/
  | noneAnswer
  deriving DecidableEq, Repr

end Sys2Proof
end

