-- ==== Sys2Proof/Decode.lean ====
section
/-! DEFINITION. The command that a word spells by the table's bits. -/

namespace Sys2Proof

/-- spec/opcode_table.json gives no row any bits: its rows are steps of the part, not words. No word spells a command. -/
def decodeTableWord (_nbits _w : Nat) : Option Instr := none

end Sys2Proof
end

