-- ==== Sys2Proof/Config.lean ====
section
/-! DEFINITION. The capacities the manual fixes, and the free values: what it leaves open and no proof can see. -/

namespace Sys2Proof.Config

/-- FREE VALUE (log entry 12). R98: when both chambers attempt a formation at one event, "either may be taken first".
`chamberTwoFirst n` says whether chamber 2 is taken first at the n-th such choice. -/
opaque chamberTwoFirst : Nat → Bool

/-- FREE VALUE (log entry 13). R32 gives the head from two levels; it states none while a body has never had a level.
`headWithoutLevel` stands for the head then, one number for every such sluice. -/
opaque headWithoutLevel : Nat

/-- FREE VALUE (log entry 14). R31 starts a ramp from the last reported step; it states no start while that step is
unknown. `startWithoutStep` stands for that start. -/
opaque startWithoutStep : Nat

/-- Capacities: the vessel register has 128 slots. -/
abbrev slots : Nat := 128

/-- Capacities: the passage book holds 32 orders. -/
abbrev bookSize : Nat := 32

/-- Capacities: a batch has at most 8 members. -/
abbrev batchSize : Nat := 8

/-- Capacities: the fee journal is a ring of 4,096 words. -/
abbrev journalWords : Nat := 4096

/-- Capacities: one READ JOURNAL reply carries at most 56 words of stored frames. -/
abbrev readWords : Nat := 56

/-- R179: a port's BUSY list holds at most 8 codes. -/
abbrev busySize : Nat := 8

/-- R146, R147: where a money account saturates. -/
abbrev moneyLimit : Nat := 4000000000

/-- R147: where the site account's two volumes saturate. -/
abbrev volumeLimit : Nat := 4294967295

/-- R142: the cap on a ticket's dues. -/
abbrev duesCap : Nat := 99999999

/-- The limit of every 16-bit saturating counter (R92, R156, R160, R178). -/
abbrev countLimit : Nat := 65535

/-- R1, R17: the wait for a gauge's or a drive's answer, in ms. -/
abbrev answerMs : Nat := 20

/-- R123: the no-current time at which a lamp fails, in ms. -/
abbrev lampFailMs : Nat := 200

/-- R125: the length of a lamp test, in ms. -/
abbrev lampTestMs : Nat := 5000

/-- R171: the length of an attention pulse, in ms. -/
abbrev pulseMs : Nat := 10

end Sys2Proof.Config
end

