-- ==== Sys2Proof/Machine/State.lean ====
section
/-! DEFINITION. The state of the part as plain data, block by block, and the state right after reset. -/

namespace Sys2Proof.Machine

/-! ## Settings and tariffs -/

/-- The settings of one chamber (SETTINGS records 1 and 2, R182). -/
structure ChamberSettings where
  usableLength : Nat
  usableWidth : Nat
  wetArea : Nat
  topLevel : Nat
  gateLimit : PerEnd Nat
  deriving DecidableEq, Repr

/-- The working settings (SETTINGS collection, R182), DEFAULTED apart. Flash rates are in tenths of a hertz. -/
structure Settings where
  chambers : Nat := 2
  crossPresent : Bool := true
  upperSill : Nat := 1250
  lowerSill : Nat := 640
  eqBand : Nat := 5
  eqSettle : Nat := 4
  agreeBand : Nat := 4
  avgDepth : Nat := 2
  primaryInterval : Nat := 5
  fastInterval : Nat := 250
  fastHold : Nat := 10
  trimEnable : Bool := false
  sluiceLimit : Nat := 30
  stepInterval : Nat := 8
  highHead : Nat := 300
  highHeadMaxStep : Nat := 4
  fillLimit : Nat := 900
  entryLimit : Nat := 600
  leaveLimit : Nat := 600
  clearOutLead : Nat := 60
  crossWait : Nat := 90
  crossMinGain : Nat := 30
  crossLimit : Nat := 600
  turnWait : Nat := 300
  fillIn : Bool := true
  passLimit : Nat := 3
  sideClear : Nat := 5
  endClear : Nat := 20
  keelClear : Nat := 30
  silenceLimit : Nat := 10
  trailPeriod : Nat := 0
  flashRateA : Nat := 10
  flashDutyA : Nat := 50
  flashRateB : Nat := 20
  flashDutyB : Nat := 67
  quietSoft : Bool := false
  clockMark : Bool := true
  chamber : PerChamber ChamberSettings :=
    ⟨⟨1900, 120, 2280, 1760, ⟨90, 90⟩⟩, ⟨1100, 114, 1254, 1760, ⟨90, 90⟩⟩⟩
  trim : PerBody (PerGauge Int) := ⟨⟨0, 0⟩, ⟨0, 0⟩, ⟨0, 0⟩, ⟨0, 0⟩⟩
  deriving DecidableEq, Repr

/-- The six length classes of vessels (Units). -/
inductive LengthClass where
  | a | b | c | d | e | f
  deriving DecidableEq, Repr

/-- One value for each length class. -/
structure PerClass (α : Type) where
  a : α
  b : α
  c : α
  d : α
  e : α
  f : α
  deriving DecidableEq, Repr

/-- The value of one class. -/
def PerClass.get {α : Type} (v : PerClass α) : LengthClass → α
  | .a => v.a
  | .b => v.b
  | .c => v.c
  | .d => v.d
  | .e => v.e
  | .f => v.f

/-- Replace the value of one class. -/
def PerClass.set {α : Type} (v : PerClass α) (cl : LengthClass) (x : α) : PerClass α :=
  match cl with
  | .a => { v with a := x }
  | .b => { v with b := x }
  | .c => { v with c := x }
  | .d => { v with d := x }
  | .e => { v with e := x }
  | .f => { v with f := x }

/-- A tariff table (R129) with its defaults. -/
structure Tariff where
  base : PerClass Nat := ⟨0, 0, 0, 0, 0, 0⟩
  tonRate : Nat := 0
  unladenPct : Nat := 100
  waterRate : Nat := 0
  nightPct : Nat := 0
  priorityPct : Nat := 0
  nightStart : Nat := 0
  nightEnd : Nat := 0
  deriving DecidableEq, Repr

/-- What the settings store keeps under its check code (State held by each port; R186). -/
structure StoreImage where
  settings : Settings
  active : Tariff
  standby : Tariff
  deriving DecidableEq, Repr

/-- R2, R36: CHAMBERS and CROSS_PRESENT as loaded at the last reset or RESTART. -/
structure Loaded where
  two : Bool
  cross : Bool
  deriving DecidableEq, Repr

/-! ## Time of day -/

/-- A day and second of day. -/
structure TimeOfDay where
  day : Nat
  second : Nat
  deriving DecidableEq, Repr

/-- The set site clock: its time, and the elapsed time at which its next second falls (R133). -/
structure Clock where
  time : TimeOfDay
  next : Nat
  deriving DecidableEq, Repr

/-! ## Level monitor (R1 to R16) -/

/-- R1: the status of a reading. -/
inductive GaugeStatus where
  | ok | saturated | noReply | checkFail
  deriving DecidableEq, Repr

/-- R7: the level state of a body. -/
inductive LevelState where
  | unknown | good | single | uncertain | lost
  deriving DecidableEq, Repr

/-- R3: the sampling mode of a body. -/
inductive Sampling where
  | primary | fast
  deriving DecidableEq, Repr

/-- R10: the state of a pair. -/
inductive PairState where
  | notEqual
  | settling (start : Nat)
  | equalised
  deriving DecidableEq, Repr

/-- A gauge: its last status and its history in mm, oldest first. Its gauge value is worked from the history. -/
structure GaugeRec where
  status : Option GaugeStatus := none
  history : List Nat := []
  deriving DecidableEq, Repr

/-- A body: what the level monitor holds of it. `handedLevel` and `handedState` are the level and level state as last
handed on to the readers (R9); timers are held as the elapsed time of their expiry. -/
structure BodyRec where
  level : Option Nat := none
  state : LevelState := .unknown
  handedLevel : Option Nat := none
  handedState : LevelState := .unknown
  sampling : Sampling := .primary
  hold : Option Nat := none
  roundTimer : Option Nat := none
  lastRound : Option Nat := none
  gauges : PerGauge GaugeRec := ⟨{}, {}⟩
  deriving DecidableEq, Repr

/-- R1: the poll outstanding on the gauge line, with whether gauge A was good in this round. `before` is, once gauge A has been
read in this round, its record as it stood before (R14). -/
structure Poll where
  body : Body
  gauge : GaugeSide
  deadline : Nat
  goodA : Bool
  before : Option GaugeRec
  deriving DecidableEq, Repr

/-- The level monitor. -/
structure Levels where
  bodies : PerBody BodyRec := ⟨{}, {}, {}, {}⟩
  forceFast : Bool := false
  queue : List Body := [.up, .lp, .c1, .c2]
  poll : Option Poll := none
  pairs : PerEnd (PerChamber PairState) := ⟨⟨.notEqual, .notEqual⟩, ⟨.notEqual, .notEqual⟩⟩
  crossPair : PairState := .notEqual
  trail : Option Nat := none
  deriving DecidableEq, Repr

/-! ## Drive controller (R17 to R36) -/

/-- The state of a gate. -/
inductive GateState where
  | unknown | closed | opening | opened | closing | stopped | stalled
  deriving DecidableEq, Repr

/-- A movement ordered of a gate. -/
inductive GateMove where
  | opn | cls
  deriving DecidableEq, Repr

/-- A gate. `surge` is its guard memory (R35). -/
structure Gate where
  state : GateState := .unknown
  outstanding : Option GateMove := none
  lastMove : Option GateMove := none
  timer : Option Nat := none
  surge : Bool := false
  deriving DecidableEq, Repr

/-- The state of a sluice. -/
inductive SluiceState where
  | unknown | shut | moving | held | fault
  deriving DecidableEq, Repr

/-- A sluice's target while MOVING. -/
inductive Target where
  | step (n : Nat)
  | stop
  deriving DecidableEq, Repr

/-- Who asked for a ramp. -/
inductive Requester where
  | sequencer (k : Chamber)
  | arbiter
  | station (st : Station)
  deriving DecidableEq, Repr

/-- R29: the clauses of the interlock that can refuse. -/
inductive Clause where
  | i1 | i2 | i3 | i4
  deriving DecidableEq, Repr

/-- What a ramp waits on; a refused step waits with the clause that refused it (R30, R33). -/
inductive RampWait where
  | nothing | interval | headLimit | usableLevel
  | retry (c : Clause)
  deriving DecidableEq, Repr

/-- A ramp record. `next` is the step it will order next; `first` says that its first order, which needs no interval and
no usable level (R31), is still to be sent. -/
structure Ramp where
  requester : Requester
  endStep : Nat
  next : Nat
  lastOrder : Option Nat
  first : Bool
  waiting : RampWait
  deriving DecidableEq, Repr

/-- A sluice: `step` is its last reported step, `none` while unknown. -/
structure SluiceRec where
  state : SluiceState := .unknown
  step : Option Nat := none
  target : Option Target := none
  superseded : Option Nat := none
  timer : Option Nat := none
  ramp : Option Ramp := none
  deriving DecidableEq, Repr

/-- An order on the drive line. -/
inductive DriveOrder where
  | opn | cls | stop
  | move (step : Nat)
  deriving DecidableEq, Repr

/-- R17: an order sent and not yet echoed, and whether it has been sent a second time. -/
structure Sent where
  actuator : Actuator
  order : DriveOrder
  resent : Bool
  deriving DecidableEq, Repr

/-- R27: a STATUS query without its answer, and whether it has been repeated. -/
structure Query where
  actuator : Actuator
  repeated : Bool
  deriving DecidableEq, Repr

/-- The drive controller. `polls` are the drives of the present polling cycle still to answer, the first of them polled;
`overflow` is the guard memory of each chamber (R34). -/
structure Drive where
  gates : PerChamber (PerEnd Gate) := ⟨⟨{}, {}⟩, ⟨{}, {}⟩⟩
  sluices : PerChamber (PerEnd SluiceRec) := ⟨⟨{}, {}⟩, ⟨{}, {}⟩⟩
  crossSluice : SluiceRec := {}
  overflow : PerChamber Bool := ⟨false, false⟩
  sent : List Sent := []
  queries : List Query := []
  polls : List Actuator := []
  cycleStart : Option Nat := none
  deriving DecidableEq, Repr

/-! ## Faults -/

/-- The fault kinds, in the order of the table of faults (Stations, Conduct and Notices). -/
inductive FaultKind where
  | gaugeDisagree | gaugeSingle | gaugeLost | gateStall | unexpectedMove | sluiceStall | sluicePosition
  | overflow | surge | fillSlow | equaliseTimeout | crossSlow | lampGreen | lampRed | lampRedBoth
  | linkLost | settingsLost
  deriving DecidableEq, Repr

/-- R152: the subject of a fault. -/
inductive Subject where
  | gate (k : Chamber) (e : Side)
  | sluice (q : Sluice)
  | chamber (k : Chamber)
  | body (b : Body)
  | gauge (b : Body) (g : GaugeSide)
  | lamp (l : LampId)
  | station (st : Station)
  | store
  deriving DecidableEq, Repr

/-! ## Chamber sequencers (R37 to R64) -/

/-- The sixteen chamber states. -/
inductive ChamberState where
  | outOfService | lowOpen | lowClosing | lowShut | fillWait | fillCross | fill | highShut | highOpening
  | highOpen | highClosing | emptyWait | emptyCross | empty | lowOpening | halted
  deriving DecidableEq, Repr

/-- Why a chamber is HALTED. -/
inductive HaltCause where
  | request
  | fault (kind : FaultKind)
  | linkLost
  deriving DecidableEq, Repr

/-- A water record or a wish is of one of two kinds. -/
inductive WaterKind where
  | fill | empty
  deriving DecidableEq, Repr

/-- R44: an open water record. `crossEnd` is the cross end level; `crossed` says that it holds a cross record. -/
structure WaterRec where
  kind : WaterKind
  batch : Option Nat
  start : Option Nat
  crossed : Bool
  crossEnd : Option Nat
  deriving DecidableEq, Repr

/-- R46: a running phase timer: its start, and its FILL_LIMIT in ms as fixed at the start. -/
structure PhaseTimer where
  start : Nat
  limit : Nat
  deriving DecidableEq, Repr

/-- R49: a running leave timer: its clear-out point and its expiry. -/
structure LeaveTimer where
  clearAt : Nat
  expiry : Nat
  deriving DecidableEq, Repr

/-- A chamber sequencer. The batch bound to the chamber stands in the passage book. -/
structure Sequencer where
  state : ChamberState := .outOfService
  mode : Mode := .automatic
  interrupted : Option ChamberState := none
  haltCause : Option HaltCause := none
  pendingOrder : Option (Side × Clause) := none
  water : Option WaterRec := none
  phase : Option PhaseTimer := none
  slowRaised : Bool := false
  entry : Option Nat := none
  entryOverdue : Bool := false
  leave : Option LeaveTimer := none
  clearOut : Bool := false
  leaveOverdue : Bool := false
  deriving DecidableEq, Repr

/-! ## Cross arbiter (R65 to R76) -/

/-- The owner state of the cross sluice. -/
inductive Owner where
  | idle | engaged | ending
  deriving DecidableEq, Repr

/-- A posted wish and the expiry of its wait timer. -/
structure Wish where
  kind : WaterKind
  expiry : Nat
  deriving DecidableEq, Repr

/-- R68: why a cross phase ended. -/
inductive CrossEnd where
  | equalised | limit
  | halt (k : Chamber)
  | serviceOff (k : Chamber)
  | fault (kind : FaultKind)
  deriving DecidableEq, Repr

/-- R68: the cross record of the present phase, with its two chambers; `delivered` is the record delivered to each. -/
structure CrossRec where
  filling : Chamber
  start : PerChamber (Option Nat)
  stop : PerChamber (Option Nat)
  cause : Option CrossEnd
  delivered : PerChamber Bool
  deriving DecidableEq, Repr

/-- The cross arbiter. The filling and emptying chambers of the phase stand in its record. -/
structure Arbiter where
  owner : Owner := .idle
  wishes : PerChamber (Option Wish) := ⟨none, none⟩
  timer : Option Nat := none
  record : Option CrossRec := none
  deriving DecidableEq, Repr

/-! ## Vessel register (R77 to R93) -/

/-- Why a vessel is HELD. -/
inductive HoldCause where
  | station | ceiling
  deriving DecidableEq, Repr

/-- The state of a slot. -/
inductive VesselState where
  | free | active
  | held (cause : HoldCause)
  deriving DecidableEq, Repr

/-- The last passage field. -/
inductive LastPassage where
  | absent | unset
  | at (t : TimeOfDay)
  deriving DecidableEq, Repr

/-- R77: eight spaces, the mark of a FREE slot; a space is 0x20. PRESUMED (log entry 74). -/
def blankMark : List Byte := List.replicate 8 0x20

/-- A vessel record; its defaults are the empty values of a FREE slot (R77). -/
structure Vessel where
  state : VesselState := .free
  mark : List Byte := blankMark
  operator : Nat := 0
  length : Nat := 0
  beam : Nat := 0
  draught : Nat := 0
  deadweight : Nat := 0
  exempt : Bool := false
  ceiling : Nat := 0
  total : Nat := 0
  saturated : Bool := false
  passages : Nat := 0
  lastPassage : LastPassage := .absent
  order : Option Nat := none
  deriving DecidableEq, Repr

/-! ## Passage book (R94 to R116) -/

/-- R90: why an order is BLOCKED. -/
inductive BlockCause where
  | held | oversize
  deriving DecidableEq, Repr

/-- The state of a passage order. -/
inductive OrderState where
  | waiting
  | blocked (cause : BlockCause)
  | bound (batch : Nat)
  deriving DecidableEq, Repr

/-- A passage order. `entered` is the elapsed time of its entry, from which its age is worked. -/
structure Order where
  number : Nat
  slot : Nat
  direction : Direction
  laden : Bool
  cls : OrderClass
  station : Station
  sequence : Nat
  time : Option TimeOfDay
  entered : Nat
  state : OrderState
  passOver : Nat
  deriving DecidableEq, Repr

/-- R105: a member of a batch, with its snapshot taken at binding. -/
structure Member where
  order : Nat
  slot : Nat
  length : Nat
  beam : Nat
  draught : Nat
  deadweight : Nat
  cls : LengthClass
  exempt : Bool
  laden : Bool
  priority : OrderClass
  row : Nat
  present : Bool
  share : Option Nat
  deriving DecidableEq, Repr

/-- R101: a row of a batch. -/
structure Row where
  length : Nat
  width : Nat
  deriving DecidableEq, Repr

/-- R107: a closed record standing in a batch. `pound` is the drawn or the released volume; `sharers` are the orders of the
members over which a fill's shares stand, and `sitePart` what was posted to the site account for it. -/
structure ClosedRec where
  start : Option Nat
  crossEnd : Option Nat
  stop : Option Nat
  crossVolume : Nat
  pound : Nat
  charge : Nat
  sitePart : Nat
  sharers : List Nat
  deriving DecidableEq, Repr

/-- R106: the state of a batch. -/
inductive BatchState where
  | bound | entering | secured | leaving
  deriving DecidableEq, Repr

/-- R105: a batch record; its chamber is the place that holds it. `sideClear` is SIDE_CLEAR at the binding (log entry 31). -/
structure Batch where
  number : Nat
  direction : Direction
  state : BatchState
  members : List Member
  rows : List Row
  tariff : Tariff
  night : Option Bool
  fill : Option ClosedRec
  empty : Option ClosedRec
  reserve : Nat
  sideClear : Nat
  deriving DecidableEq, Repr

/-- The passage book: the two lists, the counters, the batches, the deferred marks and the formation timer. -/
structure Book where
  lists : PerDirection (List Order) := ⟨[], []⟩
  nextOrder : Nat := 1
  entrySequence : Nat := 0
  nextBatch : Nat := 1
  batches : PerChamber (Option Batch) := ⟨none, none⟩
  deferred : PerChamber Bool := ⟨false, false⟩
  timer : Option Nat := none
  deriving DecidableEq, Repr

/-! ## Signal unit (R117 to R128) -/

/-- The seven aspects. -/
inductive Aspect where
  | dark | stop | closed | prepare | go | caution | clearOut
  deriving DecidableEq, Repr

/-- How a lamp output is driven. -/
inductive LampOutput where
  | dark | lit
  | flashing (g : Generator)
  deriving DecidableEq, Repr

/-- A lamp. Its no-current time is `count` ms plus the time since `since`, while it counts; `current` is its proving
input; `testFailed` says that it reached 200 ms in the running lamp test. -/
structure Lamp where
  proven : Bool := true
  output : LampOutput := .dark
  current : Bool := false
  count : Nat := 0
  since : Option Nat := none
  testFailed : Bool := false
  deriving DecidableEq, Repr

/-- The called and the shown aspect of a signal. -/
structure SignalAspects where
  called : Aspect
  shown : Aspect
  deriving DecidableEq, Repr

/-- A flash generator: its phase and the elapsed time of its end, with the lengths of the present period's phases. -/
structure FlashGen where
  on : Bool
  phaseEnd : Nat
  onMs : Nat
  offMs : Nat
  deriving DecidableEq, Repr

/-- The signal unit. `tests` are the running lamp tests by their expiry. -/
structure Signals where
  lamps : PerChamber (PerSignal (PerLamp Lamp))
  aspects : PerChamber (PerSignal SignalAspects)
  genA : FlashGen
  genB : FlashGen
  tests : PerChamber (Option Nat)
  deriving DecidableEq, Repr

/-! ## Journal, accounts and tallies (R146 to R162) -/

/-- R144: a ticket. -/
structure Ticket where
  batch : Nat
  chamber : Chamber
  direction : Direction
  order : Nat
  slot : Nat
  mark : List Byte
  cls : LengthClass
  exempt : Bool
  laden : Bool
  priority : OrderClass
  base : Nat
  tonnage : Nat
  nightPart : Nat
  priorityPart : Nat
  share : Nat
  dues : Nat
  capped : Bool
  timeUnset : Bool
  saturated : Bool
  time : Option TimeOfDay
  deriving DecidableEq, Repr

/-- R140: a WATER frame's fields. `charge` and `sitePart` are `none` for an EMPTY. -/
structure WaterFrame where
  batch : Option Nat
  chamber : Chamber
  kind : WaterKind
  start : Option Nat
  crossEnd : Option Nat
  stop : Option Nat
  crossVolume : Nat
  pound : Nat
  charge : Option Nat
  sitePart : Option Nat
  time : Option TimeOfDay
  deriving DecidableEq, Repr

/-- R152: the events of an ORDER frame; REFUSED carries the only reason there is, OVERSIZE. -/
inductive OrderEvent where
  | entered | cancelled | returned | refusedOversize
  deriving DecidableEq, Repr

/-- R26: the outcome of a MOVE frame. -/
inductive MoveOutcome where
  | reachedClosed | reachedOpen
  | reachedStep (n : Nat)
  | stalled | stopped
  deriving DecidableEq, Repr

/-- R152: the cause of a CONDUCT frame. -/
inductive ConductCause where
  | claim | takeOver | release | lost
  deriving DecidableEq, Repr

/-- R150: a stored journal frame. In a LEVEL frame each body has its level and, when present, its level state. -/
inductive Frame where
  | ticket (t : Ticket)
  | water (w : WaterFrame)
  | order (number : Option Nat) (slot : Nat) (event : OrderEvent) (st : Station) (time : Option TimeOfDay)
  | move (a : Actuator) (outcome : MoveOutcome) (time : Option TimeOfDay)
  | conduct (k : Chamber) (old new : Option Station) (cause : ConductCause)
  | level (time : Option TimeOfDay) (bodies : PerBody (Option Nat × Option LevelState))
  | fault (kind : FaultKind) (subject : Subject) (time : Option TimeOfDay)
  deriving DecidableEq, Repr

/-- A subscriber: how many of the retained frames, from the tail on, it has read, and its watermark. -/
structure Subscriber where
  read : Nat
  watermark : Nat
  deriving DecidableEq, Repr

/-- The fee journal: the retained frames, oldest first, and its subscribers. -/
structure Journal where
  frames : List Frame := []
  subscribers : PerStation (Option Subscriber) := ⟨none, none, some ⟨0, 2048⟩⟩
  dropped : Nat := 0
  discarded : Nat := 0
  deriving DecidableEq, Repr

/-- R147: the site account. -/
structure SiteAccount where
  total : Nat := 0
  drawn : Nat := 0
  saved : Nat := 0
  deriving DecidableEq, Repr

/-- R160: the thirty tallies. -/
structure Tallies where
  completed : PerDirection (PerClass Nat) := ⟨⟨0, 0, 0, 0, 0, 0⟩, ⟨0, 0, 0, 0, 0, 0⟩⟩
  abandoned : PerDirection (PerClass Nat) := ⟨⟨0, 0, 0, 0, 0, 0⟩, ⟨0, 0, 0, 0, 0, 0⟩⟩
  oversize : PerClass Nat := ⟨0, 0, 0, 0, 0, 0⟩
  deriving DecidableEq, Repr

/-! ## Stations and ports (R163 to R190) -/

/-- R163: a station's link state. -/
inductive Link where
  | absent | present | lost
  deriving DecidableEq, Repr

/-- R176: a port's line rate. -/
inductive LineRate where
  | baud19200 | baud57600 | baud115200 | silent
  deriving DecidableEq, Repr

/-- R178: a port's receiver. -/
inductive Receiver where
  | hunting | receiving
  deriving DecidableEq, Repr

/-- R179: a port's service: IDLE, SERVING, or sending its BUSY replies. -/
inductive Service where
  | idle | serving | sendingBusy
  deriving DecidableEq, Repr

/-- R182: the four collections. -/
inductive Collection where
  | vessels | tariffStandby | tariffActive | settings
  deriving DecidableEq, Repr

/-- A port's window (R183). -/
structure Window where
  collection : Collection := .vessels
  cursor : Nat := 0
  move : WindowStep := .up
  first : Nat := 1
  last : Nat := 15
  counter : Nat := 1
  deriving DecidableEq, Repr

/-- R86: a station's search context. -/
structure SearchContext where
  query : SeekArgs
  last : Option Nat
  deriving DecidableEq, Repr

/-- R180: the outcomes. -/
inductive ReplyOutcome where
  | ok | limited | busy | noConduct | notPermitted | interlock | state | range | full | bookFull | duplicate
  | noVessel | noOrder | inUse | inFlight | oversize | format | unknown
  deriving DecidableEq, Repr

/-- R177: a field of a reply, by its width; `frames` are the bytes of journal frames. -/
inductive WireField where
  | byte (n : Nat)
  | half (n : Nat)
  | word (n : Nat)
  | mark (m : List Byte)
  | frames (bytes : List Byte)
  deriving DecidableEq, Repr

/-- A reply: the echoed request code, its outcome and its results. -/
structure Reply where
  code : Nat
  outcome : ReplyOutcome
  results : List WireField
  deriving DecidableEq, Repr

/-- What the part keeps for a station: its link, its notices and attention line, and its port. `tx` holds the replies the
port has put on the line last. -/
structure StationRec where
  link : Link := .absent
  silence : Option Nat := none
  notices : List NoticeKind := []
  enabled : List NoticeKind := NoticeKind.all
  attention : AttentionMode := .level
  line : Bool := false
  pulse : Option Nat := none
  straps : Straps := ⟨false, false⟩
  rate : LineRate := .baud19200
  receiver : Receiver := .hunting
  service : Service := .idle
  busy : List Nat := []
  badFrames : Nat := 0
  window : Window := {}
  context : Option SearchContext := none
  tx : List Reply := []
  deriving DecidableEq, Repr

/-- R173: a body's level as a captured fault shows it. -/
structure BodyView where
  body : Body
  level : Option Nat
  state : LevelState
  deriving DecidableEq, Repr

/-- R173: a captured fault. -/
structure Captured where
  kind : FaultKind
  subject : Subject
  time : Option TimeOfDay
  first : Option BodyView
  second : Option BodyView
  chamber : Option ChamberState
  deriving DecidableEq, Repr

/-- The fault capture block: `record` is `none` while invalid. -/
structure Capture where
  record : Option Captured := none
  moreHard : Bool := false
  moreSoft : Bool := false
  deriving DecidableEq, Repr

/-- The settings store and the part's restart: `stored` is `none` without a valid copy, `storing` the copy under way. -/
structure Store where
  stored : Option StoreImage := some ⟨{}, {}, {}⟩
  storing : Option StoreImage := none
  defaulted : Bool := false
  restartPending : Bool := false
  deriving DecidableEq, Repr

/-! ## The part's own cascade -/

/-- A consequence inside one event that is still to be carried out: the MODEL's own list, empty between events. -/
inductive Task where
  /-- Chamber k takes its step of R41. -/
  | rest (k : Chamber)
  /-- A gate completion is handed to chamber k (R42). -/
  | gateDone (k : Chamber) (e : Side)
  /-- Chamber k looks whether its ended fill or empty has its sluice SHUT (R45). -/
  | phaseDone (k : Chamber)
  /-- The arbiter looks whether its cross sluice is SHUT (R71). -/
  | crossShut
  /-- Chamber k attempts a formation, if available (R98). -/
  | form (k : Chamber)
  deriving DecidableEq, Repr

/-! ## The state -/

/-- The whole part. `now` is the elapsed time in ms since the last power-on; `choices` counts the free choices taken. -/
structure State where
  now : Nat
  loaded : Loaded
  settings : Settings
  levels : Levels
  drive : Drive
  chambers : PerChamber Sequencer
  arbiter : Arbiter
  vessels : Vector Vessel 128
  book : Book
  signals : Signals
  active : Tariff
  standby : Tariff
  clock : Option Clock
  journal : Journal
  site : SiteAccount
  tallies : Tallies
  stations : PerStation StationRec
  conduct : PerChamber (Option Station)
  capture : Capture
  store : Store
  agenda : List Task
  choices : Nat
  pending : List Instr
  deriving DecidableEq, Repr

/-- Nothing of the part stops it: every command has its effect, so no command faults, and the type is empty. -/
inductive Fault where
  deriving DecidableEq, Repr

/-- The reasons a command has no meaning. -/
inductive Refusal where
  /-- Raised by a command of the table that the model does not reach yet (safe). No command raises it now. -/
  | notModelled (mnemonic : String)
  deriving DecidableEq, Repr

/-- A lamp lit from the moment of reset, its proving begun (R127). -/
def Lamp.litAtReset : Lamp := { output := .lit, since := some 0 }

/-- The lamps of a chamber's signals right after reset: both reds at EU and EL, RED-A at XU and XL (R127). -/
def resetLamps : PerSignal (PerLamp Lamp) :=
  ⟨⟨.litAtReset, .litAtReset, {}⟩, ⟨.litAtReset, .litAtReset, {}⟩, ⟨.litAtReset, {}, {}⟩, ⟨.litAtReset, {}, {}⟩⟩

/-- The aspects of a chamber's signals right after reset: CLOSED at EU and EL, STOP at XU and XL (R127). -/
def resetAspects : PerSignal SignalAspects :=
  ⟨⟨.closed, .closed⟩, ⟨.closed, .closed⟩, ⟨.stop, .stop⟩, ⟨.stop, .stop⟩⟩

/-- The nine actuators in actuator-number order. -/
def allActuators : List Actuator :=
  [.gate .c1 .upper, .gate .c1 .lower, .sluice (.chamber .c1 .upper), .sluice (.chamber .c1 .lower),
    .gate .c2 .upper, .gate .c2 .lower, .sluice (.chamber .c2 .upper), .sluice (.chamber .c2 .lower), .sluice .cross]

/-- The part right after reset, its settings store holding the default settings and tables (log entry 3) and its straps
all low (log entry 4): every other value is the one its chapter gives (R15, R27, R36, R64, R74, R93, R116, R127, R145, R162,
R175, R179, R183, R186). -/
def State.reset : State where
  now := 0
  loaded := ⟨true, true⟩
  settings := {}
  levels := {}
  drive := { queries := allActuators.map (⟨·, false⟩) }
  chambers := ⟨{}, {}⟩
  arbiter := {}
  vessels := Vector.replicate 128 {}
  book := {}
  signals :=
    { lamps := ⟨resetLamps, resetLamps⟩
      aspects := ⟨resetAspects, resetAspects⟩
      genA := ⟨true, 500, 500, 500⟩
      genB := ⟨true, 335, 335, 165⟩
      tests := ⟨none, none⟩ }
  active := {}
  standby := {}
  clock := none
  journal := {}
  site := {}
  tallies := {}
  stations := ⟨{}, {}, {}⟩
  conduct := ⟨none, none⟩
  capture := {}
  store := {}
  agenda := []
  choices := 0
  pending := []

end Sys2Proof.Machine
end

