-- ==== Sys2Proof/Machine/Ops.lean ====
section
/-! DEFINITION. The named operations over the state: elapsed time, what is present, reading and replacing one piece of
state, levels as the readers see them, availability, and the cascade's list. -/

namespace Sys2Proof

/-- The two bodies of a pair. -/
def Pair.bodies : Pair → Body × Body
  | .across e k => (e.pound, k.body)
  | .cross => (.c1, .c2)

end Sys2Proof

namespace Sys2Proof.Machine

/-! ## Time -/

/-- Elapsed time has reached `t`: an expiry taken as an event says so (log entry 1). -/
def State.reach (s : State) (t : Nat) : State := { s with now := max s.now t }

/-- The site clock's time, `none` while it is UNSET (R133). -/
def State.time (s : State) : Option TimeOfDay := s.clock.map (·.time)

/-- A setting in seconds as ms. -/
def seconds (n : Nat) : Nat := n * secondMs

/-! ## What is present (R2, R36, R117) -/

/-- A chamber is present: chamber 2 only when CHAMBERS, as loaded, is 2. -/
def State.chamberPresent (s : State) : Chamber → Bool
  | .c1 => true
  | .c2 => s.loaded.two

/-- The cross culvert is present when CHAMBERS is 2 and CROSS_PRESENT is yes, as loaded. -/
def State.crossPresent (s : State) : Bool := s.loaded.two && s.loaded.cross

/-- A body is present: C2 only with chamber 2. -/
def State.bodyPresent (s : State) : Body → Bool
  | .c2 => s.loaded.two
  | _ => true

/-- A sluice is present. -/
def State.sluicePresent (s : State) : Sluice → Bool
  | .chamber k _ => s.chamberPresent k
  | .cross => s.crossPresent

/-- An actuator is present. -/
def State.actuatorPresent (s : State) : Actuator → Bool
  | .gate k _ => s.chamberPresent k
  | .sluice q => s.sluicePresent q

/-- The present actuators in actuator-number order. -/
def State.presentActuators (s : State) : List Actuator := allActuators.filter s.actuatorPresent

/-- The present chambers, in order. -/
def State.presentChambers (s : State) : List Chamber := [Chamber.c1, .c2].filter s.chamberPresent

/-! ## One piece of state -/

/-- A body's record. -/
def State.body (s : State) (b : Body) : BodyRec := s.levels.bodies.get b

/-- Replace a body's record. -/
def State.setBody (s : State) (b : Body) (r : BodyRec) : State :=
  { s with levels.bodies := s.levels.bodies.set b r }

/-- A pair's state. -/
def State.pair (s : State) : Pair → PairState
  | .across e k => (s.levels.pairs.get e).get k
  | .cross => s.levels.crossPair

/-- Replace a pair's state. -/
def State.setPair (s : State) (p : Pair) (x : PairState) : State :=
  match p with
  | .across e k => { s with levels.pairs := s.levels.pairs.set e ((s.levels.pairs.get e).set k x) }
  | .cross => { s with levels.crossPair := x }

/-- A gate. -/
def State.gate (s : State) (k : Chamber) (e : Side) : Gate := (s.drive.gates.get k).get e

/-- A sluice's record. -/
def State.sluice (s : State) : Sluice → SluiceRec
  | .chamber k e => (s.drive.sluices.get k).get e
  | .cross => s.drive.crossSluice

/-- Replace a gate's record, and nothing else. -/
def State.putGate (s : State) (k : Chamber) (e : Side) (g : Gate) : State :=
  { s with drive.gates := s.drive.gates.set k ((s.drive.gates.get k).set e g) }

/-- Replace a sluice's record, and nothing else. -/
def State.putSluice (s : State) (q : Sluice) (r : SluiceRec) : State :=
  match q with
  | .chamber k e => { s with drive.sluices := s.drive.sluices.set k ((s.drive.sluices.get k).set e r) }
  | .cross => { s with drive.crossSluice := r }

/-- A chamber's sequencer. -/
def State.chamber (s : State) (k : Chamber) : Sequencer := s.chambers.get k

/-- Replace a chamber's sequencer. -/
def State.setChamber (s : State) (k : Chamber) (c : Sequencer) : State :=
  { s with chambers := s.chambers.set k c }

/-- The batch bound to a chamber. -/
def State.batch (s : State) (k : Chamber) : Option Batch := s.book.batches.get k

/-- Replace the batch bound to a chamber. -/
def State.setBatch (s : State) (k : Chamber) (b : Option Batch) : State :=
  { s with book.batches := s.book.batches.set k b }

/-- What the part keeps for a station. -/
def State.station (s : State) (st : Station) : StationRec := s.stations.get st

/-- Replace what the part keeps for a station. -/
def State.setStation (s : State) (st : Station) (r : StationRec) : State :=
  { s with stations := s.stations.set st r }

/-- The station that conducts a chamber. -/
def State.holder (s : State) (k : Chamber) : Option Station := s.conduct.get k

/-- Replace the conduct holder of a chamber. -/
def State.setHolder (s : State) (k : Chamber) (h : Option Station) : State :=
  { s with conduct := s.conduct.set k h }

/-- A slot's record; no slot beyond 127 exists, and its reading is the FREE one. -/
def State.vessel (s : State) (slot : Nat) : Vessel := (s.vessels[slot]?).getD {}

/-- Replace a slot's record; a slot beyond 127 does not exist and nothing is written. -/
def State.setVessel (s : State) (slot : Nat) (v : Vessel) : State :=
  { s with vessels := s.vessels.setIfInBounds slot v }

/-- A lamp. -/
def State.lamp (s : State) (l : LampId) : Lamp :=
  ((s.signals.lamps.get l.chamber).get l.signal).get l.lamp

/-- Replace a lamp. -/
def State.setLamp (s : State) (l : LampId) (x : Lamp) : State :=
  let c := s.signals.lamps.get l.chamber
  { s with signals.lamps := s.signals.lamps.set l.chamber (c.set l.signal ((c.get l.signal).set l.lamp x)) }

/-- A vessel is non-FREE (R77). -/
def Vessel.nonFree (v : Vessel) : Bool := decide (v.state ≠ .free)

/-! ## Levels as the readers see them (R7, R9) -/

/-- A level state is usable: GOOD or SINGLE (R7). -/
def LevelState.usable : LevelState → Bool
  | .good => true
  | .single => true
  | _ => false

/-- A body's level is usable, as last handed on. -/
def State.usable (s : State) (b : Body) : Bool := (s.body b).handedState.usable

/-- A body's level as last handed on, usable or held; `none` when it never had one. -/
def State.level (s : State) (b : Body) : Option Nat := (s.body b).handedLevel

/-- A body's level as last handed on when it is usable. -/
def State.usableLevel (s : State) (b : Body) : Option Nat := if s.usable b then s.level b else none

/-- The distance of two levels. -/
def distance (x y : Nat) : Nat := (x - y) + (y - x)

/-- Two bodies are equal, as last handed on: both usable and within E (R10; SERVICE ON uses this test too, R37). -/
def State.equalBodies (s : State) (x y : Body) : Bool :=
  match s.usableLevel x, s.usableLevel y with
  | some a, some b => decide (distance a b ≤ s.settings.eqBand)
  | _, _ => false

/-! ## Chamber states -/

/-- A rest state, as its end and whether that end's gate stands open (Chamber states). -/
def ChamberState.rest : ChamberState → Option (Side × Bool)
  | .lowOpen => some (.lower, true)
  | .lowShut => some (.lower, false)
  | .highOpen => some (.upper, true)
  | .highShut => some (.upper, false)
  | _ => none

/-- A chamber is in service in every state but OUT_OF_SERVICE. -/
def ChamberState.inService (c : ChamberState) : Bool := decide (c ≠ .outOfService)

/-- R98: a chamber is available to the batch former. -/
def State.available (s : State) (k : Chamber) : Bool :=
  (s.chamber k).state.rest.isSome && decide ((s.chamber k).mode = .automatic) && (s.batch k).isNone

/-! ## The cascade's list -/

/-- Put a consequence at the end of the cascade's list, once. -/
def State.push (s : State) (t : Task) : State :=
  if s.agenda.contains t then s else { s with agenda := s.agenda ++ [t] }

/-- R98: the chambers named attempt a formation; where both do, which is taken first is a free choice. -/
def State.pushForms (s : State) (c1 c2 : Bool) : State :=
  if c1 && c2 then
    let t := { s with choices := s.choices + 1 }
    if Config.chamberTwoFirst s.choices then (t.push (.form .c2)).push (.form .c1)
    else (t.push (.form .c1)).push (.form .c2)
  else if c1 then s.push (.form .c1)
  else if c2 then s.push (.form .c2)
  else s

/-- R98: each available chamber attempts a formation. -/
def State.pushAvailable (s : State) : State := s.pushForms (s.available .c1) (s.available .c2)

/-! ## Saturating counts -/

/-- A counter that stops at 65,535. -/
def countUp (n : Nat) : Nat := min Config.countLimit (n + 1)

/-- A value brought to the nearest end of a range. -/
def clampTo (lo hi v : Nat) : Nat := max lo (min hi v)

/-- The length class of a length (Units). -/
def lengthClass (len : Nat) : LengthClass :=
  if len < 200 then .a else if len < 400 then .b else if len < 700 then .c
  else if len < 1100 then .d else if len < 1350 then .e else .f

end Sys2Proof.Machine
end

