-- ==== Sys2Proof/Machine/Flags.lean ====
section
/-! DEFINITION. The notice sets and the attention lines of the stations (R169 to R171). -/

namespace Sys2Proof.Machine

/-- A notice set with one kind more, in the kinds' numbered order, each at most once. -/
def insertNotice (set : List NoticeKind) (n : NoticeKind) : List NoticeKind :=
  NoticeKind.all.filter (fun x => decide (x = n) || set.contains x)

/-- R171: the set holds at least one ENABLED kind. -/
def StationRec.showsNotice (r : StationRec) : Bool := r.notices.any r.enabled.contains

/-- R171: the line in LEVEL mode, driven from the set and the mask; in PULSE mode it is left alone. -/
def StationRec.driveLevel (r : StationRec) : StationRec :=
  match r.attention with
  | .level => { r with line := r.showsNotice }
  | .pulse => r

/-- R169: a notice raised at a station at elapsed time `now`. A kind already in the set changes nothing; a new kind becomes
pending, and when it is ENABLED the line acts on it. -/
def StationRec.raise (r : StationRec) (now : Nat) (n : NoticeKind) : StationRec :=
  if r.notices.contains n then r
  else
    let r' := { r with notices := insertNotice r.notices n }
    match r'.attention with
    | .level => r'.driveLevel
    | .pulse => if r'.enabled.contains n then { r' with line := true, pulse := some (now + Config.pulseMs) } else r'

/-- A notice raised at one station. -/
def State.raiseAt (s : State) (st : Station) (n : NoticeKind) : State :=
  s.setStation st ((s.station st).raise s.now n)

/-- A notice raised at every station. -/
def State.raiseAll (s : State) (n : NoticeKind) : State :=
  ((s.raiseAt .uc n).raiseAt .lc n).raiseAt .tc n

end Sys2Proof.Machine
end

