-- ==== Sys2Proof/Machine/Journal.lean ====
section
/-! DEFINITION. The fee journal: the lengths of its frames, its space, writing, freeing and reserving (R150 to R157). -/

namespace Sys2Proof.Machine

/-- R150: the length of a stored frame in words, header included. -/
def Frame.words : Frame → Nat
  | .ticket _ => 16
  | .water _ => 12
  | .order .. => 6
  | .move .. => 4
  | .conduct .. => 4
  | .level .. => 8
  | .fault .. => 4

/-- The words of a run of frames. -/
def framesWords (fs : List Frame) : Nat := (fs.map Frame.words).sum

/-! ## Space (R154) -/

/-- Used: the retained words. -/
def State.used (s : State) : Nat := framesWords s.journal.frames

/-- The reserve a chamber's batch holds, 0 without one. -/
def State.reserveOf (s : State) (k : Chamber) : Nat := ((s.batch k).map (·.reserve)).getD 0

/-- Reserved: the sum of the reserves of the bound batches. -/
def State.reserved (s : State) : Nat := s.reserveOf .c1 + s.reserveOf .c2

/-- Available: free minus reserved. -/
def State.availableWords (s : State) : Nat := Config.journalWords - s.used - s.reserved

/-- A station's subscription. -/
def State.subscriber (s : State) (st : Station) : Option Subscriber := s.journal.subscribers.get st

/-- At least one station is subscribed. -/
def State.anySubscriber (s : State) : Bool :=
  (s.subscriber .uc).isSome || (s.subscriber .lc).isSome || (s.subscriber .tc).isSome

/-- R153: a station's unread words, 0 when it is not subscribed. -/
def State.unread (s : State) (st : Station) : Nat :=
  match s.subscriber st with
  | some b => framesWords (s.journal.frames.drop b.read)
  | none => 0

/-! ## Watermarks (R157) -/

/-- R157: after an event, the notice JOURNAL_WATERMARK is raised at a station whose unread words were below its watermark
before the event and are at or above it after; none at a watermark of 0. `below` is the watermark that stood before the
event. -/
def State.watermarkAt (s : State) (st : Station) (before : Nat) (below : Nat) : State :=
  match s.subscriber st with
  | some b => if b.watermark ≠ 0 ∧ before < below ∧ b.watermark ≤ s.unread st then s.raiseAt st .journalWatermark else s
  | none => s

/-- A station's watermark, 0 when it is not subscribed. -/
def State.watermark (s : State) (st : Station) : Nat := ((s.subscriber st).map (·.watermark)).getD 0

/-- R157 at the writing of a frame: every subscribed station is tested, against its unread words in the state before. -/
def State.watermarks (s old : State) : State :=
  ((s.watermarkAt .uc (old.unread .uc) (old.watermark .uc)).watermarkAt .lc (old.unread .lc) (old.watermark .lc)).watermarkAt
    .tc (old.unread .tc) (old.watermark .tc)

/-! ## Writing (R151, R156) -/

/-- A frame written whole at the write end, with the watermark tests. -/
def State.append (s : State) (f : Frame) : State :=
  { s with journal.frames := s.journal.frames ++ [f] }.watermarks s

/-- R156, R155: whole frames discarded from the tail until the words left are at most `room`, and how many were. -/
def discardTo (room : Nat) : List Frame → List Frame × Nat
  | [] => ([], 0)
  | f :: fs =>
    if framesWords (f :: fs) ≤ room then (f :: fs, 0)
    else
      let r := discardTo room fs
      (r.1, r.2 + 1)

/-- R156: discard until used plus reserved plus `len` is at most 4,096, counting DISCARDED. -/
def State.discardFor (s : State) (len : Nat) : State :=
  let r := discardTo (Config.journalWords - s.reserved - len) s.journal.frames
  { s with journal.frames := r.1, journal.discarded := min Config.countLimit (s.journal.discarded + r.2) }

/-- R156: an unreserved frame is written, dropped, or written after discards. -/
def State.write (s : State) (f : Frame) : State :=
  if s.anySubscriber then
    if f.words ≤ s.availableWords then s.append f
    else { s with journal.dropped := countUp s.journal.dropped }
  else (s.discardFor f.words).append f

/-- R156: a TICKET or WATER frame of the batch bound to chamber k is written, drawing its words from the batch's reserve. -/
def State.writeReserved (s : State) (k : Chamber) (f : Frame) : State :=
  match s.batch k with
  | some b => (s.append f).setBatch k (some { b with reserve := b.reserve - f.words })
  | none => s.write f

/-! ## Freeing (R154, R155) -/

/-- R155: the journal's available words have risen since `old`; the batch former is told, and each chamber whose binding is
deferred attempts a formation. -/
def State.noteFreed (s old : State) : State :=
  if old.availableWords < s.availableWords then s.pushForms (s.book.deferred.get .c1) (s.book.deferred.get .c2)
  else s

/-- R154: the frames every subscriber has read: the place of the slowest one, in frames from the tail. -/
def State.slowest (s : State) : Nat :=
  ([Station.uc, .lc, .tc].filterMap s.subscriber).foldr (fun b m => min b.read m) s.journal.frames.length

/-- A subscriber whose place is counted from a tail `n` frames further on. -/
def Subscriber.back (n : Nat) (b : Subscriber) : Subscriber := { b with read := b.read - n }

/-- R154: with at least one subscriber, every frame behind the slowest position is freed. -/
def State.free (s : State) : State :=
  if s.anySubscriber then
    let n := s.slowest
    { s with
      journal.frames := s.journal.frames.drop n
      journal.subscribers :=
        ⟨(s.subscriber .uc).map (Subscriber.back n), (s.subscriber .lc).map (Subscriber.back n),
          (s.subscriber .tc).map (Subscriber.back n)⟩ }
  else s

/-- Replace a station's subscription. -/
def State.setSubscriber (s : State) (st : Station) (b : Option Subscriber) : State :=
  { s with journal.subscribers := s.journal.subscribers.set st b }

/-! ## Reserves (R155) -/

/-- R155: a reserve of `n` words is granted, after discards when no station is subscribed, or refused (`none`). The words
are held in the batch's record once it is bound. -/
def State.askReserve (s : State) (n : Nat) : Option State :=
  if s.anySubscriber then
    if n ≤ s.availableWords then some s else none
  else some (s.discardFor n)

/-- R155: words of a bound batch's reserve go back to the journal. -/
def State.releaseReserve (s : State) (k : Chamber) (n : Nat) : State :=
  match s.batch k with
  | some b => (s.setBatch k (some { b with reserve := b.reserve - n })).noteFreed s
  | none => s

end Sys2Proof.Machine
end

