-- ==== Sys2Proof/Machine/Faults.lean ====
section
/-! DEFINITION. A raised fault: its FAULT frame, its capture and its notice (R172, R173). The block that raises it applies
its effect. -/

namespace Sys2Proof

/-- The chamber whose body a body is. -/
def Body.chamber : Body → Option Chamber
  | .c1 => some .c1
  | .c2 => some .c2
  | _ => none

/-- A signal's end: EU and XU are at the upper one. -/
def Signal.side : Signal → Side
  | .eu => .upper
  | .xu => .upper
  | .el => .lower
  | .xl => .lower

/-- R173: the two bodies nearest a body. -/
def Body.nearest : Body → Body × Body
  | .c1 => (.c1, .up)
  | .c2 => (.c2, .up)
  | b => (b, .c1)

end Sys2Proof

namespace Sys2Proof.Machine

/-- The severity of a fault kind: `true` is hard (the table of faults). -/
def FaultKind.hard : FaultKind → Bool
  | .gaugeDisagree => true
  | .gaugeSingle => false
  | .gaugeLost => true
  | .gateStall => true
  | .unexpectedMove => true
  | .sluiceStall => true
  | .sluicePosition => true
  | .overflow => true
  | .surge => true
  | .fillSlow => false
  | .equaliseTimeout => true
  | .crossSlow => false
  | .lampGreen => false
  | .lampRed => false
  | .lampRedBoth => true
  | .linkLost => false
  | .settingsLost => false

/-- R173: the chamber a subject is of; none for the cross sluice, UP, LP and their gauges, a station or the store. -/
def Subject.chamberOf : Subject → Option Chamber
  | .gate k _ => some k
  | .sluice (.chamber k _) => some k
  | .sluice .cross => none
  | .chamber k => some k
  | .body b => b.chamber
  | .gauge b _ => b.chamber
  | .lamp l => some l.chamber
  | .station _ => none
  | .store => none

/-- R173: the two bodies at an end of chamber k, first and second. -/
def bodiesAt (k : Chamber) : Side → Body × Body
  | .upper => (.up, k.body)
  | .lower => (k.body, .lp)

/-- R173: the chamber states that put UP, and not LP, beside the chamber's own body. -/
def ChamberState.towardsUp : ChamberState → Bool
  | .fillWait => true
  | .fillCross => true
  | .fill => true
  | .highShut => true
  | .highOpening => true
  | .highOpen => true
  | .highClosing => true
  | _ => false

/-- The state a chamber is in, or the one it was halted in. -/
def Sequencer.underlying (c : Sequencer) : ChamberState :=
  if c.state = .halted then c.interrupted.getD .halted else c.state

/-- R173: the two bodies nearest a subject. -/
def State.nearest (s : State) : Subject → Option (Body × Body)
  | .gate k e => some (bodiesAt k e)
  | .sluice (.chamber k e) => some (bodiesAt k e)
  | .sluice .cross => some (.c1, .c2)
  | .chamber k => some (k.body, if (s.chamber k).underlying.towardsUp then .up else .lp)
  | .body b => some b.nearest
  | .gauge b _ => some b.nearest
  | .lamp l => some (bodiesAt l.chamber l.signal.side)
  | .station _ => none
  | .store => none

/-- R173: a body with its level and level state as last handed on. -/
def State.bodyView (s : State) (b : Body) : BodyView := ⟨b, (s.body b).handedLevel, (s.body b).handedState⟩

/-- R173: the fields a captured fault fills, from the state before its effect. -/
def State.captured (s : State) (kind : FaultKind) (subject : Subject) : Captured where
  kind := kind
  subject := subject
  time := s.time
  first := (s.nearest subject).map (fun p => s.bodyView p.1)
  second := (s.nearest subject).map (fun p => s.bodyView p.2)
  chamber := subject.chamberOf.map (fun k => (s.chamber k).state)

/-- R173: a fault offered to the record. -/
def Capture.offer (c : Capture) (f : Captured) : Capture :=
  match c.record with
  | none => { c with record := some f }
  | some old =>
    if old.kind.hard then
      if f.kind.hard then { c with moreHard := true } else { c with moreSoft := true }
    else if f.kind.hard then { c with record := some f, moreSoft := true }
    else { c with moreSoft := true }

/-- R172: a raised fault is handled in three places: the journal, the capture block and the notice sets. A soft fault while
QUIET_SOFT is yes still writes its frame. -/
def State.raiseFault (s : State) (kind : FaultKind) (subject : Subject) : State :=
  let t := s.write (.fault kind subject s.time)
  if s.settings.quietSoft && !kind.hard then t
  else { t with capture := t.capture.offer (s.captured kind subject) }.raiseAll .fault

end Sys2Proof.Machine
end

