-- ==== Sys2Proof/Machine/Sampling.lean ====
section
/-! DEFINITION. Sampling modes: the fast causes of a body and what follows from them (R3, R4, R15). -/

namespace Sys2Proof

/-- R1, R177: the number of a gauge, 1 to 8. -/
def gaugeNumber (b : Body) (g : GaugeSide) : Nat :=
  (match b with | .up => 1 | .lp => 3 | .c1 => 5 | .c2 => 7) + (match g with | .a => 0 | .b => 1)

/-- The two bodies a sluice joins. -/
def Sluice.bodies : Sluice → Body × Body
  | .chamber k e => (e.pound, k.body)
  | .cross => (.c1, .c2)

/-- The sluices that count as fast causes of a body (R3). -/
def Body.sluices : Body → List Sluice
  | .up => [.chamber .c1 .upper, .chamber .c2 .upper]
  | .lp => [.chamber .c1 .lower, .chamber .c2 .lower]
  | .c1 => [.chamber .c1 .upper, .chamber .c1 .lower, .cross]
  | .c2 => [.chamber .c2 .upper, .chamber .c2 .lower, .cross]

/-- The gates that count as fast causes of a body (R3). -/
def Body.gates : Body → List (Chamber × Side)
  | .up => [(.c1, .upper), (.c2, .upper)]
  | .lp => [(.c1, .lower), (.c2, .lower)]
  | .c1 => [(.c1, .upper), (.c1, .lower)]
  | .c2 => [(.c2, .upper), (.c2, .lower)]

end Sys2Proof

namespace Sys2Proof.Machine

/-! ## Fast causes -/

/-- A gate is moving: OPENING or CLOSING. -/
def GateState.moving : GateState → Bool
  | .opening => true
  | .closing => true
  | _ => false

/-- R3, R27: a sluice counts in every state but SHUT; in FAULT it does not count at step 0, and does at an unknown step. -/
def SluiceRec.counts (r : SluiceRec) : Bool :=
  match r.state with
  | .shut => false
  | .fault => decide (r.step ≠ some 0)
  | _ => true

/-- An actuator is UNKNOWN. -/
def State.unknownActuator (s : State) : Actuator → Bool
  | .gate k e => decide ((s.gate k e).state = .unknown)
  | .sluice q => decide ((s.sluice q).state = .unknown)

/-- R27: every present actuator has left UNKNOWN, by its answer or by an order sent to it. -/
def State.leftUnknown (s : State) : Bool := s.presentActuators.all (fun a => !s.unknownActuator a)

/-- R15, R27: the STATUS query has been answered: no drive's query is open. -/
def State.statusAnswered (s : State) : Bool := s.drive.queries.isEmpty

/-- R3: a body has a fast cause; none is counted before the STATUS query has been answered (R15). DEDUCED (log entry 43). -/
def State.fastCause (s : State) (b : Body) : Bool :=
  s.statusAnswered
    && (b.sluices.any (fun q => s.sluicePresent q && (s.sluice q).counts)
      || b.gates.any (fun g => s.chamberPresent g.1 && (s.gate g.1 g.2).state.moving))

/-! ## The round queue and the round timers -/

/-- R2: a body joins the tail of the round queue, unless it is in it. -/
def State.enqueue (s : State) (b : Body) : State :=
  if s.levels.queue.contains b then s else { s with levels.queue := s.levels.queue ++ [b] }

/-- R3: a body's next round falls due `interval` ms after the start of its last one, or at once when that has passed. A body
without a round yet waits in the queue since the reset. One in the queue already keeps its place, and its timer is set as well.
DESIGN CHOICE (log entry 66). -/
def State.dueAfter (s : State) (b : Body) (interval : Nat) : State :=
  match (s.body b).lastRound with
  | none => s
  | some t =>
    if t + interval ≤ s.now then s.enqueue b
    else s.setBody b { s.body b with roundTimer := some (t + interval) }

/-- The interval of a sampling mode, in ms. -/
def State.interval (s : State) : Sampling → Nat
  | .primary => seconds s.settings.primaryInterval
  | .fast => s.settings.fastInterval

/-- R3: a PRIMARY body becomes FAST; a FAST one is left as it is. -/
def State.becomeFast (s : State) (b : Body) : State :=
  match (s.body b).sampling with
  | .primary => (s.setBody b { s.body b with sampling := .fast }).dueAfter b (s.interval .fast)
  | .fast => s

/-- R3: a body returns to PRIMARY. -/
def State.becomePrimary (s : State) (b : Body) : State :=
  (s.setBody b { s.body b with sampling := .primary }).dueAfter b (s.interval .primary)

/-- R3: a body gains a fast cause: its hold stops, and it is FAST. -/
def State.gainCause (s : State) (b : Body) : State :=
  (s.setBody b { s.body b with hold := none }).becomeFast b

/-- R3: a body's hold has run out. -/
def State.holdOut (s : State) (b : Body) : State :=
  let t := s.setBody b { s.body b with hold := none }
  if t.levels.forceFast then t else t.becomePrimary b

/-- R3: a body loses its last fast cause: its hold starts, and with FAST_HOLD 0 expires at once. -/
def State.loseCause (s : State) (b : Body) : State :=
  if s.settings.fastHold = 0 then s.holdOut b
  else s.setBody b { s.body b with hold := some (s.now + seconds s.settings.fastHold) }

/-- R18: what a change of an actuator since `old` does to one body's fast causes. -/
def State.noteFastAt (s old : State) (b : Body) : State :=
  if s.bodyPresent b && !old.fastCause b && s.fastCause b then s.gainCause b
  else if s.bodyPresent b && old.fastCause b && !s.fastCause b then s.loseCause b
  else s

/-- R18: the change of an actuator since `old` handed to the level monitor. Bodies that fall due at once by it join the round queue
in the order UP, LP, C1, C2. DESIGN CHOICE (log entry 57). -/
def State.noteFast (s old : State) : State :=
  (((s.noteFastAt old .up).noteFastAt old .lp).noteFastAt old .c1).noteFastAt old .c2

/-! ## Actuators changed -/

/-- A gate changed, its surge memory false outside OPENING (R35), and the level monitor told (R18). -/
def State.setGate (s : State) (k : Chamber) (e : Side) (g : Gate) : State :=
  (s.putGate k e (if g.state = .opening then g else { g with surge := false })).noteFast s

/-- A sluice changed, and the level monitor told (R18). -/
def State.setSluice (s : State) (q : Sluice) (r : SluiceRec) : State := (s.putSluice q r).noteFast s

end Sys2Proof.Machine
end

