-- ==== Sys2Proof/Machine/Drive.lean ====
section
/-! DEFINITION. The drive controller's orders: the interlock, the orders to gates and sluices, the faults of their drives,
and the ramp (R17, R19, R22 to R26, R28 to R33). -/

namespace Sys2Proof.Machine

/-! ## The interlock (R28, R29) -/

/-- A gate is CLOSED. -/
def State.gateClosed (s : State) (k : Chamber) (e : Side) : Bool := decide ((s.gate k e).state = .closed)

/-- A chamber's two gates are CLOSED. -/
def State.gatesClosed (s : State) (k : Chamber) : Bool := s.gateClosed k .upper && s.gateClosed k .lower

/-- A sluice is at 0 and SHUT; a FAULT or UNKNOWN one never is. -/
def State.sluiceShut (s : State) (q : Sluice) : Bool := decide ((s.sluice q).state = .shut)

/-- The cross sluice is SHUT, when it is present. -/
def State.crossShut (s : State) : Bool := !s.crossPresent || s.sluiceShut .cross

/-- R10: a pair is EQUALISED. -/
def State.pairEqualised (s : State) (p : Pair) : Bool := decide (s.pair p = .equalised)

/-- Clause I1: open a gate of chamber k. A gate still UNKNOWN is refused too (R19). -/
def State.clause1 (s : State) (k : Chamber) (e : Side) : Bool :=
  decide ((s.gate k e).state ≠ .unknown) && s.gateClosed k e.other && s.sluiceShut (.chamber k .upper)
    && s.sluiceShut (.chamber k .lower) && s.crossShut && s.pairEqualised (.across e k)

/-- Clause I2: move a chamber sluice above 0. A sluice still UNKNOWN is refused too (R27). -/
def State.clause2 (s : State) (k : Chamber) (e : Side) : Bool :=
  decide ((s.sluice (.chamber k e)).state ≠ .unknown) && s.gatesClosed k && s.sluiceShut (.chamber k e.other)
    && s.crossShut && (decide (e = .lower) || s.usable k.body)

/-- Clause I3: move the cross sluice above 0. A sluice still UNKNOWN is refused too (R27). -/
def State.clause3 (s : State) : Bool :=
  decide (s.drive.crossSluice.state ≠ .unknown) && s.gatesClosed .c1 && s.gatesClosed .c2
    && s.sluiceShut (.chamber .c1 .upper) && s.sluiceShut (.chamber .c1 .lower)
    && s.sluiceShut (.chamber .c2 .upper) && s.sluiceShut (.chamber .c2 .lower)
    && decide (s.arbiter.owner = .engaged)

/-- Clause I4: the chamber's level is usable and below its top level minus E. -/
def State.clause4 (s : State) (k : Chamber) : Bool :=
  match s.usableLevel k.body with
  | some h => decide (h + s.settings.eqBand < (s.settings.chamber.get k).topLevel)
  | none => false

/-- R29: the clause that refuses an order, or `none` when the interlock passes it; I5 passes all the others. -/
def State.judge (s : State) : Actuator → DriveOrder → Option Clause
  | .gate k e, .opn => if s.clause1 k e then none else some .i1
  | .sluice (.chamber k .upper), .move (_ + 1) =>
    if s.clause2 k .upper then (if s.clause4 k then none else some .i4) else some .i2
  | .sluice (.chamber k .lower), .move (_ + 1) => if s.clause2 k .lower then none else some .i2
  | .sluice .cross, .move (_ + 1) => if s.clause3 then none else some .i3
  | _, _ => none

/-! ## What could change a judgement (R30) -/

/-- R30: what a block that keeps a refused order may be told: a body's level handed on, a pair's state handed on, or a report or
completion of an actuator's drive. -/
inductive Handed where
  | level (b : Body)
  | pair (p : Pair)
  | drive (a : Actuator)
  deriving DecidableEq, Repr

/-- R29: the actuators a clause speaks of for a chamber k: k's own gates and sluices, and the cross sluice. -/
def spokenOf (k : Chamber) : Actuator → Bool
  | .gate k' _ => decide (k' = k)
  | .sluice (.chamber k' _) => decide (k' = k)
  | .sluice .cross => true

/-- R29, R30: what is handed could change the clause's judgement of an order to actuator `a`: the clause reads that level or pair,
or names that actuator. The ordered actuator itself counts as named, since an UNKNOWN one is refused. DEDUCED (log entry 20). -/
def Clause.reads (c : Clause) (a : Actuator) (h : Handed) : Bool :=
  match c, a, h with
  | .i1, .gate k e, .level b => decide (b = k.body ∨ b = e.pound)
  | .i1, .gate k e, .pair p => decide (p = .across e k)
  | .i1, .gate k _, .drive x => spokenOf k x
  | .i2, .sluice (.chamber k e), .level b => decide (e = .upper ∧ b = k.body)
  | .i2, .sluice (.chamber k _), .drive x => spokenOf k x
  | .i3, _, .drive _ => true
  | .i4, .sluice (.chamber k _), .level b => decide (b = k.body)
  | _, _, _ => false

/-! ## Sending (R17) -/

/-- An order is on the drive line; its echo is awaited. -/
def State.send (s : State) (a : Actuator) (o : DriveOrder) : State :=
  { s with drive.sent := s.drive.sent ++ [⟨a, o, false⟩] }

/-- R26: a MOVE frame handed to the journal. -/
def State.moveFrame (s : State) (a : Actuator) (o : MoveOutcome) : State := s.write (.move a o s.time)

/-- What became of an order asked for: refused by a clause, complete without sending, or sent. -/
inductive OrderResult where
  | refused (c : Clause)
  | complete
  | sent
  deriving DecidableEq, Repr

/-! ## Gates (R19, R22) -/

/-- A gate's movement timer started now (R19). -/
def State.gateExpiry (s : State) (k : Chamber) (e : Side) : Nat :=
  s.now + seconds ((s.settings.chamber.get k).gateLimit.get e)

/-- R19: an OPEN or CLOSE sent to a gate that takes it. -/
def State.startGate (s : State) (k : Chamber) (e : Side) (m : GateMove) : State :=
  let g := s.gate k e
  match m with
  | .opn =>
    (s.send (.gate k e) .opn).setGate k e
      { g with state := .opening, outstanding := some .opn, lastMove := some .opn, timer := some (s.gateExpiry k e) }
  | .cls =>
    (s.send (.gate k e) .cls).setGate k e
      { g with state := .closing, outstanding := some .cls, lastMove := some .cls, timer := some (s.gateExpiry k e) }

/-- R19: OPEN asked of a gate. -/
def State.openGate (s : State) (k : Chamber) (e : Side) : State × OrderResult :=
  match (s.gate k e).state with
  | .opening => (s, .complete)
  | .opened => (s, .complete)
  | _ =>
    match s.judge (.gate k e) .opn with
    | some c => (s, .refused c)
    | none => (s.startGate k e .opn, .sent)

/-- R19: CLOSE asked of a gate; I5 passes it. On an UNKNOWN gate it is sent and leaves the state. -/
def State.closeGate (s : State) (k : Chamber) (e : Side) : State × OrderResult :=
  match (s.gate k e).state with
  | .closing => (s, .complete)
  | .closed => (s, .complete)
  | .unknown => (s.send (.gate k e) .cls, .sent)
  | _ => (s.startGate k e .cls, .sent)

/-- R19: STOP asked of a gate; I5 passes it. -/
def State.stopGate (s : State) (k : Chamber) (e : Side) : State :=
  let g := s.gate k e
  match g.state with
  | .opening =>
    ((s.send (.gate k e) .stop).setGate k e { g with state := .stopped, outstanding := none, timer := none }).moveFrame
      (.gate k e) .stopped
  | .closing =>
    ((s.send (.gate k e) .stop).setGate k e { g with state := .stopped, outstanding := none, timer := none }).moveFrame
      (.gate k e) .stopped
  | .stalled => s.send (.gate k e) .stop
  | .unknown => s.send (.gate k e) .stop
  | _ => s

/-- R22: what a movement timeout, a DRIVE_FAULT or a second failed echo does to a gate and its drive. -/
def State.stallGate (s : State) (k : Chamber) (e : Side) : State :=
  (((s.setGate k e { s.gate k e with state := .stalled, outstanding := none, timer := none }).send (.gate k e)
    .stop).moveFrame (.gate k e) .stalled).raiseFault .gateStall (.gate k e)

/-! ## Sluices (R23, R25) -/

/-- A sluice's movement timer started now (R23). -/
def State.sluiceExpiry (s : State) : Nat := s.now + seconds s.settings.sluiceLimit

/-- A target that is a step. -/
def Target.stepOf : Target → Option Nat
  | .step n => some n
  | .stop => none

/-- R23: the superseded target after a new order to a MOVING sluice: the old target when it is a step; the one before it is
forgotten. -/
def SluiceRec.supersede (r : SluiceRec) : Option Nat := r.target.bind Target.stepOf

/-- R23: a MOVE sent to a sluice. -/
def State.sendMove (s : State) (q : Sluice) (t : Nat) : State :=
  let r := s.sluice q
  (s.send (.sluice q) (.move t)).setSluice q
    { r with
      state := .moving
      target := some (.step t)
      superseded := if r.state = .moving then r.supersede else none
      timer := some s.sluiceExpiry }

/-- R23: MOVE(t) asked of a sluice, its ramp left alone. -/
def State.moveSluice (s : State) (q : Sluice) (t : Nat) : State × OrderResult :=
  let r := s.sluice q
  let there : Bool :=
    match r.state with
    | .shut => decide (r.step = some t)
    | .held => decide (r.step = some t)
    | .moving => decide (r.target = some (.step t))
    | _ => false
  if there then (s, .complete)
  else
    match s.judge (.sluice q) (.move t) with
    | some c => (s, .refused c)
    | none => (s.sendMove q t, .sent)

/-- R33: a sluice's ramp ends. -/
def State.endRamp (s : State) (q : Sluice) : State := s.putSluice q { s.sluice q with ramp := none }

/-- R23: STOP asked of a sluice; I5 passes it, and when sent it ends the ramp (R33). A SHUT or HELD sluice needs none. -/
def State.stopSluice (s : State) (q : Sluice) : State :=
  let r := s.sluice q
  match r.state with
  | .moving =>
    (s.send (.sluice q) .stop).setSluice q
      { r with target := some .stop, superseded := r.supersede, timer := some s.sluiceExpiry, ramp := none }
  | .fault => (s.send (.sluice q) .stop).endRamp q
  | .unknown => (s.send (.sluice q) .stop).endRamp q
  | _ => s

/-- A MOVE order other than the ramp's own: unless refused it ends the ramp (R33). -/
def State.orderSluice (s : State) (q : Sluice) (t : Nat) : State × OrderResult :=
  match s.moveSluice q t with
  | (_, .refused c) => (s, .refused c)
  | (s', r) => (s'.endRamp q, r)

/-- MOVE(0), which the interlock always passes (I5). -/
def State.shutSluice (s : State) (q : Sluice) : State := (s.orderSluice q 0).1

/-- R25: what a movement timeout or a second failed echo does to a sluice and its drive. -/
def State.stallSluice (s : State) (q : Sluice) : State :=
  (((s.setSluice q
      { s.sluice q with state := .fault, target := none, superseded := none, timer := none, ramp := none }).stopSluice
    q).moveFrame (.sluice q) .stalled).raiseFault .sluiceStall (.sluice q)

/-! ## The ramp (R31 to R33) -/

/-- R32: the head across a sluice, on the levels as last handed on, held ones included. -/
def State.head (s : State) (q : Sluice) : Nat :=
  match s.level q.bodies.1, s.level q.bodies.2 with
  | some x, some y => distance x y
  | _, _ => Config.headWithoutLevel

/-- R32: the head limit of a sluice. -/
def State.headLimit (s : State) (q : Sluice) : Nat :=
  if s.settings.highHead < s.head q then s.settings.highHeadMaxStep else 8

/-- R33: both bodies a sluice joins have usable levels. -/
def State.sidesUsable (s : State) (q : Sluice) : Bool := s.usable q.bodies.1 && s.usable q.bodies.2

/-- Replace a sluice's ramp. -/
def State.setRamp (s : State) (q : Sluice) (r : Option Ramp) : State := s.putSluice q { s.sluice q with ramp := r }

/-- A ramp orders its next step; a refusal leaves it waiting with that step and the clause (R33). -/
def State.rampOrder (s : State) (q : Sluice) (r : Ramp) : State :=
  match s.moveSluice q r.next with
  | (_, .refused c) => s.setRamp q (some { r with waiting := .retry c })
  | (s', _) => s'.setRamp q (some { r with waiting := .nothing, first := false, lastOrder := some s.now })

/-- The elapsed time at which a ramp's STEP_INTERVAL has passed, when it has an order behind it: by the setting as it stands, so that
a write moves a wait that is running. DESIGN CHOICE (log entry 59). -/
def State.rampDue (s : State) (r : Ramp) : Option Nat := r.lastOrder.map (· + seconds s.settings.stepInterval)

/-- A ramp's STEP_INTERVAL is still running. -/
def State.rampEarly (s : State) (r : Ramp) : Bool :=
  match s.rampDue r with
  | some t => decide (s.now < t)
  | none => false

/-- R31: a ramp decides its next step: it ends past its end step; else it waits on the interval, on usable levels or on the
head limit; else it orders. The first order needs no interval and no usable level. With a level that is not usable and the head
limit both in the way it shows the usable level. DESIGN CHOICE (log entry 60). -/
def State.rampDecide (s : State) (q : Sluice) (r : Ramp) : State :=
  if r.endStep < r.next then s.setRamp q none
  else if !r.first && s.rampEarly r then s.setRamp q (some { r with waiting := .interval })
  else if !r.first && !s.sidesUsable q then s.setRamp q (some { r with waiting := .usableLevel })
  else if s.headLimit q < r.next then s.setRamp q (some { r with waiting := .headLimit })
  else s.rampOrder q r

/-- R31: the step a ramp starts from. -/
def State.rampStart (s : State) (q : Sluice) : Nat :=
  let r := s.sluice q
  let reported := r.step.getD (min 8 Config.startWithoutStep)
  match r.state, r.target with
  | .moving, some (.step t) => t
  | _, _ => reported

/-- R31: a ramp started on a sluice; it replaces any ramp the sluice had, even when it sends no order itself (DESIGN CHOICE, log
entry 69). One that starts at the head limit shows the head limit, whatever the levels. DESIGN CHOICE (log entry 60). -/
def State.startRamp (s : State) (q : Sluice) (who : Requester) (endStep : Nat) : State :=
  let start := s.rampStart q
  if endStep ≤ start then s.setRamp q none
  else if s.headLimit q ≤ start then
    s.setRamp q (some ⟨who, endStep, start + 1, none, false, .headLimit⟩)
  else s.rampDecide q ⟨who, endStep, start + 1, none, true, .nothing⟩

/-- R31: a REACHED report that completed the ramp's order. -/
def State.rampReached (s : State) (q : Sluice) (step : Nat) : State :=
  match (s.sluice q).ramp with
  | some r => if r.waiting = .nothing then s.rampDecide q { r with next := step + 1 } else s
  | none => s

/-- R31, R32, R33: a level hand-over of one of its bodies lets a ramp that waits on the limit or on a level decide again. -/
def State.rampLevel (s : State) (b : Body) (q : Sluice) : State :=
  match (s.sluice q).ramp with
  | some r =>
    if decide (q.bodies.1 = b ∨ q.bodies.2 = b) && decide (r.waiting = .headLimit ∨ r.waiting = .usableLevel) then
      s.rampDecide q r
    else s
  | none => s

/-- The five sluices. -/
def allSluices : List Sluice :=
  [.chamber .c1 .upper, .chamber .c1 .lower, .chamber .c2 .upper, .chamber .c2 .lower, .cross]

/-- R33, R30: a ramp that waits with a refused step tries it again at an event that could change the judgement, now only with usable
levels; a station's ramp is never retried. -/
def State.rampRetry (s : State) (h : Handed) (q : Sluice) : State :=
  match (s.sluice q).ramp with
  | some r =>
    match r.waiting, r.requester with
    | .retry _, .station _ => s
    | .retry c, _ => if c.reads (.sluice q) h then s.rampDecide q { r with first := false } else s
    | _, _ => s
  | none => s

/-- R33: the ramps that wait with a refused step, in the order of the sluices. -/
def State.rampRetries (s : State) (h : Handed) : State := allSluices.foldl (fun t q => t.rampRetry h q) s

end Sys2Proof.Machine
end

