-- ==== Sys2Proof/Machine/Orders.lean ====
section
/-! DEFINITION. The passage orders and what the vessel register decides of them: lists, numbers, fit, holds and the
re-judging of an order (R87 to R92, R94, R95). -/

namespace Sys2Proof.Machine

/-! ## The two lists (R94, R95) -/

/-- The orders of the whole book. -/
def Book.orders (b : Book) : List Order := b.lists.up ++ b.lists.down

/-- An order by its number. -/
def Book.find (b : Book) (n : Nat) : Option Order := b.orders.find? (fun o => decide (o.number = n))

/-- R94: one order stands before another: PRIORITY before NORMAL, then by rising entry sequence. -/
def Order.before (x y : Order) : Bool :=
  match x.cls, y.cls with
  | .priority, .normal => true
  | .normal, .priority => false
  | _, _ => decide (x.sequence < y.sequence)

/-- R94: an order put in its place in a list. -/
def insertOrder (o : Order) : List Order → List Order
  | [] => [o]
  | x :: xs => if x.before o then x :: insertOrder o xs else o :: x :: xs

/-- A list with each order of number `n` changed by `f`. -/
def changeIn (n : Nat) (f : Order → Order) (l : List Order) : List Order :=
  l.map (fun o => if o.number = n then f o else o)

/-- Both lists changed by `f`. -/
def Book.mapLists (b : Book) (f : List Order → List Order) : Book :=
  { b with lists := ⟨f b.lists.up, f b.lists.down⟩ }

/-- The order of number `n` changed by `f`. -/
def State.changeOrder (s : State) (n : Nat) (f : Order → Order) : State :=
  { s with book := s.book.mapLists (changeIn n f) }

/-- The counter's next value: after 65,535 comes 1. -/
def succNumber (n : Nat) : Nat := if n < 65535 then n + 1 else 1

/-- R95: the first number from `n` on that is not among `held`, looked for through `fuel` numbers. -/
def freeNumber (held : List Nat) : Nat → Nat → Nat
  | 0, n => n
  | fuel + 1, n => if held.contains n then freeNumber held fuel (succNumber n) else n

/-- The numbers the orders of the book hold. -/
def Book.numbers (b : Book) : List Nat := b.orders.map (·.number)

/-- R92, R94: an order leaves the book and its vessel's order field becomes absent; the formation timer stops when the book
becomes empty (R98). -/
def State.removeOrder (s : State) (o : Order) : State :=
  let t := s.setVessel o.slot { s.vessel o.slot with order := none }
  let b := t.book.mapLists (fun l => l.filter (fun x => decide (x.number ≠ o.number)))
  { t with book := if b.orders.isEmpty then { b with timer := none } else b }

/-- R152: an ORDER frame handed to the journal. -/
def State.orderFrame (s : State) (n : Option Nat) (slot : Nat) (e : OrderEvent) (st : Station) : State :=
  s.write (.order n slot e st s.time)

/-! ## Fit and state (R90, R91) -/

/-- R91: a length and a beam fit a chamber standing empty. -/
def fitsChamber (c : ChamberSettings) (length beam : Nat) : Bool :=
  decide (length ≤ c.usableLength) && decide (beam ≤ c.usableWidth)

/-- R91: a vessel fits a configured chamber. -/
def State.fits (s : State) (v : Vessel) : Bool :=
  s.presentChambers.any (fun k => fitsChamber (s.settings.chamber.get k) v.length v.beam)

/-- R90: the state of an order that is not BOUND, from its vessel's record. -/
def State.orderState (s : State) (v : Vessel) : OrderState :=
  match v.state with
  | .held _ => .blocked .held
  | _ => if s.fits v then .waiting else .blocked .oversize

/-- An order is BOUND. -/
def OrderState.isBound : OrderState → Bool
  | .bound _ => true
  | _ => false

/-- R90: the order of a vessel re-judged; a BOUND order is not. An order that becomes WAITING lets each available chamber
attempt a formation. -/
def State.rejudge (s : State) (slot : Nat) : State :=
  match (s.vessel slot).order.bind s.book.find with
  | some o =>
    if o.state.isBound then s
    else
      let x := s.orderState (s.vessel slot)
      let t := s.changeOrder o.number (fun y => { y with state := x })
      if o.state ≠ .waiting ∧ x = .waiting then t.pushAvailable else t
  | none => s

/-- R91: the orders of every vessel re-judged, after a change of the configured chambers or of their dimensions. -/
def State.rejudgeAll (s : State) : State := s.book.orders.foldl (fun t o => t.rejudge o.slot) s

/-- R90: a BOUND order returns: it takes the state its vessel's record gives. -/
def State.returnOrder (s : State) (o : Order) : State :=
  s.changeOrder o.number (fun y => { y with state := s.orderState (s.vessel o.slot) })

/-! ## Holds (R87 to R89) -/

/-- The ceiling condition of a vessel. -/
def Vessel.overCeiling (v : Vessel) : Bool := decide (v.ceiling ≠ 0) && decide (v.ceiling ≤ v.total)

/-- R87, R89: an ACTIVE vessel becomes HELD. -/
def State.holdVessel (s : State) (slot : Nat) (c : HoldCause) : State :=
  ((s.setVessel slot { s.vessel slot with state := .held c }).raiseAll .vesselHeld).rejudge slot

/-- R88, R89: a HELD vessel becomes ACTIVE. -/
def State.activate (s : State) (slot : Nat) : State :=
  (s.setVessel slot { s.vessel slot with state := .active }).rejudge slot

/-- R89: the ceiling hold of a vessel re-evaluated. -/
def State.reevaluate (s : State) (slot : Nat) : State :=
  let v := s.vessel slot
  match v.state with
  | .active => if v.overCeiling then s.holdVessel slot .ceiling else s
  | .held .ceiling => if v.overCeiling then s else s.activate slot
  | _ => s

end Sys2Proof.Machine
end

