-- ==== Sys2Proof/Machine/Dues.lean ====
section
/-! DEFINITION. The dues calculator and its postings: volumes, the water charge and its shares, WATER frames, dues, tickets
and the accounts (R132 to R147). -/

namespace Sys2Proof.Machine

/-! ## Volumes and charge (R135 to R137) -/

/-- R135, R136: the volume of a level change of `rise` cm over `area` m²; a change the wrong way is a rise of 0. -/
def volume (area rise : Nat) : Nat := (area * rise + 50) / 100

/-- R137: the water charge of a drawn volume. -/
def waterCharge (drawn rate : Nat) : Nat := (drawn * rate + 5) / 10

/-- R135, R136: the cross and the pound volume of a closed record. Both are 0 when a level is absent. -/
def recordVolumes (kind : WaterKind) (area : Nat) (start crossEnd stop : Option Nat) : Nat × Nat :=
  match start, crossEnd, stop with
  | some a, some c, some z =>
    match kind with
    | .fill => (volume area (c - a), volume area (z - c))
    | .empty => (volume area (a - c), volume area (c - z))
  | _, _, _ => (0, 0)

/-! ## Sharing (R138) -/

/-- R138: a member's floor share. -/
def floorShare (charge total w : Nat) : Nat := charge * w / total

/-- R138: a member's remainder. -/
def shareRemainder (charge total w : Nat) : Nat := charge * w % total

/-- R138: how many members come before the one at place `i` with remainder `r`: larger remainders first, then lower
positions. -/
def sharesAhead (rems : List Nat) (i r : Nat) : Nat :=
  (rems.zipIdx.filter (fun p => decide (r < p.1 ∨ (p.1 = r ∧ p.2 < i)))).length

/-- R138: the shares of a charge over members of the given weights, in binding order. -/
def apportion (charge : Nat) (ws : List Nat) : List Nat :=
  let total := ws.sum
  let rems := ws.map (shareRemainder charge total)
  let left := charge - (ws.map (floorShare charge total)).sum
  ws.zipIdx.map (fun p =>
    floorShare charge total p.1 + if sharesAhead rems p.2 (shareRemainder charge total p.1) < left then 1 else 0)

/-- R138: a member's weight. -/
def Member.weight (m : Member) : Nat := m.length * m.beam

/-- R138: the members with their shares of a charge fixed. -/
def shareMembers (charge : Nat) (ms : List Member) : List Member :=
  (ms.zip (apportion charge (ms.map Member.weight))).map (fun p => { p.1 with share := some p.2 })

/-! ## The site account (R147) -/

/-- R147: a posting to the site account, each quantity stopping at its limit. -/
def SiteAccount.post (a : SiteAccount) (total drawn saved : Nat) : SiteAccount where
  total := min Config.moneyLimit (a.total + total)
  drawn := min Config.volumeLimit (a.drawn + drawn)
  saved := min Config.volumeLimit (a.saved + saved)

/-- A posting to the site account. -/
def State.postSite (s : State) (total drawn saved : Nat) : State := { s with site := s.site.post total drawn saved }

/-! ## Closed water records (R44, R137, R140) -/

/-- The closed record a batch has of a kind. -/
def Batch.closed (b : Batch) : WaterKind → Option ClosedRec
  | .fill => b.fill
  | .empty => b.empty

/-- R44: the batch a closing record carries: the chamber's, if the record was opened for it and it has none of that kind. -/
def State.recordBatch (s : State) (k : Chamber) (w : WaterRec) : Option Batch :=
  match s.batch k with
  | some b => if w.batch = some b.number ∧ b.closed w.kind = none then some b else none
  | none => none

/-- R140: the WATER frame of a record: charge and site part are none for an EMPTY, also where a level is absent. DEDUCED (log
entry 54). -/
def State.waterFrame (s : State) (k : Chamber) (kind : WaterKind) (batch : Option Nat) (crossed : Bool) (r : ClosedRec) :
    Frame :=
  .water
    { batch := batch, chamber := k, kind := kind, start := r.start, crossEnd := if crossed then r.crossEnd else none
      stop := r.stop, crossVolume := r.crossVolume, pound := r.pound
      charge := if kind = .fill then some r.charge else none
      sitePart := if kind = .fill then some r.sitePart else none
      time := s.time }

/-- A closed record worked from an open one: its volumes and, for a fill, its charge at the given rate (R135 to R137). -/
def closeRec (w : WaterRec) (area rate : Nat) (stop : Option Nat) : ClosedRec :=
  let v := recordVolumes w.kind area w.start (if w.crossed then w.crossEnd else w.start) stop
  { start := w.start, crossEnd := if w.crossed then w.crossEnd else none, stop := stop, crossVolume := v.1, pound := v.2
    charge := if w.kind = .fill then waterCharge v.2 rate else 0, sitePart := 0, sharers := [] }

/-- R137, R107: a closed record taken for the batch bound to the chamber. -/
def State.takeForBatch (s : State) (k : Chamber) (w : WaterRec) (b : Batch) (stop : Option Nat) : State :=
  let r := closeRec w (s.settings.chamber.get k).wetArea b.tariff.waterRate stop
  match w.kind with
  | .fill =>
    let ms := shareMembers r.charge b.members
    let r := { r with sharers := ms.map (·.order) }
    let t := s.setBatch k (some { b with members := ms })
    let u := (t.writeReserved k (t.waterFrame k .fill (some b.number) w.crossed r)).postSite 0 r.pound r.crossVolume
    u.setBatch k ((u.batch k).map (fun x => { x with fill := some r }))
  | .empty =>
    let u := s.writeReserved k (s.waterFrame k .empty (some b.number) w.crossed r)
    u.setBatch k ((u.batch k).map (fun x => { x with empty := some r }))

/-- R137: a closed record taken with no batch: the whole charge of a fill, by the ACTIVE table (R132), is the site part. -/
def State.takeForSite (s : State) (k : Chamber) (w : WaterRec) (stop : Option Nat) : State :=
  let r := closeRec w (s.settings.chamber.get k).wetArea s.active.waterRate stop
  let r := { r with sitePart := r.charge }
  let t := s.write (s.waterFrame k w.kind none w.crossed r)
  match w.kind with
  | .fill => t.postSite r.charge r.pound r.crossVolume
  | .empty => t

/-- R44: the chamber's water record closes with its level as last handed on, and is handed to the dues calculator. -/
def State.closeWater (s : State) (k : Chamber) (withBatch : Bool) : State :=
  let c := s.chamber k
  match c.water with
  | none => s
  | some w =>
    let t := s.setChamber k { c with water := none }
    match (if withBatch then s.recordBatch k w else none) with
    | some b => t.takeForBatch k w b (s.level k.body)
    | none => t.takeForSite k w (s.level k.body)

/-! ## Re-apportionment (R139) -/

/-- R139: the charge of a batch's fill apportioned again over its members, or over none; the rise of the site part is
posted. Without a fill record nothing is done. -/
def State.reapportion (s : State) (k : Chamber) (toSite : Bool) : State :=
  match s.batch k with
  | none => s
  | some b =>
    match b.fill with
    | none => s
    | some r =>
      let ms := if toSite then b.members else shareMembers r.charge b.members
      let r' : ClosedRec :=
        { r with
          sitePart := if toSite then r.charge else 0
          sharers := if toSite then [] else b.members.map (·.order) }
      let t := s.setBatch k (some { b with members := ms, fill := some r' })
      (t.writeReserved k (t.waterFrame k .fill (some b.number) true r')).postSite (r'.sitePart - r.sitePart) 0 0

/-! ## Night band (R134) -/

/-- R134: a minute of the day is in a tariff's night band. -/
def Tariff.night (t : Tariff) (m : Nat) : Bool :=
  if t.nightStart < t.nightEnd then decide (t.nightStart ≤ m) && decide (m < t.nightEnd)
  else if t.nightEnd < t.nightStart then decide (t.nightStart ≤ m) || decide (m < t.nightEnd)
  else false

/-- R109, R134: the night flag fixed now: no while the clock is UNSET. -/
def State.nightFlag (s : State) (t : Tariff) : Bool :=
  match s.time with
  | some x => t.night (x.second / 60)
  | none => false

/-- R133: CLOCK_UNSET is raised at every station while the clock is UNSET. -/
def State.noteUnset (s : State) : State := if s.time.isNone then s.raiseAll .clockUnset else s

/-! ## Dues and tickets (R141 to R146) -/

/-- R141: the tonnage part. -/
def tonnage (t : Tariff) (deadweight : Nat) (laden : Bool) : Nat :=
  if laden then (deadweight * t.tonRate + 5) / 10 else (deadweight * t.tonRate * t.unladenPct + 500) / 1000

/-- R141: a percentage part of the sub. -/
def percentPart (sub pct : Nat) : Nat := (sub * pct + 50) / 100

/-- R141: a member's night part. -/
def nightPart (t : Tariff) (night : Bool) (sub : Nat) : Nat := if night then percentPart sub t.nightPct else 0

/-- R141: a member's priority part. -/
def priorityPart (t : Tariff) (c : OrderClass) (sub : Nat) : Nat :=
  match c with
  | .priority => percentPart sub t.priorityPct
  | .normal => 0

/-- R141: a member's sub. -/
def Member.sub (m : Member) (t : Tariff) : Nat := t.base.get m.cls + tonnage t m.deadweight m.laden

/-- R141: a member's water share, 0 when the batch has no fill record. -/
def Batch.shareOf (b : Batch) (m : Member) : Nat := if b.fill.isSome then m.share.getD 0 else 0

/-- R141: a member's dues before the adjustments. -/
def Batch.rawDues (b : Batch) (m : Member) : Nat :=
  m.sub b.tariff + nightPart b.tariff (b.night.getD false) (m.sub b.tariff) + priorityPart b.tariff m.priority (m.sub b.tariff)
    + b.shareOf m

/-- R142: a member's dues: 0 when exempt, and never above the cap. -/
def Batch.dues (b : Batch) (m : Member) : Nat := if m.exempt then 0 else min Config.duesCap (b.rawDues m)

/-- R142: the cap was met. -/
def Batch.capped (b : Batch) (m : Member) : Bool := !m.exempt && decide (Config.duesCap < b.rawDues m)

/-- R144: a member's ticket. -/
def State.ticket (s : State) (k : Chamber) (b : Batch) (m : Member) : Ticket where
  batch := b.number
  chamber := k
  direction := b.direction
  order := m.order
  slot := m.slot
  mark := (s.vessel m.slot).mark
  cls := m.cls
  exempt := m.exempt
  laden := m.laden
  priority := m.priority
  base := b.tariff.base.get m.cls
  tonnage := tonnage b.tariff m.deadweight m.laden
  nightPart := nightPart b.tariff (b.night.getD false) (m.sub b.tariff)
  priorityPart := priorityPart b.tariff m.priority (m.sub b.tariff)
  share := b.shareOf m
  dues := b.dues m
  capped := b.capped m
  timeUnset := s.time.isNone
  saturated := decide (Config.moneyLimit < (s.vessel m.slot).total + b.dues m)
  time := s.time

/-- R146: a posting of dues to a vessel's account. -/
def Vessel.post (v : Vessel) (dues : Nat) : Vessel :=
  if Config.moneyLimit < v.total + dues then { v with total := Config.moneyLimit, saturated := true }
  else { v with total := v.total + dues }

/-- R92: a vessel's passages and last passage at CONFIRM CLEAR. -/
def Vessel.passed (v : Vessel) (t : Option TimeOfDay) : Vessel :=
  { v with passages := countUp v.passages, lastPassage := match t with | some x => .at x | none => .unset }

/-- One tally counted (R160). -/
def countClass (v : PerClass Nat) (cl : LengthClass) : PerClass Nat := v.set cl (countUp (v.get cl))

/-- R160: a tally of a direction counted. -/
def countTally (v : PerDirection (PerClass Nat)) (d : Direction) (cl : LengthClass) :
    PerDirection (PerClass Nat) :=
  v.set d (countClass (v.get d) cl)

/-- R110, R143: a member's ticket written, its dues posted, its ceiling re-evaluated, and the share of an exempt one posted. -/
def State.postTicket (s : State) (k : Chamber) (m : Member) (t : Ticket) : State :=
  let u := (s.noteUnset).writeReserved k (.ticket t)
  let u := (u.setVessel m.slot ((u.vessel m.slot).post t.dues)).reevaluate m.slot
  if m.exempt then u.postSite t.share 0 0 else u

/-- R110, R92: a member's passages counted, and its order removed. -/
def State.passMember (s : State) (m : Member) : State :=
  let u := s.setVessel m.slot ((s.vessel m.slot).passed s.time)
  match u.book.find m.order with
  | some o => u.removeOrder o
  | none => u

/-- R160: a COMPLETED tally counted. -/
def State.countCompleted (s : State) (d : Direction) (cl : LengthClass) : State :=
  { s with tallies.completed := countTally s.tallies.completed d cl }

/-- R110: one member dealt with at CONFIRM CLEAR: its ticket made, written and posted, its passages counted, its order removed
and its tally counted. -/
def State.clearMember (s : State) (k : Chamber) (b : Batch) (m : Member) : State :=
  ((s.postTicket k m (s.ticket k b m)).passMember m).countCompleted b.direction m.cls

end Sys2Proof.Machine
end

