-- ==== Sys2Proof/Machine/Batches.lean ====
section
/-! DEFINITION. The batch former and the batch operations of the passage book: scan, row rule, binding, removal of a member,
abandonment and unbinding (R97 to R105, R111, R113). -/

namespace Sys2Proof.Machine

/-! ## The row rule (R101) -/

/-- The clearances and the room a scan packs against. -/
structure Room where
  length : Nat
  width : Nat
  side : Nat
  endClear : Nat
  deriving DecidableEq, Repr

/-- The room of a chamber as a scan finds it. -/
def State.room (s : State) (k : Chamber) : Room :=
  ⟨(s.settings.chamber.get k).usableLength, (s.settings.chamber.get k).usableWidth, s.settings.sideClear,
    s.settings.endClear⟩

/-- R101: a vessel joins this row. -/
def Row.takes (r : Row) (m : Room) (length beam : Nat) : Bool :=
  decide (r.width + m.side + beam ≤ m.width) && decide (length ≤ r.length)

/-- R101, first part: the first row that takes a vessel, widened by it, with its number counted from `n`. -/
def joinRow (m : Room) (length beam : Nat) : Nat → List Row → Option (List Row × Nat)
  | _, [] => none
  | n, r :: rs =>
    if r.takes m length beam then some ({ r with width := r.width + m.side + beam } :: rs, n)
    else (joinRow m length beam (n + 1) rs).map (fun p => (r :: p.1, p.2))

/-- R101, second part: a new row may be opened at the end. -/
def opensRow (m : Room) (rows : List Row) (length beam : Nat) : Bool :=
  decide ((rows.map (·.length)).sum + m.endClear * rows.length + length ≤ m.length) && decide (beam ≤ m.width)

/-- R101: the rows with a vessel placed, and the number of its row; `none` when it does not fit the batch. -/
def placeVessel (m : Room) (rows : List Row) (length beam : Nat) : Option (List Row × Nat) :=
  match joinRow m length beam 1 rows with
  | some p => some p
  | none => if opensRow m rows length beam then some (rows ++ [⟨length, beam⟩], rows.length + 1) else none

/-! ## The scan (R100, R102, R103) -/

/-- R100: the depth available over the sills; `none` while a pound has never had a level. -/
def State.depth (s : State) : Option Int :=
  match s.level .up, s.level .lp with
  | some u, some l => some (min ((u : Int) - s.settings.upperSill) ((l : Int) - s.settings.lowerSill))
  | _, _ => none

/-- R105: the snapshot of an order's vessel as a member of a batch. -/
def memberOf (o : Order) (v : Vessel) (row : Nat) : Member where
  order := o.number
  slot := o.slot
  length := v.length
  beam := v.beam
  draught := v.draught
  deadweight := v.deadweight
  cls := lengthClass v.length
  exempt := v.exempt
  laden := o.laden
  priority := o.cls
  row := row
  present := false
  share := none

/-- What a scan has gathered: the members taken, the rows, and each order judged "does not fit" with how many had been taken
before it. -/
structure Scan where
  members : List Member := []
  rows : List Row := []
  missed : List (Nat × Nat) := []
  deriving DecidableEq, Repr

/-- R100: an order is skipped: BLOCKED or BOUND, chamber-excluded, or draught-excluded. -/
def State.skips (s : State) (k : Chamber) (depth : Int) (o : Order) : Bool :=
  decide (o.state ≠ .waiting) || !fitsChamber (s.settings.chamber.get k) (s.vessel o.slot).length (s.vessel o.slot).beam
    || decide (depth < ((s.vessel o.slot).draught + s.settings.keelClear : Nat))

/-- R100 to R102: the scan of a list. It ends at the end, with 8 members, or at an order that does not fit when FILL_IN is
no or the order is anchored; one whose count stands above PASS_LIMIT is anchored too. DESIGN CHOICE (log entry 53). -/
def State.scan (s : State) (k : Chamber) (depth : Int) : List Order → Scan → Scan
  | [], c => c
  | o :: os, c =>
    if Config.batchSize ≤ c.members.length then c
    else if s.skips k depth o then s.scan k depth os c
    else
      match placeVessel (s.room k) c.rows (s.vessel o.slot).length (s.vessel o.slot).beam with
      | some (rows, n) =>
        s.scan k depth os { c with members := c.members ++ [memberOf o (s.vessel o.slot) n], rows := rows }
      | none =>
        let c' := { c with missed := c.missed ++ [(o.number, c.members.length)] }
        if s.settings.fillIn && decide (o.passOver < s.settings.passLimit) then s.scan k depth os c' else c'

/-- R103: the orders whose pass-over counts are raised: those with a taken order behind them. -/
def Scan.raised (c : Scan) : List Nat := (c.missed.filter (fun p => decide (p.2 < c.members.length))).map (·.1)

/-- R103: the pass-over counts raised, each up to PASS_LIMIT. -/
def State.raiseCounts (s : State) (c : Scan) : State :=
  c.raised.foldl
    (fun t n => t.changeOrder n (fun o => { o with passOver := max o.passOver (min s.settings.passLimit (o.passOver + 1)) })) s

/-! ## Binding (R104, R105) -/

/-- What a formation came to. -/
inductive Formation where
  | noLevel | nothing | refused
  | bound (number members : Nat)
  deriving DecidableEq, Repr

/-- R104: the reserve a batch of `n` members asks for. -/
def reserveFor (n : Nat) : Nat := 16 * n + 36

/-- The number of a chamber's batch. -/
def State.batchNumber (s : State) (k : Chamber) : Option Nat := (s.batch k).map (·.number)

/-- R105: the next batch number, the other chamber's skipped. -/
def State.nextBatchNumber (s : State) (k : Chamber) : Nat :=
  freeNumber (s.batchNumber k.other).toList 2 s.book.nextBatch

/-- R105: the batch record made at the binding. -/
def State.newBatch (s : State) (k : Chamber) (d : Direction) (c : Scan) : Batch where
  number := s.nextBatchNumber k
  direction := d
  state := .bound
  members := c.members
  rows := c.rows
  tariff := s.active
  night := none
  fill := none
  empty := none
  reserve := reserveFor c.members.length
  sideClear := s.settings.sideClear

/-- R105: a batch bound to chamber k. -/
def State.bindBatch (s : State) (k : Chamber) (d : Direction) (c : Scan) : State :=
  let b := s.newBatch k d c
  let t := s.setBatch k (some b)
  let t := c.members.foldl (fun u m => u.changeOrder m.order (fun o => { o with state := .bound b.number })) t
  let t := { t with book.nextBatch := succNumber b.number, book.deferred := t.book.deferred.set k false }
  (t.raiseAll .batchBound).push (.rest k)

/-- R104: a scan that took members asks for its reserve, and binds or is discarded. A chamber that is available has its
binding deferred at the refusal. -/
def State.bindScan (s : State) (k : Chamber) (d : Direction) (c : Scan) : State × Formation :=
  match (s.raiseCounts c).askReserve (reserveFor c.members.length) with
  | some t => (t.bindBatch k d c, .bound (t.nextBatchNumber k) c.members.length)
  | none =>
    let t := s.raiseAll .journalPressure
    (if s.available k then { t with book.deferred := t.book.deferred.set k true } else t, .refused)

/-- R99: the oldest WAITING order of a list is at least TURN_WAIT old. -/
def State.oldEnough (s : State) (l : List Order) : Bool :=
  match (l.filter (fun o => decide (o.state = .waiting))).argmin (·.sequence) with
  | some o => decide (seconds s.settings.turnWait ≤ s.now - o.entered)
  | none => false

/-- R100: one list scanned from an empty batch. -/
def State.scanList (s : State) (k : Chamber) (depth : Int) (d : Direction) : Scan :=
  s.scan k depth (s.book.lists.get d) {}

/-- R114: a formation from one direction's list only. -/
def State.formFrom (s : State) (k : Chamber) (d : Direction) : State × Formation :=
  match s.depth with
  | none => (s, .noLevel)
  | some x =>
    let c := s.scanList k x d
    if c.members.isEmpty then (s, .nothing) else s.bindScan k d c

/-- The direction whose entry end is this one. -/
def enteringAt : Side → Direction
  | .lower => .up
  | .upper => .down

/-- R99: the formation of an available chamber: the list of its own end, then the other one when its oldest WAITING order
is old enough. -/
def State.form (s : State) (k : Chamber) : State :=
  if s.available k then
    match s.depth, (s.chamber k).state.rest with
    | some x, some (e, _) =>
      let d := enteringAt e
      if !(s.scanList k x d).members.isEmpty then (s.bindScan k d (s.scanList k x d)).1
      else if s.oldEnough (s.book.lists.get d.other) && !(s.scanList k x d.other).members.isEmpty then
        (s.bindScan k d.other (s.scanList k x d.other)).1
      else s
    | _, _ => s
  else s

/-! ## Members removed (R97, R108) -/

/-- R97, R101: the width used of a row over the beams of its vessels. -/
def rowWidth (side : Nat) (beams : List Nat) : Nat := beams.sum + side * (beams.length - 1)

/-- The beams of the members of row `n`. -/
def beamsOf (ms : List Member) (n : Nat) : List Nat := (ms.filter (fun m => decide (m.row = n))).map (·.beam)

/-- R97: a member leaves a batch and its row; a row left empty goes, and the rows after it are numbered again. -/
def Batch.without (b : Batch) (n : Nat) : Batch :=
  match b.members.find? (fun m => decide (m.order = n)) with
  | none => b
  | some x =>
    let ms := b.members.filter (fun m => decide (m.order ≠ n))
    if (beamsOf ms x.row).isEmpty then
      { b with
        members := ms.map (fun m => if x.row < m.row then { m with row := m.row - 1 } else m)
        rows := b.rows.eraseIdx (x.row - 1) }
    else
      { b with
        members := ms
        rows := b.rows.modify (x.row - 1) (fun r => { r with width := rowWidth b.sideClear (beamsOf ms x.row) }) }

/-- R97, R108: the words of a chamber's reserve that an order gives back on leaving its batch: 16 for a member. -/
def State.memberWords (s : State) (k : Chamber) (n : Nat) : Nat :=
  match s.batch k with
  | some b => if b.members.any (fun m => decide (m.order = n)) then 16 else 0
  | none => 0

/-- R97, R108: a member leaves the batch of chamber k. -/
def State.leaveBatch (s : State) (k : Chamber) (n : Nat) : State :=
  match s.batch k with
  | some b => s.setBatch k (some (b.without n))
  | none => s

/-! ## A batch leaves its chamber (R47, R49, R110, R111, R113) -/

/-- The batch leaves its chamber: the rest of its reserve goes back, and the entry and leave timers stop with their flags. A
deferred chamber that the freed words call forms before the chamber that lost the batch. DESIGN CHOICE (log entry 52). -/
def State.removeBatch (s : State) (k : Chamber) : State :=
  let c := s.chamber k
  ((s.setBatch k none).setChamber k
    { c with entry := none, entryOverdue := false, leave := none, clearOut := false, leaveOverdue := false }).noteFreed s

/-- R111: a batch is abandoned; R113 unbinds with the same two steps. The chamber looks at its table again (R48, R56): a pending
order is dropped in a rest state, and kept in an opening state. DESIGN CHOICE (log entry 49). -/
def State.abandonBatch (s : State) (k : Chamber) : State := ((s.reapportion k true).removeBatch k).push (.rest k)

/-- R113: a member's order returned to its list, with its ORDER frame RETURNED. -/
def State.returnMember (s : State) (st : Station) (n : Nat) : State :=
  match s.book.find n with
  | some o => (s.returnOrder o).orderFrame (some o.number) o.slot .returned st
  | none => s

/-- A returned order stands WAITING. -/
def State.anyWaiting (s : State) (ns : List Nat) : Bool :=
  ns.any (fun n => match s.book.find n with | some o => decide (o.state = .waiting) | none => false)

/-- R113: the batch of a chamber unbound at SERVICE OFF. -/
def State.unbind (s : State) (k : Chamber) (st : Station) : State :=
  match s.batch k with
  | none => s
  | some b =>
    let ns := b.members.map (·.order)
    let t := ((ns.foldl (fun u n => u.returnMember st n) s).reapportion k true).removeBatch k
    if t.anyWaiting ns then t.pushAvailable else t

end Sys2Proof.Machine
end

