-- ==== Sys2Proof/Machine/Phases.lean ====
section
/-! DEFINITION. Fills and empties, and the cross arbiter: water records, phases, offers, wishes, the cross phase and its end
(R43 to R46, R65 to R72). -/

namespace Sys2Proof.Machine

/-! ## Kinds -/

/-- The state of a chamber in the phase proper of a kind. -/
def WaterKind.phase : WaterKind → ChamberState
  | .fill => .fill
  | .empty => .empty

/-- The state of a chamber whose offer waits. -/
def WaterKind.wait : WaterKind → ChamberState
  | .fill => .fillWait
  | .empty => .emptyWait

/-- The state of a chamber in a cross phase. -/
def WaterKind.cross : WaterKind → ChamberState
  | .fill => .fillCross
  | .empty => .emptyCross

/-- The rest state a fill or empty ends in. -/
def WaterKind.ends : WaterKind → ChamberState
  | .fill => .highShut
  | .empty => .lowShut

/-- The end whose sluice and pound a fill or empty uses: the upper one for a fill. -/
def WaterKind.side : WaterKind → Side
  | .fill => .upper
  | .empty => .lower

/-- The opposite kind. -/
def WaterKind.other : WaterKind → WaterKind
  | .fill => .empty
  | .empty => .fill

/-! ## The sequencer's fields -/

/-- A chamber's state changed, its pending order dropped (R42). -/
def State.setChamberState (s : State) (k : Chamber) (x : ChamberState) : State :=
  s.setChamber k { s.chamber k with state := x, pendingOrder := none }

/-- R44: a water record opened for chamber k. -/
def State.openWater (s : State) (k : Chamber) (kind : WaterKind) : State :=
  s.setChamber k { s.chamber k with water := some ⟨kind, s.batchNumber k, s.level k.body, false, none⟩ }

/-! ## The phase proper (R45, R46) -/

/-- R46: a phase timer started now, both its expiries fixed by the FILL_LIMIT in force. -/
def State.newPhase (s : State) : PhaseTimer := ⟨s.now, seconds s.settings.fillLimit⟩

/-- R45, R46: chamber k enters FILL or EMPTY, and its phase timer starts with "slow raised" clear. -/
def State.beginPhase (s : State) (k : Chamber) (kind : WaterKind) : State :=
  s.setChamber k { s.chamber k with state := kind.phase, pendingOrder := none, phase := some s.newPhase, slowRaised := false }

/-- R45: the sluice of an ended fill or empty is SHUT: the record closes and the chamber comes to rest. -/
def State.phaseDone (s : State) (k : Chamber) (kind : WaterKind) : State :=
  let c := s.chamber k
  if decide (c.state = kind.phase) && c.phase.isNone && s.sluiceShut (.chamber k kind.side) then
    ((s.closeWater k true).setChamberState k kind.ends).push (.rest k)
  else s

/-- R45: a fill or empty ends: its phase timer stops, its sluice is ordered to 0, and it waits for it to be SHUT. On a sluice that
already is, the order completes at the moment it is asked for (R18, R23), and the record closes then. Where the other chamber's halt
or service exit brings it about (R66), that moment is its place in that list of steps, and the step of R41 follows the list.
DESIGN CHOICE (log entry 62). -/
def State.endPhase (s : State) (k : Chamber) (kind : WaterKind) : State :=
  ((s.setChamber k { s.chamber k with phase := none }).shutSluice (.chamber k kind.side)).phaseDone k kind

/-- R45: on entering FILL or EMPTY the chamber ends at once on an EQUALISED pair, and else starts a ramp of its own. -/
def State.enterPhase (s : State) (k : Chamber) (kind : WaterKind) : State :=
  let t := s.beginPhase k kind
  if t.pairEqualised (.across kind.side k) then t.endPhase k kind
  else t.startRamp (.chamber k kind.side) (.sequencer k) 8

/-- R45: the chamber's water phase proper under way. -/
def Sequencer.running (c : Sequencer) (kind : WaterKind) : Bool := decide (c.state = kind.phase) && c.phase.isSome

/-! ## Wishes (R66) -/

/-- A chamber's wish. -/
def State.wish (s : State) (k : Chamber) : Option Wish := s.arbiter.wishes.get k

/-- Replace a chamber's wish. -/
def State.setWish (s : State) (k : Chamber) (w : Option Wish) : State :=
  { s with arbiter.wishes := s.arbiter.wishes.set k w }

/-- R66, R43: chamber k's wish is withdrawn and its chamber proceeds alone. -/
def State.proceedAlone (s : State) (k : Chamber) : State :=
  match s.wish k with
  | some w => (s.setWish k none).enterPhase k w.kind
  | none => s

/-! ## The gain test (R67) -/

/-- R67: the projected equal level of two chambers with areas `af`, `ae` and levels `hf`, `he`. -/
def projectedLevel (af hf ae he : Nat) : Nat := (af * hf + ae * he + (af + ae) / 2) / (af + ae)

/-- R67: the test of the filling chamber f against the other one, and the two levels tested. -/
def State.gainTest (s : State) (f : Chamber) : Option (Nat × Nat) :=
  match s.usableLevel f.body, s.usableLevel f.other.body with
  | some hf, some he =>
    let p := projectedLevel (s.settings.chamber.get f).wetArea hf (s.settings.chamber.get f.other).wetArea he
    if hf + s.settings.crossMinGain ≤ p then some (hf, he) else none
  | _, _ => none

/-! ## The cross phase (R68, R70 to R72) -/

/-- A value for the filling chamber and one for the other. -/
def perChamber {α : Type} (f : Chamber) (x y : α) : PerChamber α :=
  match f with
  | .c1 => ⟨x, y⟩
  | .c2 => ⟨y, x⟩

/-- R70: the cross phase ends: end levels and cause are taken, its timer stops, the cross sluice is ordered to 0 and the
arbiter is ENDING, until that order completes (R71). -/
def State.endCross (s : State) (cause : CrossEnd) : State :=
  let r := s.arbiter.record.map (fun x => { x with stop := ⟨s.level .c1, s.level .c2⟩, cause := some cause })
  let t := { s with arbiter.record := r, arbiter.timer := none }.shutSluice .cross
  { t with arbiter.owner := .ending }

/-- R44: a water record takes the cross record's two levels for its chamber. -/
def WaterRec.takeCross (w : WaterRec) (r : CrossRec) (k : Chamber) : WaterRec :=
  { w with start := r.start.get k, crossed := true, crossEnd := r.stop.get k }

/-- R71, R72: the cross record of the ended phase delivered to chamber k, once. -/
def State.deliver (s : State) (k : Chamber) : State :=
  match s.arbiter.record with
  | some r =>
    if r.delivered.get k then s
    else
      let c := s.chamber k
      { s.setChamber k { c with water := c.water.map (fun w => w.takeCross r k) } with
        arbiter.record := some { r with delivered := r.delivered.set k true } }
  | none => s

/-- R71: the end of the phase handed to chamber k, which leaves its cross state for the phase proper. -/
def State.deliverEnd (s : State) (k : Chamber) (kind : WaterKind) : State :=
  match s.arbiter.record with
  | some r =>
    if r.delivered.get k then s
    else
      let t := s.deliver k
      if (t.chamber k).state = kind.cross then t.enterPhase k kind else t
  | none => s

/-- R71: while ENDING, the cross sluice is SHUT: the end is delivered, the phase cleared and the arbiter IDLE. -/
def State.crossDone (s : State) : State :=
  if decide (s.arbiter.owner = .ending) && s.sluiceShut .cross then
    let t :=
      match s.arbiter.record with
      | some r => (s.deliverEnd r.filling .fill).deliverEnd r.filling.other .empty
      | none => s
    { t with arbiter.owner := .idle, arbiter.record := none }
  else s

/-- R70, R71: the cross phase ends, and where the cross sluice is already SHUT its order to 0 completes at once (R18, R23): both
chambers leave the phase at that moment. -/
def State.closeCross (s : State) (cause : CrossEnd) : State := (s.endCross cause).crossDone

/-- R68: a pairing engages the cross phase. -/
def State.engage (s : State) (f : Chamber) (hf he : Nat) : State :=
  let rec0 : CrossRec :=
    { filling := f, start := perChamber f (some hf) (some he), stop := ⟨none, none⟩, cause := none, delivered := ⟨false, false⟩ }
  let t := { s with arbiter.wishes := ⟨none, none⟩, arbiter.record := some rec0 }
  let t := (t.setChamberState f .fillCross).setChamberState f.other .emptyCross
  let t :=
    { t with arbiter.owner := .engaged, arbiter.timer := some (t.now + seconds t.settings.crossLimit) }
  if t.pairEqualised .cross then t.closeCross .equalised else t.startRamp .cross .arbiter 8

/-- R65: the arbiter cannot take the offer of chamber k as a wish. -/
def State.declines (s : State) (k : Chamber) : Bool :=
  !s.crossPresent || decide ((s.chamber k.other).state = .outOfService) || decide ((s.chamber k.other).state = .halted)
    || decide (s.arbiter.owner ≠ .idle) || !s.sluiceShut .cross || !s.usable k.body

/-- R65, R42: chamber k offers a fill or an empty, and takes the arbiter's answer. -/
def State.offer (s : State) (k : Chamber) (kind : WaterKind) : State :=
  if s.declines k then s.enterPhase k kind
  else if (s.wish k.other).map (·.kind) = some kind.other then
    let f := match kind with | .fill => k | .empty => k.other
    match s.gainTest f with
    | some (hf, he) => s.engage f hf he
    | none => (s.proceedAlone k.other).enterPhase k kind
  else if s.settings.crossWait = 0 then s.enterPhase k kind
  else (s.setWish k (some ⟨kind, s.now + seconds s.settings.crossWait⟩)).setChamberState k kind.wait

/-- R72: the cross phase ends by a halt or a service exit of chamber k, which takes the record at once; where the cross sluice is
already SHUT the other chamber leaves the phase at that moment (R71), at this place in the list of steps (log entry 62). -/
def State.quitCross (s : State) (k : Chamber) (cause : CrossEnd) : State := ((s.endCross cause).deliver k).crossDone

/-- R50 step 4, R39 step 2, R66, R72: chamber k leaves the arbiter: its wish is withdrawn, the other chamber's waiting wish
proceeds alone (log entry 62), and a cross phase it is in ends; one that is ENDING delivers its record to it. -/
def State.leaveCross (s : State) (k : Chamber) (cause : CrossEnd) : State :=
  let t := (s.setWish k none).proceedAlone k.other
  if t.arbiter.owner = .engaged then t.quitCross k cause else t.deliver k

end Sys2Proof.Machine
end

