-- ==== Sys2Proof/Machine/Signals.lean ====
section
/-! DEFINITION. The signal unit: called and shown aspects, the lamps driven, the flash generators and lamp proving
(R117 to R126). -/

namespace Sys2Proof

/-- EU and EL are the entry signals of the approaches. -/
def Signal.approach : Signal → Bool
  | .eu => true
  | .el => true
  | _ => false

/-- R117: the entry signal of a direction. -/
def Direction.entrySignal : Direction → Signal
  | .up => .el
  | .down => .eu

/-- R117: the exit signal of a direction. -/
def Direction.exitSignal : Direction → Signal
  | .up => .xu
  | .down => .xl

end Sys2Proof

namespace Sys2Proof.Machine

/-! ## Aspects -/

/-- R118: the called aspect for a batch in service. -/
def calledForBatch (b : Batch) (overdue clearOut : Bool) (g : Signal) : Aspect :=
  match b.state with
  | .bound => if g = b.direction.entrySignal then .prepare else .stop
  | .entering => if g = b.direction.entrySignal && !overdue then .go else .stop
  | .secured => .stop
  | .leaving => if g = b.direction.exitSignal then (if clearOut then .clearOut else .go) else .stop

/-- R118: the called aspect of a signal; DARK at a chamber not present (R117). -/
def State.called (s : State) (k : Chamber) (g : Signal) : Aspect :=
  if s.chamberPresent k then
    let c := s.chamber k
    match c.state with
    | .outOfService => if g.approach then .closed else .stop
    | .halted => .caution
    | _ =>
      match s.batch k with
      | some b => calledForBatch b c.entryOverdue c.clearOut g
      | none => .stop
  else .dark

/-- R119, R120: the shown aspect of a signal, from its called aspect, the gate at its end and its lamps. -/
def shownAspect (called : Aspect) (g : Signal) (gate : GateState) (l : PerLamp Lamp) : Aspect :=
  match called with
  | .go =>
    if g.approach then
      if gate ≠ .opened then .stop
      else if !(l.redA.proven || l.redB.proven) then .dark
      else if l.green.proven then .go else .stop
    else if l.green.proven then .go else .stop
  | .clearOut => if l.green.proven then .clearOut else .stop
  | a => a

/-! ## Driving the lamps -/

/-- R121: RED-A stands for the signal's red unless it alone has failed. -/
def showRedA (a b : Bool) : Bool := a || !b

/-- R121: RED-B takes RED-A's place when RED-A has failed and RED-B works. -/
def showRedB (a b : Bool) : Bool := !a && b

/-- R121: the output of a lamp under a shown aspect, `a`, `b` and `g` being whether RED-A, RED-B and GREEN work. -/
def lampOutput (shown : Aspect) (a b g : Bool) : LampName → LampOutput
  | .redA =>
    match shown with
    | .stop => if showRedA a b then .lit else .dark
    | .closed => if showRedA a b then .lit else .dark
    | .prepare => if showRedA a b then .lit else .dark
    | .caution => if showRedA a b then .flashing .a else .dark
    | _ => .dark
  | .redB =>
    match shown with
    | .stop => if showRedB a b then .lit else .dark
    | .closed => if b || !a then .lit else .dark
    | .prepare => if showRedB a b then .lit else .dark
    | .caution => if showRedB a b then .flashing .a else .dark
    | _ => .dark
  | .green =>
    match shown with
    | .prepare => if g then .lit else .dark
    | .go => if g then .lit else .dark
    | .clearOut => if g then .flashing .b else .dark
    | _ => .dark

/-! ## Proving -/

/-- A flash generator. -/
def State.generator (s : State) : Generator → FlashGen
  | .a => s.signals.genA
  | .b => s.signals.genB

/-- Replace a flash generator. -/
def State.setGenerator (s : State) (g : Generator) (x : FlashGen) : State :=
  match g with
  | .a => { s with signals.genA := x }
  | .b => { s with signals.genB := x }

/-- A lamp output is lit now: steadily, or its generator is ON (R122). -/
def State.lights (s : State) : LampOutput → Bool
  | .dark => false
  | .lit => true
  | .flashing g => (s.generator g).on

/-- A lamp's no-current time at elapsed time `now`, 0 to 200 ms. -/
def Lamp.noCurrent (l : Lamp) (now : Nat) : Nat :=
  min Config.lampFailMs (l.count + (match l.since with | some t => now - t | none => 0))

/-- A lamp keeps a no-current time while it is PROVEN, and in a lamp test until it has reached 200 ms there (R123, R125). -/
def Lamp.counts (l : Lamp) (tested : Bool) : Bool := l.proven || (tested && !l.testFailed)

/-- R123: the no-current time carried over a change at elapsed time `now`, `lit` saying whether the lamp is lit after it:
0 when dark, when current flows in a lit lamp and when no time is kept; held through an OFF phase; counted while lit. -/
def Lamp.recount (l : Lamp) (now : Nat) (lit tested : Bool) : Lamp :=
  if l.output = .dark || !l.counts tested || (lit && l.current) then { l with count := 0, since := none }
  else { l with count := l.noCurrent now, since := if lit then some now else none }

/-- A lamp given a new output. -/
def State.driveLamp (s : State) (k : Chamber) (l : Lamp) (out : LampOutput) : Lamp :=
  { l with output := out }.recount s.now (s.lights out) (s.signals.tests.get k).isSome

/-- R121, R125: the outputs of a signal's lamps; in a lamp test all are steadily lit. -/
def State.outputs (s : State) (k : Chamber) (shown : Aspect) (l : PerLamp Lamp) (n : LampName) : LampOutput :=
  if (s.signals.tests.get k).isSome then .lit else lampOutput shown l.redA.proven l.redB.proven l.green.proven n

/-- The lamps of a signal driven for a shown aspect. -/
def State.driveSignal (s : State) (k : Chamber) (shown : Aspect) (l : PerLamp Lamp) : PerLamp Lamp :=
  ⟨s.driveLamp k l.redA (s.outputs k shown l .redA), s.driveLamp k l.redB (s.outputs k shown l .redB),
    s.driveLamp k l.green (s.outputs k shown l .green)⟩

/-- R118 to R120: both aspects of a signal. -/
def State.aspectsOf (s : State) (k : Chamber) (g : Signal) : SignalAspects :=
  let a := s.called k g
  ⟨a, shownAspect a g (s.gate k g.side).state ((s.signals.lamps.get k).get g)⟩

/-- The aspects of a chamber's four signals. -/
def State.newAspects (s : State) (k : Chamber) : PerSignal SignalAspects :=
  ⟨s.aspectsOf k .eu, s.aspectsOf k .el, s.aspectsOf k .xu, s.aspectsOf k .xl⟩

/-- A chamber's lamps driven for its aspects. -/
def State.newLamps (s : State) (k : Chamber) : PerSignal (PerLamp Lamp) :=
  let l := s.signals.lamps.get k
  ⟨s.driveSignal k (s.aspectsOf k .eu).shown l.eu, s.driveSignal k (s.aspectsOf k .el).shown l.el,
    s.driveSignal k (s.aspectsOf k .xu).shown l.xu, s.driveSignal k (s.aspectsOf k .xl).shown l.xl⟩

/-- A chamber's aspects derived again and its lamps re-driven (R118 to R121). -/
def State.deriveChamber (s : State) (k : Chamber) : State :=
  { s with
    signals.aspects := s.signals.aspects.set k (s.newAspects k)
    signals.lamps := s.signals.lamps.set k (s.newLamps k) }

/-- Both chambers' aspects derived again. -/
def State.derive (s : State) : State := (s.deriveChamber .c1).deriveChamber .c2

/-! ## Flash generators (R122) -/

/-- R122: the period of a rate in tenths of a hertz. -/
def flashPeriod (rate : Nat) : Nat :=
  if rate ≤ 5 then 2000 else if rate ≤ 10 then 1000 else if rate ≤ 15 then 667 else 500

/-- R122: a generator at the start of a period that begins at elapsed time `t`. -/
def FlashGen.start (rate duty t : Nat) : FlashGen :=
  let onMs := (flashPeriod rate * duty + 50) / 100
  ⟨true, t + onMs, onMs, flashPeriod rate - onMs⟩

/-- R122: a generator's phase runs out; a period starts with the rate and duty then in force. -/
def FlashGen.change (g : FlashGen) (rate duty : Nat) : FlashGen :=
  if g.on then { g with on := false, phaseEnd := g.phaseEnd + g.offMs } else FlashGen.start rate duty g.phaseEnd

/-- The rate and duty of a generator. -/
def State.flashSettings (s : State) : Generator → Nat × Nat
  | .a => (s.settings.flashRateA, s.settings.flashDutyA)
  | .b => (s.settings.flashRateB, s.settings.flashDutyB)

end Sys2Proof.Machine
end

