-- ==== Sys2Proof/Machine/Chambers.lean ====
section
/-! DEFINITION. The chamber sequencers: the rest-state table, gate completions, halts and fault halts, and the faults of the
cross sluice (R41, R42, R47, R49 to R52, R73, R74). -/

namespace Sys2Proof.Machine

/-! ## Batch changes of the rest-state table (R41, R47, R49, R106) -/

/-- R41, R47: the batch of chamber k becomes ENTERING, and the entry timer starts. -/
def State.becomeEntering (s : State) (k : Chamber) (b : Batch) : State :=
  (s.setBatch k (some { b with state := .entering })).setChamber k
    { s.chamber k with entry := some (s.now + seconds s.settings.entryLimit), entryOverdue := false, pendingOrder := none }

/-- R49: the leave timer started now. -/
def State.newLeave (s : State) : LeaveTimer :=
  ⟨s.now + seconds (s.settings.leaveLimit - s.settings.clearOutLead), s.now + seconds s.settings.leaveLimit⟩

/-- R41, R49: the batch of chamber k becomes LEAVING, and the leave timer starts; the flag clear-out is set at the start
when CLEAR_OUT_LEAD is not below LEAVE_LIMIT. -/
def State.becomeLeaving (s : State) (k : Chamber) (b : Batch) : State :=
  (s.setBatch k (some { b with state := .leaving })).setChamber k
    { s.chamber k with
      leave := some s.newLeave
      clearOut := decide (s.settings.leaveLimit ≤ s.settings.clearOutLead)
      leaveOverdue := false
      pendingOrder := none }

/-! ## Orders of the rest-state table (R42) -/

/-- The closing state of an end's gate. -/
def closingState : Side → ChamberState
  | .upper => .highClosing
  | .lower => .lowClosing

/-- The opening state of an end's gate. -/
def openingState : Side → ChamberState
  | .upper => .highOpening
  | .lower => .lowOpening

/-- The rest state of an end with its gate open. -/
def openState : Side → ChamberState
  | .upper => .highOpen
  | .lower => .lowOpen

/-- The rest state of an end with both gates closed. -/
def shutState : Side → ChamberState
  | .upper => .highShut
  | .lower => .lowShut

/-- The fill or empty that starts from the shut rest state of an end. -/
def phaseFrom : Side → WaterKind
  | .lower => .fill
  | .upper => .empty

/-- R18, R42: an order that completed without sending is handed back as a completion at that moment. -/
def State.noteComplete (s : State) (k : Chamber) (e : Side) (r : OrderResult) : State :=
  match r with
  | .complete => s.push (.gateDone k e)
  | _ => s

/-- R42: the sequencer closes its gate; a CLOSE always passes. -/
def State.sequenceClose (s : State) (k : Chamber) (e : Side) : State :=
  let p := s.closeGate k e
  (p.1.setChamberState k (closingState e)).noteComplete k e p.2

/-- R42: the sequencer opens its gate, or keeps the refused order as its pending order. -/
def State.sequenceOpen (s : State) (k : Chamber) (e : Side) : State :=
  match s.openGate k e with
  | (t, .refused c) => t.setChamber k { t.chamber k with pendingOrder := some (e, c) }
  | (t, r) => (t.setChamberState k (openingState e)).noteComplete k e r

/-- R42: the sequencer starts a fill or an empty: the water record opens and the arbiter is offered it. -/
def State.sequencePhase (s : State) (k : Chamber) (kind : WaterKind) : State := (s.openWater k kind).offer k kind

/-- A chamber's pending order is dropped. -/
def State.dropPending (s : State) (k : Chamber) : State := s.setChamber k { s.chamber k with pendingOrder := none }

/-- R41: what the table gives for a rest state and a batch. -/
inductive RestStep where
  | nothing | entering | leaving | close | opn | phase
  deriving DecidableEq, Repr

/-- R41: the table, its rows told apart by the end, whether its gate stands open, and the batch. -/
def restTable (e : Side) (isOpen : Bool) (b : Batch) : RestStep :=
  match b.state, isOpen with
  | .bound, true => if b.direction.entryEnd = e then .entering else .close
  | .bound, false => if b.direction.entryEnd = e then .opn else .phase
  | .secured, true => if b.direction.exitEnd = e then .leaving else .close
  | .secured, false => if b.direction.exitEnd = e then .opn else .phase
  | .entering, _ => .nothing
  | .leaving, _ => .nothing

/-- R41: the step of the table carried out: a batch change in both modes, an order in AUTOMATIC only. -/
def State.takeRest (s : State) (k : Chamber) (e : Side) (b : Batch) (x : RestStep) : State :=
  match x with
  | .entering => s.becomeEntering k b
  | .leaving => s.becomeLeaving k b
  | .nothing => s.dropPending k
  | .close => if (s.chamber k).mode = .automatic then s.sequenceClose k e else s.dropPending k
  | .opn => if (s.chamber k).mode = .automatic then s.sequenceOpen k e else s.dropPending k
  | .phase => if (s.chamber k).mode = .automatic then s.sequencePhase k (phaseFrom e) else s.dropPending k

/-- R41: chamber k, if in a rest state, takes its step; without a batch it becomes available (R98). -/
def State.restStep (s : State) (k : Chamber) : State :=
  match (s.chamber k).state.rest with
  | none => s
  | some (e, isOpen) =>
    match s.batch k with
    | some b => s.takeRest k e b (restTable e isOpen b)
    | none => if s.available k then (s.dropPending k).push (.form k) else s.dropPending k

/-- R42: a gate completion handed to chamber k moves it from its closing or opening state to the next rest state. -/
def State.gateDone (s : State) (k : Chamber) (e : Side) : State :=
  if decide ((s.chamber k).state = closingState e) && s.gateClosed k e then
    (s.setChamberState k (shutState e)).push (.rest k)
  else if decide ((s.chamber k).state = openingState e) && decide ((s.gate k e).state = .opened) then
    (s.setChamberState k (openState e)).push (.rest k)
  else s

/-! ## Halts (R50, R51) -/

/-- A chamber's gate that is OPENING or CLOSING is ordered STOP. -/
def State.stopMoving (s : State) (k : Chamber) (e : Side) : State :=
  if (s.gate k e).state.moving then s.stopGate k e else s

/-- R50, R39: a chamber's two sluices are ordered to 0, the upper one first. DEDUCED (log entry 17). -/
def State.shutBoth (s : State) (k : Chamber) : State := (s.shutSluice (.chamber k .upper)).shutSluice (.chamber k .lower)

/-- R50: chamber k is halted. `spare` is the gate the surge guard has ordered to close, which goes on closing; `cause` is
the end cause of a cross phase this ends. -/
def State.haltChamber (s : State) (k : Chamber) (why : HaltCause) (spare : Option Side) (cause : CrossEnd) : State :=
  let t := s.setChamber k { s.chamber k with interrupted := some (s.chamber k).state, haltCause := some why }
  let t := t.shutBoth k
  let t := if spare = some .upper then t else t.stopMoving k .upper
  let t := if spare = some .lower then t else t.stopMoving k .lower
  let t := t.leaveCross k cause
  t.setChamber k { t.chamber k with pendingOrder := none, phase := none, state := .halted }

/-- A chamber is in service and not HALTED. -/
def ChamberState.live (c : ChamberState) : Bool := c.inService && decide (c ≠ .halted)

/-- R51: a hard fault of chamber k halts it, unless it is OUT_OF_SERVICE or HALTED. -/
def State.faultHalt (s : State) (k : Chamber) (kind : FaultKind) (spare : Option Side) : State :=
  if (s.chamber k).state.live then s.haltChamber k (.fault kind) spare (.halt k) else s

/-- R73: one chamber halted by a fault of the cross sluice. -/
def State.crossHalt (s : State) (k : Chamber) (kind : FaultKind) : State :=
  if (s.chamber k).state.live then s.haltChamber k (.fault kind) none (.fault kind) else s

/-- R73: a fault of the cross sluice handed to the arbiter: each live chamber is halted, chamber 1 first (DESIGN CHOICE, log
entry 51); unless that ended a phase, the sluice is ordered to 0 and the arbiter is ENDING. -/
def State.crossFault (s : State) (kind : FaultKind) : State :=
  let t := (s.crossHalt .c1 kind).crossHalt .c2 kind
  if s.arbiter.owner = .engaged then t
  else { t.shutSluice .cross with arbiter.owner := .ending }.push .crossShut

/-- R51, R73: a sluice's fault handed to its owner. -/
def State.sluiceFault (s : State) (q : Sluice) (kind : FaultKind) : State :=
  match q with
  | .chamber k _ => s.faultHalt k kind none
  | .cross => s.crossFault kind

/-- R74: once the STATUS query has been answered, a cross sluice that is not SHUT is ordered to 0. -/
def State.crossStartup (s : State) : State :=
  if s.crossPresent && !s.sluiceShut .cross then
    { s.shutSluice .cross with arbiter.owner := .ending }.push .crossShut
  else s

/-! ## Retries (R30, R33, R42) -/

/-- R30: chamber k's pending order is asked again at an event that could change the judgement: by its rest state's step, or by the
opening state a RESUME restored, there even when its batch has been abandoned since. DESIGN CHOICE (log entry 49). -/
def State.retryPending (s : State) (h : Handed) (k : Chamber) : State :=
  match (s.chamber k).pendingOrder with
  | some (e, c) =>
    if c.reads (.gate k e) h then
      if (s.chamber k).state = openingState e then s.sequenceOpen k e else s.restStep k
    else s
  | none => s

/-- R30: the orders kept after a refusal that this event could let pass are asked again: refused ramp steps before pending gate
orders, chamber 1's before chamber 2's. DESIGN CHOICE (log entry 67). -/
def State.retries (s : State) (h : Handed) : State := ((s.rampRetries h).retryPending h .c1).retryPending h .c2

/-! ## Pair changes (R12, R45, R70) -/

/-- R12: what the neighbour of a pair that has become EQUALISED does: it ends its fill, its empty or its cross phase. -/
def State.equalised (s : State) (p : Pair) : State :=
  match p with
  | .across .upper k => if (s.chamber k).running .fill then s.endPhase k .fill else s
  | .across .lower k => if (s.chamber k).running .empty then s.endPhase k .empty else s
  | .cross => if s.crossPresent && decide (s.arbiter.owner = .engaged) then s.closeCross .equalised else s

/-! ## The cascade -/

/-- One consequence carried out. -/
def State.runTask (s : State) : Task → State
  | .rest k => s.restStep k
  | .gateDone k e => s.gateDone k e
  | .phaseDone k => (s.phaseDone k .fill).phaseDone k .empty
  | .crossShut => s.crossDone
  | .form k => s.form k

/-- The consequences in the list carried out, in order, each followed by the signal unit's derivation (R118): at most `fuel`
of them, so that whatever is left stays in the list. -/
def settle : Nat → State → State
  | 0, s => s
  | fuel + 1, s =>
    match s.agenda with
    | [] => s
    | t :: ts => settle fuel ({ s with agenda := ts }.runTask t).derive

/-- How many consequences are carried out at a time: more than any event of the part gives (log entry 21). -/
abbrev cascadeFuel : Nat := 64

/-- R12: a pair that has become EQUALISED is handed to its neighbour at once: what completes by it without sending completes at that
moment (R18), the step of R41 with it. -/
def State.tellEqualised (s : State) (p : Pair) : State := settle cascadeFuel (s.equalised p)

/-- R104: a chamber that has stopped being available loses its deferred mark. -/
def State.clearDeferred (s : State) : State :=
  { s with
    book.deferred :=
      ⟨s.book.deferred.c1 && s.available .c1, s.book.deferred.c2 && s.available .c2⟩ }

/-- The end of an event: its consequences carried out, the signals derived, and the deferred marks kept true. -/
def State.finish (s : State) : State := (settle cascadeFuel s.derive).derive.clearDeferred

end Sys2Proof.Machine
end

