-- ==== Sys2Proof/Machine/Levels.lean ====
section
/-! DEFINITION. The level monitor: gauge readings, reconciliation, level faults, pairs, the hand-over with its guards, and its
timers (R1, R2, R5 to R13, R34, R35). -/

namespace Sys2Proof

/-- R10: the pairs a body is one of, in the order in which its round end tests them and tells their neighbours: chamber 1's before
chamber 2's, the upper before the lower, the cross pair last. DESIGN CHOICE (log entry 58). -/
def Body.pairs : Body → List Pair
  | .up => [.across .upper .c1, .across .upper .c2]
  | .lp => [.across .lower .c1, .across .lower .c2]
  | .c1 => [.across .upper .c1, .across .lower .c1, .cross]
  | .c2 => [.across .upper .c2, .across .lower .c2, .cross]

/-- The gates with a body on one side (R35), chamber 1's before chamber 2's: where one round end finds both surging, their
surge guards act in this order. DESIGN CHOICE (log entry 47). -/
def Body.surgeGates : Body → List (Chamber × Side) := Body.gates

end Sys2Proof

namespace Sys2Proof.Machine

/-! ## Readings (R1, R5, R6) -/

/-- R1: the status of a complete reply to the poll of gauge number `n`. -/
def replyStatus (n : Nat) (b1 b2 b3 b4 : Byte) : GaugeStatus :=
  let raw := b2.toNat * 256 + b3.toNat
  if (b1.toNat + b2.toNat + b3.toNat + b4.toNat) % 256 ≠ 0 ∨ b1.toNat ≠ n ∨ 40950 < raw then .checkFail
  else if raw = 0 ∨ raw = 40950 then .saturated
  else .ok

/-- R5: a corrected reading under a trim in force. -/
def corrected (trim : Int) (raw : Nat) : Nat := (max 0 (min 40950 ((raw : Int) + trim))).toNat

/-- R5: the trim in force at a gauge: 0 while TRIM_ENABLE is no. -/
def Settings.trimOf (c : Settings) (b : Body) (g : GaugeSide) : Int := if c.trimEnable then (c.trim.get b).get g else 0

/-- R6: a history of at most 2^d readings with a good reading added. -/
def addReading (d : Nat) (h : List Nat) (x : Nat) : List Nat := h.drop (h.length + 1 - 2 ^ d) ++ [x]

/-- R6: the mean of a history, half up, then in cm, half up; absent when it is empty. -/
def gaugeValue (h : List Nat) : Option Nat :=
  if h.isEmpty then none else some (((h.sum + h.length / 2) / h.length + 5) / 10)

/-- R6: a gauge after a reading. -/
def GaugeRec.take (g : GaugeRec) (st : GaugeStatus) (d x : Nat) : GaugeRec :=
  { status := some st, history := if st = .ok then addReading d g.history x else [] }

/-- Replace a gauge's record. -/
def State.setGauge (s : State) (b : Body) (g : GaugeSide) (r : GaugeRec) : State :=
  s.setBody b { s.body b with gauges := (s.body b).gauges.set g r }

/-- R1, R5, R6: a reading taken at a gauge. -/
def State.recordReading (s : State) (b : Body) (g : GaugeSide) (st : GaugeStatus) (raw : Nat) : State :=
  s.setGauge b g (((s.body b).gauges.get g).take st s.settings.avgDepth (corrected (s.settings.trimOf b g) raw))

/-! ## Reconciliation and level faults (R7, R8) -/

/-- R7: the level and level state of a body from the values of the gauges good in the round. -/
def reconcile (band : Nat) (level : Option Nat) (state : LevelState) (a b : Option Nat) : Option Nat × LevelState :=
  match a, b with
  | some x, some y => if distance x y ≤ band then (some ((x + y + 1) / 2), .good) else (level, .uncertain)
  | some x, none => (some x, .single)
  | none, some y => (some y, .single)
  | none, none => if state = .unknown then (level, .unknown) else (level, .lost)

/-- R8: the fault a change into a level state raises. -/
def State.levelFault (s : State) (b : Body) (old : LevelState) (aGood : Bool) : State :=
  if old = (s.body b).state then s
  else
    match (s.body b).state with
    | .uncertain => s.raiseFault .gaugeDisagree (.body b)
    | .single => s.raiseFault .gaugeSingle (.gauge b (if aGood then .b else .a))
    | .lost => s.raiseFault .gaugeLost (.body b)
    | _ => s

/-! ## Pairs (R10 to R12) -/

/-- R10: a pair is kept: the pairs of C2 only with chamber 2. -/
def State.pairKept (s : State) : Pair → Bool
  | .across _ k => s.chamberPresent k
  | .cross => s.loaded.two

/-- A body's newest usable level, whether handed on or not. -/
def BodyRec.newest (r : BodyRec) : Option Nat := if r.state.usable then r.level else none

/-- R10: the pair test's equality: both newest levels usable and within E. -/
def State.pairEqual (s : State) (p : Pair) : Bool :=
  match (s.body p.bodies.1).newest, (s.body p.bodies.2).newest with
  | some x, some y => decide (distance x y ≤ s.settings.eqBand)
  | _, _ => false

/-- R10, R12: one pair tested, and its neighbour told when it becomes EQUALISED, before the hand-over (R9). -/
def State.testPair (s : State) (p : Pair) : State :=
  if s.pairKept p then
    if s.pairEqual p then
      match s.pair p with
      | .notEqual =>
        if s.settings.eqSettle = 0 then (s.setPair p .equalised).tellEqualised p else s.setPair p (.settling s.now)
      | _ => s
    else s.setPair p .notEqual
  else s

/-! ## The hand-over (R9, R34, R35, R44) -/

/-- R44: a water record opened without a level takes its start level from the first round end that gives one. -/
def State.lateStart (s : State) (k : Chamber) : State :=
  let c := s.chamber k
  match c.water with
  | some w =>
    if w.start.isNone && !w.crossed then s.setChamber k { c with water := some { w with start := s.level k.body } } else s
  | none => s

/-- R9: a body's level and level state handed on. -/
def State.handOver (s : State) (b : Body) : State :=
  let t := s.setBody b { s.body b with handedLevel := (s.body b).level, handedState := (s.body b).state }
  match b.chamber with
  | some k => t.lateStart k
  | none => t

/-- R34: a chamber's level, usable or held, is above its top level. -/
def State.overTop (s : State) (k : Chamber) : Bool :=
  match s.level k.body with
  | some h => decide ((s.settings.chamber.get k).topLevel < h)
  | none => false

/-- Replace a chamber's overflow memory. -/
def State.setOverflow (s : State) (k : Chamber) (x : Bool) : State :=
  { s with drive.overflow := s.drive.overflow.set k x }

/-- R34: the overflow guard's order: MOVE(0), sent whatever the sluice's state, which ends its ramp (R33). One sent again to a
sluice already MOVING to 0 takes R23's row of a new target. DEDUCED (log entry 18). -/
def State.forceShut (s : State) (q : Sluice) : State := (s.sendMove q 0).endRamp q

/-- R34: the overflow guard of chamber k at a round end of it. A chamber whose level is absent is not tested. -/
def State.overflowGuard (s : State) (k : Chamber) : State :=
  if s.overTop k then
    if s.drive.overflow.get k then s
    else
      let t := s.forceShut (.chamber k .upper)
      let t := if t.crossPresent then t.forceShut .cross else t
      ((t.raiseFault .overflow (.chamber k)).setOverflow k true).faultHalt k .overflow none
  else if (s.level k.body).isSome then s.setOverflow k false
  else s

/-- R35: the two levels across a gate, usable or held, differ by more than 2 × E. While one of them is absent there is no surge.
DESIGN CHOICE (log entry 78). -/
def State.surging (s : State) (k : Chamber) (e : Side) : Bool :=
  match s.level e.pound, s.level k.body with
  | some x, some y => decide (2 * s.settings.eqBand < distance x y)
  | _, _ => false

/-- R35: the surge guard of a gate at a round end of a body across it. -/
def State.surgeGuard (s : State) (g : Chamber × Side) : State :=
  if decide ((s.gate g.1 g.2).state = .opening) && !(s.gate g.1 g.2).surge && s.surging g.1 g.2 then
    (((s.putGate g.1 g.2 { s.gate g.1 g.2 with surge := true }).closeGate g.1 g.2).1.raiseFault .surge
      (.gate g.1 g.2)).faultHalt g.1 .surge (some g.2)
  else s

/-- R9: the readers act on a body handed on: the ramps, the overflow guard, the surge guards, and last the orders kept after a
refusal (R30). DESIGN CHOICE (log entry 68). Of two ramps that the body lets go on, chamber 1's sends its order first (R31, R33).
DESIGN CHOICE (log entry 67). -/
def State.readers (s : State) (b : Body) : State :=
  let t := allSluices.foldl (fun u q => u.rampLevel b q) s
  let t := match b.chamber with | some k => t.overflowGuard k | none => t
  let t := b.surgeGates.foldl State.surgeGuard t
  t.retries (.level b)

/-! ## Rounds (R2) -/

/-- The gauges' values of a body that count in a round: those of the gauges good in it. -/
def State.goodValue (s : State) (b : Body) (g : GaugeSide) (good : Bool) : Option Nat :=
  if good then gaugeValue ((s.body b).gauges.get g).history else none

/-- R2, R7, R8, R9: the end of a body's round. -/
def State.roundEnd (s : State) (b : Body) (goodA goodB : Bool) : State :=
  let a := s.goodValue b .a goodA
  let v := s.goodValue b .b goodB
  let r := reconcile s.settings.agreeBand (s.body b).level (s.body b).state a v
  let t := s.setBody b { s.body b with level := r.1, state := r.2 }
  let t := t.levelFault b (s.body b).state a.isSome
  let t := b.pairs.foldl State.testPair t
  (t.handOver b).readers b

/-- Replace the outstanding gauge poll. -/
def State.setPoll (s : State) (p : Option Poll) : State := { s with levels.poll := p }

/-- R1, R2: the outstanding poll closes with a reading: the round goes on with gauge B, or ends. -/
def State.closePoll (s : State) (p : Poll) (st : GaugeStatus) (raw : Nat) : State :=
  let t := s.recordReading p.body p.gauge st raw
  match p.gauge with
  | .a =>
    t.setPoll (some ⟨p.body, .b, t.now + Config.answerMs, decide (st = .ok), some ((s.body p.body).gauges.get .a)⟩)
  | .b => ((t.setPoll none).roundEnd p.body p.goodA (decide (st = .ok))).finish

/-- R2: the gauge line is free and takes the head of the round queue. -/
def State.startRound (s : State) : State :=
  match s.levels.poll, s.levels.queue with
  | none, b :: bs =>
    let r := s.body b
    let t := s.setBody b { r with roundTimer := some (s.now + s.interval r.sampling), lastRound := some s.now }
    { t with levels.queue := bs, levels.poll := some ⟨b, .a, t.now + Config.answerMs, false, none⟩ }
  | _, _ => s

/-- R13: the LEVEL frame of this moment. -/
def State.levelFrame (s : State) : Frame :=
  let f := fun b : Body => ((s.body b).level, if s.bodyPresent b then some (s.body b).state else none)
  .level s.time ⟨f .up, f .lp, f .c1, f .c2⟩

/-- R11, R12: a pair that has settled becomes EQUALISED: its neighbour is told, and the orders kept after a refusal are asked again
(R30). -/
def State.pairSettled (s : State) (p : Pair) : State := ((s.setPair p .equalised).tellEqualised p).retries (.pair p)

/-! ## The commands of the gauge line and of the level monitor's timers -/

/-- ROUND_START (R2). -/
def execRoundStart (s : State) : Host.Outcome State Fault Refusal := .next s.startRound

/-- ROUND_TIMER_EXPIRY (R2): the body joins the tail of the round queue. -/
def execRoundTimerExpiry (b : Body) (s : State) : Host.Outcome State Fault Refusal :=
  match (s.body b).roundTimer with
  | some t => .next (((s.reach t).setBody b { s.body b with roundTimer := none }).enqueue b)
  | none => .next s

/-- GAUGE_REPLY (R1): bytes that arrive with no poll outstanding are discarded. -/
def execGaugeReply (b1 b2 b3 b4 : Byte) (s : State) : Host.Outcome State Fault Refusal :=
  match s.levels.poll with
  | some p =>
    .next (s.closePoll p (replyStatus (gaugeNumber p.body p.gauge) b1 b2 b3 b4) (b2.toNat * 256 + b3.toNat))
  | none => .next s

/-- NO_REPLY (R1): the poll closes at the end of its 20 ms. -/
def execNoReply (s : State) : Host.Outcome State Fault Refusal :=
  match s.levels.poll with
  | some p => .next ((s.reach p.deadline).closePoll p .noReply 0)
  | none => .next s

/-- GAUGE_STRAY_BYTES (R1): discarded. -/
def execGaugeStrayBytes (_bytes : List Byte) (s : State) : Host.Outcome State Fault Refusal := .next s

/-- HOLD_TIMER_EXPIRY (R3). -/
def execHoldTimerExpiry (b : Body) (s : State) : Host.Outcome State Fault Refusal :=
  match (s.body b).hold with
  | some t => .next ((s.reach t).holdOut b)
  | none => .next s

/-- SETTLE_EXPIRY (R11, R12): a SETTLING pair has been equal for EQ_SETTLE. -/
def execSettleExpiry (p : Pair) (s : State) : Host.Outcome State Fault Refusal :=
  match s.pair p with
  | .settling t =>
    .next (((s.reach (t + seconds s.settings.eqSettle)).pairSettled p).finish)
  | _ => .next s

/-- TRAIL_TIMER_EXPIRY (R13): a LEVEL frame is handed to the journal and the timer restarts. -/
def execTrailTimerExpiry (s : State) : Host.Outcome State Fault Refusal :=
  match s.levels.trail with
  | some t =>
    let u := s.reach t
    .next (({ u with levels.trail := some (u.now + seconds u.settings.trailPeriod) }).write u.levelFrame)
  | none => .next s

end Sys2Proof.Machine
end

