-- ==== Sys2Proof/Machine/Operands.lean ====
section
/-! DEFINITION. The fields of the station links and of the stored journal frames: widths, choice codes, frame bytes and the
CRC (R150, R177, R180). -/

namespace Sys2Proof

/-! ## Places of named choices (R177) -/

/-- A chamber as 1 or 2. -/
def Chamber.code : Chamber → Nat
  | .c1 => 1
  | .c2 => 2

/-- A station as UC 1, LC 2 and TC 3. -/
def Station.code : Station → Nat
  | .uc => 1
  | .lc => 2
  | .tc => 3

/-- A direction: UP 0, DOWN 1. -/
def Direction.code : Direction → Nat
  | .up => 0
  | .down => 1

/-- An order's class: NORMAL 0, PRIORITY 1. -/
def OrderClass.code : OrderClass → Nat
  | .normal => 0
  | .priority => 1

/-- A mode: AUTOMATIC 0, DIRECTED 1. -/
def Mode.code : Mode → Nat
  | .automatic => 0
  | .directed => 1

/-- A body: UP 0, LP 1, C1 2, C2 3. -/
def Body.code : Body → Nat
  | .up => 0
  | .lp => 1
  | .c1 => 2
  | .c2 => 3

/-- An actuator by its number, 1 to 9. -/
def Actuator.number : Actuator → Nat
  | .gate .c1 .upper => 1
  | .gate .c1 .lower => 2
  | .sluice (.chamber .c1 .upper) => 3
  | .sluice (.chamber .c1 .lower) => 4
  | .gate .c2 .upper => 5
  | .gate .c2 .lower => 6
  | .sluice (.chamber .c2 .upper) => 7
  | .sluice (.chamber .c2 .lower) => 8
  | .sluice .cross => 9

/-- A signal's place in EU, EL, XU, XL. -/
def Signal.place : Signal → Nat
  | .eu => 0
  | .el => 1
  | .xu => 2
  | .xl => 3

/-- A lamp's place in RED-A, RED-B, GREEN. -/
def LampName.place : LampName → Nat
  | .redA => 0
  | .redB => 1
  | .green => 2

/-- R177: a signal and lamp in one byte. -/
def LampId.code (l : LampId) : Nat := 12 * (l.chamber.code - 1) + 3 * l.signal.place + l.lamp.place

/-- A notice kind by its number, 1 to 11. -/
def NoticeKind.number : NoticeKind → Nat
  | .fault => 1
  | .entryOverdue => 2
  | .leaveOverdue => 3
  | .batchBound => 4
  | .fillSlow => 5
  | .journalWatermark => 6
  | .journalPressure => 7
  | .conductTaken => 8
  | .vesselHeld => 9
  | .clockUnset => 10
  | .settingsDefaulted => 11

end Sys2Proof

namespace Sys2Proof.Machine

/-- A length class: A 0 to F 5. -/
def LengthClass.code : LengthClass → Nat
  | .a => 0
  | .b => 1
  | .c => 2
  | .d => 3
  | .e => 4
  | .f => 5

/-- A gauge status, in the order of the level monitor's state table. -/
def GaugeStatus.code : GaugeStatus → Nat
  | .ok => 0
  | .saturated => 1
  | .noReply => 2
  | .checkFail => 3

/-- A level state, in the order of the state table. -/
def LevelState.code : LevelState → Nat
  | .unknown => 0
  | .good => 1
  | .single => 2
  | .uncertain => 3
  | .lost => 4

/-- A sampling mode: PRIMARY 0, FAST 1. -/
def Sampling.code : Sampling → Nat
  | .primary => 0
  | .fast => 1

/-- A pair state: NOT_EQUAL 0, SETTLING 1, EQUALISED 2. -/
def PairState.code : PairState → Nat
  | .notEqual => 0
  | .settling _ => 1
  | .equalised => 2

/-- A gate state, in the order of the actuators' state table. -/
def GateState.code : GateState → Nat
  | .unknown => 0
  | .closed => 1
  | .opening => 2
  | .opened => 3
  | .closing => 4
  | .stopped => 5
  | .stalled => 6

/-- A sluice state, in the order of the actuators' state table. -/
def SluiceState.code : SluiceState → Nat
  | .unknown => 0
  | .shut => 1
  | .moving => 2
  | .held => 3
  | .fault => 4

/-- What a ramp waits on, in the order of the ramp's table. -/
def RampWait.code : RampWait → Nat
  | .nothing => 0
  | .interval => 1
  | .headLimit => 2
  | .usableLevel => 3
  | .retry _ => 4

/-- A clause as 1 to 4. -/
def Clause.code : Clause → Nat
  | .i1 => 1
  | .i2 => 2
  | .i3 => 3
  | .i4 => 4

/-- A chamber state, in the order of the table of chamber states. -/
def ChamberState.code : ChamberState → Nat
  | .outOfService => 0
  | .lowOpen => 1
  | .lowClosing => 2
  | .lowShut => 3
  | .fillWait => 4
  | .fillCross => 5
  | .fill => 6
  | .highShut => 7
  | .highOpening => 8
  | .highOpen => 9
  | .highClosing => 10
  | .emptyWait => 11
  | .emptyCross => 12
  | .empty => 13
  | .lowOpening => 14
  | .halted => 15

/-- A kind of record or wish: FILL 0, EMPTY 1. -/
def WaterKind.code : WaterKind → Nat
  | .fill => 0
  | .empty => 1

/-- A batch state: BOUND 0 to LEAVING 3. -/
def BatchState.code : BatchState → Nat
  | .bound => 0
  | .entering => 1
  | .secured => 2
  | .leaving => 3

/-- R177: a fault kind by its place in the table of faults, from 1. -/
def FaultKind.code : FaultKind → Nat
  | .gaugeDisagree => 1
  | .gaugeSingle => 2
  | .gaugeLost => 3
  | .gateStall => 4
  | .unexpectedMove => 5
  | .sluiceStall => 6
  | .sluicePosition => 7
  | .overflow => 8
  | .surge => 9
  | .fillSlow => 10
  | .equaliseTimeout => 11
  | .crossSlow => 12
  | .lampGreen => 13
  | .lampRed => 14
  | .lampRedBoth => 15
  | .linkLost => 16
  | .settingsLost => 17

/-- A severity: hard 0, soft 1. -/
def FaultKind.severity (f : FaultKind) : Nat := if f.hard then 0 else 1

/-- R180: an outcome's byte. -/
def ReplyOutcome.code : ReplyOutcome → Nat
  | .ok => 0x00
  | .limited => 0x01
  | .busy => 0x02
  | .noConduct => 0x03
  | .notPermitted => 0x04
  | .interlock => 0x05
  | .state => 0x06
  | .range => 0x07
  | .full => 0x08
  | .bookFull => 0x09
  | .duplicate => 0x0A
  | .noVessel => 0x0B
  | .noOrder => 0x0C
  | .inUse => 0x0D
  | .inFlight => 0x0E
  | .oversize => 0x0F
  | .format => 0x10
  | .unknown => 0x11

/-! ## Fields -/

/-- R177: a field of 1 byte that may be "none". -/
def byteOr (x : Option Nat) : WireField := .byte (x.getD 0xFF)

/-- R177: a field of 2 bytes that may be "none". -/
def halfOr (x : Option Nat) : WireField := .half (x.getD 0xFFFF)

/-- R177: a field of 4 bytes that may be "none". -/
def wordOr (x : Option Nat) : WireField := .word (x.getD 0xFFFFFFFF)

/-- R177: yes is 1 and no is 0. -/
def yesNo (x : Bool) : WireField := .byte (if x then 1 else 0)

/-- A flag whose values are listed "set, clear": set 0, clear 1 (log entry 26). -/
def setClear (x : Bool) : WireField := .byte (if x then 0 else 1)

/-- R177: a list of items of varying number: its count in 1 byte, then the items. -/
def listFields (items : List (List WireField)) : List WireField := .byte items.length :: items.flatten

/-- R177: a time of day as its two fields; UNSET is all ones in both. -/
def timeFields (t : Option TimeOfDay) : List WireField := [halfOr (t.map (·.day)), wordOr (t.map (·.second))]

/-- R177: a conduct holder, NONE as 0. -/
def holderField (h : Option Station) : WireField := .byte ((h.map Station.code).getD 0)

/-- R177: a notice set or mask in 2 bytes, the kinds in their numbered order from bit 0. -/
def noticeBits (l : List NoticeKind) : Nat :=
  (NoticeKind.all.map (fun n => if l.contains n then 2 ^ (n.number - 1) else 0)).sum

/-- R177: the subject of a fault in 2 bytes. -/
def Subject.fields : Subject → List WireField
  | .gate k e => [.byte 1, .byte (Actuator.gate k e).number]
  | .sluice q => [.byte 1, .byte (Actuator.sluice q).number]
  | .chamber k => [.byte 2, .byte k.code]
  | .body b => [.byte 3, .byte b.code]
  | .gauge b g => [.byte 4, .byte (gaugeNumber b g)]
  | .lamp l => [.byte 5, .byte l.code]
  | .station st => [.byte 6, .byte st.code]
  | .store => [.byte 7, .byte 0]

/-! ## Bytes -/

/-- A number in 2 bytes, high first. -/
def halfBytes (n : Nat) : List Byte := [BitVec.ofNat 8 (n / 256), BitVec.ofNat 8 n]

/-- A number in 4 bytes, high first. -/
def wordBytes (n : Nat) : List Byte := halfBytes (n / 65536) ++ halfBytes n

/-- R177: the bytes of a field. -/
def WireField.bytes : WireField → List Byte
  | .byte n => [BitVec.ofNat 8 n]
  | .half n => halfBytes n
  | .word n => wordBytes n
  | .mark m => m
  | .frames l => l

/-- The bytes of a run of fields. -/
def fieldBytes (l : List WireField) : List Byte := (l.map WireField.bytes).flatten

/-- R177: one bit of the CRC-16, the polynomial x^16 + x^12 + x^5 + 1. -/
def crcBit (c : BitVec 16) : BitVec 16 := if c.msb then (c <<< 1) ^^^ 0x1021#16 else c <<< 1

/-- R177: the CRC-16 over one byte more, most significant bit first. -/
def crcByte (c : BitVec 16) (b : Byte) : BitVec 16 :=
  crcBit (crcBit (crcBit (crcBit (crcBit (crcBit (crcBit (crcBit (c ^^^ (b.setWidth 16 <<< 8)))))))))

/-- R177: the CRC-16 of a run of bytes, started from all ones and not inverted. -/
def crc16 (l : List Byte) : BitVec 16 := l.foldl crcByte 0xFFFF#16

/-- R177: the bytes of a reply frame. -/
def Reply.frame (r : Reply) : List Byte :=
  let body := BitVec.ofNat 8 r.code :: BitVec.ofNat 8 r.outcome.code :: fieldBytes r.results
  let counted := BitVec.ofNat 8 body.length :: body
  0xA5#8 :: counted ++ halfBytes (crc16 counted).toNat

/-! ## Stored frames (R150) -/

/-- R150: a frame kind. -/
def Frame.kind : Frame → Nat
  | .ticket _ => 1
  | .water _ => 2
  | .order .. => 3
  | .move .. => 4
  | .conduct .. => 5
  | .level .. => 6
  | .fault .. => 7

/-- R144: the flags of a ticket: CAPPED, TIME_UNSET, SATURATED from bit 0. -/
def Ticket.flags (t : Ticket) : Nat :=
  (if t.capped then 1 else 0) + (if t.timeUnset then 2 else 0) + if t.saturated then 4 else 0

/-- R144: the fields of a TICKET frame. -/
def Ticket.fields (t : Ticket) : List WireField :=
  [.half t.batch, .byte t.chamber.code, .byte t.direction.code, .half t.order, .half t.slot, .mark t.mark, .byte t.cls.code,
    yesNo t.exempt, yesNo t.laden, .byte t.priority.code, .word t.base, .word t.tonnage, .word t.nightPart,
    .word t.priorityPart, .word t.share, .word t.dues, .half t.flags] ++ timeFields t.time

/-- R140: the fields of a WATER frame. -/
def WaterFrame.fields (w : WaterFrame) : List WireField :=
  [halfOr w.batch, .byte w.chamber.code, .byte w.kind.code, halfOr w.start, halfOr w.crossEnd, halfOr w.stop,
    .word w.crossVolume, .word w.pound, wordOr w.charge, wordOr w.sitePart] ++ timeFields w.time

/-- R152: an ORDER frame's event, and the reason of a REFUSED: OVERSIZE is 0, and an event without a reason carries all ones. No rule
lists the reasons: DESIGN CHOICE (log entry 73). -/
def OrderEvent.fields : OrderEvent → List WireField
  | .entered => [.byte 0, .byte 0xFF]
  | .cancelled => [.byte 1, .byte 0xFF]
  | .returned => [.byte 2, .byte 0xFF]
  | .refusedOversize => [.byte 3, .byte 0]

/-- R26: a MOVE frame's outcome, and the position or step of a REACHED. -/
def MoveOutcome.fields : MoveOutcome → List WireField
  | .reachedClosed => [.byte 0, .byte GateState.closed.code]
  | .reachedOpen => [.byte 0, .byte GateState.opened.code]
  | .reachedStep n => [.byte 0, .byte n]
  | .stalled => [.byte 1, .byte 0xFF]
  | .stopped => [.byte 2, .byte 0xFF]

/-- R152: a CONDUCT frame's cause. -/
def ConductCause.code : ConductCause → Nat
  | .claim => 0
  | .takeOver => 1
  | .release => 2
  | .lost => 3

/-- R13: a body in a LEVEL frame. -/
def levelFields (x : Option Nat × Option LevelState) : List WireField := [halfOr x.1, byteOr (x.2.map LevelState.code)]

/-- R150: the fields of a stored frame, after its header. -/
def Frame.fields : Frame → List WireField
  | .ticket t => t.fields
  | .water w => w.fields
  | .order n slot e st t => [halfOr n, .half slot] ++ e.fields ++ [.byte st.code] ++ timeFields t
  | .move a o t => [.byte a.number] ++ o.fields ++ timeFields t
  | .conduct k o n c => [.byte k.code, holderField o, holderField n, .byte c.code]
  | .level t b => timeFields t ++ levelFields b.up ++ levelFields b.lp ++ levelFields b.c1 ++ levelFields b.c2
  | .fault f x t => [.byte f.code, .byte f.severity] ++ x.fields ++ timeFields t

/-- R150: bytes filled with zeros to a number of words. -/
def padWords (n : Nat) (l : List Byte) : List Byte := l ++ List.replicate (4 * n - l.length) 0

/-- R150: the bytes of a stored frame. -/
def Frame.bytes (f : Frame) : List Byte :=
  padWords f.words ([BitVec.ofNat 8 f.kind, BitVec.ofNat 8 f.words, 0, 0] ++ fieldBytes f.fields)

/-- R158: the bytes of a CLOCK frame. -/
def clockBytes (t : Option TimeOfDay) : List Byte := padWords 4 ([8, 4, 0, 0] ++ fieldBytes (timeFields t))

end Sys2Proof.Machine
end

