-- ==== Sys2Proof/Machine/Port.lean ====
section
/-! DEFINITION. The station ports: link states, permissions, the taking of a request, replies, and the lists a write or a read
of a set of records needs (R163, R167, R179, R180). -/

namespace Sys2Proof.Machine

/-! ## The link (R163) -/

/-- R163, R178: a valid frame makes its station PRESENT, starts its silence timer and returns the port's receiver to HUNTING. -/
def State.validFrame (s : State) (st : Station) : State :=
  s.setStation st
    { s.station st with
      link := .present, silence := some (s.now + seconds s.settings.silenceLimit), receiver := .hunting }

/-! ## Permission (R167) -/

/-- R167: whom a request is permitted to, with the chamber it names. -/
inductive Permission where
  /-- Any station, no chamber named. -/
  | any
  /-- Any station, a chamber named. -/
  | anyOf (k : Chamber)
  /-- The chamber's conductor. -/
  | conductor (k : Chamber)
  /-- The chamber's conductor; any station while the holder is NONE. -/
  | confirm (k : Chamber)
  /-- The traffic centre. -/
  | tc
  /-- Nobody. -/
  | nobody
  deriving DecidableEq, Repr

/-- The chamber a request names. -/
def Permission.chamber : Permission → Option Chamber
  | .anyOf k => some k
  | .conductor k => some k
  | .confirm k => some k
  | _ => none

/-- An outcome with its results. -/
abbrev Answer := ReplyOutcome × List WireField

/-- R167, second stage: the refusal of a sender that is not permitted. -/
def State.notPermitted (s : State) (st : Station) : Permission → Option Answer
  | .any => none
  | .anyOf _ => none
  | .conductor k => if s.holder k = some st then none else some (.noConduct, [holderField (s.holder k)])
  | .confirm k =>
    if s.holder k = some st ∨ s.holder k = none then none else some (.noConduct, [holderField (s.holder k)])
  | .tc => if st = .tc then none else some (.notPermitted, [])
  | .nobody => some (.notPermitted, [])

/-- R167: the first two stages: a chamber that is not present is refused RANGE, then the sender is checked. -/
def State.barred (s : State) (st : Station) (p : Permission) : Option Answer :=
  match p.chamber with
  | some k => if s.chamberPresent k then s.notPermitted st p else some (.range, [.half 1])
  | none => s.notPermitted st p

/-! ## Judging -/

/-- What a request comes to: the state it leaves, and its answer, if the reply is sent now. -/
abbrev Judged := State × Option Answer

/-- A refusal: nothing changes. -/
def State.refuse (s : State) (o : ReplyOutcome) (results : List WireField := []) : Judged := (s, some (o, results))

/-- R180: refused RANGE with the number of the argument or field. -/
def State.outOfRange (s : State) (n : Nat) : Judged := s.refuse .range [.half n]

/-- R180: refused INTERLOCK with the clause. -/
def State.interlocked (s : State) (c : Clause) : Judged := s.refuse .interlock [.byte c.code]

/-- A request that changes nothing, answered OK. -/
def State.report (s : State) (results : List WireField) : Judged := (s, some (.ok, results))

/-- A request carried out, its consequences following, answered `o`. -/
def State.done (s : State) (o : ReplyOutcome) (results : List WireField := []) : Judged := (s.finish, some (o, results))

/-- R167: a request judged by its own rule once the first two stages let it through. -/
def State.judged (s : State) (st : Station) (p : Permission) (own : State → Judged) : Judged :=
  match s.barred st p with
  | some a => (s, some a)
  | none => own s

/-! ## Serving (R179) -/

/-- R179: the code of a frame that arrives while the port is not IDLE joins the BUSY list, unless it holds 8. -/
def StationRec.addBusy (r : StationRec) (code : Nat) : StationRec :=
  if r.busy.length < Config.busySize then { r with busy := r.busy ++ [code] } else r

/-- The port's reply put on the line. -/
def State.reply (s : State) (st : Station) (code : Nat) (a : Answer) : State :=
  s.setStation st { s.station st with tx := [⟨code, a.1, a.2⟩] }

/-- R179: a port's service state changed. -/
def State.setService (s : State) (st : Station) (x : Service) : State :=
  s.setStation st { s.station st with service := x }

/-- R179: a request in service judged: its reply is put on the line, or the port goes on SERVING without one (R189). -/
def State.serve (s : State) (st : Station) (code : Nat) (after : Service) (judge : State → Judged) : State :=
  match judge s with
  | (t, some a) => (t.reply st code a).setService st after
  | (t, none) => t.setService st .serving

/-- R163, R176, R179: a request frame of code `code` taken by a port: a SILENT port takes none; the link state changes
first; a port that is not IDLE only lists the code. -/
def State.portTake (s : State) (st : Station) (code : Nat) (after : Service) (judge : State → Judged) : State :=
  if (s.station st).rate = .silent then s
  else
    let t := s.validFrame st
    if (t.station st).service = .idle then t.serve st code after judge
    else t.setStation st ((t.station st).addBusy code)

/-- A request taken as one whole exchange: the frame, the request and its reply sent (log entry 5). -/
def State.exchange (s : State) (st : Station) (code : Nat) (judge : State → Judged) : Host.Outcome State Fault Refusal :=
  .next (s.portTake st code .idle judge)

end Sys2Proof.Machine
end

