-- ==== Sys2Proof/Machine/Accounts.lean ====
section
/-! DEFINITION. The commands of the tariff tables, the site clock, the accounts, the journal's readers and the tallies
(R131, R133, R148, R149, R153, R158, R159, R161). -/

namespace Sys2Proof.Machine

/-! ## Tariff tables and clock -/

/-- SWAP TARIFF (R131). -/
def judgeSwapTariff (st : Station) (s : State) : Judged :=
  s.judged st .tc fun s => ({ s with active := s.standby, standby := s.active }, some (.ok, []))

/-- SWAP TARIFF. -/
def execSwapTariff (st : Station) (s : State) : Host.Outcome State Fault Refusal := s.exchange st 0x50 (judgeSwapTariff st)

/-- SET CLOCK (R133). -/
def judgeSetClock (st : Station) (day second : Nat) (s : State) : Judged :=
  s.judged st .tc fun s =>
    if 65535 < day then s.outOfRange 1
    else if 86399 < second then s.outOfRange 2
    else ({ s with clock := some ⟨⟨day, second⟩, s.now + secondMs⟩ }, some (.ok, []))

/-- SET CLOCK. -/
def execSetClock (st : Station) (day second : Nat) (s : State) : Host.Outcome State Fault Refusal :=
  s.exchange st 0x51 (judgeSetClock st day second)

/-- R133: the second after this one. -/
def TimeOfDay.succ (t : TimeOfDay) : TimeOfDay :=
  if t.second < 86399 then { t with second := t.second + 1 }
  else if t.day < 65535 then ⟨t.day + 1, 0⟩
  else ⟨0, 0⟩

/-- SITE_CLOCK_TICK (R133): the set clock advances by one second. -/
def execSiteClockTick (s : State) : Host.Outcome State Fault Refusal :=
  match s.clock with
  | some c => .next { s.reach c.next with clock := some ⟨c.time.succ, c.next + secondMs⟩ }
  | none => .next s

/-! ## Accounts -/

/-- A vessel state as a choice: FREE 0, ACTIVE 1, HELD 2. -/
def VesselState.code : VesselState → Nat
  | .free => 0
  | .active => 1
  | .held _ => 2

/-- R148: a settlement taken from a vessel's account. -/
def Vessel.settle (v : Vessel) (amount : Nat) : Vessel :=
  let t := v.total - amount
  { v with total := t, saturated := v.saturated && decide (Config.moneyLimit ≤ t) }

/-- SETTLE (R148). -/
def judgeSettle (st : Station) (slot amount : Nat) (s : State) : Judged :=
  s.judged st .tc fun s =>
    if Config.slots ≤ slot then s.outOfRange 1
    else if Config.moneyLimit < amount then s.outOfRange 2
    else if (s.vessel slot).state = .free then s.refuse .noVessel
    else
      let t := (s.setVessel slot ((s.vessel slot).settle amount)).reevaluate slot
      t.done (if (s.vessel slot).total < amount then .limited else .ok)
        [.word (t.vessel slot).total, .byte (t.vessel slot).state.code]

/-- SETTLE. -/
def execSettle (st : Station) (slot amount : Nat) (s : State) : Host.Outcome State Fault Refusal :=
  s.exchange st 0x16 (judgeSettle st slot amount)

/-- The site account's three values as results. -/
def SiteAccount.fields (a : SiteAccount) : List WireField := [.word a.total, .word a.drawn, .word a.saved]

/-- READ SITE ACCOUNT (R149). -/
def judgeReadSiteAccount (st : Station) (s : State) : Judged := s.judged st .any fun s => s.report s.site.fields

/-- READ SITE ACCOUNT. -/
def execReadSiteAccount (st : Station) (s : State) : Host.Outcome State Fault Refusal :=
  s.exchange st 0x57 (judgeReadSiteAccount st)

/-- SETTLE SITE (R149). -/
def judgeSettleSite (st : Station) (s : State) : Judged :=
  s.judged st .tc fun s => ({ s with site := {} }, some (.ok, s.site.fields))

/-- SETTLE SITE. -/
def execSettleSite (st : Station) (s : State) : Host.Outcome State Fault Refusal := s.exchange st 0x58 (judgeSettleSite st)

/-! ## Subscribers (R153, R157) -/

/-- R153: a subscription at the tail, with the watermark test of the station's own SUBSCRIBE (R157). A station that was not
subscribed is tested as having stood at 0 unread words below its new watermark (log entry 19). -/
def State.subscribeAt (s : State) (st : Station) (mark : Nat) : State :=
  (s.setSubscriber st (some ⟨0, mark⟩)).watermarkAt st (s.unread st)
    (match s.subscriber st with | some b => b.watermark | none => mark)

/-- SUBSCRIBE (R153). -/
def judgeSubscribe (st : Station) (watermark : Option Nat) (s : State) : Judged :=
  s.judged st .any fun s =>
    match watermark with
    | none => (s.subscribeAt st 2048, some (.ok, []))
    | some w => (s.subscribeAt st (min Config.journalWords w), some (if Config.journalWords < w then .limited else .ok, []))

/-- SUBSCRIBE. -/
def execSubscribe (st : Station) (watermark : Option Nat) (s : State) : Host.Outcome State Fault Refusal :=
  s.exchange st 0x52 (judgeSubscribe st watermark)

/-- UNSUBSCRIBE (R153): the tail may move and free space (R154, R155). -/
def judgeUnsubscribe (st who : Station) (s : State) : Judged :=
  s.judged st (if st = who then .any else .tc) fun s =>
    ((((s.setSubscriber who none).free).noteFreed s)).done .ok

/-- UNSUBSCRIBE. -/
def execUnsubscribe (st who : Station) (s : State) : Host.Outcome State Fault Refusal :=
  s.exchange st 0x53 (judgeUnsubscribe st who)

/-! ## Reading the journal (R158, R159) -/

/-- R158: whole frames in ring order, as many as fit in `room` words. -/
def takeFrames : Nat → List Frame → List Frame
  | _, [] => []
  | room, f :: fs => if f.words ≤ room then f :: takeFrames (room - f.words) fs else []

/-- R158: the frames a station's next read takes. -/
def State.nextFrames (s : State) (b : Subscriber) : List Frame :=
  takeFrames Config.readWords (s.journal.frames.drop b.read)

/-- READ JOURNAL (R158). -/
def judgeReadJournal (st : Station) (s : State) : Judged :=
  s.judged st .any fun s =>
    match s.subscriber st with
    | none => s.refuse .state
    | some b =>
      let fs := s.nextFrames b
      let place := b.read + fs.length
      let t := s.setSubscriber st (some { b with read := place })
      let atEnd := decide (s.journal.frames.length ≤ place)
      let mark := atEnd && s.settings.clockMark
      ((t.free).noteFreed s).done .ok
        [.frames ((fs.map Frame.bytes).flatten ++ if mark then clockBytes s.time else []),
          .half (fs.length + if mark then 1 else 0), .half (t.unread st), yesNo atEnd]

/-- READ JOURNAL. -/
def execReadJournal (st : Station) (s : State) : Host.Outcome State Fault Refusal := s.exchange st 0x54 (judgeReadJournal st)

/-- R159: what READ JOURNAL STATUS tells of a station. -/
def State.subscriberFields (s : State) (st : Station) : List WireField :=
  [yesNo (s.subscriber st).isSome, halfOr ((s.subscriber st).map (fun _ => s.unread st)),
    halfOr ((s.subscriber st).map (·.watermark))]

/-- R159: what READ JOURNAL STATUS tells of a chamber. -/
def State.reserveFields (s : State) (k : Chamber) : List WireField :=
  [halfOr ((s.batch k).map (·.reserve)), yesNo (s.book.deferred.get k)]

/-- READ JOURNAL STATUS (R159). Both chambers are listed, a chamber 2 that is not present too. DESIGN CHOICE (log entry 65). -/
def judgeReadJournalStatus (st : Station) (s : State) : Judged :=
  s.judged st .any fun s =>
    s.report
      ([.half s.used, .half (Config.journalWords - s.used), .half s.reserved, .half s.availableWords,
          .half s.journal.frames.length, .half s.journal.dropped, .half s.journal.discarded, yesNo s.settings.clockMark]
        ++ s.subscriberFields .uc ++ s.subscriberFields .lc ++ s.subscriberFields .tc ++ s.reserveFields .c1
        ++ s.reserveFields .c2)

/-- READ JOURNAL STATUS. -/
def execReadJournalStatus (st : Station) (s : State) : Host.Outcome State Fault Refusal :=
  s.exchange st 0x55 (judgeReadJournalStatus st)

/-! ## Tallies (R161) -/

/-- Six counters as results. -/
def classFields (v : PerClass Nat) : List WireField := [.half v.a, .half v.b, .half v.c, .half v.d, .half v.e, .half v.f]

/-- R160: the thirty tallies as results: in each of the first two the six classes of UP, then those of DOWN. DESIGN CHOICE (log entry
79). -/
def Tallies.fields (t : Tallies) : List WireField :=
  classFields t.completed.up ++ classFields t.completed.down ++ classFields t.abandoned.up ++ classFields t.abandoned.down
    ++ classFields t.oversize

/-- READ TALLIES (R161). -/
def judgeReadTallies (st : Station) (clear : Bool) (s : State) : Judged :=
  s.judged st .any fun s => (if clear then { s with tallies := {} } else s, some (.ok, s.tallies.fields))

/-- READ TALLIES. -/
def execReadTallies (st : Station) (clear : Bool) (s : State) : Host.Outcome State Fault Refusal :=
  s.exchange st 0x56 (judgeReadTallies st clear)

end Sys2Proof.Machine
end

