-- ==== Sys2Proof/Machine/Lamps.lean ====
section
/-! DEFINITION. The commands of the signal unit: flash phases, lamp proving and the lamp test (R122 to R126). -/

namespace Sys2Proof.Machine

/-! ## All lamps of a kind -/

/-- The lamps of a signal changed by `f`. -/
def mapLamp (f : Lamp → Lamp) (l : PerLamp Lamp) : PerLamp Lamp := ⟨f l.redA, f l.redB, f l.green⟩

/-- The twelve lamps of a chamber changed by `f`. -/
def mapLamps (f : Lamp → Lamp) (l : PerSignal (PerLamp Lamp)) : PerSignal (PerLamp Lamp) :=
  ⟨mapLamp f l.eu, mapLamp f l.el, mapLamp f l.xu, mapLamp f l.xl⟩

/-- The lamps of one chamber changed by `f`. -/
def State.mapChamberLamps (s : State) (k : Chamber) (f : Lamp → Lamp) : State :=
  { s with signals.lamps := s.signals.lamps.set k (mapLamps f (s.signals.lamps.get k)) }

/-- A chamber's lamp test runs. -/
def State.tested (s : State) (k : Chamber) : Bool := (s.signals.tests.get k).isSome

/-! ## Flash generators (R122) -/

/-- R122, R123: a lamp carried over a phase change of generator g. -/
def Lamp.flash (l : Lamp) (g : Generator) (now : Nat) (lit tested : Bool) : Lamp :=
  if l.output = .flashing g then l.recount now lit tested else l

/-- FLASH_PHASE_CHANGE (R122). -/
def execFlashPhaseChange (g : Generator) (s : State) : Host.Outcome State Fault Refusal :=
  let t := s.reach (s.generator g).phaseEnd
  let x := (s.generator g).change (s.flashSettings g).1 (s.flashSettings g).2
  let u := t.setGenerator g x
  .next ((u.mapChamberLamps .c1 (fun l => l.flash g u.now x.on (u.tested .c1))).mapChamberLamps .c2
    (fun l => l.flash g u.now x.on (u.tested .c2)))

/-! ## Proving (R123, R124) -/

/-- PROVING_INPUT (R123): a change on a lamp's proving input. In a chamber not present the input's level changes and nothing is
counted from it (R117). -/
def execProvingInput (l : LampId) (current : Bool) (s : State) : Host.Outcome State Fault Refusal :=
  let x := { s.lamp l with current := current }
  if s.chamberPresent l.chamber then .next (s.setLamp l (x.recount s.now (s.lights x.output) (s.tested l.chamber)))
  else .next (s.setLamp l x)

/-- R124: the fault of a failed lamp. -/
def lampFault (n : LampName) (l : PerLamp Lamp) : FaultKind :=
  match n with
  | .green => .lampGreen
  | .redA => if l.redB.proven then .lampRed else .lampRedBoth
  | .redB => if l.redA.proven then .lampRed else .lampRedBoth

/-- R123, R125: a lamp whose no-current time has reached 200 ms. -/
def State.failLamp (s : State) (l : LampId) : State :=
  let x := s.lamp l
  let f := lampFault l.lamp ((s.signals.lamps.get l.chamber).get l.signal)
  let t := s.setLamp l { x with proven := false, count := 0, since := none, testFailed := s.tested l.chamber }
  if x.proven then t.raiseFault f (.lamp l) else t

/-- R123: the elapsed time at which a lamp's no-current time reaches 200 ms, when it does without a further change: while it runs,
and, with the 200 ms counted up by a phase that ended on the same ms, at once. DEDUCED (log entry 64). -/
def Lamp.failsAt (l : Lamp) (now : Nat) : Option Nat :=
  match l.since with
  | some t => some (t + (Config.lampFailMs - l.count))
  | none => if Config.lampFailMs ≤ l.count then some now else none

/-- LAMP_FAILED (R123, R124): the no-current time of a lamp that keeps one, and is lit without current, reaches 200 ms. -/
def execLampFailed (l : LampId) (s : State) : Host.Outcome State Fault Refusal :=
  match (s.lamp l).failsAt s.now with
  | some t =>
    if s.chamberPresent l.chamber && (s.lamp l).counts (s.tested l.chamber) then .next (((s.reach t).failLamp l).finish)
    else .next s
  | none => .next s

/-! ## Lamp test (R125, R126) -/

/-- A lamp at the start of a test. -/
def Lamp.beginTest (l : Lamp) : Lamp := { l with count := 0, since := none, testFailed := false }

/-- R126: a lamp at the end of the 5 s: seen, it becomes PROVEN. -/
def Lamp.endTest (l : Lamp) : Lamp := { l with proven := !l.testFailed, testFailed := false }

/-- Replace a chamber's lamp test. -/
def State.setTest (s : State) (k : Chamber) (t : Option Nat) : State :=
  { s with signals.tests := s.signals.tests.set k t }

/-- LAMP TEST (R125). -/
def judgeLampTest (st : Station) (k : Chamber) (s : State) : Judged :=
  s.judged st (.anyOf k) fun s =>
    if (s.chamber k).state = .outOfService then
      ((s.setTest k (some (s.now + Config.lampTestMs))).mapChamberLamps k Lamp.beginTest).done .ok
    else s.refuse .state

/-- LAMP TEST. -/
def execLampTest (st : Station) (k : Chamber) (s : State) : Host.Outcome State Fault Refusal :=
  s.exchange st 0x43 (judgeLampTest st k)

/-- LAMP_TEST_END (R126). -/
def execLampTestEnd (k : Chamber) (s : State) : Host.Outcome State Fault Refusal :=
  match s.signals.tests.get k with
  | some t => .next ((((s.reach t).setTest k none).mapChamberLamps k Lamp.endTest).finish)
  | none => .next s

/-- R126: SERVICE ON ends a lamp test with no lamp proven by it. -/
def State.cutTest (s : State) (k : Chamber) : State :=
  if s.tested k then (s.setTest k none).mapChamberLamps k (fun l => { l with testFailed := false }) else s

end Sys2Proof.Machine
end

