-- ==== Sys2Proof/Machine/Passage.lean ====
section
/-! DEFINITION. The passage book's commands: entering, cancelling, confirming, clearing, abandoning, binding, reading, and the
formation timer (R96 to R98, R108 to R110, R112, R114, R115). -/

namespace Sys2Proof.Machine

/-! ## Entering and cancelling (R96, R97) -/

/-- R115: an order's state, its cause and its batch number, all ones where it has none. DESIGN CHOICE (log entry 72). -/
def OrderState.fields : OrderState → List WireField
  | .waiting => [.byte 0, .byte 0xFF, .half 0xFFFF]
  | .blocked .held => [.byte 1, .byte 0, .half 0xFFFF]
  | .blocked .oversize => [.byte 1, .byte 1, .half 0xFFFF]
  | .bound n => [.byte 2, .byte 0xFF, .half n]

/-- R95, R96: the order an accepted ENTER ORDER makes. -/
def State.newOrder (s : State) (st : Station) (slot : Nat) (d : Direction) (laden : Bool) (c : OrderClass) : Order where
  number := freeNumber s.book.numbers 33 s.book.nextOrder
  slot := slot
  direction := d
  laden := laden
  cls := c
  station := st
  sequence := s.book.entrySequence + 1
  time := s.time
  entered := s.now
  state := s.orderState (s.vessel slot)
  passOver := 0

/-- R95, R96, R98: an order joins the book: its list, the counters, its vessel's order field and the formation timer. -/
def State.addOrder (s : State) (o : Order) : State :=
  let t := s.setVessel o.slot { s.vessel o.slot with order := some o.number }
  let b := t.book
  let lists := b.lists.set o.direction (insertOrder o (b.lists.get o.direction))
  { t with
    book :=
      { b with
        lists := lists
        nextOrder := freeNumber (o.number :: b.numbers) 33 (succNumber o.number)
        entrySequence := o.sequence
        timer := if b.orders.isEmpty then some (s.now + seconds s.settings.primaryInterval) else b.timer } }

/-- ENTER ORDER (R96). -/
def judgeEnterOrder (st : Station) (slot : Nat) (d : Direction) (laden : Bool) (c : OrderClass) (s : State) : Judged :=
  s.judged st .any fun s =>
    if Config.slots ≤ slot then s.outOfRange 1
    else if Config.bookSize ≤ s.book.orders.length then s.refuse .bookFull
    else if (s.vessel slot).state = .free then s.refuse .noVessel
    else
      match (s.vessel slot).order with
      | some n => s.refuse .duplicate [.half n]
      | none =>
        if s.fits (s.vessel slot) then
          let o := s.newOrder st slot d laden c
          let t := (s.addOrder o).orderFrame (some o.number) slot .entered st
          (if o.state = .waiting then t.pushAvailable else t).done .ok (.half o.number :: o.state.fields)
        else
          let t := { s with tallies.oversize := countClass s.tallies.oversize (lengthClass (s.vessel slot).length) }
          (t.orderFrame none slot .refusedOversize st, some (.oversize, []))

/-- ENTER ORDER. -/
def execEnterOrder (st : Station) (slot : Nat) (d : Direction) (laden : Bool) (c : OrderClass) (s : State) :
    Host.Outcome State Fault Refusal :=
  s.exchange st 0x20 (judgeEnterOrder st slot d laden c)

/-- The chamber whose batch has this number, with the batch. -/
def State.chamberOf (s : State) (n : Nat) : Option (Chamber × Batch) :=
  match s.batch .c1, s.batch .c2 with
  | some b, some c => if b.number = n then some (.c1, b) else if c.number = n then some (.c2, c) else none
  | some b, none => if b.number = n then some (.c1, b) else none
  | none, some c => if c.number = n then some (.c2, c) else none
  | none, none => none

/-- R97: an order leaves the book by a cancellation, with its ORDER frame. -/
def State.cancelled (s : State) (st : Station) (o : Order) : State :=
  (s.removeOrder o).orderFrame (some o.number) o.slot .cancelled st

/-- R97, R111: a batch whose last member has been cancelled is abandoned. -/
def State.abandonEmpty (s : State) (k : Chamber) : State :=
  match s.batch k with
  | some b => if b.members.isEmpty then s.abandonBatch k else s
  | none => s

/-- CANCEL ORDER (R97). -/
def judgeCancelOrder (st : Station) (n : Nat) (s : State) : Judged :=
  s.judged st .any fun s =>
    match s.book.find n with
    | none => s.refuse .noOrder
    | some o =>
      match o.state with
      | .bound m =>
        match s.chamberOf m with
        | some (k, b) =>
          if b.state = .bound ∨ b.state = .entering then
            ((((s.leaveBatch k n).releaseReserve k (s.memberWords k n)).cancelled st o).abandonEmpty k).done .ok
          else s.refuse .inFlight
        | none => (s.cancelled st o).done .ok
      | _ => (s.cancelled st o).done .ok

/-- CANCEL ORDER. -/
def execCancelOrder (st : Station) (n : Nat) (s : State) : Host.Outcome State Fault Refusal :=
  s.exchange st 0x21 (judgeCancelOrder st n)

/-! ## Confirming entry (R108, R109) -/

/-- R108: an absent member leaves the batch and its order returns; its 16 words of the reserve go back. -/
def State.absent (s : State) (st : Station) (k : Chamber) (n : Nat) : State :=
  ((s.leaveBatch k n).returnMember st n).releaseReserve k (s.memberWords k n)

/-- R109: the batch is SECURED: the members are PRESENT, the night flag is fixed, a fill's charge is shared anew when its
members are no longer those, and the entry timer stops (R47). -/
def State.secure (s : State) (k : Chamber) (b : Batch) : State :=
  let ms : List Member := b.members.map (fun m => { m with present := true })
  let t := (s.setBatch k (some { b with members := ms, night := some (s.nightFlag b.tariff) })).noteUnset
  let t :=
    match b.fill with
    | some r => if r.sharers = ms.map Member.order then t else t.reapportion k false
    | none => t
  let t := t.setBatch k ((t.batch k).map (fun x : Batch => { x with state := .secured }))
  (t.setChamber k { t.chamber k with entry := none, entryOverdue := false }).push (.rest k)

/-- R108, R109: the batch of chamber k confirmed with the orders `gone` absent. With none present the chamber counts as available
when the returned orders call for a formation. DESIGN CHOICE (log entry 63). -/
def State.confirm (s : State) (st : Station) (k : Chamber) (gone : List Nat) : State :=
  let t := gone.foldl (fun u n => u.absent st k n) s
  let t :=
    match t.batch k with
    | some b => if b.members.isEmpty then t.abandonBatch k else t.secure k b
    | none => t
  if t.anyWaiting gone then t.pushAvailable else t

/-- CONFIRM IN (R48, R108). -/
def judgeConfirmIn (st : Station) (k : Chamber) (present : Option (List Nat)) (s : State) : Judged :=
  s.judged st (.confirm k) fun s =>
    match s.batch k with
    | none => s.refuse .state
    | some b =>
      if b.state ≠ .entering then s.refuse .state
      else
        let ns := b.members.map (·.order)
        match present with
        | none => (s.confirm st k []).done .ok
        | some l =>
          if l.all ns.contains then (s.confirm st k (ns.filter (fun n => !l.contains n))).done .ok else s.refuse .noOrder

/-- CONFIRM IN. -/
def execConfirmIn (st : Station) (k : Chamber) (present : Option (List Nat)) (s : State) :
    Host.Outcome State Fault Refusal :=
  s.exchange st 0x37 (judgeConfirmIn st k present)

/-! ## Clearance and abandonment (R110, R112) -/

/-- CONFIRM CLEAR (R49, R110). -/
def judgeConfirmClear (st : Station) (k : Chamber) (s : State) : Judged :=
  s.judged st (.confirm k) fun s =>
    match s.batch k with
    | none => s.refuse .state
    | some b =>
      if b.state ≠ .leaving then s.refuse .state
      else (((b.members.foldl (fun t m => t.clearMember k b m) s).removeBatch k).push (.rest k)).done .ok

/-- CONFIRM CLEAR. -/
def execConfirmClear (st : Station) (k : Chamber) (s : State) : Host.Outcome State Fault Refusal :=
  s.exchange st 0x38 (judgeConfirmClear st k)

/-- R160: an ABANDONED tally counted. -/
def State.countAbandoned (s : State) (d : Direction) (cl : LengthClass) : State :=
  { s with tallies.abandoned := countTally s.tallies.abandoned d cl }

/-- R112: one member's order cancelled, with its ABANDONED tally. -/
def State.abandonMember (s : State) (st : Station) (d : Direction) (m : Member) : State :=
  (match s.book.find m.order with
    | some o => s.cancelled st o
    | none => s).countAbandoned d m.cls

/-- ABANDON BATCH (R55, R112). -/
def judgeAbandonBatch (st : Station) (k : Chamber) (s : State) : Judged :=
  s.judged st (.conductor k) fun s =>
    match s.batch k with
    | none => s.refuse .state
    | some b =>
      if (s.chamber k).state ≠ .halted then s.refuse .state
      else ((b.members.foldl (fun t m => t.abandonMember st b.direction m) s).abandonBatch k).done .ok

/-- ABANDON BATCH. -/
def execAbandonBatch (st : Station) (k : Chamber) (s : State) : Host.Outcome State Fault Refusal :=
  s.exchange st 0x36 (judgeAbandonBatch st k)

/-! ## Binding at the conductor's request (R61, R114) -/

/-- R57: the two conditions before a directed request's own ones. -/
def State.directable (s : State) (k : Chamber) : Bool :=
  decide ((s.chamber k).mode = .directed) && (s.chamber k).state.live

/-- R57: a directed request judged once its two conditions hold. -/
def State.directed (s : State) (st : Station) (k : Chamber) (own : State → Judged) : Judged :=
  s.judged st (.conductor k) fun s => if s.directable k then own s else s.refuse .state

/-- BIND (R61, R114). -/
def judgeBind (st : Station) (k : Chamber) (d : Direction) (s : State) : Judged :=
  s.directed st k fun s =>
    if (s.chamber k).state.rest.isNone || (s.batch k).isSome then s.refuse .state
    else
      match s.formFrom k d with
      | (_, .noLevel) => s.refuse .state
      | (t, .nothing) => t.report [halfOr none]
      | (t, .refused) => t.done .full
      | (t, .bound n m) => t.done .ok [.half n, .half m]

/-- BIND. -/
def execBind (st : Station) (k : Chamber) (d : Direction) (s : State) : Host.Outcome State Fault Refusal :=
  s.exchange st 0x39 (judgeBind st k d)

/-! ## Reading the book (R115) -/

/-- R115: an order as READ BOOK gives it. Its age in seconds is rounded down, and it and the entry sequence take 4 bytes: DESIGN CHOICE
(log entry 72). -/
def State.orderFields (s : State) (o : Order) : List WireField :=
  [.half o.number, .half o.slot, .byte o.direction.code, yesNo o.laden, .byte o.cls.code, .byte o.station.code,
      .word o.sequence] ++ timeFields o.time ++ [.word ((s.now - o.entered) / secondMs)] ++ o.state.fields ++ [.half o.passOver]

/-- An order is WAITING. -/
def OrderState.isWaiting (x : OrderState) : Bool := decide (x = .waiting)

/-- An order is BLOCKED. -/
def OrderState.isBlocked : OrderState → Bool
  | .blocked _ => true
  | _ => false

/-- READ BOOK (R115). Positions are counted from 1. -/
def judgeReadBook (st : Station) (d : Direction) (pos : Nat) (s : State) : Judged :=
  s.judged st .any fun s =>
    let l := s.book.lists.get d
    if pos = 0 then s.outOfRange 2
    else
      s.report
        ([.half s.book.orders.length, .half l.length, .half (l.filter (·.state.isWaiting)).length,
            .half (l.filter (·.state.isBlocked)).length, .half (l.filter (·.state.isBound)).length]
          ++ listFields (((l.drop (pos - 1)).take 8).map s.orderFields))

/-- READ BOOK. -/
def execReadBook (st : Station) (d : Direction) (pos : Nat) (s : State) : Host.Outcome State Fault Refusal :=
  s.exchange st 0x22 (judgeReadBook st d pos)

/-- R115: a member as READ BATCH gives it. -/
def Member.fields (m : Member) : List WireField :=
  [.half m.order, .half m.slot, .half m.length, .half m.beam, .half m.draught, .half m.deadweight, .byte m.cls.code,
    yesNo m.exempt, yesNo m.laden, .byte m.priority.code, .half m.row, .byte (if m.present then 1 else 0), wordOr m.share]

/-- R115: a batch's fill record: levels, volumes, charge, and the members over which the shares stand. -/
def fillFields (r : Option ClosedRec) : List WireField :=
  [halfOr (r.bind (·.start)), halfOr (r.bind (·.crossEnd)), halfOr (r.bind (·.stop)), wordOr (r.map (·.crossVolume)),
      wordOr (r.map (·.pound)), wordOr (r.map (·.charge))]
    ++ listFields (((r.map (·.sharers)).getD []).map (fun n => [.half n]))

/-- R115: a batch's empty record: levels and volumes. -/
def emptyFields (r : Option ClosedRec) : List WireField :=
  [halfOr (r.bind (·.start)), halfOr (r.bind (·.crossEnd)), halfOr (r.bind (·.stop)), wordOr (r.map (·.crossVolume)),
    wordOr (r.map (·.pound))]

/-- R115: a batch record as READ BATCH gives it; the tariff copy is not returned. -/
def Batch.fields (b : Batch) (k : Chamber) : List WireField :=
  [.half b.number, .byte k.code, .byte b.direction.code, .byte b.state.code] ++ listFields (b.members.map Member.fields)
    ++ listFields (b.rows.map (fun r => [.half r.length, .half r.width]))
    ++ [byteOr (b.night.map (fun x => if x then 1 else 0))] ++ fillFields b.fill ++ emptyFields b.empty ++ [.half b.reserve]

/-- READ BATCH (R115). -/
def judgeReadBatch (st : Station) (k : Chamber) (s : State) : Judged :=
  s.judged st (.anyOf k) fun s =>
    match s.batch k with
    | some b => s.report (b.fields k)
    | none => s.report [halfOr none]

/-- READ BATCH. -/
def execReadBatch (st : Station) (k : Chamber) (s : State) : Host.Outcome State Fault Refusal :=
  s.exchange st 0x23 (judgeReadBatch st k)

/-! ## The formation timer (R98) -/

/-- FORMATION_TIMER_EXPIRY (R98): the timer restarts, and each available chamber attempts a formation. -/
def execFormationTimerExpiry (s : State) : Host.Outcome State Fault Refusal :=
  match s.book.timer with
  | some t =>
    let u := s.reach t
    .next ({ u with book.timer := some (u.now + seconds u.settings.primaryInterval) }.pushAvailable.finish)
  | none => .next s

end Sys2Proof.Machine
end

