-- ==== Sys2Proof/Machine/Cycle.lean ====
section
/-! DEFINITION. The commands of the chamber cycle and of the cross arbiter's timers: service, mode, halt, resume, directed
steps, reading a chamber, and the chamber timers (R37 to R40, R46, R47, R49, R50, R53, R54, R57 to R60, R63, R66, R70). -/

namespace Sys2Proof.Machine

/-! ## Service (R37 to R39) -/

/-- R37: what the inspection comes to. -/
inductive Inspection where
  /-- The first line: stray plant. -/
  | stray
  | refused
  | midLevel
  | found (c : ChamberState)
  | empties
  deriving DecidableEq, Repr

/-- R37: the plant of a chamber is at rest: each gate CLOSED or OPEN, each sluice SHUT. -/
def State.plantAtRest (s : State) (k : Chamber) : Bool :=
  let ok := fun e => decide ((s.gate k e).state = .closed ∨ (s.gate k e).state = .opened)
  ok .upper && ok .lower && s.sluiceShut (.chamber k .upper) && s.sluiceShut (.chamber k .lower) && s.crossShut

/-- R37: the chamber stands strictly between its two pounds, all three usable. -/
def State.midLevel (s : State) (k : Chamber) : Bool :=
  match s.usableLevel .up, s.usableLevel .lp, s.usableLevel k.body with
  | some u, some l, some h => decide (l < h) && decide (h < u)
  | _, _, _ => false

/-- R37: the inspection of a chamber whose plant is at rest, by its gates. -/
def State.inspectLevels (s : State) (k : Chamber) : Inspection :=
  match s.gateClosed k .upper, s.gateClosed k .lower with
  | false, false => .refused
  | true, false => if s.equalBodies .lp k.body then .found .lowOpen else .refused
  | false, true => if s.equalBodies .up k.body then .found .highOpen else .refused
  | true, true =>
    if s.equalBodies .lp k.body then .found .lowShut
    else if s.equalBodies .up k.body then .found .highShut
    else if s.midLevel k then (if (s.chamber k).mode = .automatic then .empties else .midLevel)
    else .refused

/-- R37: the inspection. -/
def State.inspect (s : State) (k : Chamber) : Inspection := if s.plantAtRest k then s.inspectLevels k else .stray

/-- R37: a HELD or FAULT sluice of a refused chamber is ordered to 0. -/
def State.tidySluice (s : State) (q : Sluice) : State :=
  match (s.sluice q).state with
  | .held => s.shutSluice q
  | .fault => s.shutSluice q
  | _ => s

/-- R37: a STOPPED or STALLED gate of a refused chamber is ordered CLOSE. -/
def State.tidyGate (s : State) (k : Chamber) (e : Side) : State :=
  match (s.gate k e).state with
  | .stopped => (s.closeGate k e).1
  | .stalled => (s.closeGate k e).1
  | _ => s

/-- R37: the orders of a SERVICE ON refused by the first line, the upper end's before the lower's. DEDUCED (log entry 17). -/
def State.tidy (s : State) (k : Chamber) : State :=
  (((s.tidySluice (.chamber k .upper)).tidySluice (.chamber k .lower)).tidyGate k .upper).tidyGate k .lower

/-- R38: a chamber taken into service in a state found; its running lamp test ends (R126). -/
def State.intoService (s : State) (k : Chamber) (c : ChamberState) : State :=
  let t := s.cutTest k
  t.setChamber k { t.chamber k with state := c, pendingOrder := none, water := none }

/-- SERVICE ON (R37, R38). -/
def judgeServiceOn (st : Station) (k : Chamber) (s : State) : Judged :=
  s.judged st (.conductor k) fun s =>
    if s.store.defaulted || decide ((s.chamber k).state ≠ .outOfService) then s.refuse .state
    else
      match s.inspect k with
      | .stray => (s.tidy k).done .state
      | .refused => s.refuse .state
      | .midLevel => s.refuse .state [.byte 0]
      | .found c => ((s.intoService k c).push (.rest k)).done .ok
      | .empties => (((s.intoService k .empty).openWater k .empty).enterPhase k .empty).done .ok

/-- SERVICE ON. -/
def execServiceOn (st : Station) (k : Chamber) (s : State) : Host.Outcome State Fault Refusal :=
  s.exchange st 0x33 (judgeServiceOn st k)

/-- R39: a chamber's sequencer taken out of service; its mode is kept. -/
def Sequencer.outOfService (c : Sequencer) : Sequencer := { mode := c.mode }

/-- R39: the five steps of SERVICE OFF. -/
def State.serviceOff (s : State) (st : Station) (k : Chamber) : State :=
  let t := (s.unbind k st).leaveCross k (.serviceOff k)
  let t := ((t.shutBoth k).stopMoving k .upper).stopMoving k .lower
  let t := t.closeWater k false
  t.setChamber k (t.chamber k).outOfService

/-- R39: a batch that is no longer BOUND keeps its chamber in service. -/
def State.inFlight (s : State) (k : Chamber) : Bool :=
  match s.batch k with
  | some b => decide (b.state ≠ .bound)
  | none => false

/-- SERVICE OFF (R39). -/
def judgeServiceOff (st : Station) (k : Chamber) (s : State) : Judged :=
  s.judged st (.conductor k) fun s =>
    if (s.chamber k).state = .outOfService then s.refuse .state
    else if s.inFlight k then s.refuse .inFlight
    else (s.serviceOff st k).done .ok

/-- SERVICE OFF. -/
def execServiceOff (st : Station) (k : Chamber) (s : State) : Host.Outcome State Fault Refusal :=
  s.exchange st 0x33 (judgeServiceOff st k)

/-! ## Mode (R40) -/

/-- SET MODE (R40). -/
def judgeSetMode (st : Station) (k : Chamber) (m : Mode) (s : State) : Judged :=
  s.judged st (.conductor k) fun s =>
    if (s.chamber k).mode = m then s.report []
    else
      match m with
      | .directed => (s.setChamber k { s.chamber k with mode := .directed, pendingOrder := none }).done .ok
      | .automatic => ((s.setChamber k { s.chamber k with mode := .automatic }).push (.rest k)).done .ok

/-- SET MODE. -/
def execSetMode (st : Station) (k : Chamber) (m : Mode) (s : State) : Host.Outcome State Fault Refusal :=
  s.exchange st 0x32 (judgeSetMode st k m)

/-! ## Halt and resume (R50, R53, R54) -/

/-- HALT (R50). -/
def judgeHalt (st : Station) (k : Chamber) (s : State) : Judged :=
  s.judged st (.anyOf k) fun s =>
    match (s.chamber k).state with
    | .outOfService => s.refuse .state
    | .halted => s.report []
    | _ => (s.haltChamber k .request none (.halt k)).done .ok

/-- HALT. -/
def execHalt (st : Station) (k : Chamber) (s : State) : Host.Outcome State Fault Refusal :=
  s.exchange st 0x34 (judgeHalt st k)

/-- R53: the end and the movement of a closing or opening state: `true` is opening. -/
def ChamberState.gateMove : ChamberState → Option (Side × Bool)
  | .lowClosing => some (.lower, false)
  | .highClosing => some (.upper, false)
  | .lowOpening => some (.lower, true)
  | .highOpening => some (.upper, true)
  | _ => none

/-- R53: the kind a fill or empty, or its wait or cross phase, resumes as. -/
def ChamberState.waterKind : ChamberState → Option WaterKind
  | .fillWait => some .fill
  | .fillCross => some .fill
  | .fill => some .fill
  | .emptyWait => some .empty
  | .emptyCross => some .empty
  | .empty => some .empty
  | _ => none

/-- R53: a HALTED chamber returned to a state. -/
def State.restore (s : State) (k : Chamber) (c : ChamberState) : State :=
  s.setChamber k { s.chamber k with state := c, interrupted := none, haltCause := none, pendingOrder := none }

/-- R54: the fill or empty that re-levels a chamber at the gate it was opening. -/
def relevelKind : Side → WaterKind
  | .upper => .fill
  | .lower => .empty

/-- R31: the first order of a sluice's ramp has been refused, with the clause. -/
def State.firstRefused (s : State) (q : Sluice) : Option Clause :=
  match (s.sluice q).ramp with
  | some r =>
    match r.first, r.waiting with
    | true, .retry c => some c
    | _, _ => none
  | none => none

/-- R53: a resume whose re-issued order is that of a ramp: in DIRECTED a refused first order refuses the request. -/
def State.resumePhase (s t : State) (k : Chamber) (kind : WaterKind) : Judged :=
  match (if (s.chamber k).mode = .directed then t.firstRefused (.chamber k kind.side) else none) with
  | some c => s.interlocked c
  | none => t.done .ok

/-- R53: RESUME in the interrupted state `c`. -/
def State.resumeAs (s : State) (k : Chamber) (c : ChamberState) : Judged :=
  match c.gateMove, c.waterKind with
  | some (e, false), _ =>
    let p := (s.restore k c).closeGate k e
    (p.1.noteComplete k e p.2).done .ok
  | some (e, true), _ =>
    if s.pairEqualised (.across e k) then
      match (s.restore k c).openGate k e with
      | (t, .refused x) =>
        if (s.chamber k).mode = .directed then s.interlocked x
        else (t.setChamber k { t.chamber k with pendingOrder := some (e, x) }).done .ok
      | (t, r) => (t.noteComplete k e r).done .ok
    else if (s.chamber k).mode = .directed then ((s.restore k (shutState e)).push (.rest k)).done .ok
    else
      (((s.restore k (relevelKind e).phase).openWater k (relevelKind e)).enterPhase k (relevelKind e)).done .ok
  | none, some kind => s.resumePhase ((s.restore k kind.phase).enterPhase k kind) k kind
  | none, none => ((s.restore k c).push (.rest k)).done .ok

/-- RESUME (R53, R54). -/
def judgeResume (st : Station) (k : Chamber) (s : State) : Judged :=
  s.judged st (.conductor k) fun s =>
    match (s.chamber k).state, (s.chamber k).interrupted with
    | .halted, some c => s.resumeAs k c
    | _, _ => s.refuse .state

/-- RESUME. -/
def execResume (st : Station) (k : Chamber) (s : State) : Host.Outcome State Fault Refusal :=
  s.exchange st 0x35 (judgeResume st k)

/-! ## Directed gate orders (R58) -/

/-- R58: GATE OPEN judged for a gate of a DIRECTED chamber. -/
def State.directOpen (s : State) (k : Chamber) (e : Side) : Judged :=
  let c := (s.chamber k).state
  if c = shutState e ∨ c = closingState e then
    match s.openGate k e with
    | (_, .refused x) => s.interlocked x
    | (t, r) => ((t.setChamberState k (openingState e)).noteComplete k e r).done .ok
  else if c = openingState e ∨ c = openState e then s.report []
  else s.refuse .state

/-- GATE OPEN (R58). -/
def judgeGateOpen (st : Station) (k : Chamber) (e : Side) (s : State) : Judged :=
  s.directed st k fun s => s.directOpen k e

/-- GATE OPEN. -/
def execGateOpen (st : Station) (k : Chamber) (e : Side) (s : State) : Host.Outcome State Fault Refusal :=
  s.exchange st 0x3A (judgeGateOpen st k e)

/-- R58: the batch keeps this gate open: ENTERING at its entry gate, LEAVING at its exit gate. -/
def State.gateKept (s : State) (k : Chamber) (e : Side) : Bool :=
  match s.batch k with
  | some b =>
    (decide (b.state = .entering) && decide (b.direction.entryEnd = e))
      || (decide (b.state = .leaving) && decide (b.direction.exitEnd = e))
  | none => false

/-- R58: GATE CLOSE judged for a gate of a DIRECTED chamber. A gate that the batch keeps open is refused in every state of
the chamber. DEDUCED (log entry 40). -/
def State.directClose (s : State) (k : Chamber) (e : Side) : Judged :=
  let c := (s.chamber k).state
  if s.gateKept k e then s.refuse .state
  else if c = openState e ∨ c = openingState e then (s.sequenceClose k e).done .ok
  else if c = closingState e ∨ c = shutState e then s.report []
  else s.refuse .state

/-- GATE CLOSE (R58). -/
def judgeGateClose (st : Station) (k : Chamber) (e : Side) (s : State) : Judged :=
  s.directed st k fun s => s.directClose k e

/-- GATE CLOSE. -/
def execGateClose (st : Station) (k : Chamber) (e : Side) (s : State) : Host.Outcome State Fault Refusal :=
  s.exchange st 0x3A (judgeGateClose st k e)

/-- GATE STOP (R58): it halts the chamber when a gate of it is moving, whichever gate the request names. -/
def judgeGateStop (st : Station) (k : Chamber) (_e : Side) (s : State) : Judged :=
  s.directed st k fun s =>
    if (s.gate k .upper).state.moving || (s.gate k .lower).state.moving then
      (s.haltChamber k .request none (.halt k)).done .ok
    else s.report []

/-- GATE STOP. -/
def execGateStop (st : Station) (k : Chamber) (e : Side) (s : State) : Host.Outcome State Fault Refusal :=
  s.exchange st 0x3A (judgeGateStop st k e)

/-! ## Directed fills, empties and sluices (R59, R60) -/

/-- R59: a request whose first ramp order was refused returns the chamber to its rest state, its water record discarded. -/
def State.undoPhase (s : State) (k : Chamber) (kind : WaterKind) : State :=
  let t := s.setRamp (.chamber k kind.side) none
  t.setChamber k { t.chamber k with state := kind.other.ends, phase := none, water := none }

/-- The chamber's open water record holds a cross phase. -/
def Sequencer.crossed (c : Sequencer) : Bool := c.water.any (·.crossed)

/-- R59: the reply of a directed fill or empty, once the phase has been entered or offered. Where the request's own pairing finds
C1 and C2 EQUALISED, the chamber enters FILL or EMPTY in the request and at the end of a cross phase; a refused first order then
waits, as it does at the end of any cross phase, and the reply is OK. DESIGN CHOICE (log entry 75). -/
def State.phaseReply (t : State) (k : Chamber) (kind : WaterKind) (o : ReplyOutcome) : Judged :=
  match (if (t.chamber k).crossed then none else t.firstRefused (.chamber k kind.side)) with
  | some c => ((t.undoPhase k kind).finish, some (.interlock, [.byte c.code]))
  | none => t.done o

/-- R59: a directed FILL or EMPTY. -/
def State.directPhase (s : State) (k : Chamber) (kind : WaterKind) (cross : Bool) : Judged :=
  if (s.chamber k).state = kind.other.ends then
    let t := s.openWater k kind
    (if cross then t.offer k kind else t.enterPhase k kind).phaseReply k kind .ok
  else s.refuse .state

/-- FILL (R59). -/
def judgeFill (st : Station) (k : Chamber) (cross : Bool) (s : State) : Judged :=
  s.directed st k fun s => s.directPhase k .fill cross

/-- FILL. -/
def execFill (st : Station) (k : Chamber) (cross : Bool) (s : State) : Host.Outcome State Fault Refusal :=
  s.exchange st 0x3B (judgeFill st k cross)

/-- EMPTY (R59). -/
def judgeEmpty (st : Station) (k : Chamber) (cross : Bool) (s : State) : Judged :=
  s.directed st k fun s => s.directPhase k .empty cross

/-- EMPTY. -/
def execEmpty (st : Station) (k : Chamber) (cross : Bool) (s : State) : Host.Outcome State Fault Refusal :=
  s.exchange st 0x3C (judgeEmpty st k cross)

/-- R60: the kind of phase a sluice of an end works for. -/
def kindAt : Side → WaterKind
  | .upper => .fill
  | .lower => .empty

/-- R60: OK, or LIMITED when the head limit lowers the step. -/
def State.rampOutcome (s : State) (q : Sluice) (step : Nat) : ReplyOutcome :=
  if s.headLimit q < step then .limited else .ok

/-- R60: a phase entered by SLUICE: it ends at once on an EQUALISED pair (R45), else the port ramps the sluice. -/
def State.sluicePhase (s : State) (st : Station) (k : Chamber) (kind : WaterKind) (step : Nat) : State :=
  let t := (s.openWater k kind).beginPhase k kind
  let q : Sluice := .chamber k kind.side
  if t.pairEqualised (.across kind.side k) then t.endPhase k kind
  else t.startRamp q (.station st) (min step (t.headLimit q))

/-- R60: SLUICE above 0 in FILL or EMPTY: a ramp upward from the last reported step, or a single MOVE; a step equal to it is a
single MOVE too. DESIGN CHOICE (log entry 48). -/
def State.sluiceWithin (s : State) (st : Station) (q : Sluice) (step : Nat) : Judged :=
  if ((s.sluice q).step.getD (min 8 Config.startWithoutStep)) < step then
    let t := s.startRamp q (.station st) (min step (s.headLimit q))
    match t.firstRefused q with
    | some c => s.interlocked c
    | none => t.done (s.rampOutcome q step)
  else
    match s.orderSluice q step with
    | (_, .refused c) => s.interlocked c
    | (t, _) => t.done .ok

/-- R60: SLUICE of a chamber sluice to a step of 0 to 8. -/
def State.directSluice (s : State) (st : Station) (k : Chamber) (e : Side) (step : Nat) : Judged :=
  let q : Sluice := .chamber k e
  if step = 0 then (s.shutSluice q).done .ok
  else if (s.chamber k).state = (kindAt e).phase then s.sluiceWithin st q step
  else if (s.chamber k).state = (kindAt e).other.ends then
    (s.sluicePhase st k (kindAt e) step).phaseReply k (kindAt e) (s.rampOutcome q step)
  else s.refuse .state

/-- SLUICE (R60): the cross sluice, or a step above 8, is refused RANGE. -/
def judgeSluice (st : Station) (k : Chamber) (which : SluiceChoice) (step : Nat) (s : State) : Judged :=
  s.directed st k fun s =>
    match which with
    | .cross => s.outOfRange 2
    | .upper => if 8 < step then s.outOfRange 3 else s.directSluice st k .upper step
    | .lower => if 8 < step then s.outOfRange 3 else s.directSluice st k .lower step

/-- SLUICE. -/
def execSluice (st : Station) (k : Chamber) (which : SluiceChoice) (step : Nat) (s : State) :
    Host.Outcome State Fault Refusal :=
  s.exchange st 0x3D (judgeSluice st k which step)

/-! ## Reading a chamber (R63) -/

/-- R63: a halt cause as two bytes: the choice HALT request 0, fault 1, LINK_LOST 2, and the fault kind, all ones where there is
none. DESIGN CHOICE (log entry 61). -/
def haltFields : Option HaltCause → List WireField
  | none => [.byte 0xFF, .byte 0xFF]
  | some .request => [.byte 0, .byte 0xFF]
  | some (.fault f) => [.byte 1, .byte f.code]
  | some .linkLost => [.byte 2, .byte 0xFF]

/-- R63: a pending order: its gate, the order OPEN, and the refusing clause. -/
def pendingFields (k : Chamber) : Option (Side × Clause) → List WireField
  | none => [.byte 0xFF, .byte 0xFF, .byte 0xFF]
  | some (e, c) => [.byte (Actuator.gate k e).number, .byte 0, .byte c.code]

/-- R63: a water record: kind, start level, cross end level. -/
def waterFields (w : Option WaterRec) : List WireField :=
  [byteOr (w.map (·.kind.code)), halfOr (w.bind (·.start)), halfOr (w.bind (fun x => if x.crossed then x.crossEnd else none))]

/-- R63: the seconds until an expiry, rounded down, or stopped. -/
def State.remaining (s : State) (t : Option Nat) : WireField := halfOr (t.map (fun x => (x - s.now) / secondMs))

/-- R63: a sluice as READ CHAMBER gives it; one that is not present is absent in every field. -/
def State.sluiceFields (s : State) (q : Sluice) : List WireField :=
  if s.sluicePresent q then
    let r := s.sluice q
    [.byte r.state.code, byteOr r.step, byteOr (r.ramp.map (·.endStep)), byteOr (r.ramp.map (·.waiting.code))]
  else [byteOr none, byteOr none, byteOr none, byteOr none]

/-- READ CHAMBER (R63). Its four flags slow raised, entry overdue, clear-out and leave overdue are carried as yes 1 and no 0:
DEDUCED (log entry 55). The phase timer's seconds run are rounded down: DESIGN CHOICE (log entry 70). -/
def judgeReadChamber (st : Station) (k : Chamber) (s : State) : Judged :=
  s.judged st (.anyOf k) fun s =>
    let c := s.chamber k
    s.report
      ([.byte c.state.code, .byte c.mode.code, byteOr (c.interrupted.map ChamberState.code)] ++ haltFields c.haltCause
        ++ [halfOr (s.batchNumber k), byteOr ((s.batch k).map (·.state.code)), byteOr ((s.wish k).map (·.kind.code))]
        ++ pendingFields k c.pendingOrder ++ waterFields c.water
        ++ [halfOr (c.phase.map (fun p => (s.now - p.start) / secondMs)), yesNo c.slowRaised,
          s.remaining c.entry, yesNo c.entryOverdue, s.remaining (c.leave.map (·.expiry)), yesNo c.clearOut,
          yesNo c.leaveOverdue, .byte (s.gate k .upper).state.code, .byte (s.gate k .lower).state.code]
        ++ s.sluiceFields (.chamber k .upper) ++ s.sluiceFields (.chamber k .lower) ++ s.sluiceFields .cross
        ++ [holderField (s.holder k)])

/-- READ CHAMBER. -/
def execReadChamber (st : Station) (k : Chamber) (s : State) : Host.Outcome State Fault Refusal :=
  s.exchange st 0x40 (judgeReadChamber st k)

/-! ## The chamber timers (R46, R47, R49) -/

/-- FILL_SLOW (R46): once in a phase. -/
def execFillSlow (k : Chamber) (s : State) : Host.Outcome State Fault Refusal :=
  match (s.chamber k).phase with
  | some p =>
    if (s.chamber k).slowRaised then .next s
    else
      let t := ((s.reach (p.start + p.limit)).raiseFault .fillSlow (.chamber k)).raiseAll .fillSlow
      .next (t.setChamber k { t.chamber k with slowRaised := true })
  | none => .next s

/-- EQUALISE_TIMEOUT (R46, R51). -/
def execEqualiseTimeout (k : Chamber) (s : State) : Host.Outcome State Fault Refusal :=
  match (s.chamber k).phase with
  | some p =>
    .next ((((s.reach (p.start + 2 * p.limit)).raiseFault .equaliseTimeout (.chamber k)).faultHalt k .equaliseTimeout
      none).finish)
  | none => .next s

/-- ENTRY_OVERDUE (R47). The expired timer reads stopped. DESIGN CHOICE (log entry 50). -/
def execEntryOverdue (k : Chamber) (s : State) : Host.Outcome State Fault Refusal :=
  match (s.chamber k).entry with
  | some t =>
    .next ((((s.reach t).setChamber k { s.chamber k with entry := none, entryOverdue := true }).raiseAll
      .entryOverdue).finish)
  | none => .next s

/-- CLEAR_OUT (R49). -/
def execClearOut (k : Chamber) (s : State) : Host.Outcome State Fault Refusal :=
  match (s.chamber k).leave with
  | some l =>
    if (s.chamber k).clearOut then .next s
    else .next (((s.reach l.clearAt).setChamber k { s.chamber k with clearOut := true }).finish)
  | none => .next s

/-- LEAVE_OVERDUE (R49): clear-out is set too (DEDUCED, log entry 42). The expired timer reads stopped. DESIGN CHOICE (log
entry 50). -/
def execLeaveOverdue (k : Chamber) (s : State) : Host.Outcome State Fault Refusal :=
  match (s.chamber k).leave with
  | some l =>
    .next ((((s.reach l.expiry).setChamber k
      { s.chamber k with leave := none, clearOut := true, leaveOverdue := true }).raiseAll .leaveOverdue).finish)
  | none => .next s

/-! ## The cross arbiter's timers (R66, R70) -/

/-- WISH_EXPIRY (R66): the wish is withdrawn and its chamber proceeds alone. -/
def execWishExpiry (k : Chamber) (s : State) : Host.Outcome State Fault Refusal :=
  match s.wish k with
  | some w => .next (((s.reach w.expiry).proceedAlone k).finish)
  | none => .next s

/-- CROSS_SLOW (R70): the phase timer reaches CROSS_LIMIT while ENGAGED. -/
def execCrossSlow (s : State) : Host.Outcome State Fault Refusal :=
  match s.arbiter.owner, s.arbiter.timer with
  | .engaged, some t =>
    .next ((((s.reach t).raiseFault .crossSlow (.sluice .cross)).closeCross .limit).finish)
  | _, _ => .next s

end Sys2Proof.Machine
end

