-- ==== Sys2Proof/Machine/Stations.lean ====
section
/-! DEFINITION. Conduct, link loss, notices and the fault capture record: the commands of Stations, Conduct and Notices. -/

namespace Sys2Proof.Machine

/-! ## Conduct (R165, R166) -/

/-- R165: a chamber is moving, for the cabin-against-cabin test. -/
def State.chamberMoving (s : State) (k : Chamber) : Bool :=
  (s.gate k .upper).state.moving || (s.gate k .lower).state.moving
    || decide ((s.sluice (.chamber k .upper)).state = .moving) || decide ((s.sluice (.chamber k .lower)).state = .moving)
    || (decide ((s.chamber k).underlying = .fillCross ∨ (s.chamber k).underlying = .emptyCross)
      && decide (s.drive.crossSluice.state = .moving))

/-- A change of conduct with its CONDUCT frame. -/
def State.changeHolder (s : State) (k : Chamber) (new : Option Station) (c : ConductCause) : State :=
  (s.setHolder k new).write (.conduct k (s.holder k) new c)

/-- R165: a take-over from `old` by `st`. -/
def State.takeOver (s : State) (k : Chamber) (old st : Station) : Judged :=
  ((s.changeHolder k (some st) .takeOver).raiseAt old .conductTaken).done .ok [holderField (some st)]

/-- CLAIM (R165). -/
def judgeClaim (st : Station) (k : Chamber) (s : State) : Judged :=
  s.judged st (.anyOf k) fun s =>
    match s.holder k with
    | none => (s.changeHolder k (some st) .claim).done .ok [holderField (some st)]
    | some old =>
      if old = st then s.report [holderField (some st)]
      else if old = .tc then s.takeOver k old st
      else if st = .tc then s.refuse .noConduct [holderField (some old)]
      else if s.chamberMoving k then s.refuse .busy [holderField (some old)]
      else s.takeOver k old st

/-- RELEASE CONDUCT (R166). -/
def judgeReleaseConduct (st : Station) (k : Chamber) (s : State) : Judged :=
  s.judged st (.anyOf k) fun s =>
    if s.holder k = some st then (s.changeHolder k none .release).done .ok
    else s.refuse .noConduct [holderField (s.holder k)]

/-- CLAIM. -/
def execClaim (st : Station) (k : Chamber) (s : State) : Host.Outcome State Fault Refusal :=
  s.exchange st 0x30 (judgeClaim st k)

/-- RELEASE CONDUCT. -/
def execReleaseConduct (st : Station) (k : Chamber) (s : State) : Host.Outcome State Fault Refusal :=
  s.exchange st 0x31 (judgeReleaseConduct st k)

/-! ## Link loss (R164, R62) -/

/-- R164, first step: a chamber the lost station holds loses its conductor. -/
def State.loseConduct (s : State) (st : Station) (k : Chamber) : State :=
  if s.holder k = some st then s.changeHolder k none .lost else s

/-- R164, second step, R62: a DIRECTED chamber that was held is halted. -/
def State.lostHalt (s old : State) (st : Station) (k : Chamber) : State :=
  if decide (old.holder k = some st) && decide ((s.chamber k).mode = .directed) && (s.chamber k).state.live then
    s.haltChamber k .linkLost none (.halt k)
  else s

/-- R164: the loss of a station; of its chambers to halt, chamber 1 is halted before chamber 2 (DESIGN CHOICE, log entry 71). -/
def State.loseLink (s : State) (st : Station) : State :=
  let t := s.setStation st { s.station st with link := .lost, silence := none }
  let t := (t.loseConduct st .c1).loseConduct st .c2
  let t := (t.lostHalt s st .c1).lostHalt s st .c2
  (t.raiseFault .linkLost (.station st)).finish

/-- LINK_LOST (R164): the silence timer of a PRESENT station expires. -/
def execLinkLost (st : Station) (s : State) : Host.Outcome State Fault Refusal :=
  match (s.station st).link, (s.station st).silence with
  | .present, some t => .next ((s.reach t).loseLink st)
  | _, _ => .next s

/-! ## Notices and the attention line (R169 to R171) -/

/-- READ NOTICES (R169, R178): the set, masked kinds included, with BAD_FRAMES; the set is emptied. -/
def judgeReadNotices (st : Station) (s : State) : Judged :=
  s.judged st .any fun s =>
    let r := s.station st
    (s.setStation st ({ r with notices := [] }.driveLevel),
      some (.ok, [.half (noticeBits r.notices), .half r.badFrames]))

/-- READ NOTICES. -/
def execReadNotices (st : Station) (s : State) : Host.Outcome State Fault Refusal := s.exchange st 0x60 (judgeReadNotices st)

/-- SET NOTICE MASK (R170). -/
def judgeSetNoticeMask (st : Station) (enabled : List NoticeKind) (s : State) : Judged :=
  s.judged st .any fun s =>
    (s.setStation st ({ s.station st with enabled := NoticeKind.all.filter enabled.contains }.driveLevel), some (.ok, []))

/-- SET NOTICE MASK. -/
def execSetNoticeMask (st : Station) (enabled : List NoticeKind) (s : State) : Host.Outcome State Fault Refusal :=
  s.exchange st 0x61 (judgeSetNoticeMask st enabled)

/-- R171: a station's attention mode set. -/
def StationRec.setAttention (r : StationRec) (m : AttentionMode) : StationRec :=
  if r.attention = m then r
  else
    match m with
    | .level => { r with attention := .level, pulse := none }.driveLevel
    | .pulse => { r with attention := .pulse, line := false }

/-- SET ATTENTION MODE (R171). -/
def judgeSetAttentionMode (st : Station) (m : AttentionMode) (s : State) : Judged :=
  s.judged st .any fun s => (s.setStation st ((s.station st).setAttention m), some (.ok, []))

/-- SET ATTENTION MODE. -/
def execSetAttentionMode (st : Station) (m : AttentionMode) (s : State) : Host.Outcome State Fault Refusal :=
  s.exchange st 0x62 (judgeSetAttentionMode st m)

/-- ATTENTION_PULSE_END (R171). -/
def execAttentionPulseEnd (st : Station) (s : State) : Host.Outcome State Fault Refusal :=
  match (s.station st).pulse with
  | some t => .next ((s.reach t).setStation st { s.station st with line := false, pulse := none })
  | none => .next s

/-! ## The fault capture record (R174) -/

/-- A body's view in a READ FAULT reply. -/
def viewFields (v : Option BodyView) : List WireField :=
  [byteOr (v.map (·.body.code)), halfOr (v.bind (·.level)), byteOr (v.map (·.state.code))]

/-- R174: the fields of a captured fault. -/
def Captured.fields (c : Captured) : List WireField :=
  [.byte c.kind.code, .byte c.kind.severity] ++ c.subject.fields ++ timeFields c.time ++ viewFields c.first
    ++ viewFields c.second ++ [byteOr (c.chamber.map ChamberState.code)]

/-- READ FAULT (R174). -/
def judgeReadFault (st : Station) (s : State) : Judged :=
  s.judged st .any fun s =>
    s.report
      ([yesNo s.capture.record.isSome] ++ ((s.capture.record.map Captured.fields).getD [])
        ++ [setClear s.capture.moreHard, setClear s.capture.moreSoft])

/-- READ FAULT. -/
def execReadFault (st : Station) (s : State) : Host.Outcome State Fault Refusal := s.exchange st 0x63 (judgeReadFault st)

/-- CLEAR FAULT (R174). -/
def judgeClearFault (st : Station) (s : State) : Judged :=
  s.judged st .any fun s => ({ s with capture := {} }, some (.ok, []))

/-- CLEAR FAULT. -/
def execClearFault (st : Station) (s : State) : Host.Outcome State Fault Refusal := s.exchange st 0x64 (judgeClearFault st)

end Sys2Proof.Machine
end

