-- ==== Sys2Proof/Machine/Reports.lean ====
section
/-! DEFINITION. The drive line: polling cycles, echoes, drive reports, the STATUS query and the movement timers (R17, R18,
R20 to R22, R24, R25, R27, R31). -/

namespace Sys2Proof.Machine

/-! ## Polling and echoes (R17) -/

/-- R17: the outstanding report poll is that of this drive, which is present. A report that answers no such poll is discarded.
DEDUCED (log entry 10). -/
def State.polled (s : State) (a : Actuator) : Bool := s.actuatorPresent a && decide (s.drive.polls.head? = some a)

/-- R17: the outstanding report poll closes, and the next drive's is sent. -/
def State.pollClosed (s : State) : State := { s with drive.polls := s.drive.polls.tail }

/-- The first order of a drive that awaits its echo, and the list without it. -/
def takeSent (a : Actuator) : List Sent → Option (Sent × List Sent)
  | [] => none
  | x :: xs => if x.actuator = a then some (x, xs) else (takeSent a xs).map (fun p => (p.1, x :: p.2))

/-- The end of an event of a drive: the kept orders that it could let pass are asked again (R30), and only then does the completion
go to its sequencer or the arbiter. DESIGN CHOICE (log entry 68). -/
def State.driveEvent (s : State) (a : Actuator) : State := (s.retries (.drive a)).finish

/-! ## Gate reports (R20, R21) -/

/-- A gate's position from a REACHED report. -/
def gatePosition : GateReport → Option GateState
  | .closedReached => some .closed
  | .openReached => some .opened
  | _ => none

/-- The outcome of the MOVE frame of a REACHED position. -/
def reachedOutcome : GateState → MoveOutcome
  | .opened => .reachedOpen
  | _ => .reachedClosed

/-- R20: the position an ordered movement ends at. -/
def GateMove.ends : GateMove → GateState
  | .opn => .opened
  | .cls => .closed

/-- R21: the LEFT report of the end a movement started at. -/
def GateMove.leaves : GateMove → GateReport
  | .opn => .leftClosed
  | .cls => .leftOpen

/-- R20, R21: the gate takes a reported position, with its MOVE frame, and its chamber is told. -/
def State.gateReaches (s : State) (k : Chamber) (e : Side) (x : GateState) : State :=
  ((s.setGate k e { s.gate k e with state := x, outstanding := none, lastMove := none, timer := none }).moveFrame (.gate k e)
    (reachedOutcome x)).push (.gateDone k e)

/-- R21: UNEXPECTED_MOVE to a reported position. -/
def State.unexpectedReach (s : State) (k : Chamber) (e : Side) (x : GateState) : State :=
  ((((s.setGate k e { s.gate k e with state := x, lastMove := none }).raiseFault .unexpectedMove (.gate k e)).moveFrame
    (.gate k e) (reachedOutcome x)).push (.gateDone k e)).faultHalt k .unexpectedMove none

/-- R21: UNEXPECTED_MOVE away from the held position: STOPPED, with STOP sent. -/
def State.unexpectedLeft (s : State) (k : Chamber) (e : Side) : State :=
  ((((s.setGate k e { s.gate k e with state := .stopped }).send (.gate k e) .stop).raiseFault .unexpectedMove
    (.gate k e)).moveFrame (.gate k e) .stopped).faultHalt k .unexpectedMove none

/-- R22: a DRIVE_FAULT, in any state but STALLED. -/
def State.gateDriveFault (s : State) (k : Chamber) (e : Side) : State :=
  match (s.gate k e).state with
  | .stalled => s
  | _ => (s.stallGate k e).faultHalt k .gateStall none

/-- R21: a report from a gate with no outstanding order, by its state. -/
def State.idleReport (s : State) (k : Chamber) (e : Side) (r : GateReport) : State :=
  let g := s.gate k e
  match g.state, gatePosition r with
  | .closed, some .closed => s
  | .closed, some x => s.unexpectedReach k e x
  | .closed, none => s.unexpectedLeft k e
  | .opened, some .opened => s
  | .opened, some x => s.unexpectedReach k e x
  | .opened, none => s.unexpectedLeft k e
  | .stopped, some x => if g.lastMove.isSome then s.gateReaches k e x else s.unexpectedReach k e x
  | .stopped, none => if g.lastMove.map GateMove.leaves = some r then s else s.unexpectedLeft k e
  | .stalled, some x => s.gateReaches k e x
  | _, _ => s

/-- R20 to R22: a gate drive's report applied; a report from an UNKNOWN gate is discarded (R27). -/
def State.applyGateReport (s : State) (k : Chamber) (e : Side) (r : GateReport) : State :=
  let g := s.gate k e
  if g.state = .unknown then s
  else if r = .driveFault then s.gateDriveFault k e
  else
    match g.outstanding with
    | some m => if gatePosition r = some m.ends then s.gateReaches k e m.ends else s
    | none => s.idleReport k e r

/-! ## Sluice reports (R24) -/

/-- SHUT at step 0, HELD above it. -/
def sluiceAt (step : Nat) : SluiceState := if step = 0 then .shut else .held

/-- R18, R45, R71: the owner of a sluice looks whether it is SHUT. -/
def State.noteSluice (s : State) (q : Sluice) : State :=
  match q with
  | .chamber k _ => s.push (.phaseDone k)
  | .cross => s.push .crossShut

/-- R24: a sluice's movement completes at a step, and its ramp goes on (R31). -/
def State.sluiceReaches (s : State) (q : Sluice) (step : Nat) : State :=
  (((s.setSluice q
      { s.sluice q with
        state := sluiceAt step, step := some step, target := none, superseded := none, timer := none }).moveFrame (.sluice q)
    (.reachedStep step)).rampReached q step).noteSluice q

/-- R24: SLUICE_POSITION: the sluice is FAULT at the reported step, and its ramp ends (R33). -/
def State.sluicePosition (s : State) (q : Sluice) (step : Nat) : State :=
  (((s.setSluice q
      { s.sluice q with
        state := .fault, step := some step, target := none, superseded := none, timer := none, ramp := none }).raiseFault
    .sluicePosition (.sluice q)).moveFrame (.sluice q) (.reachedStep step)).sluiceFault q .sluicePosition

/-- R24: REACHED(step) applied to a sluice. -/
def State.applySluiceReport (s : State) (q : Sluice) (step : Nat) : State :=
  let r := s.sluice q
  match r.state with
  | .moving =>
    if r.target = some .stop ∨ r.target = some (.step step) then s.sluiceReaches q step
    else if r.superseded = some step then s.setSluice q { r with step := some step, superseded := none }
    else s.sluicePosition q step
  | .shut => if r.step = some step then s else s.sluicePosition q step
  | .held => if r.step = some step then s else s.sluicePosition q step
  | .fault => s.setSluice q { r with step := some step }
  | .unknown => s

/-! ## The STATUS query (R27) -/

/-- R27: the answer "fault" from a drive, with a sluice's step if it is answered. -/
def State.statusFault (s : State) (a : Actuator) (step : Option Nat) : State :=
  match a with
  | .gate k e => ((s.setGate k e { state := .stalled }).raiseFault .gateStall (.gate k e)).faultHalt k .gateStall none
  | .sluice q =>
    ((s.setSluice q { state := .fault, step := step }).raiseFault .sluiceStall (.sluice q)).sluiceFault q .sluiceStall

/-- R27: an actuator's state set from its drive's answer; `none` when the drive cannot give this answer. -/
def State.statusOf (s : State) (a : Actuator) (x : StatusAnswer) : Option State :=
  match a, x with
  | .gate k e, .closed => some (s.setGate k e { state := .closed })
  | .gate k e, .opened => some (s.setGate k e { state := .opened })
  | .gate k e, .intermediate => some (s.setGate k e { state := .stopped })
  | .gate k e, .movingOpen =>
    some (s.setGate k e { state := .opening, outstanding := some .opn, timer := some (s.gateExpiry k e) })
  | .gate k e, .movingClosed =>
    some (s.setGate k e { state := .closing, outstanding := some .cls, timer := some (s.gateExpiry k e) })
  | .gate k e, .fault none => some (s.statusFault (.gate k e) none)
  | .sluice q, .atRest n =>
    if n ≤ 8 then some (s.setSluice q { state := sluiceAt n, step := some n }) else none
  | .sluice q, .moving t n =>
    if t ≤ 8 ∧ n ≤ 8 then
      some (s.setSluice q { state := .moving, step := some n, target := some (.step t), timer := some s.sluiceExpiry })
    else none
  | .sluice q, .fault (some n) => if n ≤ 8 then some (s.statusFault (.sluice q) (some n)) else none
  | .sluice q, .fault none => some (s.statusFault (.sluice q) none)
  | _, _ => none

/-- The STATUS query of a drive leaves the list of the open ones. -/
def State.dropQuery (s : State) (a : Actuator) : State :=
  { s with drive.queries := s.drive.queries.filter (fun q => decide (q.actuator ≠ a)) }

/-- R27: the STATUS query of a drive, while it has no answer. All drives' queries stand open together, so that their answers and
timeouts may come in any order. DESIGN CHOICE (log entry 76). -/
def State.query (s : State) (a : Actuator) : Option Query := s.drive.queries.find? (fun q => decide (q.actuator = a))

/-- R27: a drive's STATUS query, open until now, closes once its actuator's state is set. With the last one the bodies take their
fast causes (R15) and the cross sluice has its start-up (R74). DEDUCED (log entries 41 and 43). -/
def State.closeQuery (s : State) (a : Actuator) : State :=
  let t := (s.dropQuery a).noteFast s
  (if t.statusAnswered then t.crossStartup else t).driveEvent a

/-- R27: no valid answer: the query is repeated once, and then taken as answered "fault" with the step unknown. -/
def State.noStatus (s : State) (a : Actuator) (q : Query) : State :=
  if q.repeated then (s.statusFault a none).closeQuery a
  else
    ({ s with
      drive.queries :=
        s.drive.queries.map (fun x => if x.actuator = a then { x with repeated := true } else x) } : State).finish

/-! ## The commands of the drive line -/

/-- DRIVE_POLL_CYCLE (R17, R27): a cycle starts once every present actuator has left UNKNOWN and the one before has ended. -/
def execDrivePollCycle (s : State) : Host.Outcome State Fault Refusal :=
  if s.leftUnknown && s.drive.polls.isEmpty then
    .next { s with drive.polls := s.presentActuators, drive.cycleStart := some s.now }
  else .next s

/-- GATE_REPORT (R17, R18, R20 to R22). -/
def execGateReport (k : Chamber) (e : Side) (r : GateReport) (s : State) : Host.Outcome State Fault Refusal :=
  if s.polled (.gate k e) then .next ((s.pollClosed.applyGateReport k e r).driveEvent (.gate k e)) else .next s

/-- SLUICE_REPORT (R17, R18, R24). A step above 8 fails the answer's check (R17). -/
def execSluiceReport (q : Sluice) (step : Nat) (s : State) : Host.Outcome State Fault Refusal :=
  if s.polled (.sluice q) then
    if step ≤ 8 then .next ((s.pollClosed.applySluiceReport q step).driveEvent (.sluice q)) else .next s.pollClosed
  else .next s

/-- DRIVE_ANSWER_TIMEOUT (R17): the outstanding report poll closes. -/
def execDriveAnswerTimeout (s : State) : Host.Outcome State Fault Refusal := .next s.pollClosed

/-- NONE_ANSWER (R17): the outstanding report poll closes. -/
def execNoneAnswer (s : State) : Host.Outcome State Fault Refusal := .next s.pollClosed

/-- ORDER_ECHO (R17): the sending is complete. -/
def execOrderEcho (a : Actuator) (s : State) : Host.Outcome State Fault Refusal :=
  match takeSent a s.drive.sent with
  | some (_, rest) => .next { s with drive.sent := rest }
  | none => .next s

/-- R17: a second failed echo is taken as a DRIVE_FAULT of that drive (R22, R25). -/
def State.echoFailed (s : State) (a : Actuator) : State :=
  match a with
  | .gate k e => s.applyGateReport k e .driveFault
  | .sluice q =>
    match (s.sluice q).state with
    | .fault => s
    | .unknown => s
    | _ => (s.stallSluice q).sluiceFault q .sluiceStall

/-- ECHO_TIMEOUT (R17): the order is sent once more, behind the orders to the same drive sent since (DESIGN CHOICE, log entry
46); a second failure is a DRIVE_FAULT. -/
def execEchoTimeout (a : Actuator) (s : State) : Host.Outcome State Fault Refusal :=
  match takeSent a s.drive.sent with
  | some (x, rest) =>
    let t := { s with drive.sent := rest }
    if x.resent then .next ((t.echoFailed a).driveEvent a)
    else .next { s with drive.sent := rest ++ [{ x with resent := true }] }
  | none => .next s

/-- DRIVE_STRAY_BYTES (R17): discarded. -/
def execDriveStrayBytes (_bytes : List Byte) (s : State) : Host.Outcome State Fault Refusal := .next s

/-- STATUS_ANSWER (R27, R74). An answer the drive cannot give is no valid one. -/
def execStatusAnswer (a : Actuator) (x : StatusAnswer) (s : State) : Host.Outcome State Fault Refusal :=
  match s.query a with
  | some q =>
    match s.statusOf a x with
    | some t => .next (t.closeQuery a)
    | none => .next (s.noStatus a q)
  | none => .next s

/-- STATUS_TIMEOUT (R27, R74). -/
def execStatusTimeout (a : Actuator) (s : State) : Host.Outcome State Fault Refusal :=
  match s.query a with
  | some q => .next (s.noStatus a q)
  | none => .next s

/-- GATE_MOVEMENT_TIMEOUT (R22). -/
def execGateMovementTimeout (k : Chamber) (e : Side) (s : State) : Host.Outcome State Fault Refusal :=
  match (s.gate k e).timer with
  | some t => .next ((((s.reach t).stallGate k e).faultHalt k .gateStall none).finish)
  | none => .next s

/-- SLUICE_MOVEMENT_TIMEOUT (R25, R73). -/
def execSluiceMovementTimeout (q : Sluice) (s : State) : Host.Outcome State Fault Refusal :=
  match (s.sluice q).timer with
  | some t => .next ((((s.reach t).stallSluice q).sluiceFault q .sluiceStall).finish)
  | none => .next s

/-- RAMP_INTERVAL_EXPIRY (R31): a ramp that waits on its interval decides its next step. -/
def execRampIntervalExpiry (q : Sluice) (s : State) : Host.Outcome State Fault Refusal :=
  match (s.sluice q).ramp with
  | some r =>
    match r.waiting, s.rampDue r with
    | .interval, some t => .next (((s.reach t).rampDecide q r).finish)
    | _, _ => .next s
  | none => .next s

end Sys2Proof.Machine
end

