-- ==== Sys2Proof/Machine/Register.lean ====
section
/-! DEFINITION. The vessel register's commands and checks: adding, deleting, searching, holds (R78 to R80, R82, R84, R85,
R87, R88). -/

namespace Sys2Proof.Machine

/-! ## Checks (R79) -/

/-- R79: a character a mark may hold: A–Z, 0–9 or space, by its ASCII code. PRESUMED (log entry 74). -/
def markChar (b : Byte) : Bool :=
  let n := b.toNat
  decide (65 ≤ n ∧ n ≤ 90) || decide (48 ≤ n ∧ n ≤ 57) || decide (n = 32)

/-- R79: a mark in range: eight such characters, not all spaces. -/
def markOk (m : List Byte) : Bool := decide (m.length = 8) && m.all markChar && decide (m ≠ blankMark)

/-- R79, the record table: the range of a numeric station field, by its number; exempt is 0 or 1. -/
def fieldRange : Nat → Nat × Nat
  | 4 => (0, 65535)
  | 5 => (50, 4000)
  | 6 => (20, 300)
  | 7 => (30, 600)
  | 8 => (0, 20000)
  | 9 => (0, 1)
  | _ => (0, Config.moneyLimit)

/-- R79: a value of a numeric station field is in its range. -/
def fieldOk (n x : Nat) : Bool := decide ((fieldRange n).1 ≤ x) && decide (x ≤ (fieldRange n).2)

/-- R78, R79: the first argument of ADD VESSEL out of range, in field order, by its field number. -/
def firstBadField (v : VesselArgs) : Option Nat :=
  if !markOk v.mark then some 3
  else
    ([(4, v.operator), (5, v.length), (6, v.beam), (7, v.draught), (8, v.deadweight), (9, v.exempt),
        (10, v.ceiling)].find? (fun p => !fieldOk p.1 p.2)).map (·.1)

/-- The slots of the register, in order. -/
def allSlots : List Nat := List.range Config.slots

/-- R80: the slot of a non-FREE vessel of this mark, other than `but`. -/
def State.markHolder (s : State) (mark : List Byte) (but : Option Nat) : Option Nat :=
  allSlots.find? (fun i => decide (some i ≠ but) && (s.vessel i).nonFree && decide ((s.vessel i).mark = mark))

/-- R78: the next-free slot, the lowest-numbered FREE one. -/
def State.nextFree (s : State) : Option Nat := allSlots.find? (fun i => !(s.vessel i).nonFree)

/-- R78: the record of a vessel just added. -/
def addedVessel (v : VesselArgs) : Vessel :=
  { state := .active, mark := v.mark, operator := v.operator, length := v.length, beam := v.beam, draught := v.draught
    deadweight := v.deadweight, exempt := decide (v.exempt = 1), ceiling := v.ceiling }

/-! ## Adding and deleting -/

/-- ADD VESSEL (R78). -/
def judgeAddVessel (st : Station) (v : VesselArgs) (s : State) : Judged :=
  s.judged st .any fun s =>
    match firstBadField v with
    | some n => s.outOfRange n
    | none =>
      match s.markHolder v.mark none with
      | some i => s.refuse .duplicate [.half i]
      | none =>
        match s.nextFree with
        | some i => (s.setVessel i (addedVessel v), some (.ok, [.half i]))
        | none => s.refuse .full

/-- ADD VESSEL. -/
def execAddVessel (st : Station) (v : VesselArgs) (s : State) : Host.Outcome State Fault Refusal :=
  s.exchange st 0x10 (judgeAddVessel st v)

/-- R82, R87, R88: a request that names a slot: one above 127 is refused RANGE, a FREE one NO_VESSEL. -/
def State.withVessel (s : State) (slot : Nat) (own : Vessel → Judged) : Judged :=
  if Config.slots ≤ slot then s.outOfRange 1
  else if (s.vessel slot).state = .free then s.refuse .noVessel
  else own (s.vessel slot)

/-- DELETE VESSEL (R82). -/
def judgeDeleteVessel (st : Station) (slot : Nat) (s : State) : Judged :=
  s.judged st .any fun s =>
    s.withVessel slot fun v =>
      match v.order with
      | some n => s.refuse .inUse [.half n]
      | none => (s.setVessel slot {}, some (.ok, []))

/-- DELETE VESSEL. -/
def execDeleteVessel (st : Station) (slot : Nat) (s : State) : Host.Outcome State Fault Refusal :=
  s.exchange st 0x11 (judgeDeleteVessel st slot)

/-! ## Search (R84, R85) -/

/-- R84: a vessel matches a search. -/
def seekMatches (q : SeekArgs) (v : Vessel) : Bool :=
  (match v.state with | .free => false | .active => true | .held _ => q.heldToo)
    && (q.care.zip (q.key.zip v.mark)).all (fun p => !p.1 || decide (p.2.1 = p.2.2))
    && (!q.operatorCare || decide (v.operator = q.operator))

/-- R84: a key character marked CARE is none a mark may hold. -/
def badKey (q : SeekArgs) : Bool := (q.care.zip q.key).any (fun p => p.1 && !markChar p.2)

/-- R84: the slots that match, in order. -/
def State.matching (s : State) (q : SeekArgs) : List Nat := allSlots.filter (fun i => seekMatches q (s.vessel i))

/-- R84, R85: the context left with its last slot, and the reply with the number of matching slots. -/
def State.found (s : State) (st : Station) (q : SeekArgs) (slot : Option Nat) : Judged :=
  (s.setStation st { s.station st with context := some ⟨q, slot⟩ },
    some (.ok, [halfOr slot, .half (s.matching q).length]))

/-- SEEK (R84). -/
def judgeSeek (st : Station) (q : SeekArgs) (s : State) : Judged :=
  s.judged st .any fun s => if badKey q then s.outOfRange 1 else s.found st q (s.matching q).head?

/-- SEEK. -/
def execSeek (st : Station) (q : SeekArgs) (s : State) : Host.Outcome State Fault Refusal := s.exchange st 0x12 (judgeSeek st q)

/-- R85: the first matching slot from a place on. -/
def State.seekFrom (s : State) (q : SeekArgs) (last : Option Nat) : Option Nat :=
  match last with
  | some i => (s.matching q).find? (fun j => decide (i < j))
  | none => (s.matching q).head?

/-- SEEK NEXT (R85). -/
def judgeSeekNext (st : Station) (s : State) : Judged :=
  s.judged st .any fun s =>
    match (s.station st).context with
    | none => s.refuse .state
    | some c => s.found st c.query (s.seekFrom c.query c.last)

/-- SEEK NEXT. -/
def execSeekNext (st : Station) (s : State) : Host.Outcome State Fault Refusal := s.exchange st 0x13 (judgeSeekNext st)

/-! ## Holds (R87, R88) -/

/-- A hold cause as a choice: STATION 0, CEILING 1. -/
def HoldCause.code : HoldCause → Nat
  | .station => 0
  | .ceiling => 1

/-- HOLD (R87). -/
def judgeHold (st : Station) (slot : Nat) (s : State) : Judged :=
  s.judged st .any fun s =>
    s.withVessel slot fun v =>
      match v.state with
      | .active => (s.holdVessel slot .station).done .ok
      | .held .ceiling => (s.setVessel slot { v with state := .held .station }, some (.ok, []))
      | _ => s.report []

/-- HOLD. -/
def execHold (st : Station) (slot : Nat) (s : State) : Host.Outcome State Fault Refusal :=
  s.exchange st 0x14 (judgeHold st slot)

/-- RELEASE (R88). -/
def judgeRelease (st : Station) (slot : Nat) (s : State) : Judged :=
  s.judged st .any fun s =>
    s.withVessel slot fun v =>
      match v.state with
      | .held .station =>
        if v.overCeiling then
          (s.setVessel slot { v with state := .held .ceiling }, some (.ok, [.byte HoldCause.ceiling.code]))
        else (s.activate slot).done .ok
      | .held .ceiling => s.refuse .state [.byte HoldCause.ceiling.code]
      | _ => s.report []

/-- RELEASE. -/
def execRelease (st : Station) (slot : Nat) (s : State) : Host.Outcome State Fault Refusal :=
  s.exchange st 0x15 (judgeRelease st slot)

end Sys2Proof.Machine
end

