-- ==== Sys2Proof/Machine/Readings.lean ====
section
/-! DEFINITION. The stations' two requests of the level monitor: FORCE FAST and READ LEVELS (R4, R14). -/

namespace Sys2Proof.Machine

/-- The four bodies in order. -/
def allBodies : List Body := [.up, .lp, .c1, .c2]

/-- The bodies present, in order. -/
def State.presentBodies (s : State) : List Body := allBodies.filter s.bodyPresent

/-! ## FORCE FAST (R4) -/

/-- R4: the force fast flag set or cleared. -/
def State.setForceFast (s : State) (on : Bool) : State := { s with levels.forceFast := on }

/-- R4: what OFF does to one body: a FAST one without a fast cause and without a running hold returns to PRIMARY. Its next round
falls due as R3 has it for a hold's expiry. DESIGN CHOICE (log entry 45). -/
def State.relaxBody (s : State) (b : Body) : State :=
  if decide ((s.body b).sampling = .fast) && !s.fastCause b && (s.body b).hold.isNone then s.becomePrimary b else s

/-- FORCE FAST (R4). Bodies that fall due at once by it join the round queue in the order UP, LP, C1, C2. DESIGN CHOICE (log
entry 57). -/
def judgeForceFast (st : Station) (on : Bool) (s : State) : Judged :=
  s.judged st .any fun s =>
    let t := s.setForceFast on
    (t.presentBodies.foldl (if on then State.becomeFast else State.relaxBody) t, some (.ok, []))

/-- FORCE FAST. -/
def execForceFast (st : Station) (on : Bool) (s : State) : Host.Outcome State Fault Refusal :=
  s.exchange st 0x42 (judgeForceFast st on)

/-! ## READ LEVELS (R14) -/

/-- R14: what READ LEVELS tells of a body. -/
def BodyRec.fields (r : BodyRec) : List WireField :=
  [halfOr r.level, .byte r.state.code, .byte r.sampling.code, yesNo r.hold.isSome]

/-- R14: what READ LEVELS tells of a gauge. -/
def GaugeRec.fields (g : GaugeRec) : List WireField :=
  [byteOr (g.status.map GaugeStatus.code), .half g.history.length, halfOr (gaugeValue g.history)]

/-- The pairs in the order of R10's table. -/
def allPairs : List Pair :=
  [.across .upper .c1, .across .lower .c1, .across .upper .c2, .across .lower .c2, .cross]

/-- R14: a body's gauges as they stood at the last round end: while gauge B's reading is awaited, gauge A's reading of this round
does not show. -/
def State.shownGauges (s : State) (b : Body) : PerGauge GaugeRec :=
  match s.levels.poll with
  | some p => if p.body = b then { (s.body b).gauges with a := p.before.getD (s.body b).gauges.a } else (s.body b).gauges
  | none => (s.body b).gauges

/-- The gauges of the present bodies, in their numbered order. -/
def State.presentGauges (s : State) : List GaugeRec :=
  (s.presentBodies.map (fun b => [(s.shownGauges b).a, (s.shownGauges b).b])).flatten

/-- R14: the results of READ LEVELS: the bodies, the gauges and the pairs, each list with its count (R177), and force fast. -/
def State.levelResults (s : State) : List WireField :=
  listFields (s.presentBodies.map (fun b => (s.body b).fields)) ++ listFields (s.presentGauges.map GaugeRec.fields)
    ++ listFields ((allPairs.filter s.pairKept).map (fun p => [.byte (s.pair p).code])) ++ [setClear s.levels.forceFast]

/-- READ LEVELS (R14). -/
def judgeReadLevels (st : Station) (s : State) : Judged := s.judged st .any fun s => s.report s.levelResults

/-- READ LEVELS. -/
def execReadLevels (st : Station) (s : State) : Host.Outcome State Fault Refusal := s.exchange st 0x41 (judgeReadLevels st)

end Sys2Proof.Machine
end

