-- ==== Sys2Proof/Machine/Settings.lean ====
section
/-! DEFINITION. The settings as the fields of the SETTINGS collection, what a write makes of a value, and the points at which a
written setting takes effect at the write (R5, R6, R11, R13, R16, R91, R116, R182, R187). -/

namespace Sys2Proof.Machine

/-! ## Fields (R182, R187) -/

/-- A field of a SETTINGS record, on the numbers its bytes carry: its width in bytes, what a write makes of a value (R187),
its reading, and its replacing in the working settings. -/
structure SettingField where
  width : Nat
  bring : Nat → Nat
  get : State → Nat
  put : Settings → Nat → Settings

/-- A setting with a numeric range. -/
def ranged (lo hi : Nat) (get : Settings → Nat) (put : Settings → Nat → Settings) : SettingField :=
  ⟨2, clampTo lo hi, fun s => get s.settings, put⟩

/-- R187: a yes/no setting: any value other than 0 or 1 becomes yes. -/
def yesNoField (get : Settings → Bool) (put : Settings → Bool → Settings) : SettingField :=
  ⟨1, min 1, fun s => if get s.settings then 1 else 0, fun c x => put c (decide (x = 1))⟩

/-- R187: the nearest lower allowed value, or the lowest: the last of the rising list `l` that is not above `x`, else `lowest`. -/
def lowerOf (lowest : Nat) (l : List Nat) (x : Nat) : Nat := l.foldl (fun m y => if y ≤ x then y else m) lowest

/-- R122: a flash rate, in tenths of a hertz. -/
def flashRate : Nat → Nat := lowerOf 5 [5, 10, 15, 20]

/-- R122: a flash duty, in per cent. -/
def flashDuty : Nat → Nat := lowerOf 33 [33, 50, 67, 75]

/-- R16: a FAST_INTERVAL: the nearest lower multiple of 50 within 100 to 2,000 ms. -/
def fastIntervalOf (x : Nat) : Nat := clampTo 100 2000 (x / 50 * 50)

/-- R187: a TRAIL_PERIOD: 0, or 10 to 3,600. -/
def trailOf (x : Nat) : Nat := if x = 0 then 0 else clampTo 10 3600 x

/-- The site record, fields 1 to 37; field 38 is DEFAULTED, read only. HIGH_HEAD_MAX_STEP is carried in 1 byte, as the steps of R177
are. DESIGN CHOICE (log entry 77). -/
def siteFields : List SettingField :=
  [ ranged 1 2 (·.chambers) (fun c x => { c with chambers := x }),
    yesNoField (·.crossPresent) (fun c x => { c with crossPresent := x }),
    ranged 0 4095 (·.upperSill) (fun c x => { c with upperSill := x }),
    ranged 0 4095 (·.lowerSill) (fun c x => { c with lowerSill := x }),
    ranged 1 15 (·.eqBand) (fun c x => { c with eqBand := x }),
    ranged 0 30 (·.eqSettle) (fun c x => { c with eqSettle := x }),
    ranged 1 20 (·.agreeBand) (fun c x => { c with agreeBand := x }),
    ranged 0 3 (·.avgDepth) (fun c x => { c with avgDepth := x }),
    ranged 1 60 (·.primaryInterval) (fun c x => { c with primaryInterval := x }),
    ⟨2, fastIntervalOf, fun s => s.settings.fastInterval, fun c x => { c with fastInterval := x }⟩,
    ranged 0 60 (·.fastHold) (fun c x => { c with fastHold := x }),
    yesNoField (·.trimEnable) (fun c x => { c with trimEnable := x }) ]
  ++
  [ ranged 5 120 (·.sluiceLimit) (fun c x => { c with sluiceLimit := x }),
    ranged 2 60 (·.stepInterval) (fun c x => { c with stepInterval := x }),
    ranged 50 1000 (·.highHead) (fun c x => { c with highHead := x }),
    ⟨1, clampTo 1 8, fun s => s.settings.highHeadMaxStep, fun c x => { c with highHeadMaxStep := x }⟩,
    ranged 60 3600 (·.fillLimit) (fun c x => { c with fillLimit := x }),
    ranged 60 1800 (·.entryLimit) (fun c x => { c with entryLimit := x }),
    ranged 60 1800 (·.leaveLimit) (fun c x => { c with leaveLimit := x }),
    ranged 0 300 (·.clearOutLead) (fun c x => { c with clearOutLead := x }),
    ranged 0 300 (·.crossWait) (fun c x => { c with crossWait := x }),
    ranged 10 500 (·.crossMinGain) (fun c x => { c with crossMinGain := x }),
    ranged 60 1800 (·.crossLimit) (fun c x => { c with crossLimit := x }),
    ranged 0 3600 (·.turnWait) (fun c x => { c with turnWait := x }) ]
  ++
  [ yesNoField (·.fillIn) (fun c x => { c with fillIn := x }),
    ranged 1 7 (·.passLimit) (fun c x => { c with passLimit := x }),
    ranged 0 50 (·.sideClear) (fun c x => { c with sideClear := x }),
    ranged 0 100 (·.endClear) (fun c x => { c with endClear := x }),
    ranged 0 100 (·.keelClear) (fun c x => { c with keelClear := x }),
    ranged 2 60 (·.silenceLimit) (fun c x => { c with silenceLimit := x }),
    ⟨2, trailOf, fun s => s.settings.trailPeriod, fun c x => { c with trailPeriod := x }⟩,
    ⟨2, flashRate, fun s => s.settings.flashRateA, fun c x => { c with flashRateA := x }⟩,
    ⟨2, flashDuty, fun s => s.settings.flashDutyA, fun c x => { c with flashDutyA := x }⟩,
    ⟨2, flashRate, fun s => s.settings.flashRateB, fun c x => { c with flashRateB := x }⟩,
    ⟨2, flashDuty, fun s => s.settings.flashDutyB, fun c x => { c with flashDutyB := x }⟩,
    yesNoField (·.quietSoft) (fun c x => { c with quietSoft := x }),
    yesNoField (·.clockMark) (fun c x => { c with clockMark := x }) ]

/-- Field 38 of the site record: DEFAULTED, read only; a value given for it is not checked and is ignored (R187). -/
def defaultedField : SettingField := ⟨1, id, fun s => if s.store.defaulted then 0 else 1, fun c _ => c⟩

/-- A setting of a chamber's record. -/
def chamberField (k : Chamber) (lo hi : Nat) (get : ChamberSettings → Nat) (put : ChamberSettings → Nat → ChamberSettings) :
    SettingField :=
  ranged lo hi (fun c => get (c.chamber.get k)) (fun c x => { c with chamber := c.chamber.set k (put (c.chamber.get k) x) })

/-- The record of a chamber. -/
def chamberFields (k : Chamber) : List SettingField :=
  [ chamberField k 200 3000 (·.usableLength) (fun c x => { c with usableLength := x }),
    chamberField k 40 250 (·.usableWidth) (fun c x => { c with usableWidth := x }),
    chamberField k 100 8000 (·.wetArea) (fun c x => { c with wetArea := x }),
    chamberField k 0 4095 (·.topLevel) (fun c x => { c with topLevel := x }),
    chamberField k 10 300 (·.gateLimit.upper) (fun c x => { c with gateLimit.upper := x }),
    chamberField k 10 300 (·.gateLimit.lower) (fun c x => { c with gateLimit.lower := x }) ]

/-- A 2-byte value read as a signed one (R177). -/
def signedHalf (x : Nat) : Int := if x < 32768 then x else (x : Int) - 65536

/-- A signed value as it is carried in 2 bytes (R177). -/
def halfOfSigned (x : Int) : Nat := (x % 65536).toNat

/-- GAUGE_TRIM, −500 to +500 mm, signed. -/
def trimOf (x : Nat) : Nat := halfOfSigned (max (-500) (min 500 (signedHalf x)))

/-- The record of a gauge. -/
def gaugeFields (b : Body) (g : GaugeSide) : List SettingField :=
  [ ⟨2, trimOf, fun s => halfOfSigned ((s.settings.trim.get b).get g),
      fun c x => { c with trim := c.trim.set b ((c.trim.get b).set g (signedHalf x)) }⟩ ]

/-- R182: the fields of a record of the SETTINGS collection. -/
def settingFields : Nat → List SettingField
  | 0 => siteFields ++ [defaultedField]
  | 1 => chamberFields .c1
  | 2 => chamberFields .c2
  | 3 => gaugeFields .up .a
  | 4 => gaugeFields .up .b
  | 5 => gaugeFields .lp .a
  | 6 => gaugeFields .lp .b
  | 7 => gaugeFields .c1 .a
  | 8 => gaugeFields .c1 .b
  | 9 => gaugeFields .c2 .a
  | 10 => gaugeFields .c2 .b
  | _ => []

/-! ## Effects at the write (R16, R116) -/

/-- R11: a SETTLING pair under a changed EQ_SETTLE: it becomes EQUALISED when its elapsed time has reached the new value. -/
def State.resettlePair (s : State) (p : Pair) : State :=
  match s.pair p with
  | .settling t =>
    if t + seconds s.settings.eqSettle ≤ s.now then s.pairSettled p else s
  | _ => s

/-- R11: every pair under a changed EQ_SETTLE, in the order of R10's table. DESIGN CHOICE (log entry 58). -/
def State.resettle (s : State) : State := allPairs.foldl State.resettlePair s

/-- A gauge with its history cleared. -/
def GaugeRec.cleared (g : GaugeRec) : GaugeRec := { g with history := [] }

/-- The record kept of a gauge A whose round is under way, with its history cleared too. -/
def Poll.cleared (p : Poll) (b : Body) (g : GaugeSide) : Poll :=
  if p.body = b ∧ g = .a then { p with before := p.before.map GaugeRec.cleared } else p

/-- R5: a gauge's history cleared. -/
def State.clearHistory (s : State) (b : Body) (g : GaugeSide) : State :=
  (s.setGauge b g ((s.body b).gauges.get g).cleared).setPoll (s.levels.poll.map (·.cleared b g))

/-- The eight gauges in their numbered order. -/
def allGauges : List (Body × GaugeSide) :=
  [(.up, .a), (.up, .b), (.lp, .a), (.lp, .b), (.c1, .a), (.c1, .b), (.c2, .a), (.c2, .b)]

/-- R5, R6: the histories of all gauges cleared. -/
def State.clearHistories (s : State) : State := allGauges.foldl (fun t g => t.clearHistory g.1 g.2) s

/-- R116: a pass-over count above PASS_LIMIT is lowered to it, at every write of the setting. -/
def State.lowerCounts (s : State) : State :=
  { s with book := s.book.mapLists (fun l => l.map (fun o => { o with passOver := min s.settings.passLimit o.passOver })) }

/-- R13: the trail timer under the present TRAIL_PERIOD. -/
def State.startTrail (s : State) : State :=
  { s with
    levels.trail := if s.settings.trailPeriod = 0 then none else some (s.now + seconds s.settings.trailPeriod) }

/-- R5: a gauge whose GAUGE_TRIM has changed loses its history. -/
def State.trimChanged (s : State) (old : Settings) (g : Body × GaugeSide) : State :=
  if (s.settings.trim.get g.1).get g.2 = (old.trim.get g.1).get g.2 then s else s.clearHistory g.1 g.2

/-- R91: a configured chamber's usable length or width has changed. -/
def State.roomChanged (s : State) (old : Settings) (k : Chamber) : Bool :=
  s.chamberPresent k
    && !(decide ((s.settings.chamber.get k).usableLength = (old.chamber.get k).usableLength)
      && decide ((s.settings.chamber.get k).usableWidth = (old.chamber.get k).usableWidth))

/-- R187: what follows at a settings write, once its values have replaced those of `old`, in field order; `limit` says that the
write gave a value for PASS_LIMIT, the same one included (R116). -/
def State.settingsWritten (s : State) (old : Settings) (limit : Bool) : State :=
  let t := if s.settings.eqSettle = old.eqSettle then s else s.resettle
  let t := if s.settings.avgDepth = old.avgDepth then t else t.clearHistories
  let t := if s.settings.trimEnable = old.trimEnable then t else t.clearHistories
  let t := if limit then t.lowerCounts else t
  let t := if s.settings.trailPeriod = old.trailPeriod then t else t.startTrail
  let t := if s.roomChanged old .c1 || s.roomChanged old .c2 then t.rejudgeAll else t
  allGauges.foldl (fun u g => u.trimChanged old g) t

end Sys2Proof.Machine
end

