-- ==== Sys2Proof/Machine/Windows.lean ====
section
/-! DEFINITION. The collections and the windows: reading and writing fields of records, and SET WINDOW, READ NEXT, WRITE NEXT,
READ AT and WRITE AT (R80, R81, R83, R130, R182 to R185, R187, R188). -/

namespace Sys2Proof.Machine

/-! ## Collections (R182) -/

/-- R182, R177: a collection by its place in the table. -/
def collectionOf : Nat → Option Collection
  | 0 => some .vessels
  | 1 => some .tariffStandby
  | 2 => some .tariffActive
  | 3 => some .settings
  | _ => none

/-- R182: a collection's last index. -/
def Collection.lastIndex : Collection → Nat
  | .vessels => 127
  | .tariffStandby => 0
  | .tariffActive => 0
  | .settings => 10

/-- R182: the number of fields of a record. -/
def Collection.fieldCount : Collection → Nat → Nat
  | .vessels, _ => 15
  | .tariffStandby, _ => 13
  | .tariffActive, _ => 13
  | .settings, i => (settingFields i).length

/-- The setting of a field of a SETTINGS record, fields counted from 1. -/
def settingField (i n : Nat) : Option SettingField := (settingFields i)[n - 1]?

/-- R177: the width in bytes of a field of the vessel record; last passage is a day and a second of day. -/
def vesselWidth : Nat → Nat
  | 1 => 1
  | 2 => 1
  | 3 => 8
  | 9 => 1
  | 10 => 4
  | 11 => 4
  | 12 => 1
  | 14 => 6
  | _ => 2

/-- R177: the width in bytes of a field of a tariff table. -/
def tariffWidth (n : Nat) : Nat := if n ≤ 6 then 4 else 2

/-- R177: the width in bytes of a field. -/
def Collection.width (c : Collection) (i n : Nat) : Nat :=
  match c with
  | .vessels => vesselWidth n
  | .tariffStandby => tariffWidth n
  | .tariffActive => tariffWidth n
  | .settings => ((settingField i n).map (·.width)).getD 0

/-! ## Reading (R83, R130, R184, R188) -/

/-- The vessel record's last passage; absent and UNSET are all ones. -/
def LastPassage.fields : LastPassage → List WireField
  | .at t => timeFields (some t)
  | _ => timeFields none

/-- The fields of the vessel record by their numbers. -/
def Vessel.field (v : Vessel) : Nat → List WireField
  | 1 => [.byte v.state.code]
  | 2 => [byteOr (match v.state with | .held c => some c.code | _ => none)]
  | 3 => [.mark v.mark]
  | 4 => [.half v.operator]
  | 5 => [.half v.length]
  | 6 => [.half v.beam]
  | 7 => [.half v.draught]
  | 8 => [.half v.deadweight]
  | 9 => [yesNo v.exempt]
  | 10 => [.word v.ceiling]
  | 11 => [.word v.total]
  | 12 => [setClear v.saturated]
  | 13 => [.half v.passages]
  | 14 => v.lastPassage.fields
  | 15 => [halfOr v.order]
  | _ => []

/-- R129: the fields of a tariff table by their numbers. -/
def Tariff.get (t : Tariff) : Nat → Nat
  | 1 => t.base.a
  | 2 => t.base.b
  | 3 => t.base.c
  | 4 => t.base.d
  | 5 => t.base.e
  | 6 => t.base.f
  | 7 => t.tonRate
  | 8 => t.unladenPct
  | 9 => t.waterRate
  | 10 => t.nightPct
  | 11 => t.priorityPct
  | 12 => t.nightStart
  | _ => t.nightEnd

/-- A number as a field of a width. -/
def fieldOf (width n : Nat) : WireField :=
  match width with
  | 1 => .byte n
  | 4 => .word n
  | _ => .half n

/-- One field of a record as it stands. -/
def State.readField (s : State) (c : Collection) (i n : Nat) : List WireField :=
  match c with
  | .vessels => (s.vessel i).field n
  | .tariffStandby => [fieldOf (tariffWidth n) (s.standby.get n)]
  | .tariffActive => [fieldOf (tariffWidth n) (s.active.get n)]
  | .settings => match settingField i n with | some f => [fieldOf f.width (f.get s)] | none => []

/-- The fields from `first` to `last`, as their numbers. -/
def fieldRun (first last : Nat) : List Nat := (List.range (last + 1 - first)).map (· + first)

/-- R184, R185: the fields of a run of a record as they stand. -/
def State.readRun (s : State) (c : Collection) (i : Nat) (run : List Nat) : List WireField :=
  (run.map (s.readField c i)).flatten

/-! ## The values of a write -/

/-- A number from its bytes, high first. -/
def bytesNat (l : List Byte) : Nat := l.foldl (fun n b => n * 256 + b.toNat) 0

/-- Bytes cut into pieces of these widths; `none` when they do not make them up exactly. -/
def cut : List Nat → List Byte → Option (List (List Byte))
  | [], [] => some []
  | [], _ :: _ => none
  | w :: ws, l => if w ≤ l.length then (cut ws (l.drop w)).map (l.take w :: ·) else none

/-- A field's number with the bytes given for it. -/
abbrev Given := Nat × List Byte

/-- R184: the values given for a run of fields; `none` when the list has the wrong length. -/
def valuesFor (c : Collection) (i : Nat) (run : List Nat) (data : List Byte) : Option (List Given) :=
  (cut (run.map (c.width i)) data).map run.zip

/-! ## Writing (R80, R81, R130, R187) -/

/-- R79, R80: a value given for a station field is out of range; the other fields' values are not checked. -/
def badVesselValue (p : Given) : Bool :=
  if p.1 = 3 then !markOk p.2
  else decide (4 ≤ p.1 ∧ p.1 ≤ 10) && !fieldOk p.1 (bytesNat p.2)

/-- R80: a station field replaced; the values of the other fields are ignored. -/
def Vessel.put (v : Vessel) (p : Given) : Vessel :=
  match p.1 with
  | 3 => { v with mark := p.2 }
  | 4 => { v with operator := bytesNat p.2 }
  | 5 => { v with length := bytesNat p.2 }
  | 6 => { v with beam := bytesNat p.2 }
  | 7 => { v with draught := bytesNat p.2 }
  | 8 => { v with deadweight := bytesNat p.2 }
  | 9 => { v with exempt := decide (bytesNat p.2 = 1) }
  | 10 => { v with ceiling := bytesNat p.2 }
  | _ => v

/-- R80: the other slot whose mark a write to slot `i` would repeat, when its range includes the mark. -/
def State.markClash (s : State) (i : Nat) (vs : List Given) : Option Nat :=
  if vs.any (fun p => decide (p.1 = 3)) then s.markHolder (vs.foldl Vessel.put (s.vessel i)).mark (some i) else none

/-- R81: what the register does once a write has replaced the fields of `old`. -/
def State.vesselWritten (s : State) (i : Nat) (old : Vessel) : State :=
  let t := s.reevaluate i
  if (t.vessel i).length = old.length ∧ (t.vessel i).beam = old.beam then t else t.rejudge i

/-- A write of a record judged: the state it leaves, and its answer. -/
abbrev Written := State × Answer

/-- R80: a write to the vessel record of slot `i`. -/
def State.writeVessel (s : State) (i : Nat) (vs : List Given) : Written :=
  if (s.vessel i).state = .free then (s, .state, [])
  else
    match vs.find? badVesselValue with
    | some p => (s, .range, [.half p.1])
    | none =>
      match s.markClash i vs with
      | some j => (s, .duplicate, [.half j])
      | none => ((s.setVessel i (vs.foldl Vessel.put (s.vessel i))).vesselWritten i (s.vessel i), .ok, [])

/-- R129: the upper end of a tariff field's range; every lower end is 0. -/
def tariffLimit : Nat → Nat
  | 7 => 5000
  | 8 => 100
  | 9 => 10000
  | 10 => 100
  | 11 => 200
  | 12 => 1439
  | 13 => 1439
  | _ => 1000000

/-- A field of a tariff table replaced. -/
def Tariff.set (t : Tariff) (n x : Nat) : Tariff :=
  match n with
  | 1 => { t with base.a := x }
  | 2 => { t with base.b := x }
  | 3 => { t with base.c := x }
  | 4 => { t with base.d := x }
  | 5 => { t with base.e := x }
  | 6 => { t with base.f := x }
  | 7 => { t with tonRate := x }
  | 8 => { t with unladenPct := x }
  | 9 => { t with waterRate := x }
  | 10 => { t with nightPct := x }
  | 11 => { t with priorityPct := x }
  | 12 => { t with nightStart := x }
  | _ => { t with nightEnd := x }

/-- OK, or LIMITED when a value was brought in. -/
def broughtIn (x : Bool) : ReplyOutcome := if x then .limited else .ok

/-- R130: a write to the STANDBY table, its values clamped. -/
def State.writeStandby (s : State) (vs : List Given) : Written :=
  ({ s with standby := vs.foldl (fun t p => t.set p.1 (min (tariffLimit p.1) (bytesNat p.2))) s.standby },
    broughtIn (vs.any (fun p => decide (tariffLimit p.1 < bytesNat p.2))), [])

/-- R187: a value brought within its setting and put in its place. -/
def putSetting (i : Nat) (c : Settings) (p : Given) : Settings :=
  match settingField i p.1 with
  | some f => f.put c (f.bring (bytesNat p.2))
  | none => c

/-- R187: a value that its setting does not allow as it stands. -/
def notAllowed (i : Nat) (p : Given) : Bool :=
  match settingField i p.1 with
  | some f => decide (f.bring (bytesNat p.2) ≠ bytesNat p.2)
  | none => false

/-- R116: a write gives a value for PASS_LIMIT, field 26 of the site record. -/
def givesPassLimit (i : Nat) (vs : List Given) : Bool := decide (i = 0) && vs.any (fun p => decide (p.1 = 26))

/-- R187: a write to a record of the SETTINGS collection. -/
def State.writeSettings (s : State) (i : Nat) (vs : List Given) : Written :=
  ({ s with settings := vs.foldl (putSetting i) s.settings }.settingsWritten s.settings (givesPassLimit i vs),
    broughtIn (vs.any (notAllowed i)), [])

/-- R184: a write judged by the rule of its collection; the permission of TARIFF_ACTIVE lets none come here. -/
def State.writeRecord (s : State) (c : Collection) (i : Nat) (vs : List Given) : Written :=
  match c with
  | .vessels => s.writeVessel i vs
  | .tariffStandby => s.writeStandby vs
  | .tariffActive => (s, .notPermitted, [])
  | .settings => s.writeSettings i vs

/-- R167: whom a write to a collection is permitted to. -/
def Collection.writers : Collection → Permission
  | .vessels => .any
  | .tariffStandby => .tc
  | .tariffActive => .nobody
  | .settings => .tc

/-- A write was accepted. -/
def ReplyOutcome.accepted : ReplyOutcome → Bool
  | .ok => true
  | .limited => true
  | _ => false

/-! ## SET WINDOW (R183) and the window's move (R184) -/

/-- R183, R185: the first part of a selection that is out of place: 1 the collection, 2 the index, 3 the first field, 4 the
last field. -/
def badSelection (collection i first last : Nat) : Option Nat :=
  match collectionOf collection with
  | none => some 1
  | some c =>
    if c.lastIndex < i then some 2
    else if first = 0 ∨ last < first then some 3
    else if c.fieldCount i < last then some 4
    else none

/-- A station's window. -/
def State.window (s : State) (st : Station) : Window := (s.station st).window

/-- Replace a station's window. -/
def State.setWindowOf (s : State) (st : Station) (w : Window) : State :=
  s.setStation st { s.station st with window := w }

/-- R183: the arguments of SET WINDOW by the parts of its selection: the step stands between cursor and first field. -/
def windowArgument (part : Nat) : Nat := if 3 ≤ part then part + 1 else part

/-- SET WINDOW (R183). -/
def judgeSetWindow (st : Station) (collection cursor : Nat) (move : WindowStep) (first last : Nat) (s : State) : Judged :=
  s.judged st .any fun s =>
    match badSelection collection cursor first last, collectionOf collection with
    | some n, _ => s.outOfRange (windowArgument n)
    | none, some c => (s.setWindowOf st ⟨c, cursor, move, first, last, first⟩, some (.ok, []))
    | none, none => s.outOfRange 1

/-- SET WINDOW. -/
def execSetWindow (st : Station) (collection cursor : Nat) (move : WindowStep) (first last : Nat) (s : State) :
    Host.Outcome State Fault Refusal :=
  s.exchange st 0x01 (judgeSetWindow st collection cursor move first last)

/-- The field a window's transfer ends at when it reaches the end: its last field, or the record's own last field when the
record has fewer fields (log entry 33). -/
def Window.stop (w : Window) : Nat := min w.last (w.collection.fieldCount w.cursor)

/-- R184: the fields a transfer of `count` fields runs over, from the counter. -/
def Window.run (w : Window) (count : Option Nat) : List Nat :=
  let all := fieldRun w.counter w.stop
  match count with
  | some n => all.take n
  | none => all

/-- R184: the cursor after its step. -/
def Window.stepped (w : Window) : Nat :=
  match w.move with
  | .up => if w.cursor < w.collection.lastIndex then w.cursor + 1 else 0
  | .down => if w.cursor = 0 then w.collection.lastIndex else w.cursor - 1
  | .stay => w.cursor

/-- R184: the window after an accepted transfer of `n` fields. -/
def Window.after (w : Window) (n : Nat) : Window :=
  if w.stop < w.counter + n then { w with counter := w.first, cursor := w.stepped }
  else { w with counter := w.counter + n }

/-- R184: an optional count must be 1 to the record's field count. -/
def Window.badCount (w : Window) (count : Option Nat) : Bool :=
  match count with
  | some n => decide (n = 0) || decide (w.collection.fieldCount w.cursor < n)
  | none => false

/-! ## Transfers through the window (R184) -/

/-- READ NEXT (R184). -/
def judgeReadNext (st : Station) (count : Option Nat) (s : State) : Judged :=
  s.judged st .any fun s =>
    let w := s.window st
    if w.badCount count then s.outOfRange 1
    else
      let run := w.run count
      (s.setWindowOf st (w.after run.length), some (.ok, s.readRun w.collection w.cursor run))

/-- READ NEXT. -/
def execReadNext (st : Station) (count : Option Nat) (s : State) : Host.Outcome State Fault Refusal :=
  s.exchange st 0x02 (judgeReadNext st count)

/-- R184: a write taken: its consequences follow, and an accepted one is handed to `moved`. -/
def Written.judged (x : Written) (moved : State → State) : Judged :=
  if x.2.1.accepted then ((moved x.1).finish, some x.2) else (x.1, some x.2)

/-- WRITE NEXT (R184): the shape of its value list is judged before permission and before the range of its count (R180). -/
def judgeWriteNext (st : Station) (count : Option Nat) (data : List Byte) (s : State) : Judged :=
  let w := s.window st
  let run := w.run count
  match valuesFor w.collection w.cursor run data with
  | none => s.refuse .format
  | some vs =>
    s.judged st w.collection.writers fun s =>
      if w.badCount count then s.outOfRange 1
      else Written.judged (s.writeRecord w.collection w.cursor vs) fun t => t.setWindowOf st (w.after run.length)

/-- WRITE NEXT. -/
def execWriteNext (st : Station) (count : Option Nat) (data : List Byte) (s : State) :
    Host.Outcome State Fault Refusal :=
  s.exchange st 0x03 (judgeWriteNext st count data)

/-! ## Transfers at a named record (R185) -/

/-- READ AT (R185). -/
def judgeReadAt (st : Station) (collection i first last : Nat) (s : State) : Judged :=
  s.judged st .any fun s =>
    match badSelection collection i first last, collectionOf collection with
    | some n, _ => s.outOfRange n
    | none, some c => s.report (s.readRun c i (fieldRun first last))
    | none, none => s.outOfRange 1

/-- READ AT. -/
def execReadAt (st : Station) (collection i first last : Nat) (s : State) : Host.Outcome State Fault Refusal :=
  s.exchange st 0x04 (judgeReadAt st collection i first last)

/-- R177: every field from `first` to `last` is one that the record has, so that its value has a width; a run of no fields takes
no values. -/
def Collection.names (c : Collection) (i first last : Nat) : Bool :=
  decide (last < first) || (decide (0 < first) && decide (last ≤ c.fieldCount i))

/-- R180, R184: a value list has the wrong length for a run whose fields have widths. -/
def wrongLength (c : Collection) (i first last : Nat) (data : List Byte) : Bool :=
  c.names i first last && (valuesFor c i (fieldRun first last) data).isNone

/-- WRITE AT (R185): the shape of its value list is judged before permission and before the range of its selection, wherever its
fields have widths (R180). DEDUCED (log entry 23). -/
def judgeWriteAt (st : Station) (collection i first last : Nat) (data : List Byte) (s : State) : Judged :=
  match collectionOf collection with
  | none => s.judged st .any fun s => s.outOfRange 1
  | some c =>
    if wrongLength c i first last data then s.refuse .format
    else
      s.judged st c.writers fun s =>
        match badSelection collection i first last, valuesFor c i (fieldRun first last) data with
        | some n, _ => s.outOfRange n
        | none, some vs => Written.judged (s.writeRecord c i vs) id
        | none, none => s.refuse .format

/-- WRITE AT. -/
def execWriteAt (st : Station) (collection i first last : Nat) (data : List Byte) (s : State) :
    Host.Outcome State Fault Refusal :=
  s.exchange st 0x05 (judgeWriteAt st collection i first last data)

end Sys2Proof.Machine
end

