-- ==== Sys2Proof/Machine/Store.lean ====
section
/-! DEFINITION. The settings store, power-on, the reset line and the restart: loading, what each block starts from, and the
commands that store and restart (R15, R27, R36, R64, R74, R93, R116, R126, R127, R145, R162, R175, R176, R186, R189, R190). -/

namespace Sys2Proof.Machine

/-! ## The blocks' values at a start (R186, R190) -/

/-- R176: a port's line rate by its straps. -/
def rateOf (x : Straps) : LineRate :=
  match x.first, x.second with
  | false, false => .baud19200
  | true, false => .baud57600
  | false, true => .baud115200
  | true, true => .silent

/-- R175, R179, R183, R86: what a station's port starts with, under the straps it reads. -/
def freshStation (x : Straps) : StationRec := { straps := x, rate := rateOf x }

/-- R186: what a load gives: the stored copy, or the defaults. -/
def Store.image (x : Store) : StoreImage := x.stored.getD ⟨{}, {}, {}⟩

/-- R186: the working settings and both tables loaded from the store; DEFAULTED by the check. -/
def State.load (s : State) : State :=
  let i := s.store.image
  { s with
    settings := i.settings
    active := i.active
    standby := i.standby
    loaded := ⟨decide (i.settings.chambers = 2), i.settings.crossPresent⟩
    store := { s.store with defaulted := s.store.stored.isNone, restartPending := false } }

/-- R15: the level monitor at a start. -/
def State.startLevels (s : State) : State :=
  { s with levels := { queue := allBodies.filter s.bodyPresent } }.startTrail

/-- R27, R36: the drive controller at a start: every present actuator UNKNOWN, and a STATUS query sent to each. -/
def State.startDrive (s : State) : State := { s with drive := { queries := s.presentActuators.map (⟨·, false⟩) } }

/-- R175: the stations, the conduct record and the capture record at a start. -/
def State.startStations (s : State) (x : PerStation Straps) : State :=
  { s with
    stations := ⟨freshStation x.uc, freshStation x.lc, freshStation x.tc⟩
    conduct := ⟨none, none⟩
    capture := {} }

/-- R64, R74: the sequencers and the arbiter at a start. -/
def State.startChambers (s : State) : State := { s with chambers := ⟨{}, {}⟩, arbiter := {}, agenda := [] }

/-- R127: a lamp at a start: no no-current time, its proving state as given. -/
def Lamp.started (l : Lamp) (proven : Bool) : Lamp := { proven := proven, current := l.current }

/-- R127: the flash generators at the beginning of an ON phase, no lamp test, and the lamps by `f`. -/
def State.startSignals (s : State) (f : Chamber → Lamp → Lamp) : State :=
  let c := s.settings
  { s with
    signals :=
      { s.signals with
        lamps := ⟨mapLamps (f .c1) s.signals.lamps.c1, mapLamps (f .c2) s.signals.lamps.c2⟩
        genA := FlashGen.start c.flashRateA c.flashDutyA s.now
        genB := FlashGen.start c.flashRateB c.flashDutyB s.now
        tests := ⟨none, none⟩ } }

/-- R186: after the other blocks' values, a failed load raises SETTINGS_LOST and the notice SETTINGS_DEFAULTED. -/
def State.afterLoad (s : State) : State :=
  if s.store.defaulted then (s.raiseFault .settingsLost .store).raiseAll .settingsDefaulted else s

/-- R186: the blocks that power-on, the reset line and RESTART all start, once the load is done. -/
def State.startBlocks (s : State) (x : PerStation Straps) (f : Chamber → Lamp → Lamp) : State :=
  ((((s.startChambers).startStations x).startLevels).startDrive).startSignals f

/-! ## Power-on and the reset line (R186) -/

/-- R189: power-on or the reset line during a write of the store leaves it without a valid copy. -/
def Store.afterPower (x : Store) : Store := { stored := if x.storing.isSome then none else x.stored }

/-- R186: power-on or the reset line. The store, the proving inputs, the waiting commands and the model's own count of free
choices are all that is kept. -/
def State.powerOn (s : State) (x : PerStation Straps) : State :=
  let base : State :=
    { State.reset with
      store := s.store.afterPower
      signals := { State.reset.signals with lamps := s.signals.lamps }
      choices := s.choices
      pending := s.pending }
  (((base.load).startBlocks x (fun _ l => l.started true)).derive).afterLoad

/-- POWER_ON_RESET (R186). -/
def execPowerOnReset (straps : PerStation Straps) (s : State) : Host.Outcome State Fault Refusal := .next (s.powerOn straps)

/-! ## RESTART (R190) -/

/-- RESTART (R190): taken only while both chambers are OUT_OF_SERVICE; the restart follows. -/
def judgeRestart (st : Station) (s : State) : Judged :=
  s.judged st .tc fun s =>
    if (s.chamber .c1).state = .outOfService ∧ (s.chamber .c2).state = .outOfService then
      ({ s with store.restartPending := true }, some (.ok, []))
    else s.refuse .state

/-- RESTART. -/
def execRestart (st : Station) (s : State) : Host.Outcome State Fault Refusal := s.exchange st 0x71 (judgeRestart st)

/-- R116: the passage book at a restart: the deferred marks cleared, the formation timer restarted if the book holds an
order. No batch survives, since each chamber's batch is then none (R64; log entry 34). -/
def State.restartBook (s : State) : State :=
  { s with
    book :=
      { s.book with
        batches := ⟨none, none⟩
        deferred := ⟨false, false⟩
        timer := if s.book.orders.isEmpty then none else some (s.now + seconds s.settings.primaryInterval) } }

/-- R127: at a restart each lamp's proving state is kept, but the lamps of a chamber 2 that becomes present start PROVEN. -/
def restartLamp (gained : Bool) (k : Chamber) (l : Lamp) : Lamp :=
  l.started (l.proven || (gained && decide (k = .c2)))

/-- R190: the restart. The register, the book, the journal, the accounts, the tallies and the clock are kept. -/
def State.restarted (s : State) (x : PerStation Straps) : State :=
  let t := s.load
  let t := t.startBlocks x (restartLamp (t.loaded.two && !s.loaded.two))
  (((t.restartBook).rejudgeAll).derive).afterLoad.finish

/-- RESTART_EVENT (R190): once TC's port has sent the last of its replies to a RESTART taken. -/
def execRestartEvent (straps : PerStation Straps) (s : State) : Host.Outcome State Fault Refusal :=
  if s.store.restartPending && decide ((s.station .tc).service = .idle) then .next (s.restarted straps) else .next s

/-! ## STORE SETTINGS (R189) -/

/-- R189: a chamber lets the settings be stored: OUT_OF_SERVICE or in a rest state. -/
def ChamberState.storable (c : ChamberState) : Bool := decide (c = .outOfService) || c.rest.isSome

/-- STORE SETTINGS (R189): the copy is taken and its writing begins; the reply is sent when the read-back ends. -/
def judgeStoreSettings (st : Station) (s : State) : Judged :=
  s.judged st .tc fun s =>
    if (s.chamber .c1).state.storable && (s.chamber .c2).state.storable then
      ({ s with store.storing := some ⟨s.settings, s.active, s.standby⟩ }, none)
    else s.refuse .state

/-- STORE SETTINGS. -/
def execStoreSettings (st : Station) (s : State) : Host.Outcome State Fault Refusal :=
  s.exchange st 0x70 (judgeStoreSettings st)

/-- R189: the read-back of a copy ends: it matches, or the store holds no valid copy. -/
def State.readback (s : State) (i : StoreImage) (matched : Bool) : State :=
  if matched then
    { s with store := { s.store with stored := some i, storing := none, defaulted := false } }.reply .tc 0x70 (.ok, [])
  else
    ({ s with store := { s.store with stored := none, storing := none } }.raiseFault .settingsLost .store).reply .tc 0x70
      (.state, [.byte 0])

/-- STORE_READBACK_END (R189). -/
def execStoreReadbackEnd (matched : Bool) (s : State) : Host.Outcome State Fault Refusal :=
  match s.store.storing with
  | some i => .next (s.readback i matched)
  | none => .next s

end Sys2Proof.Machine
end

