-- ==== Sys2Proof/Machine/Link.lean ====
section
/-! DEFINITION. The station links: request frames and their judgement, bad frames, stray bytes, and the sending of replies
(R163, R176 to R181). -/

namespace Sys2Proof.Machine

/-! ## Arguments (R177, R180) -/

/-- How a request of some code judges its argument bytes. -/
abbrev Judge := State → Judged

/-- R180: argument bytes that do not match the shape of the request. -/
def malformed : Judge := fun s => s.refuse .format

/-- R177: the argument bytes as numbers of these widths; `none` when they are too many or too few. -/
def numbers (widths : List Nat) (args : List Byte) : Option (List Nat) := (cut widths args).map (List.map bytesNat)

/-- R167: a choice outside its set: RANGE with the number of the argument, after the permission of the request. DEDUCED (log entry
22). -/
def outOfSet (st : Station) (p : Permission) (n : Nat) : Judge := fun s => s.judged st p fun s => s.outOfRange n

/-- R167, R57: a choice outside its set, of a directed step: RANGE with the number of the argument, after the two conditions that R57
puts before the request's own. DEDUCED (log entry 22). -/
def outOfDirected (st : Station) (k : Chamber) (n : Nat) : Judge := fun s => s.directed st k fun s => s.outOfRange n

/-- A choice from a set, by its place. -/
def choose (l : List Judge) (x : Nat) (bad : Judge) : Judge := l.getD x bad

/-- R167: the chamber a request names; anything but 1 and 2 is no chamber present. -/
def withChamber (x : Nat) (f : Chamber → Judge) : Judge :=
  if x = 1 then f .c1 else if x = 2 then f .c2 else fun s => s.outOfRange 1

/-- A request without arguments. -/
def bare (args : List Byte) (j : Judge) : Judge := if args.isEmpty then j else malformed

/-- A request of one argument of a width. -/
def one (width : Nat) (args : List Byte) (f : Nat → Judge) : Judge :=
  match numbers [width] args with
  | some [a] => f a
  | _ => malformed

/-- A request of a chamber alone. -/
def chamberOnly (args : List Byte) (f : Chamber → Judge) : Judge := one 1 args fun a => withChamber a f

/-- A request of a chamber and a choice. -/
def chamberAnd (args : List Byte) (f : Chamber → Nat → Judge) : Judge :=
  match numbers [1, 1] args with
  | some [a, b] => withChamber a fun k => f k b
  | _ => malformed

/-- R177: bit `n` of a set carried in 2 bytes. -/
def inSet (bits n : Nat) : Bool := decide (bits / 2 ^ n % 2 = 1)

/-! ## The requests by their codes (R181) -/

/-- SET WINDOW's arguments: a step out of its set is RANGE after the parts before it. -/
def frameSetWindow (st : Station) (args : List Byte) : Judge :=
  match numbers [1, 2, 1, 2, 2] args with
  | some [c, i, m, a, b] =>
    choose
      [judgeSetWindow st c i .up a b, judgeSetWindow st c i .down a b, judgeSetWindow st c i .stay a b] m
      (outOfSet st .any
        (match badSelection c i a b with | some 1 => 1 | some 2 => 2 | _ => 3))
  | _ => malformed

/-- READ NEXT, with its optional count. -/
def frameReadNext (st : Station) (args : List Byte) : Judge :=
  if args.isEmpty then judgeReadNext st none else one 2 args fun n => judgeReadNext st (some n)

/-- WRITE NEXT: bytes that fill the whole rest of the window's range carry no count; others begin with one. -/
def frameWriteNext (st : Station) (args : List Byte) : Judge := fun s =>
  let w := s.window st
  if args.length = ((w.run none).map (w.collection.width w.cursor)).sum then judgeWriteNext st none args s
  else if args.length < 2 then s.refuse .format
  else judgeWriteNext st (some (bytesNat (args.take 2))) (args.drop 2) s

/-- READ AT's arguments. -/
def frameReadAt (st : Station) (args : List Byte) : Judge :=
  match numbers [1, 2, 2, 2] args with
  | some [c, i, a, b] => judgeReadAt st c i a b
  | _ => malformed

/-- WRITE AT's arguments, the values after them. -/
def frameWriteAt (st : Station) (args : List Byte) : Judge :=
  match numbers [1, 2, 2, 2] (args.take 7) with
  | some [c, i, a, b] => judgeWriteAt st c i a b (args.drop 7)
  | _ => malformed

/-- ADD VESSEL's arguments (R78): the mark's 8 bytes come before the seven other fields. DESIGN CHOICE (log entry 80). -/
def frameAddVessel (st : Station) (args : List Byte) : Judge :=
  match numbers [2, 2, 2, 2, 2, 1, 4] (args.drop 8) with
  | some [o, l, b, d, w, x, c] => judgeAddVessel st ⟨args.take 8, o, l, b, d, w, x, c⟩
  | _ => malformed

/-- SEEK's arguments, the first of them out of range refused. Bits 8 to 15 of the mark mask are ignored. DESIGN CHOICE (log
entry 56). -/
def frameSeek (st : Station) (args : List Byte) : Judge :=
  match numbers [2, 2, 1, 1] (args.drop 8) with
  | some [m, o, f, x] =>
    let q : SeekArgs := ⟨args.take 8, (List.range 8).map (inSet m), o, decide (f = 0), decide (x = 1)⟩
    if badKey q then outOfSet st .any 1
    else if 1 < f then outOfSet st .any 4
    else if 1 < x then outOfSet st .any 5
    else judgeSeek st q
  | _ => malformed

/-- Codes 0x01 to 0x05. -/
def frameWindows (st : Station) (args : List Byte) : Nat → Option Judge
  | 0x01 => some (frameSetWindow st args)
  | 0x02 => some (frameReadNext st args)
  | 0x03 => some (frameWriteNext st args)
  | 0x04 => some (frameReadAt st args)
  | 0x05 => some (frameWriteAt st args)
  | _ => none

/-- SETTLE's arguments. -/
def frameSettle (st : Station) (args : List Byte) : Judge :=
  match numbers [2, 4] args with
  | some [a, b] => judgeSettle st a b
  | _ => malformed

/-- Codes 0x10 to 0x16. -/
def frameVessels (st : Station) (args : List Byte) : Nat → Option Judge
  | 0x10 => some (frameAddVessel st args)
  | 0x11 => some (one 2 args (judgeDeleteVessel st))
  | 0x12 => some (frameSeek st args)
  | 0x13 => some (bare args (judgeSeekNext st))
  | 0x14 => some (one 2 args (judgeHold st))
  | 0x15 => some (one 2 args (judgeRelease st))
  | 0x16 => some (frameSettle st args)
  | _ => none

/-- A direction by its place. -/
def directionOf (x : Nat) : Direction := if x = 0 then .up else .down

/-- ENTER ORDER's arguments. -/
def frameEnterOrder (st : Station) (args : List Byte) : Judge :=
  match numbers [2, 1, 1, 1] args with
  | some [i, d, l, c] =>
    if Config.slots ≤ i then outOfSet st .any 1
    else if 1 < d then outOfSet st .any 2
    else if 1 < l then outOfSet st .any 3
    else if 1 < c then outOfSet st .any 4
    else judgeEnterOrder st i (directionOf d) (decide (l = 1)) (if c = 0 then .normal else .priority)
  | _ => malformed

/-- READ BOOK's arguments. -/
def frameReadBook (st : Station) (args : List Byte) : Judge :=
  match numbers [1, 2] args with
  | some [d, p] => if 1 < d then outOfSet st .any 1 else judgeReadBook st (directionOf d) p
  | _ => malformed

/-- Codes 0x20 to 0x23. -/
def frameOrders (st : Station) (args : List Byte) : Nat → Option Judge
  | 0x20 => some (frameEnterOrder st args)
  | 0x21 => some (one 2 args (judgeCancelOrder st))
  | 0x22 => some (frameReadBook st args)
  | 0x23 => some (chamberOnly args (judgeReadBatch st))
  | _ => none

/-- CONFIRM IN's arguments: a chamber, and a counted list of order numbers if one is given. -/
def frameConfirmIn (st : Station) (args : List Byte) : Judge :=
  match args with
  | [a] => withChamber a.toNat fun k => judgeConfirmIn st k none
  | a :: n :: l =>
    match numbers (List.replicate n.toNat 2) l with
    | some ns => withChamber a.toNat fun k => judgeConfirmIn st k (some ns)
    | none => malformed
  | [] => malformed

/-- GATE's arguments. -/
def frameGate (st : Station) (args : List Byte) : Judge :=
  match numbers [1, 1, 1] args with
  | some [a, e, m] =>
    withChamber a fun k =>
      if 1 < e then outOfDirected st k 2
      else
        let g : Side := if e = 0 then .upper else .lower
        choose [judgeGateOpen st k g, judgeGateClose st k g, judgeGateStop st k g] m (outOfDirected st k 3)
  | _ => malformed

/-- A sluice by its place, upper, lower, then the cross sluice, which SLUICE refuses. -/
def sluiceChoice (x : Nat) : SluiceChoice := if x = 0 then .upper else if x = 1 then .lower else .cross

/-- SLUICE's arguments. -/
def frameSluice (st : Station) (args : List Byte) : Judge :=
  match numbers [1, 1, 1] args with
  | some [a, w, n] => withChamber a fun k => judgeSluice st k (sluiceChoice w) n
  | _ => malformed

/-- Codes 0x30 to 0x3D. -/
def frameChambers (st : Station) (args : List Byte) : Nat → Option Judge
  | 0x30 => some (chamberOnly args (judgeClaim st))
  | 0x31 => some (chamberOnly args (judgeReleaseConduct st))
  | 0x32 => some (chamberAnd args fun k m =>
      choose [judgeSetMode st k .automatic, judgeSetMode st k .directed] m (outOfSet st (.conductor k) 2))
  | 0x33 => some (chamberAnd args fun k x =>
      choose [judgeServiceOn st k, judgeServiceOff st k] x (outOfSet st (.conductor k) 2))
  | 0x34 => some (chamberOnly args (judgeHalt st))
  | 0x35 => some (chamberOnly args (judgeResume st))
  | 0x36 => some (chamberOnly args (judgeAbandonBatch st))
  | 0x37 => some (frameConfirmIn st args)
  | 0x38 => some (chamberOnly args (judgeConfirmClear st))
  | 0x39 => some (chamberAnd args fun k d =>
      choose [judgeBind st k .up, judgeBind st k .down] d (outOfDirected st k 2))
  | 0x3A => some (frameGate st args)
  | 0x3B => some (chamberAnd args fun k x =>
      choose [judgeFill st k false, judgeFill st k true] x (outOfDirected st k 2))
  | 0x3C => some (chamberAnd args fun k x =>
      choose [judgeEmpty st k false, judgeEmpty st k true] x (outOfDirected st k 2))
  | 0x3D => some (frameSluice st args)
  | _ => none

/-- Codes 0x40 to 0x43. -/
def frameReads (st : Station) (args : List Byte) : Nat → Option Judge
  | 0x40 => some (chamberOnly args (judgeReadChamber st))
  | 0x41 => some (bare args (judgeReadLevels st))
  | 0x42 => some (one 1 args fun x => choose [judgeForceFast st true, judgeForceFast st false] x (outOfSet st .any 1))
  | 0x43 => some (chamberOnly args (judgeLampTest st))
  | _ => none

/-- SET CLOCK's arguments. -/
def frameSetClock (st : Station) (args : List Byte) : Judge :=
  match numbers [2, 4] args with
  | some [a, b] => judgeSetClock st a b
  | _ => malformed

/-- SUBSCRIBE, with its optional watermark. -/
def frameSubscribe (st : Station) (args : List Byte) : Judge :=
  if args.isEmpty then judgeSubscribe st none else one 2 args fun w => judgeSubscribe st (some w)

/-- UNSUBSCRIBE's station. -/
def frameUnsubscribe (st : Station) (args : List Byte) : Judge :=
  one 1 args fun x =>
    if x = 1 then judgeUnsubscribe st .uc
    else if x = 2 then judgeUnsubscribe st .lc
    else if x = 3 then judgeUnsubscribe st .tc
    else outOfSet st .tc 1

/-- Codes 0x50 to 0x58. -/
def frameAccounts (st : Station) (args : List Byte) : Nat → Option Judge
  | 0x50 => some (bare args (judgeSwapTariff st))
  | 0x51 => some (frameSetClock st args)
  | 0x52 => some (frameSubscribe st args)
  | 0x53 => some (frameUnsubscribe st args)
  | 0x54 => some (bare args (judgeReadJournal st))
  | 0x55 => some (bare args (judgeReadJournalStatus st))
  | 0x56 => some (one 1 args fun x => choose [judgeReadTallies st false, judgeReadTallies st true] x (outOfSet st .any 1))
  | 0x57 => some (bare args (judgeReadSiteAccount st))
  | 0x58 => some (bare args (judgeSettleSite st))
  | _ => none

/-- R177: the notice kinds of a mask carried in 2 bytes. -/
def kindsOf (bits : Nat) : List NoticeKind := NoticeKind.all.filter (fun n => inSet bits (n.number - 1))

/-- Codes 0x60 to 0x64. -/
def frameNotices (st : Station) (args : List Byte) : Nat → Option Judge
  | 0x60 => some (bare args (judgeReadNotices st))
  | 0x61 => some (one 2 args fun m => judgeSetNoticeMask st (kindsOf m))
  | 0x62 => some (one 1 args fun x =>
      choose [judgeSetAttentionMode st .level, judgeSetAttentionMode st .pulse] x (outOfSet st .any 1))
  | 0x63 => some (bare args (judgeReadFault st))
  | 0x64 => some (bare args (judgeClearFault st))
  | _ => none

/-- Codes 0x70 and 0x71. -/
def frameStore (st : Station) (args : List Byte) : Nat → Option Judge
  | 0x70 => some (bare args (judgeStoreSettings st))
  | 0x71 => some (bare args (judgeRestart st))
  | _ => none

/-- R181: the request of a code, if the code names one. -/
def requestOf (st : Station) (args : List Byte) (code : Nat) : Option Judge :=
  [frameWindows st args code, frameVessels st args code, frameOrders st args code, frameChambers st args code,
    frameReads st args code, frameAccounts st args code, frameNotices st args code, frameStore st args code].findSome? id

/-- R180: a request of a code and its argument bytes judged; a code that names none is answered UNKNOWN. -/
def judgeFrame (st : Station) (code : Nat) (args : List Byte) : Judge :=
  (requestOf st args code).getD fun s => s.refuse .unknown

/-! ## Frames (R178) -/

/-- R178: the receiver is HUNTING again. -/
def State.hunt (s : State) (st : Station) : State := s.setStation st { s.station st with receiver := .hunting }

/-- R178: a bad frame abandoned: BAD_FRAMES rises, and the receiver is HUNTING again. A SILENT port takes none (R176). -/
def State.badFrame (s : State) (st : Station) : State :=
  if (s.station st).rate = .silent then s
  else s.setStation st { s.station st with receiver := .hunting, badFrames := countUp (s.station st).badFrames }

/-- R177, R178: the code and the argument bytes of a good frame, from its bytes after the lead byte. -/
def goodFrame (bytes : List Byte) : Option (Nat × List Byte) :=
  match bytes with
  | len :: code :: rest =>
    let n := len.toNat
    let counted := bytes.take (n + 1)
    if 1 ≤ n ∧ n ≤ 250 ∧ bytes.length = n + 3 ∧ halfBytes (crc16 counted).toNat = bytes.drop (n + 1) then
      some (code.toNat, rest.take (n - 1))
    else none
  | _ => none

/-- REQUEST_FRAME (R163, R178, R179): a good frame is taken by the port; one that is not is bad. -/
def execRequestFrame (st : Station) (bytes : List Byte) (s : State) : Host.Outcome State Fault Refusal :=
  match goodFrame bytes with
  | some (code, args) =>
    if (s.station st).rate = .silent then .next s
    else .next ((s.hunt st).portTake st code .serving (judgeFrame st code args))
  | none => .next (s.badFrame st)

/-- BAD_FRAME (R178). -/
def execBadFrame (st : Station) (_cause : BadCause) (s : State) : Host.Outcome State Fault Refusal :=
  .next (s.badFrame st)

/-- FRAME_GAP_TIMEOUT (R178). -/
def execFrameGapTimeout (st : Station) (s : State) : Host.Outcome State Fault Refusal := .next (s.badFrame st)

/-- STRAY_LINK_BYTE (R176, R178): a HUNTING receiver discards every byte but a good 0x5A, which begins a frame. -/
def execStrayLinkByte (st : Station) (byte : Byte) (framingError : Bool) (s : State) :
    Host.Outcome State Fault Refusal :=
  let r := s.station st
  if r.rate ≠ .silent ∧ r.receiver = .hunting ∧ byte = 0x5A#8 ∧ framingError = false then
    .next (s.setStation st { r with receiver := .receiving })
  else .next s

/-! ## Replies sent (R179) -/

/-- R179: the BUSY replies for the codes in a port's list, oldest first, the list emptied; with none the port is IDLE. -/
def StationRec.nextReplies (r : StationRec) : StationRec :=
  if r.busy.isEmpty then { r with service := .idle }
  else { r with service := .sendingBusy, tx := r.busy.map (fun c => ⟨c, .busy, []⟩), busy := [] }

/-- R189: TC's port is SERVING a STORE SETTINGS whose reply is not yet due. -/
def State.awaitsStore (s : State) (st : Station) : Bool := decide (st = .tc) && s.store.storing.isSome

/-- REPLY_SENT (R179): the last byte of the port's replies has been sent. -/
def execReplySent (st : Station) (s : State) : Host.Outcome State Fault Refusal :=
  if (s.station st).service = .idle ∨ s.awaitsStore st = true then .next s
  else .next (s.setStation st (s.station st).nextReplies)

end Sys2Proof.Machine
end

