-- ==== Sys2Proof/Machine/Dispatch.lean ====
section
/-! DEFINITION. The meaning of every command: one arm for each row of the table. -/

namespace Sys2Proof.Machine

/-- The effect of a command on everything but the queue. -/
def exec (i : Instr) (s : State) : Host.Outcome State Fault Refusal :=
  match i with
  | .powerOnReset straps => Sys2Proof.Machine.execPowerOnReset straps s
  | .restart st => Sys2Proof.Machine.execRestart st s
  | .restartEvent straps => Sys2Proof.Machine.execRestartEvent straps s
  | .roundStart => Sys2Proof.Machine.execRoundStart s
  | .roundTimerExpiry b => Sys2Proof.Machine.execRoundTimerExpiry b s
  | .gaugeReply b1 b2 b3 b4 => Sys2Proof.Machine.execGaugeReply b1 b2 b3 b4 s
  | .noReply => Sys2Proof.Machine.execNoReply s
  | .gaugeStrayBytes bytes => Sys2Proof.Machine.execGaugeStrayBytes bytes s
  | .holdTimerExpiry b => Sys2Proof.Machine.execHoldTimerExpiry b s
  | .settleExpiry p => Sys2Proof.Machine.execSettleExpiry p s
  | .trailTimerExpiry => Sys2Proof.Machine.execTrailTimerExpiry s
  | .forceFast st on => Sys2Proof.Machine.execForceFast st on s
  | .readLevels st => Sys2Proof.Machine.execReadLevels st s
  | .drivePollCycle => Sys2Proof.Machine.execDrivePollCycle s
  | .gateReport k e r => Sys2Proof.Machine.execGateReport k e r s
  | .sluiceReport q step => Sys2Proof.Machine.execSluiceReport q step s
  | .driveAnswerTimeout => Sys2Proof.Machine.execDriveAnswerTimeout s
  | .orderEcho a => Sys2Proof.Machine.execOrderEcho a s
  | .echoTimeout a => Sys2Proof.Machine.execEchoTimeout a s
  | .driveStrayBytes bytes => Sys2Proof.Machine.execDriveStrayBytes bytes s
  | .statusAnswer a ans => Sys2Proof.Machine.execStatusAnswer a ans s
  | .statusTimeout a => Sys2Proof.Machine.execStatusTimeout a s
  | .gateMovementTimeout k e => Sys2Proof.Machine.execGateMovementTimeout k e s
  | .sluiceMovementTimeout q => Sys2Proof.Machine.execSluiceMovementTimeout q s
  | .rampIntervalExpiry q => Sys2Proof.Machine.execRampIntervalExpiry q s
  | .serviceOn st k => Sys2Proof.Machine.execServiceOn st k s
  | .serviceOff st k => Sys2Proof.Machine.execServiceOff st k s
  | .setMode st k m => Sys2Proof.Machine.execSetMode st k m s
  | .fillSlow k => Sys2Proof.Machine.execFillSlow k s
  | .equaliseTimeout k => Sys2Proof.Machine.execEqualiseTimeout k s
  | .entryOverdue k => Sys2Proof.Machine.execEntryOverdue k s
  | .clearOut k => Sys2Proof.Machine.execClearOut k s
  | .leaveOverdue k => Sys2Proof.Machine.execLeaveOverdue k s
  | .confirmIn st k present => Sys2Proof.Machine.execConfirmIn st k present s
  | .confirmClear st k => Sys2Proof.Machine.execConfirmClear st k s
  | .halt st k => Sys2Proof.Machine.execHalt st k s
  | .resume st k => Sys2Proof.Machine.execResume st k s
  | .abandonBatch st k => Sys2Proof.Machine.execAbandonBatch st k s
  | .bind st k d => Sys2Proof.Machine.execBind st k d s
  | .gateOpen st k e => Sys2Proof.Machine.execGateOpen st k e s
  | .gateClose st k e => Sys2Proof.Machine.execGateClose st k e s
  | .gateStop st k e => Sys2Proof.Machine.execGateStop st k e s
  | .fill st k cross => Sys2Proof.Machine.execFill st k cross s
  | .empty st k cross => Sys2Proof.Machine.execEmpty st k cross s
  | .sluice st k which step => Sys2Proof.Machine.execSluice st k which step s
  | .readChamber st k => Sys2Proof.Machine.execReadChamber st k s
  | .wishExpiry k => Sys2Proof.Machine.execWishExpiry k s
  | .crossSlow => Sys2Proof.Machine.execCrossSlow s
  | .addVessel st v => Sys2Proof.Machine.execAddVessel st v s
  | .deleteVessel st slot => Sys2Proof.Machine.execDeleteVessel st slot s
  | .seek st q => Sys2Proof.Machine.execSeek st q s
  | .seekNext st => Sys2Proof.Machine.execSeekNext st s
  | .hold st slot => Sys2Proof.Machine.execHold st slot s
  | .release st slot => Sys2Proof.Machine.execRelease st slot s
  | .settle st slot amount => Sys2Proof.Machine.execSettle st slot amount s
  | .enterOrder st slot d laden cls => Sys2Proof.Machine.execEnterOrder st slot d laden cls s
  | .cancelOrder st n => Sys2Proof.Machine.execCancelOrder st n s
  | .readBook st d pos => Sys2Proof.Machine.execReadBook st d pos s
  | .readBatch st k => Sys2Proof.Machine.execReadBatch st k s
  | .formationTimerExpiry => Sys2Proof.Machine.execFormationTimerExpiry s
  | .flashPhaseChange g => Sys2Proof.Machine.execFlashPhaseChange g s
  | .provingInput l current => Sys2Proof.Machine.execProvingInput l current s
  | .lampFailed l => Sys2Proof.Machine.execLampFailed l s
  | .lampTest st k => Sys2Proof.Machine.execLampTest st k s
  | .lampTestEnd k => Sys2Proof.Machine.execLampTestEnd k s
  | .swapTariff st => Sys2Proof.Machine.execSwapTariff st s
  | .setClock st day second => Sys2Proof.Machine.execSetClock st day second s
  | .siteClockTick => Sys2Proof.Machine.execSiteClockTick s
  | .subscribe st watermark => Sys2Proof.Machine.execSubscribe st watermark s
  | .unsubscribe st who => Sys2Proof.Machine.execUnsubscribe st who s
  | .readJournal st => Sys2Proof.Machine.execReadJournal st s
  | .readJournalStatus st => Sys2Proof.Machine.execReadJournalStatus st s
  | .readTallies st clear => Sys2Proof.Machine.execReadTallies st clear s
  | .readSiteAccount st => Sys2Proof.Machine.execReadSiteAccount st s
  | .settleSite st => Sys2Proof.Machine.execSettleSite st s
  | .requestFrame st bytes => Sys2Proof.Machine.execRequestFrame st bytes s
  | .badFrame st cause => Sys2Proof.Machine.execBadFrame st cause s
  | .frameGapTimeout st => Sys2Proof.Machine.execFrameGapTimeout st s
  | .strayLinkByte st byte framingError => Sys2Proof.Machine.execStrayLinkByte st byte framingError s
  | .replySent st => Sys2Proof.Machine.execReplySent st s
  | .linkLost st => Sys2Proof.Machine.execLinkLost st s
  | .claim st k => Sys2Proof.Machine.execClaim st k s
  | .releaseConduct st k => Sys2Proof.Machine.execReleaseConduct st k s
  | .readNotices st => Sys2Proof.Machine.execReadNotices st s
  | .setNoticeMask st enabled => Sys2Proof.Machine.execSetNoticeMask st enabled s
  | .setAttentionMode st m => Sys2Proof.Machine.execSetAttentionMode st m s
  | .attentionPulseEnd st => Sys2Proof.Machine.execAttentionPulseEnd st s
  | .readFault st => Sys2Proof.Machine.execReadFault st s
  | .clearFault st => Sys2Proof.Machine.execClearFault st s
  | .setWindow st collection cursor move first last => Sys2Proof.Machine.execSetWindow st collection cursor move first last s
  | .readNext st count => Sys2Proof.Machine.execReadNext st count s
  | .writeNext st count data => Sys2Proof.Machine.execWriteNext st count data s
  | .readAt st collection index first last => Sys2Proof.Machine.execReadAt st collection index first last s
  | .writeAt st collection index first last data => Sys2Proof.Machine.execWriteAt st collection index first last data s
  | .storeSettings st => Sys2Proof.Machine.execStoreSettings st s
  | .storeReadbackEnd matched => Sys2Proof.Machine.execStoreReadbackEnd matched s
  | .noneAnswer => Sys2Proof.Machine.execNoneAnswer s

end Sys2Proof.Machine
end

