-- ==== Sys2Proof/Machine/Step.lean ====
section
/-! DEFINITION. The step of the part: the command at the front of the queue, or 1 ms of elapsed time on an empty queue. -/

namespace Sys2Proof.Machine

/-- One step: the command at the front of the queue is carried out with the queue's rest. On an empty queue elapsed time
advances by 1 ms and nothing else happens: every expiry is a command of its own (log entry 1). -/
def step (s : State) : Host.Outcome State Fault Refusal :=
  match s.pending with
  | [] => .next { s with now := s.now + 1 }
  | c :: rest => exec c { s with pending := rest }

/-- The state with the command a word spells put at the front of the queue; no word of the table spells one. -/
def State.withFetchWord (s : State) (nbits w : Nat) : State :=
  match decodeTableWord nbits w with
  | some c => { s with pending := c :: s.pending }
  | none => s

end Sys2Proof.Machine
end

