-- ==== Sys2Proof/Safety.lean ====
section
/-! DEFINITION. What a safe state of the part is, and the terms the statements use: what a port and an event do, what stays the same,
when an event has no further consequence, and the ranges of the settings as the manual's tables give them. -/

namespace Sys2Proof.Machine

/-! ## Safe states -/

/-- R164, R165: a station that conducts a chamber is PRESENT. -/
def State.ConductPresent (s : State) : Prop :=
  ∀ k st, s.holder k = some st → (s.station st).link = .present

/-- R80: no two non-FREE slots of the register hold the same mark. -/
def State.MarksUnique (s : State) : Prop :=
  ∀ i j, i < Config.slots → j < Config.slots → (s.vessel i).nonFree = true → (s.vessel j).nonFree = true →
    (s.vessel i).mark = (s.vessel j).mark → i = j

/-- R133: the site clock, while set, reads a day 0 to 65,535 and a second of day 0 to 86,399. -/
def State.ClockInRange (s : State) : Prop :=
  ∀ t, s.time = some t → t.day ≤ 65535 ∧ t.second ≤ 86399

/-- R118 to R120: the called and the shown aspects are those that follow from the chambers, the batches, the gates and the lamps. -/
def State.SignalsCurrent (s : State) : Prop := ∀ k, s.signals.aspects.get k = s.newAspects k

/-- R104, R140, R144: the words of frames that a batch may still need: a ticket for each member, a WATER frame for each record not yet
closed, and one for a re-apportionment while members can still leave. -/
def Batch.owed (b : Batch) : Nat :=
  16 * b.members.length + (if b.fill = none then 12 else 0) + (if b.empty = none then 12 else 0)
    + (if b.state = .bound ∨ b.state = .entering then 12 else 0)

/-- R154: the frames stored and the words reserved fit the journal's 4,096 words, and each batch's reserve, of at most 164 words,
covers what it may still need. -/
def State.JournalFits (s : State) : Prop :=
  s.used + s.reserved ≤ 4096
    ∧ ∀ k b, s.batch k = some b →
      b.owed ≤ b.reserve ∧ b.reserve ≤ 164 ∧ (b.members = [] → b.state = .bound ∨ b.state = .entering)

/-- R94, R95: the book holds at most 32 orders with numbers and vessels of their own, each the order its vessel's record names; each
list stands in its order, no entry sequence is beyond the last one given, and no order was entered later than now. -/
def State.BookInOrder (s : State) : Prop :=
  s.book.orders.length ≤ 32 ∧ (s.book.orders.map (·.number)).Nodup ∧ (s.book.orders.map (·.slot)).Nodup
    ∧ (∀ o ∈ s.book.orders,
      (s.vessel o.slot).state ≠ .free ∧ (s.vessel o.slot).order = some o.number ∧ o.sequence ≤ s.book.entrySequence
        ∧ o.entered ≤ s.now)
    ∧ ∀ d, (s.book.lists.get d).Pairwise (fun x y => x.before y = true)

/-- R89: no ACTIVE vessel is at or above its ceiling. -/
def State.CeilingsHeld (s : State) : Prop :=
  ∀ i, (s.vessel i).state = .active → (s.vessel i).ceiling = 0 ∨ (s.vessel i).total < (s.vessel i).ceiling

/-! ## The exchange of a request and its reply -/

/-- R176, R179: the port of a station takes a request at once: it is not SILENT, and its service is IDLE. -/
abbrev State.takes (s : State) (st : Station) : Prop := (s.station st).rate ≠ .silent ∧ (s.station st).service = .idle

/-- R163, R178, R180: the exchange of a request, in the state the request leaves: the sender PRESENT with its silence timer
restarted, its port's receiver HUNTING, and the reply on its line. -/
def State.answered (s : State) (st : Station) (code : Nat) (o : ReplyOutcome) (results : List WireField) : State :=
  s.setStation st
    { s.station st with
      link := .present, silence := some (s.now + seconds s.settings.silenceLimit), receiver := .hunting
      tx := [⟨code, o, results⟩] }

/-! ## The end of an event -/

/-- The end of an event that has no further consequence: both chambers' signals derived again (R118 to R121), and the deferred
mark of a chamber that is not available cleared (R104). -/
def State.settled (s : State) : State := s.derive.clearDeferred

/-- No consequence of an earlier event waits, and no binding is deferred. -/
abbrev State.Calm (s : State) : Prop := s.agenda = [] ∧ s.book.deferred = ⟨false, false⟩

/-- The arbiter has nothing on hand: no phase, no record, no wish. -/
abbrev State.CrossFree (s : State) : Prop :=
  s.arbiter.owner = .idle ∧ s.arbiter.record = none ∧ s.arbiter.wishes = ⟨none, none⟩

/-- Calm, both chambers OUT_OF_SERVICE with no order kept, no ramp on a sluice, and the arbiter IDLE: a drive report then has no
effect beyond its own actuator, the levels' sampling, the journal and the signals. -/
def State.Quiet (s : State) : Prop :=
  s.Calm ∧ (∀ k, (s.chamber k).state = .outOfService ∧ (s.chamber k).pendingOrder = none)
    ∧ (∀ q, (s.sluice q).ramp = none) ∧ s.arbiter.owner = .idle

/-- R30: nothing outside chamber k's own sluices and sequencer waits to be asked again: the other chamber keeps no pending order,
and no other sluice's ramp a refused step. -/
def State.KeptOnlyBy (s : State) (k : Chamber) : Prop :=
  (s.chamber k.other).pendingOrder = none
    ∧ ∀ q r, q ≠ .chamber k .upper → q ≠ .chamber k .lower → (s.sluice q).ramp = some r → ∀ c, r.waiting ≠ .retry c

/-- R30: nothing waits to be asked again: no pending order is kept, and no ramp has a refused step. -/
def State.NothingKept (s : State) : Prop :=
  (∀ k, (s.chamber k).pendingOrder = none) ∧ ∀ q r, (s.sluice q).ramp = some r → ∀ c, r.waiting ≠ .retry c

/-! ## What stays the same -/

/-- A station's record without its notice set and its attention line. -/
def StationRec.core (r : StationRec) : StationRec := { r with notices := [], line := false, pulse := none }

/-- The records that no event of the plant touches: the vessels, the tallies, the settings, the tables, the clock, the conduct
record, the store, the queue, and of each station everything but its notices and its attention line. -/
structure SameRecords (s t : State) : Prop where
  loaded : t.loaded = s.loaded
  settings : t.settings = s.settings
  vessels : t.vessels = s.vessels
  active : t.active = s.active
  standby : t.standby = s.standby
  clock : t.clock = s.clock
  tallies : t.tallies = s.tallies
  conduct : t.conduct = s.conduct
  store : t.store = s.store
  pending : t.pending = s.pending
  stations : ∀ st, (t.station st).core = (s.station st).core

/-- What the level monitor has measured of a body: all but its sampling mode and the timers that follow from it. -/
structure SameBody (s t : State) (b : Body) : Prop where
  level : (t.body b).level = (s.body b).level
  state : (t.body b).state = (s.body b).state
  handedLevel : (t.body b).handedLevel = (s.body b).handedLevel
  handedState : (t.body b).handedState = (s.body b).handedState
  gauges : (t.body b).gauges = (s.body b).gauges
  lastRound : (t.body b).lastRound = (s.body b).lastRound

/-- Every body's measurements, every pair's state, the outstanding poll and the trail timer stay. -/
def SameLevels (s t : State) : Prop :=
  (∀ b, SameBody s t b) ∧ (∀ p, t.pair p = s.pair p) ∧ t.levels.poll = s.levels.poll ∧ t.levels.trail = s.levels.trail

/-- The overflow memories, the start of the polling cycle and the force fast flag stay. -/
def SameGuards (s t : State) : Prop :=
  t.drive.overflow = s.drive.overflow ∧ t.drive.cycleStart = s.drive.cycleStart ∧ t.levels.forceFast = s.levels.forceFast

/-- The STATUS queries and the report polls of the drive line stay. -/
def SameLine (s t : State) : Prop := t.drive.queries = s.drive.queries ∧ t.drive.polls = s.drive.polls

/-- The actuators other than one stay as they are, with the guards' memories. -/
def SameOthers (s t : State) (a : Actuator) : Prop :=
  (∀ k e, a ≠ .gate k e → t.gate k e = s.gate k e) ∧ (∀ q, a ≠ .sluice q → t.sluice q = s.sluice q) ∧ SameGuards s t

/-! ## Effects several commands share -/

/-- R3: a body's next round falls due `n` ms after the start of its last one: at once when that has passed, else by its round
timer. -/
def State.FallsDue (s t : State) (b : Body) (n : Nat) : Prop :=
  ∀ r, (s.body b).lastRound = some r →
    if r + n ≤ s.now then b ∈ t.levels.queue else (t.body b).roundTimer = some (r + n)

/-- R45, R31, R44: chamber k has entered the phase proper of a kind in DIRECTED or AUTOMATIC: its phase timer runs, and the first
order of a ramp to step 8 has been sent to its sluice. -/
structure PhaseBegun (s t : State) (k : Chamber) (kind : WaterKind) : Prop where
  chamber : t.chamber k =
    { s.chamber k with
      state := kind.phase
      pendingOrder := none
      phase := some ⟨t.now, seconds s.settings.fillLimit⟩
      slowRaised := false
      water := (t.chamber k).water }
  state : (t.sluice (.chamber k kind.side)).state = .moving
  target : (t.sluice (.chamber k kind.side)).target = some (.step 1)
  timer : (t.sluice (.chamber k kind.side)).timer = some (t.now + seconds s.settings.sluiceLimit)
  ramp : (t.sluice (.chamber k kind.side)).ramp = some ⟨.sequencer k, 8, 1, some t.now, false, .nothing⟩
  sent : t.drive.sent = s.drive.sent ++ [⟨.sluice (.chamber k kind.side), .move 1, false⟩]
  others : SameOthers s t (.sluice (.chamber k kind.side))
  line : SameLine s t
  otherChamber : t.chamber k.other = s.chamber k.other

/-- R19: the state of a gate that an OPEN or a CLOSE moves. -/
def GateMove.moves : GateMove → GateState
  | .opn => .opening
  | .cls => .closing

/-- R17: the order that goes to the drive for it. -/
def GateMove.order : GateMove → DriveOrder
  | .opn => .opn
  | .cls => .cls

/-- R19: an OPEN or a CLOSE has been sent to a gate of chamber k, which moves; no other actuator has changed. -/
structure GateOrdered (s t : State) (k : Chamber) (e : Side) (m : GateMove) : Prop where
  gate : t.gate k e =
    { state := m.moves
      outstanding := some m
      lastMove := some m
      timer := some (t.now + seconds ((s.settings.chamber.get k).gateLimit.get e))
      surge := decide (m = .opn) && (s.gate k e).surge }
  sent : t.drive.sent = s.drive.sent ++ [⟨.gate k e, m.order, false⟩]
  levels : SameLevels s t
  others : SameOthers s t (.gate k e)
  line : SameLine s t
  otherChamber : t.chamber k.other = s.chamber k.other

/-- R104, R105: a batch has been bound to chamber k from what a scan of direction `d`'s list took, and now stands in state `x`: its
record, the members' orders BOUND, no other order changed but in its pass-over count, and BATCH_BOUND raised at every station. -/
structure BatchFormed (s t : State) (k : Chamber) (d : Direction) (c : Scan) (x : BatchState) : Prop where
  batch : t.batch k = some
    { number := freeNumber (s.batchNumber k.other).toList 2 s.book.nextBatch, direction := d, state := x, members := c.members
      rows := c.rows, tariff := s.active, night := none, fill := none, empty := none, reserve := 16 * c.members.length + 36
      sideClear := s.settings.sideClear }
  otherBatch : t.batch k.other = s.batch k.other
  nextBatch : t.book.nextBatch = succNumber (freeNumber (s.batchNumber k.other).toList 2 s.book.nextBatch)
  counters : t.book.nextOrder = s.book.nextOrder ∧ t.book.entrySequence = s.book.entrySequence
  deferred : t.book.deferred = s.book.deferred.set k false
  orders : t.book.orders.map (fun o => { o with state := .waiting, passOver := 0 })
    = s.book.orders.map (fun o => { o with state := .waiting, passOver := 0 })
  members : ∀ o ∈ t.book.orders, (∃ m ∈ c.members, m.order = o.number) →
    o.state = .bound (freeNumber (s.batchNumber k.other).toList 2 s.book.nextBatch)
  kept : ∀ o ∈ t.book.orders, (∀ m ∈ c.members, m.order ≠ o.number) →
    ∃ x ∈ s.book.orders, x.number = o.number ∧ x.state = o.state ∧ x.passOver ≤ o.passOver
  notices : ∀ st, .batchBound ∈ (t.station st).notices

/-- R50, R39: the plant of chamber k has been ordered to rest: its sluices shut, no ramp of theirs left, and its moving gates
stopped. `spare` is the gate that the event itself has changed, of which nothing is said. -/
structure PlantShut (s t : State) (k : Chamber) (spare : Option Side) : Prop where
  sluices : ∀ e, (t.sluice (.chamber k e)).ramp = none
    ∧ (((s.sluice (.chamber k e)).state = .shut ∨ (s.sluice (.chamber k e)).state = .held)
        ∧ (s.sluice (.chamber k e)).step = some 0 ∧ (t.sluice (.chamber k e)).state = (s.sluice (.chamber k e)).state
      ∨ (t.sluice (.chamber k e)).state = .moving ∧ (t.sluice (.chamber k e)).target = some (.step 0))
  gates : ∀ e, spare ≠ some e → (t.gate k e).state =
    if (s.gate k e).state = .opening ∨ (s.gate k e).state = .closing then .stopped else (s.gate k e).state

/-- A chamber's sequencer, its gates and its sluices stay as they are. -/
structure SameChamber (s t : State) (k : Chamber) : Prop where
  chamber : t.chamber k = s.chamber k
  gates : ∀ e, t.gate k e = s.gate k e
  sluices : ∀ e, t.sluice (.chamber k e) = s.sluice (.chamber k e)

/-- R50: chamber k has been halted in state `c`: its plant ordered to rest, its timers of entry and leave, its batch and its water
record kept. -/
structure ChamberHalted (s t : State) (k : Chamber) (c : ChamberState) (why : HaltCause) (spare : Option Side) : Prop
    extends PlantShut s t k spare where
  chamber : t.chamber k =
    { s.chamber k with state := .halted, interrupted := some c, haltCause := some why, pendingOrder := none, phase := none }

/-- R50: chamber k, and it alone, has been halted in state `c`. -/
structure HaltedIn (s t : State) (k : Chamber) (c : ChamberState) (why : HaltCause) (spare : Option Side) : Prop
    extends ChamberHalted s t k c why spare where
  otherPlant : (∀ e, t.gate k.other e = s.gate k.other e) ∧ (∀ e, t.sluice (.chamber k.other e) = s.sluice (.chamber k.other e))
    ∧ t.sluice .cross = s.sluice .cross
  guards : SameGuards s t
  line : SameLine s t
  otherChamber : t.chamber k.other = s.chamber k.other
  book : t.book = s.book
  site : t.site = s.site

/-- R71, R72: a chamber's water record once the cross record `r`, if there is one, has been delivered to chamber k: as it stands
when it had been delivered before. -/
def takenWater (k : Chamber) (w : Option WaterRec) : Option CrossRec → Option WaterRec
  | some r => if r.delivered.get k then w else w.map fun x => { x with start := r.start.get k, crossed := true, crossEnd := r.stop.get k }
  | none => w

/-- R73: a fault of the cross sluice, its drive at `step`, has been handed to the arbiter: each chamber in service and not HALTED is
halted with that kind and the other left alone, and the sluice is ordered to 0 with the arbiter ENDING. `r` is the record of the
phase that has ended, if there is one, which each chamber halted takes (R72). -/
structure CrossFaulted (s t : State) (kind : FaultKind) (step : Option Nat) (r : Option CrossRec) : Prop where
  halted : ∀ k, (s.chamber k).state.live = true →
    ChamberHalted (s.setChamber k { s.chamber k with water := takenWater k (s.chamber k).water r }) t k (s.chamber k).state
      (.fault kind) none
  kept : ∀ k, (s.chamber k).state.live = false → SameChamber s t k
  cross : t.sluice .cross =
    { state := .moving, step := step, target := some (.step 0), timer := some (t.now + seconds s.settings.sluiceLimit) }
  ordered : ⟨.sluice .cross, .move 0, false⟩ ∈ t.drive.sent.drop s.drive.sent.length
  arbiter : t.arbiter =
    { s.arbiter with
      owner := .ending
      timer := none
      record := r.map fun x =>
        { x with
          delivered :=
            ⟨x.delivered.c1 || (s.chamber .c1).state.live, x.delivered.c2 || (s.chamber .c2).state.live⟩ } }
  levels : SameLevels s t
  guards : SameGuards s t
  line : SameLine s t
  book : t.book = s.book
  site : t.site = s.site

/-! ## Settings -/

/-- R182, the settings tables of the manual's chapters: the range of a setting that has one. -/
def settingRange : Nat → Nat → Option (Nat × Nat)
  | 0, n =>
    match n with
    | 1 => some (1, 2)
    | 3 | 4 => some (0, 4095)
    | 5 => some (1, 15)
    | 6 => some (0, 30)
    | 7 => some (1, 20)
    | 8 => some (0, 3)
    | 9 => some (1, 60)
    | 11 => some (0, 60)
    | 13 => some (5, 120)
    | 14 => some (2, 60)
    | 15 => some (50, 1000)
    | 16 => some (1, 8)
    | 17 => some (60, 3600)
    | 18 | 19 | 23 => some (60, 1800)
    | 20 | 21 => some (0, 300)
    | 22 => some (10, 500)
    | 24 => some (0, 3600)
    | 26 => some (1, 7)
    | 27 => some (0, 50)
    | 28 | 29 => some (0, 100)
    | 30 => some (2, 60)
    | _ => none
  | 1, n | 2, n =>
    match n with
    | 1 => some (200, 3000)
    | 2 => some (40, 250)
    | 3 => some (100, 8000)
    | 4 => some (0, 4095)
    | 5 | 6 => some (10, 300)
    | _ => none
  | _, _ => none

/-- R187, R16, R122: what a write of the value `x` leaves in a setting; none for a field that is no setting. -/
def settingKept (i n x : Nat) : Option Nat :=
  match settingRange i n with
  | some r => some (max r.1 (min r.2 x))
  | none =>
    if i = 0 then
      if n = 2 ∨ n = 12 ∨ n = 25 ∨ n = 36 ∨ n = 37 then some (min 1 x)
      else if n = 10 then some (max 100 (min 2000 (x - x % 50)))
      else if n = 31 then some (if x = 0 then 0 else max 10 (min 3600 x))
      else if n = 32 ∨ n = 34 then some (if 20 ≤ x then 20 else if 15 ≤ x then 15 else if 10 ≤ x then 10 else 5)
      else if n = 33 ∨ n = 35 then some (if 75 ≤ x then 75 else if 67 ≤ x then 67 else if 50 ≤ x then 50 else 33)
      else none
    else if 3 ≤ i ∧ i ≤ 10 ∧ n = 1 then
      some (if x ≤ 500 then x else if x < 32768 then 500 else if x < 65036 then 65036 else x)
    else none

/-- R177: the bytes of a setting. That HIGH_HEAD_MAX_STEP takes 1 as a step does, and the other settings with few values 2, is log
entry 77 (DESIGN CHOICE). -/
def settingBytes (i n : Nat) : Nat := if i = 0 ∧ (n = 2 ∨ n = 12 ∨ n = 16 ∨ n = 25 ∨ n = 36 ∨ n = 37) then 1 else 2

/-- R182: the record of a chamber. -/
def chamberRecord : Chamber → Nat
  | .c1 => 1
  | .c2 => 2

/-- R182: the record of a gauge. -/
def gaugeRecord (b : Body) (g : GaugeSide) : Nat :=
  (match b with | .up => 3 | .lp => 5 | .c1 => 7 | .c2 => 9) + (match g with | .a => 0 | .b => 1)

end Sys2Proof.Machine
end

