-- ==== Sys2Proof/Certificates/Slice0/Obligations.lean ====
section
/-! DEFINITION. The statements for the provers, from the numbered rules of the manual: block by block, what each command does, what
it leaves unchanged, and what holds of every state. -/

open Sys2Proof Sys2Proof.Machine

/-! ## The queue, reset and the invariants -/

/-- A command at the front of the queue is carried out with the queue's rest. The model's choice (log entry 1): on an empty queue a
step is 1 ms of elapsed time and nothing else. -/
def Obligations.StepRunsTheFrontCommand : Prop :=
  (∀ (c : Instr) (rest : List Instr) (s : State), s.pending = c :: rest → step s = exec c { s with pending := rest })
    ∧ ∀ s : State, s.pending = [] → step s = .next { s with now := s.now + 1 }

/-- Every command completes, in every state and with every operand, and leaves the commands that wait alone: that one without its
occasion completes and changes nothing is read from the rules (log entry 6). -/
def Obligations.EveryCommandCompletes : Prop :=
  ∀ (c : Instr) (s : State), ∃ t, exec c s = .next t ∧ t.pending = s.pending

/-- What reset leaves, block by block (R15, R27, R36, R64, R74, R93, R116, R127, R133, R145, R162, R175, R179, R183). The
values that come from the settings (the trail timer, both chambers and the cross sluice present, no notice, an empty capture record)
are those of a store that holds valid defaults, the model's choice (log entry 3), and the STATUS queries stand as sent and unanswered
(log entry 44). -/
def Obligations.ResetLeavesEveryBlockAtItsStart : Prop :=
  let r := State.reset
  (∀ b, r.body b = { state := .unknown, sampling := .primary }) ∧ r.levels.queue = [.up, .lp, .c1, .c2]
    ∧ r.levels.forceFast = false ∧ (∀ p, r.pair p = .notEqual) ∧ r.levels.trail = none
    ∧ (∀ k e, r.gate k e = { state := .unknown }) ∧ (∀ q, r.sluice q = { state := .unknown })
    ∧ (∀ a, r.query a = some ⟨a, false⟩) ∧ r.drive.overflow = ⟨false, false⟩
    ∧ (∀ k, r.chamber k = { state := .outOfService, mode := .automatic })
    ∧ r.arbiter.owner = .idle ∧ (∀ k, r.wish k = none) ∧ r.arbiter.record = none
    ∧ (∀ i, i < Config.slots → (r.vessel i).state = .free)
    ∧ r.book.orders = [] ∧ r.book.nextOrder = 1 ∧ r.book.nextBatch = 1 ∧ r.book.entrySequence = 0 ∧ (∀ k, r.batch k = none)
    ∧ (∀ k, r.signals.aspects.get k = ⟨⟨.closed, .closed⟩, ⟨.closed, .closed⟩, ⟨.stop, .stop⟩, ⟨.stop, .stop⟩⟩)
    ∧ (∀ l, (r.lamp l).proven = true) ∧ r.time = none
    ∧ r.journal.frames = [] ∧ r.subscriber .tc = some ⟨0, 2048⟩ ∧ r.subscriber .uc = none ∧ r.subscriber .lc = none
    ∧ r.site = ⟨0, 0, 0⟩ ∧ r.tallies = {} ∧ (∀ k, r.holder k = none) ∧ r.capture = ⟨none, false, false⟩
    ∧ ∀ st, (r.station st).link = .absent ∧ (r.station st).notices = [] ∧ (r.station st).enabled = NoticeKind.all
        ∧ (r.station st).attention = .level ∧ (r.station st).line = false ∧ (r.station st).service = .idle
        ∧ (r.station st).receiver = .hunting ∧ (r.station st).context = none
        ∧ (r.station st).window = ⟨.vessels, 0, .up, 1, 15, 1⟩

/-- Reset meets the seven invariants. -/
def Obligations.ResetMeetsTheInvariants : Prop :=
  State.reset.MarksUnique ∧ State.reset.ConductPresent ∧ State.reset.ClockInRange ∧ State.reset.SignalsCurrent
    ∧ State.reset.JournalFits ∧ State.reset.BookInOrder ∧ State.reset.CeilingsHeld

/-- R80, its last paragraph: no two non-FREE slots hold the same mark, kept by every step from every state. -/
def Obligations.StepKeepsMarksUnique : Prop :=
  ∀ s t : State, s.MarksUnique → step s = .next t → t.MarksUnique

/-- R165, its last paragraph: a station that is ABSENT or LOST holds no conduct, kept by every step from every state. -/
def Obligations.StepKeepsConductPresent : Prop :=
  ∀ s t : State, s.ConductPresent → step s = .next t → t.ConductPresent

/-- R133: the set clock stays within its ranges at every step from every state. -/
def Obligations.StepKeepsClockInRange : Prop :=
  ∀ s t : State, s.ClockInRange → step s = .next t → t.ClockInRange

/-- R154, R155: the frames stored and the words reserved are together at most 4,096, each reserve covering what its batch may still
need, kept by every step from every state. -/
def Obligations.StepKeepsJournalFits : Prop :=
  ∀ s t : State, s.JournalFits → step s = .next t → t.JournalFits

/-- R94, R95: at most 32 orders, with distinct numbers, one to a vessel and named by its record, each list in its order and none
entered later than now, kept by every step from every state. -/
def Obligations.StepKeepsBookInOrder : Prop :=
  ∀ s t : State, s.BookInOrder → step s = .next t → t.BookInOrder

/-- R89: a vessel at or above its ceiling is HELD, kept by every step from every state. -/
def Obligations.StepKeepsCeilingsHeld : Prop :=
  ∀ s t : State, s.CeilingsHeld → step s = .next t → t.CeilingsHeld

/-! ## Power-on and restart -/

/-- R186: power-on and the reset line load a valid copy of the store, DEFAULTED clear, and start every block; without one the
defaults are loaded, DEFAULTED is set, and SETTINGS_LOST and SETTINGS_DEFAULTED are raised. -/
def Obligations.PowerOnLoadsTheStore : Prop :=
  (∀ (x : PerStation Straps) (s : State) (i : StoreImage), s.store.stored = some i → s.store.storing = none →
    ∃ t, exec (.powerOnReset x) s = .next t ∧ t.settings = i.settings ∧ t.active = i.active ∧ t.standby = i.standby
      ∧ t.store = { stored := some i } ∧ t.loaded = ⟨decide (i.settings.chambers = 2), i.settings.crossPresent⟩
      ∧ t.now = 0 ∧ t.vessels = State.reset.vessels ∧ t.book = {} ∧ t.journal = {} ∧ t.site = {} ∧ t.tallies = {}
      ∧ t.clock = none ∧ t.chambers = ⟨{}, {}⟩ ∧ t.arbiter = {} ∧ t.conduct = ⟨none, none⟩ ∧ t.capture = {}
      ∧ t.drive = { queries := t.presentActuators.map (⟨·, false⟩) } ∧ (∀ b, t.body b = {})
      ∧ (∀ st, t.station st = { straps := x.get st, rate := rateOf (x.get st) })
      ∧ (∀ l, (t.lamp l).proven = true) ∧ t.pending = s.pending)
    ∧ ∀ (x : PerStation Straps) (s : State), s.store.stored = none ∨ s.store.storing.isSome = true →
      ∃ t, exec (.powerOnReset x) s = .next t ∧ t.settings = {} ∧ t.active = {} ∧ t.standby = {}
        ∧ t.store = { stored := none, defaulted := true } ∧ t.journal.frames = [.fault .settingsLost .store none]
        ∧ t.capture.record.map (·.kind) = some .settingsLost
        ∧ ∀ st, (t.station st).notices = [.fault, .settingsDefaulted] ∧ (t.station st).line = true

/-- R190: RESTART is taken from TC while both chambers are OUT_OF_SERVICE, and refused otherwise; the restart then loads a valid copy
of the store, keeps the register, the orders and counters of the book, the journal, the accounts, the tallies and the clock, and
gives the other blocks their starting values. -/
def Obligations.RestartKeepsTheRecords : Prop :=
  (∀ s : State,
    (s.takes .tc → (s.chamber .c1).state = .outOfService → (s.chamber .c2).state = .outOfService →
      exec (.restart .tc) s = .next ({ s with store.restartPending := true }.answered .tc 0x71 .ok []))
    ∧ (s.takes .tc → (s.chamber .c1).state ≠ .outOfService ∨ (s.chamber .c2).state ≠ .outOfService →
      exec (.restart .tc) s = .next (s.answered .tc 0x71 .state []))
    ∧ ∀ st, st ≠ .tc → s.takes st → exec (.restart st) s = .next (s.answered st 0x71 .notPermitted []))
  ∧ ∀ (x : PerStation Straps) (s : State) (i : StoreImage), s.store.restartPending = true → (s.station .tc).service = .idle →
    s.store.stored = some i →
    ∃ t, exec (.restartEvent x) s = .next t ∧ t.settings = i.settings ∧ t.active = i.active ∧ t.standby = i.standby
      ∧ t.loaded = ⟨decide (i.settings.chambers = 2), i.settings.crossPresent⟩ ∧ t.store.restartPending = false
      ∧ t.now = s.now ∧ t.vessels = s.vessels ∧ t.journal = s.journal ∧ t.site = s.site ∧ t.tallies = s.tallies
      ∧ t.clock = s.clock ∧ t.pending = s.pending ∧ t.book.nextOrder = s.book.nextOrder
      ∧ t.book.nextBatch = s.book.nextBatch ∧ t.book.entrySequence = s.book.entrySequence
      ∧ t.book.orders.map (fun o => { o with state := .waiting }) = s.book.orders.map (fun o => { o with state := .waiting })
      ∧ t.chambers = ⟨{}, {}⟩ ∧ t.arbiter = {} ∧ t.conduct = ⟨none, none⟩ ∧ t.capture = {}
      ∧ t.drive = { queries := t.presentActuators.map (⟨·, false⟩) } ∧ (∀ b, t.body b = {})
      ∧ ∀ st, t.station st = { straps := x.get st, rate := rateOf (x.get st) }

/-! ## The gauge line and the level monitor -/

/-- R1, R2, R5, R6: the gauge line, free, takes the head of the round queue, polls its gauge A and restarts its round timer; a
round timer that expires puts its body at the tail of the queue, unless it is in it; the reply to the poll of gauge A, or its
absence for 20 ms, is a reading with the status of R1's table and, when good, the trimmed value of R5 at the end of its history,
and gauge B is polled; bytes with no poll outstanding, and stray bytes, are discarded. R17: so are stray bytes on the drive line.
-/
def Obligations.RoundsReadTheirGauges : Prop :=
  (∀ (s : State) (b : Body) (bs : List Body), s.levels.poll = none → s.levels.queue = b :: bs →
    ∃ t, exec .roundStart s = .next t ∧ t = { s with levels := t.levels }
      ∧ t.levels = { s.levels with
          queue := bs
          poll := some ⟨b, .a, s.now + 20, false, none⟩
          bodies := s.levels.bodies.set b
            { s.body b with
              roundTimer := some (s.now + s.interval (s.body b).sampling)
              lastRound := some s.now } })
    ∧ (∀ (s : State) (b : Body) (x : Nat), (s.body b).roundTimer = some x →
      ∃ t, exec (.roundTimerExpiry b) s = .next t ∧ t = { s with now := max s.now x, levels := t.levels }
        ∧ t.levels = { s.levels with
            bodies := s.levels.bodies.set b { s.body b with roundTimer := none }
            queue := if b ∈ s.levels.queue then s.levels.queue else s.levels.queue ++ [b] })
    ∧ (∀ (s : State) (p : Poll) (b1 b2 b3 b4 : Byte), s.levels.poll = some p → p.gauge = .a →
      let number := match p.body with | .up => 1 | .lp => 3 | .c1 => 5 | .c2 => 7
      let raw := b2.toNat * 256 + b3.toNat
      let st : GaugeStatus :=
        if (b1.toNat + b2.toNat + b3.toNat + b4.toNat) % 256 ≠ 0 ∨ b1.toNat ≠ number ∨ 40950 < raw then .checkFail
        else if raw = 0 ∨ raw = 40950 then .saturated
        else .ok
      let trim : Int := if s.settings.trimEnable then (s.settings.trim.get p.body).a else 0
      let x := (max 0 (min 40950 ((raw : Int) + trim))).toNat
      let old := (s.body p.body).gauges.a
      ∃ t, exec (.gaugeReply b1 b2 b3 b4) s = .next t ∧ t = { s with levels := t.levels }
        ∧ t.levels = { s.levels with
            bodies := s.levels.bodies.set p.body
              { s.body p.body with
                gauges.a :=
                  { status := some st
                    history :=
                      if st = .ok then old.history.drop (old.history.length + 1 - 2 ^ s.settings.avgDepth) ++ [x] else [] } }
            poll := some ⟨p.body, .b, s.now + 20, decide (st = .ok), some old⟩ })
    ∧ (∀ (s : State) (p : Poll), s.levels.poll = some p → p.gauge = .a →
      ∃ t, exec .noReply s = .next t ∧ t = { s with now := max s.now p.deadline, levels := t.levels }
        ∧ t.levels = { s.levels with
            bodies := s.levels.bodies.set p.body { s.body p.body with gauges.a := { status := some .noReply, history := [] } }
            poll := some ⟨p.body, .b, max s.now p.deadline + 20, false, some (s.body p.body).gauges.a⟩ })
    ∧ ∀ (s : State) (b1 b2 b3 b4 : Byte) (l : List Byte), exec (.gaugeStrayBytes l) s = .next s
      ∧ exec (.driveStrayBytes l) s = .next s ∧ (s.levels.poll = none → exec (.gaugeReply b1 b2 b3 b4) s = .next s)

/-- R1, R2, R5 to R7, R9, R10: the reading of gauge B ends the round. It is recorded as R1, R5 and R6 say; the values of the
gauges good in the round, each the mean of its history in cm, give the level and level state of R7's table, which are handed on;
each pair of the body takes the state R10's table gives for the newest levels; no other body, no other pair, no tariff, vessel,
setting, conduct or clock changes, whatever the readers do. That a gauge whose history was cleared in the round counts as not good
in it is log entry 32. -/
def Obligations.RoundEndReconcilesAndHandsOn : Prop :=
  ∀ (s : State) (p : Poll) (b1 b2 b3 b4 : Byte), s.levels.poll = some p → p.gauge = .b →
    let b := p.body
    let number := match b with | .up => 2 | .lp => 4 | .c1 => 6 | .c2 => 8
    let raw := b2.toNat * 256 + b3.toNat
    let trim : Int := if s.settings.trimEnable then (s.settings.trim.get b).b else 0
    let x := (max 0 (min 40950 ((raw : Int) + trim))).toNat
    let near := fun m n : Nat => fun d : Nat => decide (m ≤ n + d ∧ n ≤ m + d)
    let mean := fun h : List Nat => if h = [] then none else some (((h.sum + h.length / 2) / h.length + 5) / 10)
    let history := fun st : GaugeStatus =>
      let h := (s.body b).gauges.b.history
      if st = .ok then h.drop (h.length + 1 - 2 ^ s.settings.avgDepth) ++ [x] else []
    let table := fun st : GaugeStatus =>
      match if p.goodA then mean (s.body b).gauges.a.history else none, if st = .ok then mean (history st) else none with
      | some m, some n =>
        if near m n s.settings.agreeBand then (some ((m + n + 1) / 2), LevelState.good) else ((s.body b).level, .uncertain)
      | some m, none => (some m, .single)
      | none, some n => (some n, .single)
      | none, none => ((s.body b).level, if (s.body b).state = .unknown then .unknown else .lost)
    let ends := fun (st : GaugeStatus) (t : State) =>
      let equal := fun q : Pair =>
        match (t.body q.bodies.1).level, (t.body q.bodies.2).level with
        | some m, some n =>
          (t.body q.bodies.1).state.usable && (t.body q.bodies.2).state.usable && near m n s.settings.eqBand
        | _, _ => false
      t.levels.poll = none ∧ SameRecords s t
        ∧ (t.body b).gauges = { (s.body b).gauges with b := { status := some st, history := history st } }
        ∧ ((t.body b).level, (t.body b).state) = table st
        ∧ (t.body b).handedLevel = (t.body b).level ∧ (t.body b).handedState = (t.body b).state
        ∧ (∀ b', b' ≠ b → SameBody s t b')
        ∧ ∀ q, t.pair q =
          if (q.bodies.1 = b ∨ q.bodies.2 = b) ∧ s.pairKept q = true then
            if equal q then
              match s.pair q with
              | .notEqual => if s.settings.eqSettle = 0 then .equalised else .settling t.now
              | y => y
            else .notEqual
          else s.pair q
    (let st : GaugeStatus :=
        if (b1.toNat + b2.toNat + b3.toNat + b4.toNat) % 256 ≠ 0 ∨ b1.toNat ≠ number ∨ 40950 < raw then .checkFail
        else if raw = 0 ∨ raw = 40950 then .saturated
        else .ok
      ∃ t, exec (.gaugeReply b1 b2 b3 b4) s = .next t ∧ t.now = s.now ∧ ends st t)
    ∧ ∃ t, exec .noReply s = .next t ∧ t.now = max s.now p.deadline ∧ ends .noReply t

/-- R8, R34, R35: at a round end. R34: a chamber's overflow memory follows its level against its top level; as it rises, MOVE(0) is
sent to its upper sluice and to the cross sluice, whatever they do, and a live chamber is halted by OVERFLOW. R35: a gate found
OPENING with levels more than 2 x EQ_BAND apart is ordered CLOSE, and goes on closing while a live chamber is halted by SURGE;
where EQ_SETTLE is 0, so that a phase of the chamber could end at this very round end before the guard acts (R12), a live chamber
is in the opening state of that gate. R8: with both chambers OUT_OF_SERVICE and no gate OPENING, the frames and the capture record
are those of the level fault that the new level state raises and, after it (log entry 18), of the OVERFLOW (a gauge whose history
was cleared in the round: log entry 32). -/
def Obligations.RoundEndRaisesLevelFaultsAndGuards : Prop :=
  ∀ (s : State) (p : Poll) (c : Instr), s.levels.poll = some p → p.gauge = .b →
    (∃ b1 b2 b3 b4, c = .gaugeReply b1 b2 b3 b4) ∨ c = .noReply → ∀ t, exec c s = .next t →
    let b := p.body
    let top := fun k => (s.settings.chamber.get k).topLevel
    let rises := fun k => b = k.body ∧ s.drive.overflow.get k = false ∧ t.drive.overflow.get k = true
    let live := fun k => (s.chamber k).state ≠ .outOfService ∧ (s.chamber k).state ≠ .halted
    let ordered := fun q => (t.sluice q).state = .moving ∧ (t.sluice q).target = some (.step 0) ∧ (t.sluice q).ramp = none
      ∧ ⟨.sluice q, .move 0, false⟩ ∈ t.drive.sent.drop s.drive.sent.length
    (∀ k, t.drive.overflow.get k =
      match if b = k.body then (t.body b).handedLevel else none with
      | some h => decide (top k < h)
      | none => s.drive.overflow.get k)
    ∧ (∀ k, rises k →
      ordered (.chamber k .upper) ∧ (s.crossPresent = true → ordered .cross) ∧ (∀ st, .fault ∈ (t.station st).notices)
        ∧ (live k → (t.chamber k).state = .halted ∧ (t.chamber k).haltCause = some (.fault .overflow))
        ∧ (¬live k → (t.chamber k).state = (s.chamber k).state ∧ (t.chamber k).haltCause = (s.chamber k).haltCause))
    ∧ (∀ k e x y, s.Calm → s.CrossFree → b = k.body ∨ b = e.pound → ¬rises k → (s.gate k e).state = .opening →
      (s.gate k e).surge = false → (s.gate k e.other).state ≠ .opening → (t.body e.pound).handedLevel = some x →
      (t.body k.body).handedLevel = some y → x + 2 * s.settings.eqBand < y ∨ y + 2 * s.settings.eqBand < x →
      (s.settings.eqSettle = 0 → live k → (s.chamber k).state = openingState e) →
      t.gate k e =
          { state := .closing, outstanding := some .cls, lastMove := some .cls, surge := false
            timer := some (t.now + seconds ((s.settings.chamber.get k).gateLimit.get e)) }
        ∧ ⟨.gate k e, .cls, false⟩ ∈ t.drive.sent.drop s.drive.sent.length ∧ (∀ st, .fault ∈ (t.station st).notices)
        ∧ (live k →
          t.chamber k =
            { s.chamber k with
              state := .halted, interrupted := some (s.chamber k).state, haltCause := some (.fault .surge)
              pendingOrder := none, phase := none, water := (t.chamber k).water }
          ∧ ∀ i, (t.sluice (.chamber k i)).ramp = none
            ∧ ((t.sluice (.chamber k i)).step = some 0
                ∧ ((t.sluice (.chamber k i)).state = .shut ∨ (t.sluice (.chamber k i)).state = .held)
              ∨ (t.sluice (.chamber k i)).state = .moving ∧ (t.sluice (.chamber k i)).target = some (.step 0)))
        ∧ (¬live k → (t.chamber k).state = (s.chamber k).state))
    ∧ (s.Quiet → (∀ k e, (s.gate k e).state ≠ .opening) →
      let level :=
        if (t.body b).state = (s.body b).state then none
        else
          match (t.body b).state with
          | .uncertain => some (FaultKind.gaugeDisagree, Subject.body b)
          | .single => some (.gaugeSingle, .gauge b (if p.goodA = true ∧ (s.body b).gauges.a.history ≠ [] then .b else .a))
          | .lost => some (.gaugeLost, .body b)
          | _ => none
      let u := match level with | some f => s.write (.fault f.1 f.2 s.time) | none => s
      let record := match level with
        | some f => if f.1 = .gaugeSingle ∧ s.settings.quietSoft = true then s.capture else s.capture.offer (s.captured f.1 f.2)
        | none => s.capture
      (∀ k, rises k →
        t.journal = (u.write (.fault .overflow (.chamber k) s.time)).journal
          ∧ t.capture = record.offer (t.captured .overflow (.chamber k))
          ∧ t.drive.sent = s.drive.sent ++ [⟨.sluice (.chamber k .upper), .move 0, false⟩]
            ++ if s.crossPresent then [⟨.sluice .cross, .move 0, false⟩] else [])
      ∧ ((∀ k, ¬rises k) → t.journal = u.journal ∧ t.capture = record ∧ t.drive.sent = s.drive.sent
        ∧ ∀ f, level = some f → ¬(f.1 = .gaugeSingle ∧ s.settings.quietSoft = true) → ∀ st, .fault ∈ (t.station st).notices))

/-- R3, R11 to R13: a hold that runs out returns its body to PRIMARY, its next round due by PRIMARY_INTERVAL, unless force fast is
set; a pair SETTLING becomes EQUALISED at EQ_SETTLE, every other pair and every body's measurements staying; the trail timer
restarts with TRAIL_PERIOD, and a LEVEL frame of the four levels and level states goes to the journal. R4: FORCE FAST ON makes every
body present FAST; OFF returns to PRIMARY each one without a fast cause and a running hold; when the next round then falls due is
the model's choice (log entry 45). -/
def Obligations.LevelTimersAndForceFastAct : Prop :=
  (∀ (s : State) (b : Body) (x : Nat), (s.body b).hold = some x →
    ∃ t, exec (.holdTimerExpiry b) s = .next t ∧ t = { s with now := max s.now x, levels := t.levels }
      ∧ SameLevels s t ∧ t.levels.forceFast = s.levels.forceFast ∧ (t.body b).hold = none
      ∧ (∀ b', b' ≠ b → t.body b' = s.body b')
      ∧ (s.levels.forceFast = true → (t.body b).sampling = (s.body b).sampling ∧ t.levels.queue = s.levels.queue)
      ∧ (s.levels.forceFast = false →
        (t.body b).sampling = .primary ∧ (s.reach x).FallsDue t b (seconds s.settings.primaryInterval)))
    ∧ (∀ (s : State) (p : Pair) (x : Nat), s.pair p = .settling x →
      ∃ t, exec (.settleExpiry p) s = .next t ∧ t.pair p = .equalised ∧ (∀ q, q ≠ p → t.pair q = s.pair q)
        ∧ (∀ b, SameBody s t b) ∧ t.now = max s.now (x + seconds s.settings.eqSettle) ∧ SameRecords s t)
    ∧ (∀ (s : State) (x : Nat), s.levels.trail = some x →
      let u := s.reach x
      let f := fun b : Body => ((s.body b).level, if s.bodyPresent b then some (s.body b).state else none)
      exec .trailTimerExpiry s = .next
        ({ u with levels.trail := some (max s.now x + seconds s.settings.trailPeriod) }.write
          (.level s.time ⟨f .up, f .lp, f .c1, f .c2⟩)))
    ∧ ∀ (s : State) (st : Station) (on : Bool), s.takes st →
    ∃ t, exec (.forceFast st on) s = .next t ∧ t = { s.answered st 0x42 .ok [] with levels := t.levels }
      ∧ t.levels.forceFast = on ∧ SameLevels s t ∧ (∀ b, (t.body b).hold = (s.body b).hold)
      ∧ (∀ b, s.bodyPresent b = false → t.body b = s.body b)
      ∧ (on = true → ∀ b, s.bodyPresent b = true → (t.body b).sampling = .fast
        ∧ ((s.body b).sampling = .primary → s.FallsDue t b s.settings.fastInterval))
      ∧ (on = false → ∀ b, s.bodyPresent b = true →
        if s.fastCause b = false ∧ (s.body b).hold = none then
          (t.body b).sampling = .primary
            ∧ ((s.body b).sampling = .fast → s.FallsDue t b (seconds s.settings.primaryInterval))
        else (t.body b).sampling = (s.body b).sampling)

/-- R14, R63, R115, R159, R174: the reading requests are answered OK with what stands, and change nothing. The set and clear bytes
rest on log entry 26, the layout of READ LEVELS' lists, of READ BATCH without a batch and of READ FAULT while invalid on log entry
38, the rounding of an order's age in READ BOOK and the layout of its state on log entry 72. -/
def Obligations.ReadingsChangeNothing : Prop :=
  ∀ (s : State) (st : Station), s.takes st →
    exec (.readLevels st) s = .next (s.answered st 0x41 .ok s.levelResults)
    ∧ (∀ k, s.chamberPresent k = true → ∃ l, exec (.readChamber st k) s = .next (s.answered st 0x40 .ok l)
        ∧ l.take 2 = [.byte (s.chamber k).state.code, .byte (s.chamber k).mode.code])
    ∧ (∀ d pos, 0 < pos → exec (.readBook st d pos) s = .next (s.answered st 0x22 .ok
        ([.half s.book.orders.length, .half (s.book.lists.get d).length,
            .half ((s.book.lists.get d).filter (·.state.isWaiting)).length,
            .half ((s.book.lists.get d).filter (·.state.isBlocked)).length,
            .half ((s.book.lists.get d).filter (·.state.isBound)).length]
          ++ listFields ((((s.book.lists.get d).drop (pos - 1)).take 8).map s.orderFields))))
    ∧ (∀ k, s.chamberPresent k = true → exec (.readBatch st k) s = .next (s.answered st 0x23 .ok
        (match s.batch k with | some b => b.fields k | none => [.half 0xFFFF])))
    ∧ (∃ l, exec (.readJournalStatus st) s = .next (s.answered st 0x55 .ok l)
        ∧ l.take 8 = [.half s.used, .half (4096 - s.used), .half s.reserved, .half s.availableWords,
          .half s.journal.frames.length, .half s.journal.dropped, .half s.journal.discarded, yesNo s.settings.clockMark])
    ∧ exec (.readFault st) s = .next (s.answered st 0x63 .ok
        ([yesNo s.capture.record.isSome] ++ (match s.capture.record with | some c => c.fields | none => [])
          ++ [setClear s.capture.moreHard, setClear s.capture.moreSoft]))

/-! ## The drive line -/

/-- R17, R27: a polling cycle polls every present drive in actuator-number order, once every present actuator has left UNKNOWN;
each answer of NONE, and each missing answer, closes the poll that is outstanding; a report that is not the answer to its own
drive's outstanding poll is discarded (log entry 10); a correct echo completes the oldest sending of its drive; a failed one sends
the order once more, behind the others (the model's choice, log entry 46). R22, R25, R51, R73: a second failed echo leaves a gate
STALLED, or a sluice in FAULT at its last reported step, at once, with STOP sent, the MOVE frame STALLED and the hard fault (in the
order of log entry 17); a live chamber is halted by it, its sluice then ordered to 0, and a cross sluice is handed to the arbiter.
On a STALLED gate or a sluice in FAULT it changes nothing; nor does it on an UNKNOWN actuator (log entry 15). -/
def Obligations.DriveLineExchangesAndDiscards : Prop :=
  (∀ s : State,
    (s.leftUnknown = true → s.drive.polls = [] →
      exec .drivePollCycle s = .next
        { s with
          drive.polls := [Actuator.gate .c1 .upper, .gate .c1 .lower, .sluice (.chamber .c1 .upper),
            .sluice (.chamber .c1 .lower), .gate .c2 .upper, .gate .c2 .lower, .sluice (.chamber .c2 .upper),
            .sluice (.chamber .c2 .lower), .sluice .cross].filter s.actuatorPresent
          drive.cycleStart := some s.now })
    ∧ (∀ a rest, s.drive.polls = a :: rest →
      exec .driveAnswerTimeout s = .next { s with drive.polls := rest }
      ∧ exec .noneAnswer s = .next { s with drive.polls := rest })
    ∧ (∀ k e r, s.drive.polls.head? ≠ some (.gate k e) → exec (.gateReport k e r) s = .next s)
    ∧ ∀ q n, s.drive.polls.head? ≠ some (.sluice q) → exec (.sluiceReport q n) s = .next s)
    ∧ ∀ (s : State) (a : Actuator) (x : Sent) (l r : List Sent), s.drive.sent = l ++ x :: r → x.actuator = a →
      (∀ y ∈ l, y.actuator ≠ a) →
      exec (.orderEcho a) s = .next { s with drive.sent := l ++ r }
      ∧ (x.resent = false → exec (.echoTimeout a) s = .next { s with drive.sent := l ++ r ++ [{ x with resent := true }] })
      ∧ (x.resent = true → s.Calm →
        let u := { s with drive.sent := l ++ r }
        let live := fun k => (s.chamber k).state ≠ .outOfService ∧ (s.chamber k).state ≠ .halted
        let frames := fun (f : FaultKind) (y : Subject) => ((u.write (.move a .stalled s.time)).write (.fault f y s.time)).journal
        let fails := fun (t : State) (f : FaultKind) (y : Subject) =>
          exec (.echoTimeout a) s = .next t ∧ SameRecords s t ∧ SameLevels s t ∧ t.now = s.now
            ∧ ⟨a, .stop, false⟩ ∈ t.drive.sent.drop u.drive.sent.length
            ∧ t.capture = s.capture.offer (s.captured f y) ∧ ∀ st, .fault ∈ (t.station st).notices
        let alone := fun (t : State) =>
          t = { u with
              drive := t.drive, levels := t.levels, signals := t.signals, journal := t.journal, stations := t.stations
              capture := t.capture }
            ∧ SameOthers s t a ∧ SameLine s t ∧ t.drive.sent = u.drive.sent ++ [⟨a, .stop, false⟩]
        (∀ k e, a = .gate k e → (s.gate k e).state = .unknown ∨ (s.gate k e).state = .stalled → s.NothingKept →
          exec (.echoTimeout a) s = .next u.settled)
        ∧ (∀ q, a = .sluice q → (s.sluice q).state = .unknown ∨ (s.sluice q).state = .fault → s.NothingKept →
          exec (.echoTimeout a) s = .next u.settled)
        ∧ (∀ k e, a = .gate k e → (s.gate k e).state ≠ .unknown → (s.gate k e).state ≠ .stalled →
          let stalls := fun t => fails t .gateStall (.gate k e)
            ∧ t.gate k e = { s.gate k e with state := .stalled, outstanding := none, timer := none, surge := false }
          (live k → s.CrossFree → s.KeptOnlyBy k →
            ∃ t, stalls t ∧ HaltedIn u t k (s.chamber k).state (.fault .gateStall) (some e)
              ∧ ((s.gate k e.other).state.moving = false → t.journal = frames .gateStall (.gate k e)))
          ∧ (¬live k → s.NothingKept → ∃ t, stalls t ∧ alone t ∧ t.journal = frames .gateStall (.gate k e)))
        ∧ (∀ k e, a = .sluice (.chamber k e) →
          let q : Sluice := .chamber k e
          (s.sluice q).state ≠ .unknown → (s.sluice q).state ≠ .fault →
          (live k → s.CrossFree → s.KeptOnlyBy k →
            ∃ t, fails t .sluiceStall (.sluice q) ∧ HaltedIn u t k (s.chamber k).state (.fault .sluiceStall) none
              ∧ t.sluice q =
                { state := .moving, step := (s.sluice q).step, target := some (.step 0)
                  timer := some (s.now + seconds s.settings.sluiceLimit) }
              ∧ ⟨a, .move 0, false⟩ ∈ t.drive.sent.drop u.drive.sent.length
              ∧ ((∀ i, (s.gate k i).state.moving = false) → t.journal = frames .sluiceStall (.sluice q)))
          ∧ (¬live k → s.NothingKept →
            ∃ t, fails t .sluiceStall (.sluice q) ∧ alone t ∧ t.sluice q = { state := .fault, step := (s.sluice q).step }
              ∧ t.journal = frames .sluiceStall (.sluice q)))
        ∧ (a = .sluice .cross → (s.sluice .cross).state ≠ .unknown → (s.sluice .cross).state ≠ .fault →
          s.NothingKept → s.CrossFree → s.arbiter.timer = none →
          ∃ t, fails t .sluiceStall (.sluice .cross) ∧ CrossFaulted u t .sluiceStall (s.sluice .cross).step none
            ∧ ((∀ k e, (s.gate k e).state.moving = false) → t.journal = frames .sluiceStall (.sluice .cross))))

/-- R18, R20, R26: the expected REACHED of a gate, in answer to its drive's poll, completes its movement with a MOVE frame; while an
order is outstanding, a report that it has left an end, or reached the other one, changes nothing (with both chambers
OUT_OF_SERVICE). -/
def Obligations.GateReportsCompleteMovements : Prop :=
  ∀ (s : State) (k : Chamber) (e : Side) (m : GateMove) (r : GateReport), s.Quiet → s.chamberPresent k = true →
    s.drive.polls.head? = some (.gate k e) → (s.gate k e).outstanding = some m → (s.gate k e).state ≠ .unknown →
    r ≠ .driveFault →
    ∃ t, exec (.gateReport k e r) s = .next t
      ∧ t = { s with
          drive := t.drive, levels := t.levels, signals := t.signals, journal := t.journal, stations := t.stations }
      ∧ SameRecords s t ∧ SameLevels s t ∧ SameOthers s t (.gate k e) ∧ t.drive.sent = s.drive.sent
      ∧ t.drive.queries = s.drive.queries ∧ t.drive.polls = s.drive.polls.tail
      ∧ match m, r with
        | .opn, .openReached =>
          t.gate k e = { state := .opened } ∧ t.journal = (s.write (.move (.gate k e) .reachedOpen s.time)).journal
        | .cls, .closedReached =>
          t.gate k e = { state := .closed } ∧ t.journal = (s.write (.move (.gate k e) .reachedClosed s.time)).journal
        | _, _ => t.gate k e = s.gate k e ∧ t.journal = s.journal

/-- R20 to R22, R42, R51: gate reports and gate movement timers of a chamber in service. The expected REACHED takes the chamber from
its closing or opening state to the rest state, where a BOUND batch at its entry end becomes ENTERING and a SECURED one at its exit
end LEAVING. Without an outstanding order R21's table holds: an UNEXPECTED_MOVE takes the position, or stops the gate, and halts
the chamber; a late report is taken, or ignored, without a fault. A DRIVE_FAULT, and a movement timer that runs out, stall the gate
and halt the chamber (the frames' order: log entry 17). -/
def Obligations.GateReportsInService : Prop :=
  ∀ (s : State) (k : Chamber) (e : Side), s.Calm → s.CrossFree → s.KeptOnlyBy k → s.chamberPresent k = true →
    let g := s.gate k e
    let reached := fun m : GateMove =>
      match m with | .opn => (GateState.opened, MoveOutcome.reachedOpen) | .cls => (.closed, .reachedClosed)
    let frame := fun (u : State) (o : MoveOutcome) => u.write (.move (.gate k e) o s.time)
    let fault := fun (u : State) (f : FaultKind) => u.write (.fault f (.gate k e) s.time)
    let answered := { s with drive.polls := s.drive.polls.tail }
    let halts := fun (c : Instr) (u : State) (x : Gate) (f : FaultKind) (stop : Bool) (journal : Journal) =>
      ∃ t, exec c s = .next t ∧ HaltedIn u t k (s.chamber k).state (.fault f) (some e) ∧ SameRecords s t ∧ SameLevels s t
        ∧ t.gate k e = x ∧ t.capture = s.capture.offer (s.captured f (.gate k e)) ∧ (∀ st, .fault ∈ (t.station st).notices)
        ∧ t.now = u.now ∧ (stop = true → ⟨.gate k e, .stop, false⟩ ∈ t.drive.sent.drop s.drive.sent.length)
        ∧ ((s.gate k e.other).state.moving = false → t.journal = journal)
    let takes := fun (c : Instr) (x : Gate) (journal : Journal) =>
      ∃ t, exec c s = .next t
        ∧ t = { s with
            drive := t.drive, levels := t.levels, signals := t.signals, journal := t.journal, stations := t.stations }
        ∧ SameLevels s t ∧ SameOthers s t (.gate k e) ∧ t.gate k e = x ∧ t.journal = journal ∧ t.drive.sent = s.drive.sent
    (s.drive.polls.head? = some (.gate k e) →
      (∀ m r, g.outstanding = some m → g.state ≠ .unknown → s.NothingKept → (s.chamber k).mode = .directed →
        m = .opn ∧ r = .openReached ∧ (s.chamber k).state = openingState e
          ∨ m = .cls ∧ r = .closedReached ∧ (s.chamber k).state = closingState e →
        ∃ t, exec (.gateReport k e r) s = .next t ∧ SameLevels s t ∧ SameOthers s t (.gate k e)
          ∧ t = { s with
              drive := t.drive, levels := t.levels, chambers := t.chambers, book.batches := t.book.batches
              signals := t.signals, journal := t.journal, stations := t.stations }
          ∧ t.gate k e = { state := (reached m).1 } ∧ t.journal = (frame s (reached m).2).journal
          ∧ t.chamber k.other = s.chamber k.other ∧ t.batch k.other = s.batch k.other
          ∧ (let rest := { s.chamber k with
                state := match m with | .opn => openState e | .cls => shutState e }
            match s.batch k with
            | none => t.chamber k = rest ∧ t.batch k = none
            | some b =>
              if m = .opn ∧ b.state = .bound ∧ b.direction.entryEnd = e then
                t.batch k = some { b with state := .entering }
                  ∧ t.chamber k =
                    { rest with entry := some (s.now + seconds s.settings.entryLimit), entryOverdue := false }
              else if m = .opn ∧ b.state = .secured ∧ b.direction.exitEnd = e then
                t.batch k = some { b with state := .leaving }
                  ∧ t.chamber k =
                    { rest with
                      leave := some
                        ⟨s.now + seconds (s.settings.leaveLimit - s.settings.clearOutLead),
                          s.now + seconds s.settings.leaveLimit⟩
                      clearOut := decide (s.settings.leaveLimit ≤ s.settings.clearOutLead)
                      leaveOverdue := false }
              else t.batch k = some b ∧ t.chamber k = rest))
      ∧ (g.outstanding = none → (s.chamber k).state ≠ .outOfService → (s.chamber k).state ≠ .halted →
        (∀ m : GateMove, ∀ r, r = (match m with | .opn => GateReport.openReached | .cls => .closedReached) →
          g.state ≠ (reached m).1 → g.state = .closed ∨ g.state = .opened ∨ g.state = .stopped ∧ g.lastMove = none →
          halts (.gateReport k e r) answered { g with state := (reached m).1, lastMove := none, surge := false } .unexpectedMove false
            (frame (fault s .unexpectedMove) (reached m).2).journal)
        ∧ (∀ r, r = .leftClosed ∨ r = .leftOpen →
          g.state = .closed ∨ g.state = .opened
            ∨ g.state = .stopped ∧ ¬(g.lastMove = some .opn ∧ r = .leftClosed ∨ g.lastMove = some .cls ∧ r = .leftOpen) →
          halts (.gateReport k e r) answered { g with state := .stopped, surge := false } .unexpectedMove true
            (frame (fault s .unexpectedMove) .stopped).journal))
      ∧ (g.outstanding = none → s.NothingKept →
        (∀ m : GateMove, ∀ r, r = (match m with | .opn => GateReport.openReached | .cls => .closedReached) →
          g.state = .stalled ∨ g.state = .stopped ∧ g.lastMove ≠ none →
          (s.chamber k).state ≠ openingState e → (s.chamber k).state ≠ closingState e →
          takes (.gateReport k e r) { state := (reached m).1 } (frame s (reached m).2).journal)
        ∧ ∀ r, g.state = .closed ∧ r = .closedReached ∨ g.state = .opened ∧ r = .openReached
            ∨ g.state = .stopped ∧ (g.lastMove = some .opn ∧ r = .leftClosed ∨ g.lastMove = some .cls ∧ r = .leftOpen)
            ∨ g.state = .stalled ∧ (r = .leftClosed ∨ r = .leftOpen) →
          takes (.gateReport k e r) g s.journal)
      ∧ (g.state ≠ .unknown → g.state ≠ .stalled → (s.chamber k).state ≠ .outOfService → (s.chamber k).state ≠ .halted →
        halts (.gateReport k e .driveFault) answered
          { g with state := .stalled, outstanding := none, timer := none, surge := false } .gateStall true
          (fault (frame s .stalled) .gateStall).journal))
    ∧ ∀ x, g.timer = some x → (s.chamber k).state ≠ .outOfService → (s.chamber k).state ≠ .halted →
      halts (.gateMovementTimeout k e) { s with now := max s.now x }
        { g with state := .stalled, outstanding := none, timer := none, surge := false } .gateStall true
        (fault (frame s .stalled) .gateStall).journal

/-- R22, R25, R73: a movement timer that runs out leaves its gate STALLED, or its sluice in FAULT at its last reported step, with
STOP sent, a MOVE frame STALLED and its hard fault; the cross sluice is then ordered to 0 by the arbiter, which is ENDING (with
both chambers OUT_OF_SERVICE; the frames' order: log entry 17). A chamber sluice's timer in service halts its chamber too, which
orders it to 0 (R51). The cross sluice's timer with chambers in service halts each of them, and ends the phase if one is engaged:
stated with the fault of its position (CrossSluiceFaultsHaltTheChambers). -/
def Obligations.MovementTimersStallTheirActuator : Prop :=
  (∀ (s : State) (x : Nat), s.Quiet →
    (∀ k e, (s.gate k e).timer = some x →
      ∃ t, exec (.gateMovementTimeout k e) s = .next t
        ∧ t = { s with
            now := max s.now x, drive := t.drive, levels := t.levels, signals := t.signals, journal := t.journal
            stations := t.stations, capture := t.capture }
        ∧ SameRecords s t ∧ SameLevels s t ∧ SameOthers s t (.gate k e) ∧ SameLine s t
        ∧ t.gate k e = { s.gate k e with state := .stalled, outstanding := none, timer := none, surge := false }
        ∧ t.drive.sent = s.drive.sent ++ [⟨.gate k e, .stop, false⟩]
        ∧ t.journal =
          ((s.write (.move (.gate k e) .stalled s.time)).write (.fault .gateStall (.gate k e) s.time)).journal
        ∧ t.capture = s.capture.offer (s.captured .gateStall (.gate k e)) ∧ ∀ st, .fault ∈ (t.station st).notices)
    ∧ ∀ q, (s.sluice q).timer = some x →
      ∃ t, exec (.sluiceMovementTimeout q) s = .next t
        ∧ t = { s with
            now := max s.now x, drive := t.drive, levels := t.levels, signals := t.signals, journal := t.journal
            stations := t.stations, capture := t.capture, arbiter.owner := t.arbiter.owner }
        ∧ SameRecords s t ∧ SameLevels s t ∧ SameOthers s t (.sluice q) ∧ SameLine s t
        ∧ (t.sluice q).step = (s.sluice q).step
        ∧ t.journal =
          ((s.write (.move (.sluice q) .stalled s.time)).write (.fault .sluiceStall (.sluice q) s.time)).journal
        ∧ (q ≠ .cross → t.sluice q = { state := .fault, step := (s.sluice q).step }
          ∧ t.drive.sent = s.drive.sent ++ [⟨.sluice q, .stop, false⟩] ∧ t.arbiter = s.arbiter)
        ∧ (q = .cross → (t.sluice q).state = .moving ∧ (t.sluice q).target = some (.step 0) ∧ t.arbiter.owner = .ending
          ∧ t.drive.sent = s.drive.sent ++ [⟨.sluice .cross, .stop, false⟩, ⟨.sluice .cross, .move 0, false⟩]))
    ∧ ∀ (s : State) (k : Chamber) (e : Side) (x : Nat), s.Calm → s.CrossFree → s.KeptOnlyBy k →
      (s.chamber k).state ≠ .outOfService → (s.chamber k).state ≠ .halted → (s.sluice (.chamber k e)).timer = some x →
      ∃ t, exec (.sluiceMovementTimeout (.chamber k e)) s = .next t
        ∧ HaltedIn { s with now := max s.now x } t k (s.chamber k).state (.fault .sluiceStall) none ∧ SameRecords s t
        ∧ SameLevels s t ∧ t.now = max s.now x
        ∧ (t.sluice (.chamber k e)).state = .moving ∧ (t.sluice (.chamber k e)).target = some (.step 0)
        ∧ (t.sluice (.chamber k e)).step = (s.sluice (.chamber k e)).step
        ∧ ⟨.sluice (.chamber k e), .stop, false⟩ ∈ t.drive.sent.drop s.drive.sent.length
        ∧ ⟨.sluice (.chamber k e), .move 0, false⟩ ∈ t.drive.sent.drop s.drive.sent.length
        ∧ t.capture = s.capture.offer (s.captured .sluiceStall (.sluice (.chamber k e)))
        ∧ (∀ st, .fault ∈ (t.station st).notices)
        ∧ ((∀ i, (s.gate k i).state.moving = false) →
          t.journal = ((s.write (.move (.sluice (.chamber k e)) .stalled s.time)).write
            (.fault .sluiceStall (.sluice (.chamber k e)) s.time)).journal)

/-- R18, R24: in answer to its drive's poll, a REACHED report of a MOVING sluice's target, or any after a STOP, completes the
movement; that of the superseded target is taken as late (with both chambers OUT_OF_SERVICE); in any other place it is
SLUICE_POSITION, which halts a chamber in service, its sluice then ordered to 0 (R51; the order of the frames: log entry 17); a
sluice at rest at that step, or in FAULT, takes the report without one. -/
def Obligations.SluiceReportsCompleteMovements : Prop :=
  (∀ (s : State) (q : Sluice) (n : Nat), s.Quiet → s.sluicePresent q = true → n ≤ 8 →
    s.drive.polls.head? = some (.sluice q) →
    ((s.sluice q).state = .moving → (s.sluice q).target = some (.step n) ∨ (s.sluice q).target = some .stop →
      ∃ t, exec (.sluiceReport q n) s = .next t
        ∧ t = { s with
            drive := t.drive, levels := t.levels, signals := t.signals, journal := t.journal, stations := t.stations }
        ∧ SameRecords s t ∧ SameLevels s t ∧ SameOthers s t (.sluice q) ∧ t.drive.sent = s.drive.sent
        ∧ t.drive.queries = s.drive.queries ∧ t.drive.polls = s.drive.polls.tail
        ∧ t.sluice q = { state := if n = 0 then .shut else .held, step := some n }
        ∧ t.journal = (s.write (.move (.sluice q) (.reachedStep n) s.time)).journal)
    ∧ ((s.sluice q).state = .moving → (s.sluice q).target ≠ some (.step n) → (s.sluice q).target ≠ some .stop →
      (s.sluice q).superseded = some n →
      ∃ t, exec (.sluiceReport q n) s = .next t
        ∧ t = { s with drive := t.drive, levels := t.levels, signals := t.signals }
        ∧ SameLevels s t ∧ SameOthers s t (.sluice q) ∧ t.drive.sent = s.drive.sent
        ∧ t.drive.queries = s.drive.queries ∧ t.drive.polls = s.drive.polls.tail
        ∧ t.sluice q = { s.sluice q with step := some n, superseded := none })
    ∧ (((s.sluice q).state = .shut ∨ (s.sluice q).state = .held) ∧ (s.sluice q).step = some n ∨ (s.sluice q).state = .fault →
      ∃ t, exec (.sluiceReport q n) s = .next t
        ∧ t = { s with drive := t.drive, levels := t.levels, signals := t.signals }
        ∧ SameLevels s t ∧ SameOthers s t (.sluice q) ∧ t.drive.sent = s.drive.sent
        ∧ t.drive.queries = s.drive.queries ∧ t.drive.polls = s.drive.polls.tail
        ∧ t.sluice q = { s.sluice q with step := some n }))
    ∧ ∀ (s : State) (k : Chamber) (e : Side) (r : SluiceRec) (n : Nat), s.sluice (.chamber k e) = r → s.Calm → s.CrossFree →
      s.KeptOnlyBy k → s.chamberPresent k = true → n ≤ 8 → s.drive.polls.head? = some (.sluice (.chamber k e)) →
      (s.chamber k).state ≠ .outOfService → (s.chamber k).state ≠ .halted →
      r.state = .moving ∧ r.target ≠ some (.step n) ∧ r.target ≠ some .stop ∧ r.superseded ≠ some n
        ∨ (r.state = .shut ∨ r.state = .held) ∧ r.step ≠ some n →
      ∃ t, exec (.sluiceReport (.chamber k e) n) s = .next t
        ∧ HaltedIn { s with drive.polls := s.drive.polls.tail } t k (s.chamber k).state (.fault .sluicePosition) none
        ∧ SameRecords s t ∧ SameLevels s t ∧ t.now = s.now
        ∧ t.sluice (.chamber k e) =
          { state := .moving, step := some n, target := some (.step 0)
            timer := some (s.now + seconds s.settings.sluiceLimit) }
        ∧ ⟨.sluice (.chamber k e), .move 0, false⟩ ∈ t.drive.sent.drop s.drive.sent.length
        ∧ t.capture = s.capture.offer (s.captured .sluicePosition (.sluice (.chamber k e)))
        ∧ (∀ st, .fault ∈ (t.station st).notices)
        ∧ ((∀ i, (s.gate k i).state.moving = false) →
          t.journal = ((s.write (.fault .sluicePosition (.sluice (.chamber k e)) s.time)).write
            (.move (.sluice (.chamber k e)) (.reachedStep n) s.time)).journal)

/-- R73, R70, R72, R24, R25: a fault of the cross sluice, SLUICE_STALL at the end of its movement timer or SLUICE_POSITION at a
report out of place: its frames (in the order of log entry 17), its capture and its notice; each chamber in service and not HALTED
is halted with that kind, and an engaged phase ends with it for its cause; with none engaged the sluice is ordered to 0 all the
same, the arbiter ENDING. -/
def Obligations.CrossSluiceFaultsHaltTheChambers : Prop :=
  ∀ (s : State), s.Calm → s.NothingKept → s.arbiter.wishes = ⟨none, none⟩ →
    let r := s.sluice .cross
    let faults := fun (c : Instr) (kind : FaultKind) (now : Nat) (polls : List Actuator) (step : Option Nat) (stop : Bool)
        (frames : State) =>
      let taken := fun (ended : Option CrossRec) =>
        ∃ t, exec c s = .next t ∧ CrossFaulted { s with drive.polls := polls } t kind step ended ∧ SameRecords s t ∧ t.now = now
          ∧ (stop = true → ⟨.sluice .cross, .stop, false⟩ ∈ t.drive.sent.drop s.drive.sent.length)
          ∧ t.capture = s.capture.offer (s.captured kind (.sluice .cross)) ∧ (∀ st, .fault ∈ (t.station st).notices)
          ∧ ((∀ k e, (s.gate k e).state.moving = false) → t.journal = frames.journal)
      (s.arbiter.owner = .idle → s.arbiter.record = none → s.arbiter.timer = none → taken none)
      ∧ (∀ x, s.arbiter.owner = .ending → s.arbiter.record = some x → s.arbiter.timer = none → taken (some x))
      ∧ ∀ x, s.arbiter.owner = .engaged → s.arbiter.record = some x → x.delivered = ⟨false, false⟩ →
        (∀ k, (s.chamber k).state = .fillCross ∨ (s.chamber k).state = .emptyCross) →
        taken (some { x with stop := ⟨s.level .c1, s.level .c2⟩, cause := some (.fault kind) })
    let fault := fun (u : State) (kind : FaultKind) => u.write (.fault kind (.sluice .cross) s.time)
    let moved := fun (u : State) (o : MoveOutcome) => u.write (.move (.sluice .cross) o s.time)
    (∀ x, r.timer = some x →
      faults (.sluiceMovementTimeout .cross) .sluiceStall (max s.now x) s.drive.polls r.step true
        (fault (moved s .stalled) .sluiceStall))
    ∧ ∀ n, s.crossPresent = true → s.drive.polls.head? = some (.sluice .cross) → n ≤ 8 →
      r.state = .moving ∧ r.target ≠ some (.step n) ∧ r.target ≠ some .stop ∧ r.superseded ≠ some n
        ∨ (r.state = .shut ∨ r.state = .held) ∧ r.step ≠ some n →
      faults (.sluiceReport .cross n) .sluicePosition s.now s.drive.polls.tail (some n) false
        (moved (fault s .sluicePosition) (.reachedStep n))

/-- R27, R15, R74: a drive's STATUS answer sets its actuator, at rest or moving, and closes its query. The answer "fault", or a
second missing answer, which is taken for it with the step unknown, leaves a gate STALLED or a sluice in FAULT with its hard fault,
the cross sluice then ordered to 0 by the arbiter (R73). A first missing answer repeats the query. With another drive still
unanswered, though its actuator may have left UNKNOWN by an order, nothing else follows; with the last answer the fast causes
count, a cross sluice that is not SHUT is ordered to 0, and the report polls may start. When the last query counts as answered is
log entries 41 and 43; that it is taken whichever other queries are still open is log entry 76. -/
def Obligations.StatusAnswersSetTheActuator : Prop :=
  ∀ (s : State) (a : Actuator) (q : Query), s.Quiet → s.query a = some q →
    let sets := fun (x : StatusAnswer) (u : State) =>
      (∃ k e g,
        let expiry := some (s.now + seconds ((s.settings.chamber.get k).gateLimit.get e))
        a = .gate k e ∧ u = s.putGate k e g
          ∧ (x, g) ∈
            [(StatusAnswer.closed, ({ state := .closed } : Gate)), (.opened, { state := .opened }),
              (.intermediate, { state := .stopped }),
              (.movingOpen, { state := .opening, outstanding := some .opn, timer := expiry }),
              (.movingClosed, { state := .closing, outstanding := some .cls, timer := expiry })])
      ∨ ∃ w r m n, a = .sluice w ∧ u = s.putSluice w r ∧ m ≤ 8 ∧ n ≤ 8
        ∧ (x, r) ∈
          [(StatusAnswer.atRest n, ({ state := if n = 0 then .shut else .held, step := some n } : SluiceRec)),
            (.moving m n,
              { state := .moving, step := some n, target := some (.step m)
                timer := some (s.now + seconds s.settings.sluiceLimit) })]
    (∀ other, other ≠ a → (s.query other).isSome = true →
      (∀ x u, sets x u →
        ∃ t, exec (.statusAnswer a x) s = .next t ∧ t = { u with drive.queries := t.drive.queries, signals := t.signals }
          ∧ t.query a = none ∧ ∀ b, b ≠ a → t.query b = s.query b)
      ∧ (q.repeated = false →
        ∃ t, exec (.statusTimeout a) s = .next t ∧ t = { s with drive.queries := t.drive.queries, signals := t.signals }
          ∧ t.query a = some { q with repeated := true } ∧ ∀ b, b ≠ a → t.query b = s.query b)
      ∧ ∀ (c : Instr) (step : Option Nat),
        c = .statusTimeout a ∧ q.repeated = true ∧ step = none
          ∨ c = .statusAnswer a (.fault step) ∧ (∀ n, step = some n → n ≤ 8 ∧ ∃ w, a = .sluice w) →
        ∃ t, exec c s = .next t ∧ SameRecords s t ∧ SameOthers s t a
          ∧ t = { s with
              drive := t.drive, journal := t.journal, stations := t.stations, capture := t.capture, signals := t.signals
              arbiter.owner := t.arbiter.owner }
          ∧ t.query a = none ∧ (∀ b, b ≠ a → t.query b = s.query b) ∧ t.drive.polls = s.drive.polls
          ∧ (∀ st, .fault ∈ (t.station st).notices)
          ∧ match a with
            | .gate k e => t.gate k e = { state := .stalled } ∧ t.drive.sent = s.drive.sent ∧ t.arbiter = s.arbiter
              ∧ t.journal = (s.write (.fault .gateStall (.gate k e) s.time)).journal
              ∧ t.capture = s.capture.offer (s.captured .gateStall (.gate k e))
            | .sluice w => t.journal = (s.write (.fault .sluiceStall (.sluice w) s.time)).journal
              ∧ t.capture = s.capture.offer (s.captured .sluiceStall (.sluice w))
              ∧ (w ≠ .cross → t.sluice w = { state := .fault, step := step } ∧ t.drive.sent = s.drive.sent
                ∧ t.arbiter = s.arbiter)
              ∧ (w = .cross → t.arbiter.owner = .ending
                ∧ t.sluice w =
                  { state := .moving, step := step, target := some (.step 0)
                    timer := some (s.now + seconds s.settings.sluiceLimit) }
                ∧ t.drive.sent = s.drive.sent ++ [⟨.sluice .cross, .move 0, false⟩]))
    ∧ (s.actuatorPresent a = true → s.unknownActuator a = true → (∀ y ∈ s.drive.queries, y.actuator = a) →
      (∀ b, b ≠ a → s.actuatorPresent b = true → s.unknownActuator b = false) →
      exec .drivePollCycle s = .next s
      ∧ ∀ x u, sets x u → ((u.sluice .cross).state = .held → (u.sluice .cross).step ≠ some 0) →
        let late := s.crossPresent = true ∧ (u.sluice .cross).state ≠ .shut
        let reversed := (u.sluice .cross).state = .moving ∧ (u.sluice .cross).target = some (.step 0)
        ∃ t, exec (.statusAnswer a x) s = .next t
          ∧ t = { u with drive := t.drive, levels := t.levels, signals := t.signals, arbiter.owner := t.arbiter.owner }
          ∧ SameLevels s t ∧ t.drive.queries = [] ∧ t.drive.polls = s.drive.polls
          ∧ (∀ k e, t.gate k e = u.gate k e) ∧ (∀ k e, t.sluice (.chamber k e) = u.sluice (.chamber k e))
          ∧ (¬late → t.sluice .cross = u.sluice .cross ∧ t.drive.sent = s.drive.sent ∧ t.arbiter = s.arbiter)
          ∧ (late → t.arbiter.owner = .ending ∧ (t.sluice .cross).state = .moving
            ∧ (t.sluice .cross).target = some (.step 0) ∧ (t.sluice .cross).step = (u.sluice .cross).step
            ∧ (¬reversed → t.drive.sent = s.drive.sent ++ [⟨.sluice .cross, .move 0, false⟩]))
          ∧ (∀ b, s.bodyPresent b = true →
            (t.body b).sampling = if t.fastCause b = true then .fast else (s.body b).sampling)
          ∧ (s.drive.polls = [] → exec .drivePollCycle t = .next
            { t with drive.polls := t.presentActuators, drive.cycleStart := some t.now }))

/-- The interlock's clauses I1 to I5 (R29): when each order to an actuator that is not UNKNOWN passes, and which clause refuses it;
an order to open an UNKNOWN gate, or to move an UNKNOWN sluice above 0, is refused (R19, R27). -/
def Obligations.InterlockAppliesItsClauses : Prop :=
  ∀ s : State,
    (∀ k e,
      let passes1 := (s.gate k e.other).state = .closed ∧ (∀ i, (s.sluice (.chamber k i)).state = .shut)
        ∧ (s.crossPresent = true → (s.sluice .cross).state = .shut) ∧ s.pair (.across e k) = .equalised
      ((s.gate k e).state = .unknown → (s.judge (.gate k e) .opn).isSome = true)
        ∧ ((s.gate k e).state ≠ .unknown →
          (s.judge (.gate k e) .opn = none ↔ passes1) ∧ (s.judge (.gate k e) .opn = some .i1 ↔ ¬passes1)))
    ∧ (∀ k e n,
      let passes2 := (∀ i, (s.gate k i).state = .closed) ∧ (s.sluice (.chamber k e.other)).state = .shut
        ∧ (s.crossPresent = true → (s.sluice .cross).state = .shut)
        ∧ (e = .upper → (s.body k.body).handedState.usable = true)
      let passes4 := e = .upper → ∃ h, (s.body k.body).handedLevel = some h ∧ (s.body k.body).handedState.usable = true
        ∧ h + s.settings.eqBand < (s.settings.chamber.get k).topLevel
      let verdict := s.judge (.sluice (.chamber k e)) (.move (n + 1))
      ((s.sluice (.chamber k e)).state = .unknown → verdict.isSome = true)
        ∧ ((s.sluice (.chamber k e)).state ≠ .unknown →
          (verdict = none ↔ passes2 ∧ passes4) ∧ (verdict = some .i2 ↔ ¬passes2) ∧ (verdict = some .i4 ↔ passes2 ∧ ¬passes4)))
    ∧ (∀ n,
      let passes3 := (∀ k e, (s.gate k e).state = .closed) ∧ (∀ k e, (s.sluice (.chamber k e)).state = .shut)
        ∧ s.arbiter.owner = .engaged
      let verdict := s.judge (.sluice .cross) (.move (n + 1))
      ((s.sluice .cross).state = .unknown → verdict.isSome = true)
        ∧ ((s.sluice .cross).state ≠ .unknown → (verdict = none ↔ passes3) ∧ (verdict = some .i3 ↔ ¬passes3)))
    ∧ ∀ a, s.judge a .cls = none ∧ s.judge a .stop = none ∧ s.judge a (.move 0) = none

/-- R28: the three laws at every sending: a gate is ordered open only with the chamber's other gate CLOSED and every sluice that
opens into it SHUT, a sluice above 0 only with every gate of the chambers it opens into CLOSED and the other sluices of them SHUT. -/
def Obligations.OrdersSentKeepTheThreeLaws : Prop :=
  (∀ (s : State) (k : Chamber) (e : Side), (s.openGate k e).2 = .sent →
    (s.gate k e.other).state = .closed ∧ (∀ i, (s.sluice (.chamber k i)).state = .shut)
      ∧ (s.crossPresent = true → (s.sluice .cross).state = .shut))
    ∧ (∀ (s : State) (k : Chamber) (e : Side) (n : Nat), 0 < n → (s.moveSluice (.chamber k e) n).2 = .sent →
      (∀ i, (s.gate k i).state = .closed) ∧ (s.sluice (.chamber k e.other)).state = .shut
        ∧ (s.crossPresent = true → (s.sluice .cross).state = .shut))
    ∧ ∀ (s : State) (n : Nat), 0 < n → (s.moveSluice .cross n).2 = .sent →
      (∀ k i, (s.gate k i).state = .closed) ∧ ∀ k i, (s.sluice (.chamber k i)).state = .shut

/-! ## The chamber cycle -/

/-- R37 to R39: SERVICE ON takes a chamber whose plant is at rest into the rest state its gates and levels give, or, AUTOMATIC
between its pounds, into an empty; stray plant is ordered to rest and the request refused STATE, as it is for two open gates, for
levels that do not meet, and, with the reason byte of log entry 24, for a DIRECTED chamber between its pounds. The order of the
orders sent is log entry 17, that the empty's first order needs no usable level log entry 35. -/
def Obligations.ServiceOnInspectsTheChamber : Prop :=
  ∀ (s : State) (st : Station) (k : Chamber), s.takes st → s.holder k = some st → s.chamberPresent k = true →
    let gate := fun e => (s.gate k e).state
    let sluice := fun e => s.sluice (.chamber k e)
    let rests := (∀ e, gate e = .closed ∨ gate e = .opened) ∧ (∀ e, (sluice e).state = .shut)
      ∧ (s.crossPresent = true → (s.sluice .cross).state = .shut)
    let equal := fun b : Body =>
      match s.usableLevel b, s.usableLevel k.body with
      | some x, some y => decide (x ≤ y + s.settings.eqBand ∧ y ≤ x + s.settings.eqBand)
      | _, _ => false
    let between := match s.usableLevel .up, s.usableLevel .lp, s.usableLevel k.body with
      | some u, some l, some h => decide (l < h ∧ h < u)
      | _, _, _ => false
    (s.store.defaulted = true ∨ (s.chamber k).state ≠ .outOfService →
      exec (.serviceOn st k) s = .next (s.answered st 0x33 .state []))
    ∧ (s.store.defaulted = false → (s.chamber k).state = .outOfService →
      (rests → gate .upper = .opened ∧ gate .lower = .opened
          ∨ gate .upper = .closed ∧ gate .lower = .opened ∧ equal .lp = false
          ∨ gate .upper = .opened ∧ gate .lower = .closed ∧ equal .up = false
          ∨ gate .upper = .closed ∧ gate .lower = .closed ∧ equal .lp = false ∧ equal .up = false ∧ between = false →
        exec (.serviceOn st k) s = .next (s.answered st 0x33 .state []))
      ∧ (rests → gate .upper = .closed → gate .lower = .closed → equal .lp = false → equal .up = false → between = true →
        ((s.chamber k).mode = .directed → exec (.serviceOn st k) s = .next (s.answered st 0x33 .state [.byte 0]))
        ∧ ((s.chamber k).mode = .automatic → s.Calm → s.pair (.across .lower k) ≠ .equalised → (sluice .lower).step = some 0 →
          0 < s.headLimit (.chamber k .lower) → s.judge (.sluice (.chamber k .lower)) (.move 1) = none →
          ∃ t, exec (.serviceOn st k) s = .next t
            ∧ t = { s.answered st 0x33 .ok [] with
                drive := t.drive, levels := t.levels, chambers := t.chambers, signals := t.signals }
            ∧ SameLevels s t ∧ PhaseBegun s t k .empty
            ∧ (t.chamber k).water = some ⟨.empty, s.batchNumber k, s.level k.body, false, none⟩))
      ∧ (rests → s.Calm → s.batch k = none → s.book.lists = ⟨[], []⟩ → ∀ c,
        gate .upper = .closed ∧ gate .lower = .opened ∧ equal .lp = true ∧ c = .lowOpen
          ∨ gate .upper = .opened ∧ gate .lower = .closed ∧ equal .up = true ∧ c = .highOpen
          ∨ gate .upper = .closed ∧ gate .lower = .closed ∧ equal .lp = true ∧ c = .lowShut
          ∨ gate .upper = .closed ∧ gate .lower = .closed ∧ equal .lp = false ∧ equal .up = true ∧ c = .highShut →
        ∃ t, exec (.serviceOn st k) s = .next t
          ∧ t = { s.answered st 0x33 .ok [] with chambers := t.chambers, signals := t.signals }
          ∧ t.signals.tests.get k = none
          ∧ t.chamber k = { s.chamber k with state := c, pendingOrder := none, water := none }
          ∧ t.chamber k.other = s.chamber k.other)
      ∧ (¬rests → s.Calm →
        let strayGate := fun e => gate e = .stopped ∨ gate e = .stalled
        let straySluice := fun e => (sluice e).state = .fault ∨ (sluice e).state = .held ∧ (sluice e).step ≠ some 0
        ∃ t, exec (.serviceOn st k) s = .next t
          ∧ t = { s.answered st 0x33 .state [] with drive := t.drive, levels := t.levels, signals := t.signals }
          ∧ SameLevels s t ∧ SameGuards s t ∧ SameLine s t
          ∧ (∀ e, t.gate k e =
            if strayGate e then
              { state := .closing, outstanding := some .cls, lastMove := some .cls
                timer := some (s.now + seconds ((s.settings.chamber.get k).gateLimit.get e)) }
            else s.gate k e)
          ∧ (∀ e, t.sluice (.chamber k e) =
            if straySluice e then
              { state := .moving, step := (sluice e).step, target := some (.step 0)
                timer := some (s.now + seconds s.settings.sluiceLimit) }
            else if (sluice e).state = .held then { sluice e with ramp := none }
            else sluice e)
          ∧ (∀ e, t.gate k.other e = s.gate k.other e) ∧ (∀ e, t.sluice (.chamber k.other e) = s.sluice (.chamber k.other e))
          ∧ t.sluice .cross = s.sluice .cross
          ∧ (let shuts : Side → List Sent := fun e => if straySluice e then [⟨.sluice (.chamber k e), .move 0, false⟩] else []
            let closes : Side → List Sent := fun e => if strayGate e then [⟨.gate k e, .cls, false⟩] else []
            t.drive.sent = s.drive.sent ++ (shuts .upper ++ shuts .lower ++ closes .upper ++ closes .lower))))

/-- R39, R113: SERVICE OFF is refused STATE for a chamber OUT_OF_SERVICE, and IN_FLIGHT while its batch is past BOUND. Else it
leaves the chamber OUT_OF_SERVICE, only its mode kept; a BOUND batch is unbound, each member's order returned to the state its
vessel's record gives, with its RETURNED frame. Its plant is ordered to rest, the moving gates stopped with their MOVE frames; a
water record still open closes with batch none, its WATER frame written and a fill's charge by the ACTIVE table posted to the site
(R44, R137); a posted wish is withdrawn, the other chamber's waiting wish proceeding alone (R66), and a cross phase ends with its
record delivered before the water record closes (R39, R72), the other chamber leaving it at once where the cross sluice is SHUT
already (R70, R18). That the first order of the other chamber's ramp needs no usable level of its pound is log entry 35 (the
model's reading of R31 and R33). The order of the frames and the orders is log entry 17; that the WATER frame of an EMPTY without a
level carries no charge is log entry 54. The batch is one without a fill record, in a chamber without a water record or a cross
phase; the water record and the phase are those of a chamber without a batch. -/
def Obligations.ServiceOffLeavesAndUnbinds : Prop :=
  ∀ (s : State) (st : Station) (k : Chamber), s.takes st → s.holder k = some st → s.chamberPresent k = true →
    ((s.chamber k).state = .outOfService → exec (.serviceOff st k) s = .next (s.answered st 0x33 .state []))
    ∧ (∀ b, (s.chamber k).state ≠ .outOfService → s.batch k = some b → b.state ≠ .bound →
      exec (.serviceOff st k) s = .next (s.answered st 0x33 .inFlight []))
    ∧ ((s.chamber k).state ≠ .outOfService → s.Calm → s.CrossFree → (s.chamber k).water = none →
      (∀ e, (s.gate k e).state ≠ .opening ∧ (s.gate k e).state ≠ .closing) →
      (∀ e, (s.sluice (.chamber k e)).state = .shut ∧ (s.sluice (.chamber k e)).step = some 0
        ∧ (s.sluice (.chamber k e)).ramp = none) →
      (s.batch k = none →
        ∃ t, exec (.serviceOff st k) s = .next t
          ∧ t = { s.answered st 0x33 .ok [] with chambers := t.chambers, signals := t.signals }
          ∧ t.chamber k = { state := .outOfService, mode := (s.chamber k).mode } ∧ t.chamber k.other = s.chamber k.other)
      ∧ ∀ b, s.batch k = some b → b.state = .bound → b.fill = none → s.available k.other = false →
        (∀ m ∈ b.members, ∃ o, s.book.find m.order = some o ∧ o.slot = m.slot) →
        let back := fun o : Order =>
          { o with
            state := match (s.vessel o.slot).state with
              | .held _ => .blocked .held
              | _ => if s.fits (s.vessel o.slot) then .waiting else .blocked .oversize }
        ∃ t, exec (.serviceOff st k) s = .next t
          ∧ t = { s.answered st 0x33 .ok [] with
              book := t.book, chambers := t.chambers, journal := t.journal, signals := t.signals, stations := t.stations }
          ∧ (∀ x, (t.station x).core = ((s.answered st 0x33 .ok []).station x).core)
          ∧ t.batch k = none ∧ t.batch k.other = s.batch k.other
          ∧ ((∀ o ∈ s.book.orders, ∀ m ∈ b.members, o.number = m.order → o.slot = m.slot) → ∀ d,
            t.book.lists.get d =
              (s.book.lists.get d).map (fun o => if o.number ∈ b.members.map (·.order) then back o else o))
          ∧ t.book.nextOrder = s.book.nextOrder ∧ t.book.nextBatch = s.book.nextBatch
          ∧ t.book.entrySequence = s.book.entrySequence ∧ t.book.timer = s.book.timer ∧ t.book.deferred = s.book.deferred
          ∧ t.journal =
            (b.members.foldl (fun u m => u.write (.order (some m.order) m.slot .returned st s.time)) s).journal
          ∧ t.chamber k = { state := .outOfService, mode := (s.chamber k).mode } ∧ t.chamber k.other = s.chamber k.other)
    ∧ ((s.chamber k).state ≠ .outOfService → s.Calm → s.batch k = none →
      let stopped := fun (u : State) (e : Side) =>
        if (s.gate k e).state = .opening ∨ (s.gate k e).state = .closing then u.write (.move (.gate k e) .stopped s.time) else u
      let stops := stopped (stopped s .upper) .lower
      let leaves := fun (w : Option WaterRec) (t : State) =>
        t = { s.answered st 0x33 .ok [] with
              drive := t.drive, levels := t.levels, chambers := t.chambers, arbiter := t.arbiter, signals := t.signals
              journal := t.journal, stations := t.stations, site := t.site }
          ∧ (∀ x, (t.station x).core = ((s.answered st 0x33 .ok []).station x).core)
          ∧ t.chamber k = { state := .outOfService, mode := (s.chamber k).mode }
          ∧ SameLevels s t ∧ SameGuards s t ∧ SameLine s t ∧ PlantShut s t k none
          ∧ (∀ e, (s.gate k e).state = .opening ∨ (s.gate k e).state = .closing →
            ⟨.gate k e, .stop, false⟩ ∈ t.drive.sent.drop s.drive.sent.length)
          ∧ match w with
            | none => t.site = s.site ∧ t.journal = stops.journal
            | some x =>
              let area := (s.settings.chamber.get k).wetArea
              let cross := if x.crossed then x.crossEnd else x.start
              let volumes := match x.start, cross, s.level k.body with
                | some a, some c, some z => match x.kind with
                  | .fill => ((area * (c - a) + 50) / 100, (area * (z - c) + 50) / 100)
                  | .empty => ((area * (a - c) + 50) / 100, (area * (c - z) + 50) / 100)
                | _, _, _ => (0, 0)
              let charge := (volumes.2 * s.active.waterRate + 5) / 10
              let part := match x.kind with | .fill => some charge | .empty => none
              t.site = (match x.kind with
                | .fill => { total := min 4000000000 (s.site.total + charge), drawn := min 4294967295 (s.site.drawn + volumes.2)
                             saved := min 4294967295 (s.site.saved + volumes.1) }
                | .empty => s.site)
              ∧ t.journal = (stops.write (.water
                { batch := none, chamber := k, kind := x.kind, start := x.start
                  crossEnd := if x.crossed then x.crossEnd else none, stop := s.level k.body, crossVolume := volumes.1
                  pound := volumes.2, charge := part, sitePart := part, time := s.time })).journal
      (s.arbiter.owner ≠ .engaged →
        let withdrawn := { s.arbiter with
          wishes := ⟨none, none⟩, record := s.arbiter.record.map fun r => { r with delivered := r.delivered.set k true } }
        let water := takenWater k (s.chamber k).water s.arbiter.record
        (s.wish k.other = none →
          ∃ t, exec (.serviceOff st k) s = .next t ∧ leaves water t ∧ t.arbiter = withdrawn ∧ SameChamber s t k.other
            ∧ t.sluice .cross = s.sluice .cross)
        ∧ ∀ w, s.wish k.other = some w →
          let q : Sluice := .chamber k.other w.kind.side
          s.pair (.across w.kind.side k.other) ≠ .equalised → (s.sluice q).state = .shut → (s.sluice q).step = some 0 →
          0 < s.headLimit q → s.judge (.sluice q) (.move 1) = none →
          ∃ t, exec (.serviceOff st k) s = .next t ∧ leaves water t ∧ t.arbiter = withdrawn
            ∧ (∀ e, t.gate k.other e = s.gate k.other e)
            ∧ t.chamber k.other =
              { s.chamber k.other with
                state := w.kind.phase, pendingOrder := none, phase := some ⟨s.now, seconds s.settings.fillLimit⟩
                slowRaised := false }
            ∧ (t.sluice q).state = .moving ∧ (t.sluice q).target = some (.step 1)
            ∧ (t.sluice q).ramp = some ⟨.sequencer k.other, 8, 1, some s.now, false, .nothing⟩
            ∧ ⟨.sluice q, .move 1, false⟩ ∈ t.drive.sent.drop s.drive.sent.length)
      ∧ (∀ r m, s.arbiter.owner = .engaged → s.arbiter.record = some r → r.delivered.get k = false →
        s.arbiter.wishes = ⟨none, none⟩ →
        (s.sluice .cross).state = .held ∧ (s.sluice .cross).step = some (m + 1)
          ∨ (s.sluice .cross).state = .moving ∧ (s.sluice .cross).target = some (.step (m + 1)) →
        let ended := { r with stop := ⟨s.level .c1, s.level .c2⟩, cause := some (.serviceOff k) }
        ∃ t, exec (.serviceOff st k) s = .next t ∧ leaves (takenWater k (s.chamber k).water (some ended)) t
          ∧ SameChamber s t k.other
          ∧ t.arbiter =
            { s.arbiter with
              owner := .ending, timer := none, record := some { ended with delivered := r.delivered.set k true } }
          ∧ t.sluice .cross =
            { state := .moving, step := (s.sluice .cross).step, target := some (.step 0)
              superseded := if (s.sluice .cross).state = .moving then some (m + 1) else none
              timer := some (s.now + seconds s.settings.sluiceLimit) }
          ∧ ⟨.sluice .cross, .move 0, false⟩ ∈ t.drive.sent.drop s.drive.sent.length)
      ∧ ∀ r, s.arbiter.owner = .engaged → s.arbiter.record = some r → r.delivered = ⟨false, false⟩ →
        s.arbiter.wishes = ⟨none, none⟩ → (s.sluice .cross).state = .shut → (s.sluice .cross).step = some 0 →
        let kind : WaterKind := if k.other = r.filling then .fill else .empty
        let q := Sluice.chamber k.other kind.side
        let ended := { r with stop := ⟨s.level .c1, s.level .c2⟩, cause := some (.serviceOff k) }
        (s.chamber k.other).state = kind.cross → s.pair (.across kind.side k.other) ≠ .equalised →
        (s.sluice q).state = .shut → (s.sluice q).step = some 0 → 0 < s.headLimit q → s.judge (.sluice q) (.move 1) = none →
        ∃ t, exec (.serviceOff st k) s = .next t ∧ leaves (takenWater k (s.chamber k).water (some ended)) t
          ∧ t.arbiter = ⟨.idle, ⟨none, none⟩, none, none⟩ ∧ (∀ e, t.gate k.other e = s.gate k.other e)
          ∧ t.sluice .cross = { s.sluice .cross with ramp := none }
          ∧ t.chamber k.other =
            { s.chamber k.other with
              state := kind.phase, pendingOrder := none, phase := some ⟨s.now, seconds s.settings.fillLimit⟩
              slowRaised := false, water := takenWater k.other (s.chamber k.other).water (some ended) }
          ∧ (t.sluice q).state = .moving ∧ (t.sluice q).target = some (.step 1)
          ∧ (t.sluice q).ramp = some ⟨.sequencer k.other, 8, 1, some s.now, false, .nothing⟩
          ∧ ⟨.sluice q, .move 1, false⟩ ∈ t.drive.sent.drop s.drive.sent.length)

/-- R40, R41, R47, R49, R53: SET MODE changes the mode, or nothing where the mode is already in force. DIRECTED drops the pending
order, whatever the chamber's state and its batch, which stays bound, and nothing is sent; AUTOMATIC takes the rest state's step,
for each batch state the one R41's table gives: a batch change, a CLOSE, an OPEN or the order kept with its clause, a fill or an
empty that the arbiter declines (R65; its first order: log entry 35; the offer it takes: CrossPhasesBeginAndEnd), or nothing;
RESUME returns a chamber HALTED in a rest state to it. -/
def Obligations.ModeAndResume : Prop :=
  (∀ (s : State) (st : Station) (k : Chamber) (m : Mode), s.takes st → s.holder k = some st → s.chamberPresent k = true →
    s.Calm → s.batch k = none → s.book.lists = ⟨[], []⟩ →
    ∃ t, exec (.setMode st k m) s = .next t
      ∧ ((s.chamber k).mode = m → t = s.answered st 0x32 .ok [])
      ∧ ((s.chamber k).mode ≠ m →
        t = { s.answered st 0x32 .ok [] with chambers := t.chambers, signals := t.signals }
        ∧ t.chamber k =
          { s.chamber k with
            mode := m
            pendingOrder := if m = .directed ∨ (s.chamber k).state.rest.isSome then none else (s.chamber k).pendingOrder }
        ∧ t.chamber k.other = s.chamber k.other))
    ∧ (∀ (s : State) (st : Station) (k : Chamber) (m : Mode), s.takes st → s.holder k = some st → s.chamberPresent k = true →
      ((s.chamber k).mode = m → exec (.setMode st k m) s = .next (s.answered st 0x32 .ok []))
      ∧ (s.Calm → (s.chamber k).mode = .automatic →
        ∃ t, exec (.setMode st k .directed) s = .next t
          ∧ t = { s.answered st 0x32 .ok [] with chambers := t.chambers, signals := t.signals }
          ∧ t.chamber k = { s.chamber k with mode := .directed, pendingOrder := none }
          ∧ t.chamber k.other = s.chamber k.other))
    ∧ (∀ (s : State) (st : Station) (k : Chamber) (b : Batch) (e : Side), s.takes st → s.holder k = some st →
      s.chamberPresent k = true → s.Calm → (s.chamber k).mode = .directed → s.batch k = some b →
      let rest := { s.chamber k with mode := .automatic, pendingOrder := none }
      let wanted := match b.state with
        | .bound => some b.direction.entryEnd
        | .secured => some b.direction.exitEnd
        | _ => none
      let only := fun t : State =>
        t = { s.answered st 0x32 .ok [] with
            drive := t.drive, levels := t.levels, chambers := t.chambers, book.batches := t.book.batches, signals := t.signals }
          ∧ t.chamber k.other = s.chamber k.other
      let still := fun t : State => only t ∧ t.drive = s.drive ∧ t.levels = s.levels
      ((s.chamber k).state = openState e →
        (wanted = none → ∃ t, exec (.setMode st k .automatic) s = .next t ∧ still t ∧ t.book = s.book ∧ t.chamber k = rest)
        ∧ (wanted = some e → ∃ t, exec (.setMode st k .automatic) s = .next t ∧ still t
          ∧ (b.state = .bound → t.book = { s.book with batches := s.book.batches.set k (some { b with state := .entering }) }
            ∧ t.chamber k =
              { rest with entry := some (s.now + seconds s.settings.entryLimit), entryOverdue := false })
          ∧ (b.state = .secured → t.book = { s.book with batches := s.book.batches.set k (some { b with state := .leaving }) }
            ∧ t.chamber k =
              { rest with
                leave := some
                  ⟨s.now + seconds (s.settings.leaveLimit - s.settings.clearOutLead),
                    s.now + seconds s.settings.leaveLimit⟩
                clearOut := decide (s.settings.leaveLimit ≤ s.settings.clearOutLead)
                leaveOverdue := false }))
        ∧ (wanted = some e.other → (s.gate k e).state = .opened →
          ∃ t, exec (.setMode st k .automatic) s = .next t ∧ only t ∧ t.book = s.book ∧ GateOrdered s t k e .cls
            ∧ t.chamber k = { rest with state := closingState e }))
      ∧ ((s.chamber k).state = shutState e →
        (wanted = none → ∃ t, exec (.setMode st k .automatic) s = .next t ∧ still t ∧ t.book = s.book ∧ t.chamber k = rest)
        ∧ (wanted = some e → (s.gate k e).state ≠ .opening → (s.gate k e).state ≠ .opened →
          (∀ c, s.judge (.gate k e) .opn = some c →
            ∃ t, exec (.setMode st k .automatic) s = .next t ∧ still t ∧ t.book = s.book
              ∧ t.chamber k = { rest with pendingOrder := some (e, c) })
          ∧ (s.judge (.gate k e) .opn = none →
            ∃ t, exec (.setMode st k .automatic) s = .next t ∧ only t ∧ t.book = s.book ∧ GateOrdered s t k e .opn
              ∧ t.chamber k = { rest with state := openingState e }))
        ∧ (wanted = some e.other →
          let kind : WaterKind := match e with | .lower => .fill | .upper => .empty
          s.crossPresent = false ∨ (s.chamber k.other).state = .outOfService ∨ (s.chamber k.other).state = .halted
            ∨ s.arbiter.owner ≠ .idle ∨ (s.sluice .cross).state ≠ .shut ∨ (s.body k.body).handedState.usable = false
            ∨ s.settings.crossWait = 0 ∧ (∀ w, s.wish k.other = some w → w.kind = kind) →
          s.pair (.across kind.side k) ≠ .equalised → (s.sluice (.chamber k kind.side)).state = .shut →
          (s.sluice (.chamber k kind.side)).step = some 0 → 0 < s.headLimit (.chamber k kind.side) →
          s.judge (.sluice (.chamber k kind.side)) (.move 1) = none →
          ∃ t, exec (.setMode st k .automatic) s = .next t ∧ only t ∧ t.book = s.book ∧ SameLevels s t
            ∧ PhaseBegun (s.setChamber k rest) t k kind
            ∧ (t.chamber k).water = some ⟨kind, some b.number, s.level k.body, false, none⟩)))
    ∧ (∀ (s : State) (st : Station) (k : Chamber) (c : ChamberState), s.takes st → s.holder k = some st →
      s.chamberPresent k = true → (s.chamber k).state = .halted → (s.chamber k).interrupted = some c → c.rest.isSome = true →
      s.Calm → s.batch k = none → s.book.lists = ⟨[], []⟩ →
      ∃ t, exec (.resume st k) s = .next t
        ∧ t = { s.answered st 0x35 .ok [] with chambers := t.chambers, signals := t.signals }
        ∧ t.chamber k =
          { s.chamber k with state := c, interrupted := none, haltCause := none, pendingOrder := none }
        ∧ t.chamber k.other = s.chamber k.other)
    ∧ ∀ (s : State) (st : Station) (k : Chamber), s.takes st → s.holder k = some st → s.chamberPresent k = true →
      (s.chamber k).state ≠ .halted → exec (.resume st k) s = .next (s.answered st 0x35 .state [])

/-- R53, R54: RESUME of a chamber HALTED in a closing state sends its CLOSE again, and in an opening one with its pair still
EQUALISED its OPEN, which a refusal keeps pending in AUTOMATIC and answers INTERLOCK in DIRECTED, the chamber staying HALTED (log
entry 36); a gate that stands at the end of its movement completes it. In an opening state whose pair is no longer EQUALISED a
DIRECTED chamber returns to the shut rest state and an AUTOMATIC one fills or empties again, with a new water record. In a fill or
an empty, its wait or its cross phase, it enters the phase proper with its water record as it stood; a first order refused is
answered INTERLOCK in DIRECTED and left to the ramp in AUTOMATIC. That the first order needs no usable level is log entry 35. -/
def Obligations.ResumeContinuesTheInterruptedStep : Prop :=
  ∀ (s : State) (st : Station) (k : Chamber) (c : ChamberState), s.takes st → s.holder k = some st →
    s.chamberPresent k = true → (s.chamber k).state = .halted → (s.chamber k).interrupted = some c → s.Calm →
    let back := fun x => { s.chamber k with state := x, interrupted := none, haltCause := none, pendingOrder := none }
    let resumes := fun (t : State) =>
      t = { s.answered st 0x35 .ok [] with
            drive := t.drive, levels := t.levels, chambers := t.chambers, signals := t.signals }
        ∧ t.chamber k.other = s.chamber k.other
    let rests := fun (t : State) => resumes t ∧ t.drive = s.drive ∧ t.levels = s.levels
    let sluiceRests := fun q =>
      (s.sluice q).state = .shut ∧ (s.sluice q).step = some 0
        ∨ (s.sluice q).state = .moving ∧ (s.sluice q).target = some (.step 0)
    (∀ e, c = closingState e →
      ((s.gate k e).state = .closing → ∃ t, exec (.resume st k) s = .next t ∧ rests t ∧ t.chamber k = back c)
      ∧ ((s.gate k e).state = .closed → (s.chamber k).mode = .directed →
        ∃ t, exec (.resume st k) s = .next t ∧ rests t ∧ t.chamber k = back (shutState e))
      ∧ ((s.gate k e).state ≠ .closing → (s.gate k e).state ≠ .closed → (s.gate k e).state ≠ .unknown →
        ∃ t, exec (.resume st k) s = .next t ∧ resumes t ∧ GateOrdered s t k e .cls ∧ t.chamber k = back c))
    ∧ (∀ e, c = openingState e → s.pair (.across e k) = .equalised →
      ((s.gate k e).state = .opened → (s.chamber k).mode = .directed → s.batch k = none →
        ∃ t, exec (.resume st k) s = .next t ∧ rests t ∧ t.chamber k = back (openState e))
      ∧ ((s.gate k e).state ≠ .opening → (s.gate k e).state ≠ .opened →
        (s.judge (.gate k e) .opn = none →
          ∃ t, exec (.resume st k) s = .next t ∧ resumes t ∧ GateOrdered s t k e .opn ∧ t.chamber k = back c)
        ∧ ∀ x, s.judge (.gate k e) .opn = some x →
          ((s.chamber k).mode = .directed → exec (.resume st k) s = .next (s.answered st 0x35 .interlock [.byte x.code]))
          ∧ ((s.chamber k).mode = .automatic →
            ∃ t, exec (.resume st k) s = .next t ∧ rests t ∧ t.chamber k = { back c with pendingOrder := some (e, x) })))
    ∧ (∀ e, c = openingState e → s.pair (.across e k) ≠ .equalised →
      ((s.chamber k).mode = .directed → ∃ t, exec (.resume st k) s = .next t ∧ rests t ∧ t.chamber k = back (shutState e))
      ∧ ((s.chamber k).mode = .automatic →
        let kind : WaterKind := match e with | .upper => .fill | .lower => .empty
        sluiceRests (.chamber k e) → 0 < s.headLimit (.chamber k e) → s.judge (.sluice (.chamber k e)) (.move 1) = none →
        ∃ t, exec (.resume st k) s = .next t ∧ resumes t ∧ SameLevels s t
          ∧ PhaseBegun (s.setChamber k (back kind.phase)) t k kind
          ∧ (t.chamber k).water = some ⟨kind, s.batchNumber k, s.level k.body, false, none⟩))
    ∧ ∀ kind : WaterKind, c = kind.wait ∨ c = kind.cross ∨ c = kind.phase →
      let q : Sluice := .chamber k kind.side
      s.pair (.across kind.side k) ≠ .equalised → sluiceRests q → 0 < s.headLimit q →
      (s.judge (.sluice q) (.move 1) = none →
        ∃ t, exec (.resume st k) s = .next t ∧ resumes t ∧ SameLevels s t
          ∧ PhaseBegun (s.setChamber k (back kind.phase)) t k kind
          ∧ (t.chamber k).water = (s.chamber k).water)
      ∧ ∀ x, s.judge (.sluice q) (.move 1) = some x →
        ((s.chamber k).mode = .directed → exec (.resume st k) s = .next (s.answered st 0x35 .interlock [.byte x.code]))
        ∧ ((s.chamber k).mode = .automatic →
          ∃ t, exec (.resume st k) s = .next t ∧ resumes t ∧ SameLevels s t ∧ SameOthers s t (.sluice q)
            ∧ t.drive.sent = s.drive.sent
            ∧ t.chamber k =
              { back kind.phase with phase := some ⟨s.now, seconds s.settings.fillLimit⟩, slowRaised := false }
            ∧ (t.sluice q).ramp = some ⟨.sequencer k, 8, 1, none, true, .retry x⟩)

/-- R46, R47, R49: the expiries of a chamber's timers: the flags they set and the notices they raise at every station (that the
leave timer's expiry sets clear-out too: log entry 42; that an expired entry or leave timer stops: the model's choice, log entry
50). R98, R99, R104: at the formation timer's expiry nothing else follows while no chamber is available; a chamber available
alone, resting open, forms a batch from its own end's list, which becomes ENTERING; when that list gives none, from the other one
once its oldest WAITING order is TURN_WAIT old, and closes its gate to turn (no order being entered later than now, an invariant:
StepKeepsBookInOrder); a reserve that the journal refuses leaves the book as it was, the binding deferred and JOURNAL_PRESSURE
raised. -/
def Obligations.TimersSetTheirFlags : Prop :=
  ∀ (s : State) (k : Chamber), s.Calm →
    (∀ p, (s.chamber k).phase = some p → (s.chamber k).slowRaised = false →
      ∃ t, exec (.fillSlow k) s = .next t ∧ SameRecords s t
        ∧ t = { s with
            now := max s.now (p.start + p.limit), chambers := t.chambers, journal := t.journal, stations := t.stations
            capture := t.capture }
        ∧ t.chamber k = { s.chamber k with slowRaised := true } ∧ t.chamber k.other = s.chamber k.other
        ∧ t.journal = (s.write (.fault .fillSlow (.chamber k) s.time)).journal
        ∧ ∀ st, .fillSlow ∈ (t.station st).notices)
    ∧ (∀ x, (s.chamber k).entry = some x →
      ∃ t, exec (.entryOverdue k) s = .next t ∧ SameRecords s t
        ∧ t = { s with now := max s.now x, chambers := t.chambers, stations := t.stations, signals := t.signals }
        ∧ t.chamber k = { s.chamber k with entry := none, entryOverdue := true } ∧ t.chamber k.other = s.chamber k.other
        ∧ ∀ st, .entryOverdue ∈ (t.station st).notices)
    ∧ (∀ l, (s.chamber k).leave = some l → (s.chamber k).clearOut = false →
      ∃ t, exec (.clearOut k) s = .next t
        ∧ t = { s with now := max s.now l.clearAt, chambers := t.chambers, signals := t.signals }
        ∧ t.chamber k = { s.chamber k with clearOut := true } ∧ t.chamber k.other = s.chamber k.other)
    ∧ (∀ l, (s.chamber k).leave = some l →
      ∃ t, exec (.leaveOverdue k) s = .next t ∧ SameRecords s t
        ∧ t = { s with now := max s.now l.expiry, chambers := t.chambers, stations := t.stations, signals := t.signals }
        ∧ t.chamber k = { s.chamber k with leave := none, clearOut := true, leaveOverdue := true }
        ∧ t.chamber k.other = s.chamber k.other ∧ ∀ st, .leaveOverdue ∈ (t.station st).notices)
    ∧ ∀ x, s.book.timer = some x →
      let now := max s.now x
      let again := some (now + seconds s.settings.primaryInterval)
      ((∀ c, s.available c = false) →
        ∃ t, exec .formationTimerExpiry s = .next t
          ∧ t = { s with now := now, book.timer := again, signals := t.signals })
      ∧ ∀ e depth, s.available k = true → s.available k.other = false → (s.chamber k).state = openState e →
        s.depth = some depth → (∀ o ∈ s.book.orders, o.entered ≤ s.now) →
        let d : Direction := match e with | .lower => .up | .upper => .down
        let scan := fun d : Direction => s.scan k depth (s.book.lists.get d) {}
        let grants := fun d : Direction => s.anySubscriber = true ∧ 16 * (scan d).members.length + 36 ≤ s.availableWords
        let oldest := fun o : Order => o ∈ s.book.lists.get d.other ∧ o.state = .waiting
          ∧ ∀ y ∈ s.book.lists.get d.other, y.state = .waiting → y ≠ o → o.sequence < y.sequence
        ((scan d).members ≠ [] → grants d →
          ∃ t, exec .formationTimerExpiry s = .next t ∧ BatchFormed s t k d (scan d) .entering
            ∧ t = { s with
                now := now, book := t.book, chambers := t.chambers, signals := t.signals, stations := t.stations }
            ∧ t.book.timer = again
            ∧ t.chamber k =
              { s.chamber k with
                entry := some (now + seconds s.settings.entryLimit), entryOverdue := false, pendingOrder := none }
            ∧ t.chamber k.other = s.chamber k.other)
        ∧ ((scan d).members = [] → ∀ o, oldest o →
          (now < o.entered + seconds s.settings.turnWait →
            ∃ t, exec .formationTimerExpiry s = .next t
              ∧ t = { s with now := now, book.timer := again, signals := t.signals })
          ∧ (o.entered + seconds s.settings.turnWait ≤ now → (scan d.other).members ≠ [] → grants d.other →
            (s.gate k e).state = .opened →
            ∃ t, exec .formationTimerExpiry s = .next t ∧ BatchFormed s t k d.other (scan d.other) .bound
              ∧ GateOrdered s t k e .cls ∧ t.now = now ∧ t.book.timer = again
              ∧ t.chamber k = { s.chamber k with state := closingState e, pendingOrder := none }))
        ∧ ((scan d).members ≠ [] → s.anySubscriber = true → s.availableWords < 16 * (scan d).members.length + 36 →
          ∃ t, exec .formationTimerExpiry s = .next t
            ∧ t = { s with
                now := now, book.timer := again, book.deferred := s.book.deferred.set k true, signals := t.signals
                stations := t.stations }
            ∧ ∀ st, .journalPressure ∈ (t.station st).notices)

/-- R50, R51, R58: HALT, GATE STOP on a moving gate, and EQUALISE_TIMEOUT halt their chamber the same way, each with its cause; a
HALT of a chamber OUT_OF_SERVICE is refused, and one of a HALTED chamber changes nothing. -/
def Obligations.HaltsShutTheChamber : Prop :=
  (∀ (s : State) (st : Station) (k : Chamber), s.takes st → s.chamberPresent k = true → s.Calm → s.CrossFree →
    (s.chamber k).state ≠ .outOfService → (s.chamber k).state ≠ .halted →
    (∃ t, exec (.halt st k) s = .next t ∧ HaltedIn s t k (s.chamber k).state .request none
      ∧ SameRecords (s.answered st 0x34 .ok []) t ∧ SameLevels s t ∧ t.now = s.now ∧ t.capture = s.capture)
    ∧ (s.holder k = some st → (s.chamber k).mode = .directed → (∃ e, (s.gate k e).state = .opening ∨ (s.gate k e).state = .closing) →
      ∀ e, ∃ t, exec (.gateStop st k e) s = .next t ∧ HaltedIn s t k (s.chamber k).state .request none
        ∧ SameRecords (s.answered st 0x3A .ok []) t ∧ SameLevels s t ∧ t.now = s.now ∧ t.capture = s.capture))
    ∧ (∀ (s : State) (k : Chamber) (p : PhaseTimer), s.Calm → s.CrossFree → (s.chamber k).phase = some p →
      (s.chamber k).state ≠ .outOfService → (s.chamber k).state ≠ .halted →
      ∃ t, exec (.equaliseTimeout k) s = .next t
        ∧ HaltedIn s t k (s.chamber k).state (.fault .equaliseTimeout) none ∧ SameRecords s t ∧ SameLevels s t
        ∧ t.now = max s.now (p.start + 2 * p.limit) ∧ t.capture = s.capture.offer (s.captured .equaliseTimeout (.chamber k))
        ∧ ∀ st, .fault ∈ (t.station st).notices)
    ∧ ∀ (s : State) (st : Station) (k : Chamber), s.takes st → s.chamberPresent k = true →
      ((s.chamber k).state = .outOfService → exec (.halt st k) s = .next (s.answered st 0x34 .state []))
        ∧ ((s.chamber k).state = .halted → exec (.halt st k) s = .next (s.answered st 0x34 .ok []))

/-- R58, R42, R19: GATE OPEN in the shut rest state and GATE CLOSE in the open one send their order to a gate that takes it, and
the chamber follows; the interlock's refusal is answered with its clause and changes nothing; a kept gate is not closed. -/
def Obligations.DirectedGatesMove : Prop :=
  ∀ (s : State) (st : Station) (k : Chamber) (e : Side), s.takes st → s.holder k = some st → s.chamberPresent k = true →
    (s.chamber k).mode = .directed → s.Calm →
    let moves := fun (c : Instr) (m : GateMove) (x : ChamberState) =>
      ∃ t, exec c s = .next t
        ∧ t = { s.answered st 0x3A .ok [] with
            drive := t.drive, levels := t.levels, chambers := t.chambers, signals := t.signals }
        ∧ GateOrdered s t k e m ∧ t.chamber k = { s.chamber k with state := x, pendingOrder := none }
    (∀ c, (s.chamber k).state = shutState e → (s.gate k e).state ≠ .opening → (s.gate k e).state ≠ .opened →
      s.judge (.gate k e) .opn = some c → exec (.gateOpen st k e) s = .next (s.answered st 0x3A .interlock [.byte c.code]))
    ∧ ((s.chamber k).state = shutState e → (s.gate k e).state ≠ .opening → (s.gate k e).state ≠ .opened →
      s.judge (.gate k e) .opn = none → moves (.gateOpen st k e) .opn (openingState e))
    ∧ ((s.chamber k).state = openState e → s.gateKept k e = true →
      exec (.gateClose st k e) s = .next (s.answered st 0x3A .state []))
    ∧ ((s.chamber k).state = openState e → s.gateKept k e = false → (s.gate k e).state = .opened →
      moves (.gateClose st k e) .cls (closingState e))

/-- R59, R65, R45, R31, R66: a directed FILL or EMPTY, without the cross culvert or one that the arbiter declines, and a chamber
whose wish runs out, enter the phase proper and send the first order of their ramp; a directed one opens a water record first. R45:
when the pair becomes EQUALISED the phase timer stops and the sluice is ordered to 0; at the report of step 0 the record is closed
and the chamber rests, in DIRECTED whatever its batch, with no order of its own. R12, R9: where EQ_SETTLE is 0, a round end that
makes the pair EQUALISED with the sluice already SHUT ends the phase at once, the record closed on the chamber's level as last
handed on before that round's hand-over. That a first order needs no usable level, and that a sluice already SHUT ends the phase at
once, is log entry 35. -/
def Obligations.PhasesBeginAndEnd : Prop :=
  (∀ (s : State) (k : Chamber) (kind : WaterKind), s.Calm → s.pair (.across kind.side k) ≠ .equalised →
    (s.sluice (.chamber k kind.side)).state = .shut → (s.sluice (.chamber k kind.side)).step = some 0 →
    0 < s.headLimit (.chamber k kind.side) → s.judge (.sluice (.chamber k kind.side)) (.move 1) = none →
    (∀ (c : Instr) (st : Station) (x : Bool) (n : Nat),
      kind = .fill ∧ c = .fill st k x ∧ n = 0x3B ∨ kind = .empty ∧ c = .empty st k x ∧ n = 0x3C →
      s.takes st → s.holder k = some st → s.chamberPresent k = true → (s.chamber k).mode = .directed →
      (s.chamber k).state = kind.other.ends →
      x = false ∨ s.crossPresent = false ∨ (s.chamber k.other).state = .outOfService ∨ (s.chamber k.other).state = .halted
        ∨ s.arbiter.owner ≠ .idle ∨ (s.sluice .cross).state ≠ .shut ∨ (s.body k.body).handedState.usable = false
        ∨ s.settings.crossWait = 0 ∧ (∀ w, s.wish k.other = some w → w.kind = kind) →
      ∃ t, exec c s = .next t
        ∧ t = { s.answered st n .ok [] with
            drive := t.drive, levels := t.levels, chambers := t.chambers, signals := t.signals }
        ∧ SameLevels s t ∧ PhaseBegun s t k kind
        ∧ (t.chamber k).water = some ⟨kind, s.batchNumber k, s.level k.body, false, none⟩)
    ∧ ∀ w, s.wish k = some w → w.kind = kind →
      ∃ t, exec (.wishExpiry k) s = .next t
        ∧ t = { s with
            now := max s.now w.expiry, drive := t.drive, levels := t.levels, chambers := t.chambers, signals := t.signals
            arbiter.wishes := s.arbiter.wishes.set k none }
        ∧ SameLevels s t ∧ PhaseBegun s t k kind ∧ (t.chamber k).water = (s.chamber k).water)
    ∧ (∀ (s : State) (k : Chamber) (kind : WaterKind), s.Calm → s.NothingKept → (s.chamber k).state = kind.phase →
      let q : Sluice := .chamber k kind.side
      let rests := { s.chamber k with state := kind.ends, water := none }
      (∀ x p, s.pair (.across kind.side k) = .settling x → (s.chamber k).phase = some p →
        ((s.sluice q).state = .held → (s.sluice q).step ≠ some 0 →
          ∃ t, exec (.settleExpiry (.across kind.side k)) s = .next t ∧ SameRecords s t
            ∧ t = { s with
                now := t.now, drive := t.drive, levels := t.levels, chambers := t.chambers, signals := t.signals }
            ∧ SameOthers s t (.sluice q) ∧ SameLine s t ∧ t.chamber k.other = s.chamber k.other
            ∧ t.chamber k = { s.chamber k with phase := none }
            ∧ t.sluice q =
              { state := .moving, step := (s.sluice q).step, target := some (.step 0)
                timer := some (t.now + seconds s.settings.sluiceLimit) }
            ∧ t.drive.sent = s.drive.sent ++ [⟨.sluice q, .move 0, false⟩])
        ∧ ((s.sluice q).state = .shut → (s.sluice q).step = some 0 → (s.chamber k).mode = .directed →
          ∃ t, exec (.settleExpiry (.across kind.side k)) s = .next t ∧ SameRecords s t ∧ SameOthers s t (.sluice q)
            ∧ t.chamber k = { rests with phase := none } ∧ t.drive.sent = s.drive.sent))
      ∧ ((s.chamber k).phase = none → s.drive.polls.head? = some (.sluice q) → s.chamberPresent k = true →
        (s.sluice q).state = .moving → (s.sluice q).target = some (.step 0) ∨ (s.sluice q).target = some .stop →
        (s.sluice q).ramp = none → (s.chamber k).mode = .directed →
        ∃ t, exec (.sluiceReport q 0) s = .next t ∧ SameRecords s t ∧ SameLevels s t ∧ SameOthers s t (.sluice q)
          ∧ t = { s with
              drive := t.drive, levels := t.levels, chambers := t.chambers, book.batches := t.book.batches
              signals := t.signals, journal := t.journal, stations := t.stations, site := t.site }
          ∧ t.sluice q = { state := .shut, step := some 0 } ∧ t.chamber k = rests
          ∧ t.chamber k.other = s.chamber k.other ∧ t.drive.sent = s.drive.sent))
    ∧ ∀ (s : State) (p : Poll) (c : Instr) (k : Chamber) (kind : WaterKind) (w : WaterRec), s.levels.poll = some p → p.gauge = .b →
      (∃ b1 b2 b3 b4, c = .gaugeReply b1 b2 b3 b4) ∨ c = .noReply → ∀ t, exec c s = .next t → s.Calm → s.CrossFree →
      s.settings.eqSettle = 0 → (s.chamber k).state = kind.phase → (s.chamber k).phase ≠ none → (s.chamber k).mode = .directed →
      s.batch k = none → (s.chamber k).water = some w → w.kind = kind → (s.sluice (.chamber k kind.side)).state = .shut →
      (s.sluice (.chamber k kind.side)).step = some 0 → p.body = k.body ∨ p.body = kind.side.pound →
      s.pair (.across kind.side k) = .notEqual → t.pair (.across kind.side k) = .equalised →
      (∀ e, (s.gate k e).state ≠ .opening) → (s.chamber k.other).phase = none →
      (∀ h, (t.body k.body).handedLevel = some h → h ≤ (s.settings.chamber.get k).topLevel) →
      let area := (s.settings.chamber.get k).wetArea
      let drawn := match w.start, if w.crossed then w.crossEnd else w.start, (s.body k.body).handedLevel with
        | some _, some x, some z => (area * (z - x) + 50) / 100
        | _, _, _ => 0
      let saved := match w.start, if w.crossed then w.crossEnd else w.start, (s.body k.body).handedLevel with
        | some y, some x, some _ => (area * (x - y) + 50) / 100
        | _, _, _ => 0
      t.chamber k = { s.chamber k with state := kind.ends, pendingOrder := none, phase := none, water := none }
        ∧ t.site = match kind with
          | .fill => { total := min 4000000000 (s.site.total + (drawn * s.active.waterRate + 5) / 10)
                       drawn := min 4294967295 (s.site.drawn + drawn), saved := min 4294967295 (s.site.saved + saved) }
          | .empty => s.site

/-- R31 to R33: a ramp whose interval has run out orders its next step when the head limit, both levels and the interlock let it.
R30: a step refused by I2, the first step of a SHUT sluice or a later one of a HELD one, is tried again at the report of a gate the
clause names, here the one that closes; one refused by I4, which names no actuator, is left as it is by a drive report (which
events count: log entry 20). R60: SLUICE to 0 shuts the sluice whatever the chamber does; above the last reported step, in the
phase it works for, it starts a ramp limited by the head; the cross sluice and a step above 8 are refused RANGE, with the argument
numbers of log entries 22 and 23; that the first order needs no usable level is log entry 35. -/
def Obligations.RampsOrderTheirSteps : Prop :=
  (∀ (s : State) (q : Sluice) (r : Ramp) (x m : Nat), s.agenda = [] → s.book.deferred = ⟨false, false⟩ →
    (s.sluice q).ramp = some r → r.waiting = .interval → r.lastOrder = some x → (s.sluice q).state = .held →
    (s.sluice q).step = some m → m < r.next → r.next ≤ r.endStep → s.sidesUsable q = true → r.next ≤ s.headLimit q →
    s.judge (.sluice q) (.move r.next) = none →
    ∃ t, exec (.rampIntervalExpiry q) s = .next t
      ∧ t = { s with now := t.now, drive := t.drive, levels := t.levels, signals := t.signals }
      ∧ t.now = max s.now (x + seconds s.settings.stepInterval) ∧ SameLevels s t ∧ SameOthers s t (.sluice q) ∧ SameLine s t
      ∧ t.sluice q =
        { s.sluice q with
          state := .moving
          target := some (.step r.next)
          superseded := none
          timer := some (t.now + seconds s.settings.sluiceLimit)
          ramp := some { r with waiting := .nothing, first := false, lastOrder := some t.now } }
      ∧ t.drive.sent = s.drive.sent ++ [⟨.sluice q, .move r.next, false⟩])
    ∧ (∀ (s : State) (k : Chamber) (e i : Side) (r : Ramp) (m : Nat), s.Calm → (∀ x, (s.chamber x).pendingOrder = none) →
      s.drive.polls.head? = some (.gate k e) → s.chamberPresent k = true → (s.gate k e).state = .closing →
      (s.gate k e).outstanding = some .cls → (s.chamber k).state ≠ closingState e →
      let q : Sluice := .chamber k i
      (∀ y z, y ≠ q → (s.sluice y).ramp = some z → ∀ c, z.waiting ≠ .retry c) → (s.sluice q).ramp = some r →
      r.waiting = .retry .i2 → r.requester = .sequencer k →
      (∀ x, r.lastOrder = some x → x + seconds s.settings.stepInterval ≤ s.now) →
      (s.sluice q).state = .shut ∨ (s.sluice q).state = .held → (s.sluice q).step = some m → m < r.next →
      r.next ≤ r.endStep → s.sidesUsable q = true →
      r.next ≤ s.headLimit q → (s.putGate k e { state := .closed }).judge (.sluice q) (.move r.next) = none →
      ∃ t, exec (.gateReport k e .closedReached) s = .next t
        ∧ t = { s with
            drive := t.drive, levels := t.levels, signals := t.signals, journal := t.journal, stations := t.stations }
        ∧ SameLevels s t ∧ t.drive.queries = s.drive.queries ∧ t.drive.polls = s.drive.polls.tail
        ∧ t.gate k e = { state := .closed } ∧ t.journal = (s.write (.move (.gate k e) .reachedClosed s.time)).journal
        ∧ (∀ a x, (a, x) ≠ (k, e) → t.gate a x = s.gate a x) ∧ (∀ y, y ≠ q → t.sluice y = s.sluice y)
        ∧ t.sluice q =
          { s.sluice q with
            state := .moving
            target := some (.step r.next)
            superseded := none
            timer := some (s.now + seconds s.settings.sluiceLimit)
            ramp := some { r with waiting := .nothing, first := false, lastOrder := some s.now } }
        ∧ t.drive.sent = s.drive.sent ++ [⟨.sluice q, .move r.next, false⟩])
    ∧ (∀ (s : State) (k : Chamber) (e : Side), s.Calm → (∀ x, (s.chamber x).pendingOrder = none) →
      (∀ q r c, (s.sluice q).ramp = some r → r.waiting = .retry c → c = .i4) → s.chamberPresent k = true →
      s.drive.polls.head? = some (.gate k e) → (s.gate k e).state = .closed → (s.gate k e).outstanding = none →
      ∃ t, exec (.gateReport k e .closedReached) s = .next t
        ∧ t = { s with drive.polls := s.drive.polls.tail, signals := t.signals })
    ∧ ∀ (s : State) (st : Station) (k : Chamber) (e : Side) (w : SluiceChoice) (n : Nat),
      e = .upper ∧ w = .upper ∨ e = .lower ∧ w = .lower → s.takes st → s.holder k = some st → s.chamberPresent k = true →
      (s.chamber k).mode = .directed → (s.chamber k).state ≠ .outOfService → (s.chamber k).state ≠ .halted → s.Calm →
      (8 < n → exec (.sluice st k w n) s = .next (s.answered st 0x3D .range [.half 3]))
      ∧ exec (.sluice st k .cross n) s = .next (s.answered st 0x3D .range [.half 2])
      ∧ ((s.sluice (.chamber k e)).state = .held → (s.sluice (.chamber k e)).step ≠ some 0 →
        ∃ t, exec (.sluice st k w 0) s = .next t
          ∧ t = { s.answered st 0x3D .ok [] with drive := t.drive, levels := t.levels, signals := t.signals }
          ∧ SameLevels s t ∧ SameOthers s t (.sluice (.chamber k e)) ∧ SameLine s t
          ∧ t.sluice (.chamber k e) =
            { state := .moving, step := (s.sluice (.chamber k e)).step, target := some (.step 0)
              timer := some (s.now + seconds s.settings.sluiceLimit) }
          ∧ t.drive.sent = s.drive.sent ++ [⟨.sluice (.chamber k e), .move 0, false⟩])
      ∧ ∀ m, (s.chamber k).state = (kindAt e).phase → (s.sluice (.chamber k e)).state = .held →
        (s.sluice (.chamber k e)).step = some m → m < n → n ≤ 8 → m < s.headLimit (.chamber k e) →
        s.judge (.sluice (.chamber k e)) (.move (m + 1)) = none →
        ∃ t, exec (.sluice st k w n) s = .next t
          ∧ t = { s.answered st 0x3D (if s.headLimit (.chamber k e) < n then .limited else .ok) [] with
              drive := t.drive, levels := t.levels, signals := t.signals }
          ∧ SameLevels s t ∧ SameOthers s t (.sluice (.chamber k e)) ∧ SameLine s t
          ∧ t.sluice (.chamber k e) =
            { state := .moving, step := some m, target := some (.step (m + 1))
              timer := some (s.now + seconds s.settings.sluiceLimit)
              ramp := some ⟨.station st, min n (s.headLimit (.chamber k e)), m + 1, some s.now, false, .nothing⟩ }
          ∧ t.drive.sent = s.drive.sent ++ [⟨.sluice (.chamber k e), .move (m + 1), false⟩]

/-- R65 to R72: a directed FILL or EMPTY, or the one that the AUTOMATIC cycle starts in a shut rest state whose batch is to go the
other way (R41, here at SET MODE), offered to a free arbiter posts a wish with CROSS_WAIT to run, or, where the other chamber waits
with the opposite one, is paired with it by the gain test of R67: the cross phase is engaged, with its record and the first step of
its ramp, or, on a pair already EQUALISED, ends at once (R68); or both chambers proceed alone. The phase ends when its pair becomes
EQUALISED (R70), by CROSS_LIMIT, with the soft fault CROSS_SLOW, or by a halt of one of its chambers, which takes its record at once;
the cross sluice's report of step 0 delivers the record, each chamber still in its cross state entering the phase proper, and leaves
the arbiter IDLE. On a cross sluice that is SHUT when the halt comes all that follows at once (R70, R18). That the first order of a
chamber sluice's ramp needs no usable level of its pound is log entry 35 (the model's reading of R31 and R33). -/
def Obligations.CrossPhasesBeginAndEnd : Prop :=
  (∀ (s : State) (st : Station) (k : Chamber) (kind : WaterKind) (c : Instr) (n : Nat) (own : Sequencer),
    kind = .fill ∧ c = .fill st k true ∧ n = 0x3B ∧ own = s.chamber k
      ∨ kind = .empty ∧ c = .empty st k true ∧ n = 0x3C ∧ own = s.chamber k
      ∨ c = .setMode st k .automatic ∧ n = 0x32 ∧ own = { s.chamber k with mode := .automatic }
        ∧ (∃ b, s.batch k = some b
          ∧ (b.state = .bound ∧ b.direction.entryEnd = kind.side ∨ b.state = .secured ∧ b.direction.exitEnd = kind.side)) →
    s.Calm → s.takes st → s.holder k = some st → s.chamberPresent k = true → (s.chamber k).mode = .directed →
    (s.chamber k).state = kind.other.ends → s.crossPresent = true → (s.chamber k.other).state ≠ .outOfService →
    (s.chamber k.other).state ≠ .halted → s.arbiter.owner = .idle → (s.sluice .cross).state = .shut →
    (s.body k.body).handedState.usable = true → (s.sluice (.chamber k kind.side)).ramp = none →
    let water := some ⟨kind, s.batchNumber k, s.level k.body, false, none⟩
    ((∀ w, s.wish k.other = some w → w.kind = kind) → s.settings.crossWait ≠ 0 →
      ∃ t, exec c s = .next t
        ∧ t = { s.answered st n .ok [] with
            chambers := t.chambers, signals := t.signals
            arbiter.wishes := s.arbiter.wishes.set k (some ⟨kind, s.now + seconds s.settings.crossWait⟩) }
        ∧ t.chamber k = { own with state := kind.wait, pendingOrder := none, water := water }
        ∧ t.chamber k.other = s.chamber k.other)
    ∧ ∀ w h h', s.wish k.other = some w → w.kind = kind.other → (s.body k.body).handedLevel = some h →
      (s.body k.other.body).handedLevel = some h' → (s.body k.other.body).handedState.usable = true →
      let area := fun c => (s.settings.chamber.get c).wetArea
      let equal := (area k * h + area k.other * h' + (area k + area k.other) / 2) / (area k + area k.other)
      let fillingLevel := match kind with | .fill => h | .empty => h'
      (fillingLevel + s.settings.crossMinGain ≤ equal → s.pair .cross ≠ .equalised → (s.sluice .cross).step = some 0 →
        0 < s.headLimit .cross → (∀ k e, (s.gate k e).state = .closed) → (∀ k e, (s.sluice (.chamber k e)).state = .shut) →
        ∃ t r, exec c s = .next t
          ∧ t = { s.answered st n .ok [] with
              drive := t.drive, levels := t.levels, chambers := t.chambers, signals := t.signals
              arbiter := ⟨.engaged, ⟨none, none⟩, some (s.now + seconds s.settings.crossLimit), some r⟩ }
          ∧ r.filling = (match kind with | .fill => k | .empty => k.other) ∧ r.start.get k = some h
          ∧ r.start.get k.other = some h' ∧ r.stop = ⟨none, none⟩ ∧ r.cause = none ∧ r.delivered = ⟨false, false⟩
          ∧ t.chamber k = { own with state := kind.cross, pendingOrder := none, water := water }
          ∧ t.chamber k.other = { s.chamber k.other with state := kind.other.cross, pendingOrder := none }
          ∧ SameLevels s t ∧ SameOthers s t (.sluice .cross) ∧ SameLine s t
          ∧ t.sluice .cross =
            { state := .moving, step := some 0, target := some (.step 1)
              timer := some (s.now + seconds s.settings.sluiceLimit)
              ramp := some ⟨.arbiter, 8, 1, some s.now, false, .nothing⟩ }
          ∧ t.drive.sent = s.drive.sent ++ [⟨.sluice .cross, .move 1, false⟩])
      ∧ (fillingLevel + s.settings.crossMinGain ≤ equal → s.pair .cross = .equalised → (s.sluice .cross).step = some 0 →
        let own' := fun c => if c = k then own else s.chamber c
        let kindOf := fun c => if c = k then kind else kind.other
        let q := fun c => Sluice.chamber c (kindOf c).side
        (∀ c, s.pair (.across (kindOf c).side c) ≠ .equalised ∧ (s.sluice (q c)).state = .shut ∧ (s.sluice (q c)).step = some 0
          ∧ 0 < s.headLimit (q c) ∧ s.judge (.sluice (q c)) (.move 1) = none) →
        ∃ t, exec c s = .next t
          ∧ t = { s.answered st n .ok [] with
              drive := t.drive, levels := t.levels, chambers := t.chambers, signals := t.signals
              arbiter := ⟨.idle, ⟨none, none⟩, none, none⟩ }
          ∧ (∀ c, t.chamber c =
            { own' c with
              state := (kindOf c).phase, pendingOrder := none, phase := some ⟨s.now, seconds s.settings.fillLimit⟩
              slowRaised := false
              water := (if c = k then water else (s.chamber c).water).map (fun w =>
                { w with start := if c = k then some h else some h', crossed := true, crossEnd := s.level c.body }) })
          ∧ SameLevels s t ∧ SameLine s t ∧ (∀ c e, t.gate c e = s.gate c e)
          ∧ (∀ x, x ≠ q .c1 → x ≠ q .c2 → x ≠ .cross → t.sluice x = s.sluice x)
          ∧ t.sluice .cross = { s.sluice .cross with ramp := none }
          ∧ (∀ c, t.sluice (q c) =
            { state := .moving, step := some 0, target := some (.step 1)
              timer := some (s.now + seconds s.settings.sluiceLimit)
              ramp := some ⟨.sequencer c, 8, 1, some s.now, false, .nothing⟩ })
          ∧ t.drive.sent.length = s.drive.sent.length + 2
          ∧ ∀ c, ⟨.sluice (q c), .move 1, false⟩ ∈ t.drive.sent.drop s.drive.sent.length)
      ∧ (equal < fillingLevel + s.settings.crossMinGain → s.pair (.across kind.side k) ≠ .equalised →
        s.pair (.across kind.other.side k.other) ≠ .equalised → (s.sluice (.chamber k kind.side)).state = .shut →
        (s.sluice (.chamber k kind.side)).step = some 0 → 0 < s.headLimit (.chamber k kind.side) →
        s.judge (.sluice (.chamber k kind.side)) (.move 1) = none →
        let phase := some ⟨s.now, seconds s.settings.fillLimit⟩
        ∃ t, exec c s = .next t
          ∧ t = { s.answered st n .ok [] with
              drive := t.drive, levels := t.levels, chambers := t.chambers, signals := t.signals
              arbiter.wishes := s.arbiter.wishes.set k.other none }
          ∧ t.chamber k =
            { own with
              state := kind.phase, pendingOrder := none, water := water, phase := phase, slowRaised := false }
          ∧ t.chamber k.other =
            { s.chamber k.other with
              state := kind.other.phase, pendingOrder := none, phase := phase, slowRaised := false }
          ∧ (t.sluice (.chamber k kind.side)).target = some (.step 1)
          ∧ ⟨.sluice (.chamber k kind.side), .move 1, false⟩ ∈ t.drive.sent.drop s.drive.sent.length))
    ∧ (∀ (s : State) (r : CrossRec) (m : Nat), s.Calm → s.arbiter.owner = .engaged → s.arbiter.record = some r →
      (s.sluice .cross).state = .held ∧ (s.sluice .cross).step = some (m + 1)
        ∨ (s.sluice .cross).state = .moving ∧ (s.sluice .cross).target = some (.step (m + 1)) →
      let ended := fun cause => { r with stop := ⟨s.level .c1, s.level .c2⟩, cause := some cause }
      let shuts := fun u t : State => t.sluice .cross =
          { state := .moving, step := (s.sluice .cross).step, target := some (.step 0)
            superseded := if (s.sluice .cross).state = .moving then some (m + 1) else none
            timer := some (t.now + seconds s.settings.sluiceLimit) }
        ∧ SameLevels u t ∧ t.drive.sent = s.drive.sent ++ [⟨.sluice .cross, .move 0, false⟩]
      (∀ x, s.crossPresent = true → s.pair .cross = .settling x →
        ∃ t, exec (.settleExpiry .cross) s = .next t ∧ SameOthers s t (.sluice .cross) ∧ SameLine s t
          ∧ t = { s with
              now := max s.now (x + seconds s.settings.eqSettle), drive := t.drive, levels := t.levels, signals := t.signals
              arbiter := t.arbiter }
          ∧ t.arbiter = { s.arbiter with owner := .ending, timer := none, record := some (ended .equalised) }
          ∧ shuts (s.setPair .cross .equalised) t)
      ∧ (∀ x, s.arbiter.timer = some x →
        ∃ t, exec .crossSlow s = .next t ∧ SameRecords s t ∧ SameOthers s t (.sluice .cross) ∧ SameLine s t
          ∧ t = { s with
              now := max s.now x, drive := t.drive, levels := t.levels, signals := t.signals, journal := t.journal
              stations := t.stations, capture := t.capture, arbiter := t.arbiter }
          ∧ t.arbiter = { s.arbiter with owner := .ending, timer := none, record := some (ended .limit) }
          ∧ shuts s t ∧ t.journal = (s.write (.fault .crossSlow (.sluice .cross) s.time)).journal)
      ∧ ∀ st k, s.takes st → s.chamberPresent k = true → s.arbiter.wishes = ⟨none, none⟩ → r.delivered.get k = false →
        (s.chamber k).state = .fillCross ∨ (s.chamber k).state = .emptyCross →
        (∀ e, (s.sluice (.chamber k e)).state = .shut ∧ (s.sluice (.chamber k e)).step = some 0
          ∧ (s.sluice (.chamber k e)).ramp = none) →
        (∀ e, (s.gate k e).state ≠ .opening ∧ (s.gate k e).state ≠ .closing) →
        ∃ t, exec (.halt st k) s = .next t
          ∧ t = { s.answered st 0x34 .ok [] with
              drive := t.drive, levels := t.levels, chambers := t.chambers, arbiter := t.arbiter, signals := t.signals }
          ∧ t.arbiter =
            { s.arbiter with
              owner := .ending, timer := none
              record := some { ended (.halt k) with delivered := r.delivered.set k true } }
          ∧ shuts s t ∧ SameOthers s t (.sluice .cross) ∧ t.chamber k.other = s.chamber k.other
          ∧ t.chamber k =
            { s.chamber k with
              state := .halted, interrupted := some (s.chamber k).state, haltCause := some .request, pendingOrder := none
              phase := none
              water := (s.chamber k).water.map (fun w =>
                { w with start := r.start.get k, crossed := true, crossEnd := s.level k.body }) })
    ∧ (∀ (s : State) (r : CrossRec) (st : Station) (k : Chamber), s.Calm → s.takes st → s.chamberPresent k = true →
      s.arbiter.owner = .engaged → s.arbiter.record = some r → s.arbiter.wishes = ⟨none, none⟩ → r.delivered = ⟨false, false⟩ →
      (s.sluice .cross).state = .shut → (s.sluice .cross).step = some 0 →
      let kind := fun c => if c = r.filling then WaterKind.fill else .empty
      let q := Sluice.chamber k.other (kind k.other).side
      let taken := fun c => (s.chamber c).water.map (fun w =>
        { w with start := r.start.get c, crossed := true, crossEnd := s.level c.body })
      (∀ c, (s.chamber c).state = (kind c).cross) →
      (∀ e, (s.sluice (.chamber k e)).state = .shut ∧ (s.sluice (.chamber k e)).step = some 0
        ∧ (s.sluice (.chamber k e)).ramp = none) →
      (∀ e, (s.gate k e).state ≠ .opening ∧ (s.gate k e).state ≠ .closing) →
      s.pair (.across (kind k.other).side k.other) ≠ .equalised → (s.sluice q).state = .shut → (s.sluice q).step = some 0 →
      0 < s.headLimit q → s.judge (.sluice q) (.move 1) = none →
      ∃ t, exec (.halt st k) s = .next t
        ∧ t = { s.answered st 0x34 .ok [] with
            drive := t.drive, levels := t.levels, chambers := t.chambers, signals := t.signals
            arbiter := ⟨.idle, ⟨none, none⟩, none, none⟩ }
        ∧ SameLevels s t ∧ SameGuards s t ∧ SameLine s t ∧ (∀ c e, t.gate c e = s.gate c e)
        ∧ (∀ x, x ≠ q → x ≠ .cross → t.sluice x = s.sluice x) ∧ t.sluice .cross = { s.sluice .cross with ramp := none }
        ∧ t.chamber k =
          { s.chamber k with
            state := .halted, interrupted := some (kind k).cross, haltCause := some .request, pendingOrder := none
            phase := none, water := taken k }
        ∧ t.chamber k.other =
          { s.chamber k.other with
            state := (kind k.other).phase, pendingOrder := none, phase := some ⟨s.now, seconds s.settings.fillLimit⟩
            slowRaised := false, water := taken k.other }
        ∧ t.sluice q =
          { state := .moving, step := some 0, target := some (.step 1)
            timer := some (s.now + seconds s.settings.sluiceLimit)
            ramp := some ⟨.sequencer k.other, 8, 1, some s.now, false, .nothing⟩ }
        ∧ t.drive.sent = s.drive.sent ++ [⟨.sluice q, .move 1, false⟩])
    ∧ ∀ (s : State) (r : CrossRec), s.Calm → s.NothingKept → s.crossPresent = true → s.arbiter.owner = .ending →
      s.arbiter.record = some r → s.drive.polls.head? = some (.sluice .cross) → (s.sluice .cross).state = .moving →
      (s.sluice .cross).target = some (.step 0) ∨ (s.sluice .cross).target = some .stop → (s.sluice .cross).ramp = none →
      let kind := fun k : Chamber => if k = r.filling then WaterKind.fill else .empty
      (∀ k, s.pair (.across (kind k).side k) ≠ .equalised) →
      ∃ t, exec (.sluiceReport .cross 0) s = .next t ∧ SameRecords s t ∧ SameLevels s t ∧ t.now = s.now
        ∧ t = { s with
            drive := t.drive, levels := t.levels, chambers := t.chambers, arbiter := t.arbiter, signals := t.signals
            journal := t.journal, stations := t.stations }
        ∧ t.arbiter = { s.arbiter with owner := .idle, record := none } ∧ t.sluice .cross = { state := .shut, step := some 0 }
        ∧ ∀ k,
          let taken := { s.chamber k with
            water := (s.chamber k).water.map (fun w =>
              { w with start := r.start.get k, crossed := true, crossEnd := r.stop.get k }) }
          t.chamber k =
            if r.delivered.get k = true then s.chamber k
            else if (s.chamber k).state = (kind k).cross then
              { taken with
                state := (kind k).phase, pendingOrder := none, phase := some ⟨s.now, seconds s.settings.fillLimit⟩
                slowRaised := false }
            else taken

/-! ## The passage book -/

/-- R94 to R96, R98: an accepted ENTER ORDER makes the order with a number no other order holds, puts it in its place in its
direction's list, and starts the formation timer of an empty book; a vessel that fits no chamber is refused and counted. The layout
of the order's state in the reply is log entry 72. -/
def Obligations.EnterOrderJoinsTheBook : Prop :=
  ∀ (s : State) (st : Station) (i : Nat) (d : Direction) (laden : Bool) (c : OrderClass), s.takes st → i < 128 →
    s.book.orders.length < 32 → (s.vessel i).state ≠ .free → (s.vessel i).order = none →
    (s.fits (s.vessel i) = true → s.Calm → (∀ k, s.available k = false) →
      ∃ o t, exec (.enterOrder st i d laden c) s = .next t
        ∧ t = { s.answered st 0x20 .ok (.half o.number :: o.state.fields) with
            book := t.book, vessels := t.vessels, journal := t.journal, signals := t.signals, stations := t.stations }
        ∧ (∀ x, (t.station x).core = ((s.answered st 0x20 .ok (.half o.number :: o.state.fields)).station x).core)
        ∧ o.slot = i ∧ o.direction = d ∧ o.laden = laden ∧ o.cls = c ∧ o.station = st ∧ o.entered = s.now ∧ o.time = s.time
        ∧ o.sequence = s.book.entrySequence + 1 ∧ o.passOver = 0
        ∧ o.state = (if (s.vessel i).state = .active then .waiting else .blocked .held)
        ∧ (∀ x ∈ s.book.orders, x.number ≠ o.number)
        ∧ o ∈ t.book.lists.get d ∧ (t.book.lists.get d).filter (fun x => decide (x.number ≠ o.number)) = s.book.lists.get d
        ∧ ((s.book.lists.get d).Pairwise (fun x y => x.before y = true) → (∀ x ∈ s.book.lists.get d, x.sequence < o.sequence) →
          (t.book.lists.get d).Pairwise (fun x y => x.before y = true))
        ∧ t.book.lists.get d.other = s.book.lists.get d.other ∧ t.book.entrySequence = o.sequence
        ∧ t.book.batches = s.book.batches ∧ t.book.nextBatch = s.book.nextBatch ∧ t.book.deferred = s.book.deferred
        ∧ t.book.timer = (if s.book.orders = [] then some (s.now + seconds s.settings.primaryInterval) else s.book.timer)
        ∧ t.vessel i = { s.vessel i with order := some o.number } ∧ (∀ j, j ≠ i → t.vessel j = s.vessel j)
        ∧ t.journal = (s.write (.order (some o.number) i .entered st s.time)).journal)
    ∧ (s.fits (s.vessel i) = false →
      ∃ t, exec (.enterOrder st i d laden c) s = .next t
        ∧ t = { s.answered st 0x20 .oversize [] with
            journal := t.journal, stations := t.stations
            tallies.oversize := countClass s.tallies.oversize (lengthClass (s.vessel i).length) }
        ∧ (∀ x, (t.station x).core = ((s.answered st 0x20 .oversize []).station x).core)
        ∧ t.journal = (s.write (.order none i .refusedOversize st s.time)).journal)

/-- R97, R92, R98, R101, R155: a cancelled order leaves the book with its ORDER frame, its vessel freed for another, the formation
timer stopped when the book is then empty. A member of a BOUND or ENTERING batch leaves it too: its row narrows, or goes, 16 words
of the reserve go back before the frame (log entry 37), and the last one's going abandons the batch (here in a DIRECTED chamber, of
a batch without a fill record). That a row narrows by the SIDE_CLEAR of the binding is the model's choice (log entry 31). One of a
batch past ENTERING is refused IN_FLIGHT, and a number that is no order's NO_ORDER. -/
def Obligations.CancelOrderLeavesTheBook : Prop :=
  (∀ (s : State) (st : Station) (n : Nat), s.takes st → s.book.find n = none →
    exec (.cancelOrder st n) s = .next (s.answered st 0x21 .noOrder []))
  ∧ ∀ (s : State) (st : Station) (o : Order), s.takes st → s.book.find o.number = some o → o.slot < 128 →
    let gone := fun t : State => (∀ x, (t.station x).core = ((s.answered st 0x21 .ok []).station x).core)
      ∧ (∀ d, t.book.lists.get d = (s.book.lists.get d).filter (fun x => decide (x.number ≠ o.number)))
      ∧ t.book.timer = (if t.book.orders = [] then none else s.book.timer)
      ∧ t.book.nextOrder = s.book.nextOrder ∧ t.book.nextBatch = s.book.nextBatch
      ∧ t.book.entrySequence = s.book.entrySequence ∧ t.book.deferred = s.book.deferred
      ∧ t.vessel o.slot = { s.vessel o.slot with order := none } ∧ (∀ j, j ≠ o.slot → t.vessel j = s.vessel j)
    let frame := fun u : State => u.write (.order (some o.number) o.slot .cancelled st s.time)
    (o.state.isBound = false → s.Calm →
      ∃ t, exec (.cancelOrder st o.number) s = .next t ∧ gone t ∧ t.book.batches = s.book.batches
        ∧ t = { s.answered st 0x21 .ok [] with
            book := t.book, vessels := t.vessels, journal := t.journal, signals := t.signals, stations := t.stations }
        ∧ t.journal = (frame s).journal)
    ∧ ∀ k b, o.state = .bound b.number → s.batch k = some b → (∀ c, s.batch k.other = some c → c.number ≠ b.number) →
      (b.state = .secured ∨ b.state = .leaving →
        exec (.cancelOrder st o.number) s = .next (s.answered st 0x21 .inFlight []))
      ∧ ∀ m, b.state = .bound ∨ b.state = .entering → s.Calm → m ∈ b.members → m.order = o.number →
        (∀ x ∈ b.members, x.order = o.number → x = m) →
        let rest := b.members.filter (fun x => decide (x.order ≠ o.number))
        let beams := (rest.filter (fun x => decide (x.row = m.row))).map (·.beam)
        (rest ≠ [] →
          let left : Batch :=
            { b with
              reserve := b.reserve - 16
              members := if beams = [] then rest.map (fun x => if m.row < x.row then { x with row := x.row - 1 } else x) else rest
              rows :=
                if beams = [] then b.rows.eraseIdx (m.row - 1)
                else b.rows.modify (m.row - 1) (fun r => { r with width := beams.sum + b.sideClear * (beams.length - 1) }) }
          ∃ t, exec (.cancelOrder st o.number) s = .next t ∧ gone t ∧ t.book.batches = s.book.batches.set k (some left)
            ∧ t = { s.answered st 0x21 .ok [] with
                book := t.book, vessels := t.vessels, journal := t.journal, signals := t.signals, stations := t.stations }
            ∧ t.journal = (frame (s.setBatch k (some left))).journal)
        ∧ (rest = [] → b.fill = none → (s.chamber k).mode = .directed →
          ∃ t, exec (.cancelOrder st o.number) s = .next t ∧ gone t ∧ t.book.batches = s.book.batches.set k none
            ∧ t = { s.answered st 0x21 .ok [] with
                book := t.book, vessels := t.vessels, chambers := t.chambers, journal := t.journal, signals := t.signals
                stations := t.stations }
            ∧ t.journal = (frame (s.setBatch k (some { b with reserve := b.reserve - 16 }))).journal
            ∧ t.chamber k =
              { s.chamber k with
                entry := none, entryOverdue := false, leave := none, clearOut := false, leaveOverdue := false
                pendingOrder := if (s.chamber k).state.rest.isSome then none else (s.chamber k).pendingOrder }
            ∧ t.chamber k.other = s.chamber k.other)

/-- R100 to R102: whatever list a scan is given, it takes at most 8 vessels, and its rows stand within the chamber: each as wide
as its usable width lets it, their lengths with the end clearances within its usable length, each vessel within its row. -/
def Obligations.EveryScanFitsItsChamber : Prop :=
  ∀ (s : State) (k : Chamber) (depth : Int) (l : List Order),
    let c := s.scan k depth l {}
    c.members.length ≤ 8
      ∧ (∀ r ∈ c.rows, r.width ≤ (s.settings.chamber.get k).usableWidth)
      ∧ (c.rows ≠ [] → (c.rows.map (·.length)).sum + s.settings.endClear * (c.rows.length - 1)
        ≤ (s.settings.chamber.get k).usableLength)
      ∧ ∀ m ∈ c.members, (∃ r, 0 < m.row ∧ c.rows[m.row - 1]? = some r ∧ m.length ≤ r.length ∧ m.beam ≤ r.width)
        ∧ (∃ o ∈ l, o.number = m.order ∧ o.slot = m.slot ∧ o.state = .waiting)
        ∧ ((m.draught + s.settings.keelClear : Nat) : Int) ≤ depth

/-- R104, R105, R114: BIND in a shut rest state binds what the scan took, when the journal grants its reserve: the batch record
with its copy of the ACTIVE table and its reserve, the members' orders BOUND, and BATCH_BOUND raised at every station. R104: a chamber
whose binding is deferred, resting open, attempts again when READ JOURNAL or UNSUBSCRIBE frees words, and forms its batch once they
are enough; while they are not, the binding stays deferred (frames and reserves within the journal, an invariant:
StepKeepsJournalFits). -/
def Obligations.BindMakesTheBatch : Prop :=
  (∀ (s : State) (st : Station) (k : Chamber) (d : Direction) (e : Side) (depth : Int), s.takes st →
    s.holder k = some st → s.chamberPresent k = true → (s.chamber k).mode = .directed → (s.chamber k).state = shutState e →
    s.Calm → s.batch k = none → s.depth = some depth → s.anySubscriber = true →
    let c := s.scan k depth (s.book.lists.get d) {}
    let n := freeNumber (s.batchNumber k.other).toList 2 s.book.nextBatch
    c.members ≠ [] → 16 * c.members.length + 36 ≤ s.availableWords →
    ∃ t, exec (.bind st k d) s = .next t ∧ BatchFormed s t k d c .bound
      ∧ t = { s.answered st 0x39 .ok [.half n, .half c.members.length] with
          book := t.book, chambers := t.chambers, signals := t.signals, stations := t.stations }
      ∧ (∀ x, (t.station x).core = ((s.answered st 0x39 .ok [.half n, .half c.members.length]).station x).core)
      ∧ t.book.timer = s.book.timer
      ∧ t.chamber k = { s.chamber k with pendingOrder := none } ∧ t.chamber k.other = s.chamber k.other)
    ∧ ∀ (s : State) (st who : Station) (c : Instr) (k : Chamber) (e : Side) (depth : Int),
      c = .readJournal st ∨ c = .unsubscribe st who → s.takes st → s.agenda = [] → s.JournalFits →
      s.book.deferred = (⟨false, false⟩ : PerChamber Bool).set k true → s.available k = true →
      (s.chamber k).state = openState e → s.depth = some depth →
      ∀ t, exec c s = .next t → t.anySubscriber = true →
      let d : Direction := match e with | .lower => .up | .upper => .down
      let scan := s.scan k depth (s.book.lists.get d) {}
      scan.members ≠ [] → t.used < s.used →
      (16 * scan.members.length + 36 + t.used + s.reserved ≤ 4096 →
        BatchFormed s t k d scan .entering
          ∧ t.chamber k =
            { s.chamber k with
              entry := some (s.now + seconds s.settings.entryLimit), entryOverdue := false, pendingOrder := none })
      ∧ (4096 < 16 * scan.members.length + 36 + t.used + s.reserved →
        t.book = s.book ∧ ∀ x, .journalPressure ∈ (t.station x).notices)

/-- R108, R109, R47: CONFIRM IN without a set of orders makes every member PRESENT and the batch SECURED, fixes its night flag by
the clock and stops the entry timer; with a set, the members not in it leave the batch, each returned to its list with a RETURNED
frame and 16 words of the reserve given back, and those in it are secured; with none left the batch is abandoned. A set with an order
that is no member is refused NO_ORDER, and without an ENTERING batch the request is refused STATE. -/
def Obligations.ConfirmInSecuresTheBatch : Prop :=
  (∀ (s : State) (st : Station) (k : Chamber) (b : Batch), s.takes st → s.holder k = some st ∨ s.holder k = none →
    s.chamberPresent k = true → (s.chamber k).mode = .directed → (s.chamber k).state = openState b.direction.entryEnd →
    s.Calm → s.batch k = some b → b.state = .entering → b.members ≠ [] → b.fill = none →
    let night := some (match s.time with | some x => b.tariff.night (x.second / 60) | none => false)
    (∃ t, exec (.confirmIn st k none) s = .next t
      ∧ t = { s.answered st 0x37 .ok [] with
          book.batches := t.book.batches, chambers := t.chambers, signals := t.signals, stations := t.stations }
      ∧ (∀ x, (t.station x).core = ((s.answered st 0x37 .ok []).station x).core
        ∧ (s.time = none → .clockUnset ∈ (t.station x).notices))
      ∧ t.batch k = some
        { b with state := .secured, members := b.members.map (fun m => { m with present := true }), night := night }
      ∧ t.batch k.other = s.batch k.other
      ∧ t.chamber k = { s.chamber k with entry := none, entryOverdue := false, pendingOrder := none }
      ∧ t.chamber k.other = s.chamber k.other)
    ∧ ∀ l : List Nat,
      ((∃ n ∈ l, ∀ m ∈ b.members, m.order ≠ n) → exec (.confirmIn st k (some l)) s = .next (s.answered st 0x37 .noOrder []))
      ∧ ((∀ n ∈ l, ∃ m ∈ b.members, m.order = n) → s.available k.other = false → (b.members.map (·.order)).Nodup →
        (∀ m ∈ b.members, s.book.find m.order ≠ none ∧ ∀ o ∈ s.book.orders, o.number = m.order → o.slot = m.slot) →
        let stays := b.members.filter (fun m => decide (m.order ∈ l))
        let absent := b.members.filter (fun m => decide (m.order ∉ l))
        let back := fun o : Order =>
          { o with
            state := match (s.vessel o.slot).state with
              | .held _ => .blocked .held
              | _ => if s.fits (s.vessel o.slot) then .waiting else .blocked .oversize }
        ∃ t, exec (.confirmIn st k (some l)) s = .next t
          ∧ t = { s.answered st 0x37 .ok [] with
              book := t.book, chambers := t.chambers, journal := t.journal, signals := t.signals, stations := t.stations }
          ∧ (∀ x, (t.station x).core = ((s.answered st 0x37 .ok []).station x).core)
          ∧ (∀ d, t.book.lists.get d =
            (s.book.lists.get d).map (fun o => if o.number ∈ absent.map (·.order) then back o else o))
          ∧ t.book.nextOrder = s.book.nextOrder ∧ t.book.nextBatch = s.book.nextBatch
          ∧ t.book.entrySequence = s.book.entrySequence ∧ t.book.timer = s.book.timer
          ∧ t.batch k.other = s.batch k.other
          ∧ (s.anySubscriber = true → 6 * absent.length ≤ s.availableWords →
            t.journal.frames =
              s.journal.frames ++ absent.map (fun m => .order (some m.order) m.slot .returned st s.time))
          ∧ (stays ≠ [] → ∃ x, t.batch k = some x ∧ x.state = .secured ∧ x.night = night
            ∧ x.reserve = b.reserve - 16 * absent.length ∧ x.fill = none
            ∧ x.members.map (fun m => { m with row := 0 }) = stays.map (fun m => { m with row := 0, present := true })
            ∧ t.chamber k = { s.chamber k with entry := none, entryOverdue := false, pendingOrder := none })
          ∧ (stays = [] → t.batch k = none
            ∧ t.chamber k =
              { s.chamber k with
                entry := none, entryOverdue := false, leave := none, clearOut := false, leaveOverdue := false
                pendingOrder := none })
          ∧ t.chamber k.other = s.chamber k.other))
    ∧ ∀ (s : State) (st : Station) (k : Chamber) (l : Option (List Nat)), s.takes st →
      s.holder k = some st ∨ s.holder k = none → s.chamberPresent k = true →
      (∀ b, s.batch k = some b → b.state ≠ .entering) →
      exec (.confirmIn st k l) s = .next (s.answered st 0x37 .state [])

/-- R110, R92, R144, R146, R160: CONFIRM CLEAR of a batch of one: its ticket written, its dues posted to its vessel, an exempt
one's share to the site, its passage counted, its order gone, its tally counted, and the batch gone. -/
def Obligations.ConfirmClearSettlesTheMember : Prop :=
  ∀ (s : State) (st : Station) (k : Chamber) (b : Batch) (m : Member) (o : Order), s.takes st →
    s.holder k = some st ∨ s.holder k = none → s.chamberPresent k = true → (s.chamber k).mode = .directed → s.Calm →
    s.batch k = some b → b.state = .leaving → b.members = [m] → m.slot < 128 →
    s.book.find m.order = some o → o.slot = m.slot → o.state = .bound b.number → (s.vessel m.slot).order = some m.order →
    (s.vessel m.slot).state = .active →
    let v := s.vessel m.slot
    ∃ t, exec (.confirmClear st k) s = .next t
      ∧ t = { s.answered st 0x38 .ok [] with
          book := t.book, vessels := t.vessels, journal := t.journal, stations := t.stations, tallies := t.tallies
          chambers := t.chambers, signals := t.signals, site := t.site }
      ∧ (∀ x, (t.station x).core = ((s.answered st 0x38 .ok []).station x).core)
      ∧ t.journal.frames = s.journal.frames ++ [.ticket (s.ticket k b m)]
      ∧ t.vessel m.slot =
        { v with
          state := if v.ceiling ≠ 0 ∧ v.ceiling ≤ (t.vessel m.slot).total then .held .ceiling else .active
          total := min 4000000000 (v.total + b.dues m)
          saturated := v.saturated || decide (4000000000 < v.total + b.dues m)
          passages := min 65535 (v.passages + 1)
          lastPassage := match s.time with | some x => .at x | none => .unset
          order := none }
      ∧ (∀ i, i ≠ m.slot → t.vessel i = s.vessel i)
      ∧ (∀ d, t.book.lists.get d = (s.book.lists.get d).filter (fun x => decide (x.number ≠ m.order)))
      ∧ t.batch k = none ∧ t.batch k.other = s.batch k.other
      ∧ t.site = (if m.exempt then s.site.post (b.shareOf m) 0 0 else s.site)
      ∧ t.tallies = { s.tallies with completed := countTally s.tallies.completed b.direction m.cls }
      ∧ t.book.nextOrder = s.book.nextOrder ∧ t.book.nextBatch = s.book.nextBatch
      ∧ t.book.entrySequence = s.book.entrySequence ∧ t.book.deferred = s.book.deferred
      ∧ t.chamber k =
        { s.chamber k with
          entry := none
          entryOverdue := false
          leave := none
          clearOut := false
          leaveOverdue := false
          pendingOrder := if (s.chamber k).state.rest.isSome then none else (s.chamber k).pendingOrder }
      ∧ t.chamber k.other = s.chamber k.other

/-- R44, R135 to R140, R147: the end of a fill or an empty at the report of step 0. Its volumes are those of R135 and R136; a fill
with no batch draws its water charge, by the ACTIVE table, from the site account, with both volumes; a batch's fill, a BOUND one's
preparation fill and a SECURED one's transit fill (R106), is shared over its members, takes 12 words of the reserve for its WATER
frame, and posts the volumes alone; an empty posts nothing, its frame without a charge (log entry 54). R139: CONFIRM IN shares a
fill anew over the members left; ABANDON BATCH posts its charge to the site. -/
def Obligations.FillsAreChargedAndShared : Prop :=
  (∀ (s : State) (k : Chamber) (kind : WaterKind) (w : WaterRec), s.Calm → s.NothingKept → s.chamberPresent k = true →
    (s.chamber k).state = kind.phase → (s.chamber k).phase = none → (s.chamber k).mode = .directed →
    (s.chamber k).water = some w → w.kind = kind →
    let q : Sluice := .chamber k kind.side
    s.drive.polls.head? = some (.sluice q) → (s.sluice q).state = .moving → (s.sluice q).target = some (.step 0) →
    (s.sluice q).ramp = none →
    let area := (s.settings.chamber.get k).wetArea
    let cross := if w.crossed then w.crossEnd else w.start
    let stop := (s.body k.body).handedLevel
    let volumes := match w.start, cross, stop with
      | some a, some c, some z => match kind with
        | .fill => ((area * (c - a) + 50) / 100, (area * (z - c) + 50) / 100)
        | .empty => ((area * (a - c) + 50) / 100, (area * (c - z) + 50) / 100)
      | _, _, _ => (0, 0)
    let charge := fun rate => (volumes.2 * rate + 5) / 10
    let crossEnd := if w.crossed then w.crossEnd else none
    let frame := fun (n : Option Nat) (rate site : Nat) => Frame.water
      { batch := n, chamber := k, kind := kind, start := w.start, crossEnd := crossEnd, stop := stop
        crossVolume := volumes.1, pound := volumes.2
        charge := match kind with | .fill => some (charge rate) | .empty => none
        sitePart := match kind with | .fill => some site | .empty => none
        time := s.time }
    let moved := s.write (.move (.sluice q) (.reachedStep 0) s.time)
    let post := fun total : Nat => match kind with
      | .fill => { total := min 4000000000 (s.site.total + total), drawn := min 4294967295 (s.site.drawn + volumes.2)
                   saved := min 4294967295 (s.site.saved + volumes.1) }
      | .empty => s.site
    (∀ n, (∀ b, s.batch k = some b → w.batch ≠ some b.number ∨ (match kind with | .fill => b.fill | .empty => b.empty) ≠ none) →
      n = s.active.waterRate →
      ∃ t, exec (.sluiceReport q 0) s = .next t ∧ t.site = post (charge n) ∧ t.batch k = s.batch k
        ∧ t.journal = (moved.write (frame none n (charge n))).journal
        ∧ t.chamber k = { s.chamber k with state := kind.ends, pendingOrder := none, water := none })
    ∧ ∀ b, s.batch k = some b → w.batch = some b.number → (match kind with | .fill => b.fill | .empty => b.empty) = none →
      let rate := b.tariff.waterRate
      let record : ClosedRec :=
        { start := w.start, crossEnd := crossEnd, stop := stop, crossVolume := volumes.1, pound := volumes.2
          charge := match kind with | .fill => charge rate | .empty => 0
          sitePart := 0, sharers := match kind with | .fill => b.members.map (·.order) | .empty => [] }
      ∃ t x, exec (.sluiceReport q 0) s = .next t ∧ t.site = post 0 ∧ t.batch k = some x
        ∧ t.journal.frames = moved.journal.frames ++ [frame (some b.number) rate 0]
        ∧ match kind with
          | .fill => x = { b with members := x.members, fill := some record, reserve := b.reserve - 12 }
            ∧ x.members.map (fun m => { m with share := none }) = b.members.map (fun m => { m with share := none })
            ∧ x.members.map (·.share) = (apportion (charge rate) (b.members.map (fun m => m.length * m.beam))).map some
          | .empty => x = { b with empty := some record, reserve := b.reserve - 12 })
    ∧ ∀ (s : State) (st : Station) (k : Chamber) (b : Batch) (r : ClosedRec), s.Calm → s.takes st → s.holder k = some st →
      s.chamberPresent k = true → (s.chamber k).mode = .directed → s.batch k = some b → b.fill = some r → b.members ≠ [] →
      let frame := fun site => Frame.water
        { batch := some b.number, chamber := k, kind := .fill, start := r.start, crossEnd := r.crossEnd, stop := r.stop
          crossVolume := r.crossVolume, pound := r.pound, charge := some r.charge, sitePart := some site, time := s.time }
      let posted := fun n : Nat =>
        { total := min 4000000000 (s.site.total + n), drawn := min 4294967295 s.site.drawn
          saved := min 4294967295 s.site.saved : SiteAccount }
      (b.state = .entering → (s.chamber k).state = openState b.direction.entryEnd → r.sitePart = 0 →
        ∃ t x, exec (.confirmIn st k none) s = .next t ∧ t.batch k = some x ∧ x.state = .secured
          ∧ (r.sharers = b.members.map (·.order) → t.site = s.site ∧ t.journal = s.journal ∧ x.fill = some r ∧ x.reserve = b.reserve
            ∧ x.members = b.members.map (fun m => { m with present := true }))
          ∧ (r.sharers ≠ b.members.map (·.order) →
            t.site = posted 0 ∧ t.journal.frames = s.journal.frames ++ [frame 0] ∧ x.reserve = b.reserve - 12
            ∧ x.fill = some { r with sharers := b.members.map (·.order) }
            ∧ x.members.map (·.share) = (apportion r.charge (b.members.map (fun m => m.length * m.beam))).map some))
      ∧ ((s.chamber k).state = .halted →
        ∃ t, exec (.abandonBatch st k) s = .next t ∧ t.batch k = none
          ∧ t.journal.frames.getLast? = some (frame r.charge)
          ∧ t.site = posted (r.charge - r.sitePart))

/-- R111, R112: ABANDON BATCH in HALTED, of a batch with no fill record: every member's order leaves the book and none other,
each counted abandoned, and the batch, its reserve and its chamber's timers are gone; elsewhere it is refused STATE. -/
def Obligations.AbandonBatchCancelsItsOrders : Prop :=
  (∀ (s : State) (st : Station) (k : Chamber) (b : Batch), s.takes st → s.holder k = some st → s.chamberPresent k = true →
    s.Calm → (s.chamber k).state = .halted → s.batch k = some b → b.fill = none →
    ∃ t, exec (.abandonBatch st k) s = .next t
      ∧ t = { s.answered st 0x36 .ok [] with
          book := t.book, vessels := t.vessels, journal := t.journal, stations := t.stations, tallies := t.tallies
          chambers := t.chambers, signals := t.signals }
      ∧ (∀ x, (t.station x).core = ((s.answered st 0x36 .ok []).station x).core)
      ∧ (∀ d, t.book.lists.get d = (s.book.lists.get d).filter (fun o => decide (∀ m ∈ b.members, m.order ≠ o.number)))
      ∧ (∀ i, (∀ o ∈ s.book.orders, o.slot = i → ∀ m ∈ b.members, m.order ≠ o.number) → t.vessel i = s.vessel i)
      ∧ t.tallies.abandoned = b.members.foldl (fun v m => countTally v b.direction m.cls) s.tallies.abandoned
      ∧ t.book.nextOrder = s.book.nextOrder ∧ t.book.nextBatch = s.book.nextBatch
      ∧ t.book.entrySequence = s.book.entrySequence ∧ t.book.deferred = s.book.deferred
      ∧ t.tallies.completed = s.tallies.completed ∧ t.tallies.oversize = s.tallies.oversize
      ∧ t.batch k = none ∧ t.batch k.other = s.batch k.other
      ∧ t.chamber k =
        { s.chamber k with entry := none, entryOverdue := false, leave := none, clearOut := false, leaveOverdue := false }
      ∧ t.chamber k.other = s.chamber k.other)
    ∧ ∀ (s : State) (st : Station) (k : Chamber), s.takes st → s.holder k = some st → s.chamberPresent k = true →
      s.batch k = none ∨ (s.chamber k).state ≠ .halted → exec (.abandonBatch st k) s = .next (s.answered st 0x36 .state [])

/-! ## The vessel register -/

/-- R78 to R80, R82, R84, R85: ADD VESSEL fills the lowest FREE slot, or is refused DUPLICATE or FULL; DELETE VESSEL empties a slot
without an order; SEEK and SEEK NEXT give the matching slots in rising order, with their number, and SEEK NEXT after a search that
found none begins at the first again. A slot matches that is ACTIVE, or HELD where the filter lets it, with the key's character in
each position marked CARE, and the operator key's code where that is; a key character marked CARE that no mark may hold is refused
RANGE. The argument numbers of RANGE rest on log entry 23, the codes of the characters on log entry 74. -/
def Obligations.RegisterAddsDeletesAndFinds : Prop :=
  ∀ (s : State) (st : Station), s.takes st →
    (∀ v : VesselArgs, markOk v.mark = true → v.operator ≤ 65535 → 50 ≤ v.length ∧ v.length ≤ 4000 → 20 ≤ v.beam ∧ v.beam ≤ 300 →
      30 ≤ v.draught ∧ v.draught ≤ 600 → v.deadweight ≤ 20000 → v.exempt ≤ 1 → v.ceiling ≤ 4000000000 →
      (∀ i, i < 128 → (∀ j, j < 128 → (s.vessel j).state ≠ .free → (s.vessel j).mark ≠ v.mark) → (s.vessel i).state = .free →
        (∀ j, j < i → (s.vessel j).state ≠ .free) →
        exec (.addVessel st v) s = .next
          ((s.setVessel i
            { state := .active, mark := v.mark, operator := v.operator, length := v.length, beam := v.beam
              draught := v.draught, deadweight := v.deadweight, exempt := decide (v.exempt = 1)
              ceiling := v.ceiling }).answered st 0x10 .ok [.half i]))
      ∧ (∀ i, i < 128 → (s.vessel i).state ≠ .free → (s.vessel i).mark = v.mark →
        (∀ j, j < i → (s.vessel j).state ≠ .free → (s.vessel j).mark ≠ v.mark) →
        exec (.addVessel st v) s = .next (s.answered st 0x10 .duplicate [.half i]))
      ∧ ((∀ j, j < 128 → (s.vessel j).state ≠ .free ∧ (s.vessel j).mark ≠ v.mark) →
        exec (.addVessel st v) s = .next (s.answered st 0x10 .full [])))
    ∧ (∀ i, 128 ≤ i → exec (.deleteVessel st i) s = .next (s.answered st 0x11 .range [.half 1]))
    ∧ (∀ i, i < 128 → (s.vessel i).state = .free → exec (.deleteVessel st i) s = .next (s.answered st 0x11 .noVessel []))
    ∧ (∀ i, i < 128 → (s.vessel i).state ≠ .free →
      ((s.vessel i).order = none → exec (.deleteVessel st i) s = .next ((s.setVessel i {}).answered st 0x11 .ok []))
      ∧ ∀ n, (s.vessel i).order = some n → exec (.deleteVessel st i) s = .next (s.answered st 0x11 .inUse [.half n]))
    ∧ (∀ q : SeekArgs,
      let held := fun x : VesselState => ∃ cause, x = .held cause
      let matching := fun i : Nat => i < 128 ∧ ((s.vessel i).state = .active ∨ q.heldToo = true ∧ held (s.vessel i).state)
        ∧ (∀ (n : Nat) (x y : Byte), q.care[n]? = some true → q.key[n]? = some x → (s.vessel i).mark[n]? = some y → x = y)
        ∧ (q.operatorCare = true → (s.vessel i).operator = q.operator)
      let bad := ∃ (n : Nat) (x : Byte), q.care[n]? = some true ∧ q.key[n]? = some x
        ∧ ¬(65 ≤ x.toNat ∧ x.toNat ≤ 90 ∨ 48 ≤ x.toNat ∧ x.toNat ≤ 57 ∨ x.toNat = 32)
      (bad → exec (.seek st q) s = .next (s.answered st 0x12 .range [.half 1]))
      ∧ ∃ l : List Nat, l.Pairwise (· < ·) ∧ (∀ i, i ∈ l ↔ matching i)
        ∧ (¬bad → exec (.seek st q) s = .next
          ((s.setStation st { s.station st with context := some ⟨q, l.head?⟩ }).answered st 0x12 .ok
            [halfOr l.head?, .half l.length]))
        ∧ ((s.station st).context = some ⟨q, none⟩ → exec (.seekNext st) s = .next
          ((s.setStation st { s.station st with context := some ⟨q, l.head?⟩ }).answered st 0x13 .ok
            [halfOr l.head?, .half l.length]))
        ∧ ∀ i, (s.station st).context = some ⟨q, some i⟩ →
          ∃ n : Option Nat, exec (.seekNext st) s = .next
            ((s.setStation st { s.station st with context := some ⟨q, n⟩ }).answered st 0x13 .ok [halfOr n, .half l.length])
          ∧ ∀ j, n = some j ↔ (i < j ∧ j ∈ l ∧ ∀ m ∈ l, i < m → j ≤ m))
    ∧ ((s.station st).context = none → exec (.seekNext st) s = .next (s.answered st 0x13 .state []))

/-- R87 to R90, R148: HOLD blocks the vessel's waiting order and RELEASE returns it, unless its ceiling keeps it held; SETTLE
takes an amount from its account, to 0 at least, and lifts a hold that its ceiling no longer asks for; what HOLD and RELEASE
answer for a FREE slot, for a slot out of range, and in the states they leave alone. The argument numbers of RANGE rest on log
entry 23, the byte of CEILING on log entry 24. -/
def Obligations.HoldsBlockAndReleasesReturn : Prop :=
  (∀ (s : State) (st : Station) (i : Nat), s.takes st → i < 128 → s.Calm →
    let v := s.vessel i
    let rejudged := fun x : OrderState =>
      match v.order.bind s.book.find with
      | some o => if o.state.isBound then s.book else (s.changeOrder o.number (fun y => { y with state := x })).book
      | none => s.book
    (v.state = .active →
      ∃ t, exec (.hold st i) s = .next t
        ∧ t = { s.answered st 0x14 .ok [] with
            vessels := t.vessels, book := t.book, signals := t.signals, stations := t.stations }
        ∧ (∀ x, (t.station x).core = ((s.answered st 0x14 .ok []).station x).core ∧ .vesselHeld ∈ (t.station x).notices)
        ∧ t.vessel i = { v with state := .held .station } ∧ (∀ j, j ≠ i → t.vessel j = s.vessel j)
        ∧ t.book = rejudged (.blocked .held))
    ∧ (v.state = .held .station → v.ceiling = 0 ∨ v.total < v.ceiling → (∀ k, s.available k = false) →
      ∃ t, exec (.release st i) s = .next t
        ∧ t = { s.answered st 0x15 .ok [] with vessels := t.vessels, book := t.book, signals := t.signals }
        ∧ t.vessel i = { v with state := .active } ∧ (∀ j, j ≠ i → t.vessel j = s.vessel j)
        ∧ t.book = rejudged (if s.fits v then .waiting else .blocked .oversize))
    ∧ (v.state = .held .station → v.ceiling ≠ 0 → v.ceiling ≤ v.total →
      exec (.release st i) s = .next ((s.setVessel i { v with state := .held .ceiling }).answered st 0x15 .ok [.byte 1]))
    ∧ (∀ a, st = .tc → a ≤ 4000000000 → v.state = .active ∨ v.state = .held .ceiling → v.order = none →
      v.ceiling = 0 ∨ v.total - a < v.ceiling →
      ∃ t, exec (.settle st i a) s = .next t
        ∧ t = { s.answered st 0x16 (if v.total < a then .limited else .ok) [.word (v.total - a), .byte 1] with
            vessels := t.vessels, signals := t.signals }
        ∧ t.vessel i =
          { v with
            state := .active
            total := v.total - a
            saturated := v.saturated && decide (4000000000 ≤ v.total - a) }
        ∧ ∀ j, j ≠ i → t.vessel j = s.vessel j)
    ∧ (∀ a, st ≠ .tc → exec (.settle st i a) s = .next (s.answered st 0x16 .notPermitted []))
    ∧ (v.state = .held .ceiling →
      exec (.hold st i) s = .next ((s.setVessel i { v with state := .held .station }).answered st 0x14 .ok [])
      ∧ exec (.release st i) s = .next (s.answered st 0x15 .state [.byte 1]))
    ∧ (v.state = .held .station → exec (.hold st i) s = .next (s.answered st 0x14 .ok []))
    ∧ (v.state = .active → exec (.release st i) s = .next (s.answered st 0x15 .ok []))
    ∧ (v.state = .free →
      exec (.hold st i) s = .next (s.answered st 0x14 .noVessel [])
      ∧ exec (.release st i) s = .next (s.answered st 0x15 .noVessel [])))
    ∧ ∀ (s : State) (st : Station) (i : Nat), s.takes st → 128 ≤ i →
      exec (.hold st i) s = .next (s.answered st 0x14 .range [.half 1])
      ∧ exec (.release st i) s = .next (s.answered st 0x15 .range [.half 1])

/-! ## Windows -/

/-- R183 to R185, R188: SET WINDOW replaces the window; READ NEXT reads from its counter to its end and steps the cursor, or a
number of fields and moves the counter; READ AT reads any run of any record, the settings included, from any station. The
argument numbers of RANGE rest on log entry 23, a window's end at a record with fewer fields on log entry 33. -/
def Obligations.WindowsReadAndMove : Prop :=
  ∀ (s : State) (st : Station), s.takes st →
    let w := (s.station st).window
    let stop := min w.last (w.collection.fieldCount w.cursor)
    (∀ c col i m a b, collectionOf c = some col → i ≤ col.lastIndex → 0 < a → a ≤ b → b ≤ col.fieldCount i →
      exec (.setWindow st c i m a b) s = .next
        ((s.setStation st { s.station st with window := ⟨col, i, m, a, b, a⟩ }).answered st 0x01 .ok [])
      ∧ exec (.readAt st c i a b) s = .next
        (s.answered st 0x04 .ok (((List.range (b + 1 - a)).map (fun n => s.readField col i (a + n))).flatten)))
    ∧ (∀ c i m a b, 3 < c →
      exec (.setWindow st c i m a b) s = .next (s.answered st 0x01 .range [.half 1])
      ∧ exec (.readAt st c i a b) s = .next (s.answered st 0x04 .range [.half 1]))
    ∧ exec (.readNext st none) s = .next
      ((s.setStation st { s.station st with
          window := { w with
            counter := w.first
            cursor := match w.move with
              | .up => if w.cursor < w.collection.lastIndex then w.cursor + 1 else 0
              | .down => if w.cursor = 0 then w.collection.lastIndex else w.cursor - 1
              | .stay => w.cursor } }).answered st 0x02 .ok
        (((List.range (stop + 1 - w.counter)).map (fun n => s.readField w.collection w.cursor (w.counter + n))).flatten))
    ∧ ∀ n, 0 < n → n ≤ w.collection.fieldCount w.cursor → w.counter + n ≤ stop →
      exec (.readNext st (some n)) s = .next
        ((s.setStation st { s.station st with window := { w with counter := w.counter + n } }).answered st 0x02 .ok
          (((List.range n).map (fun j => s.readField w.collection w.cursor (w.counter + j))).flatten))

/-- R130, R184, R185, R187: TC's write of one field of the STANDBY table, at the record or through the window, clamps the value and
touches no other field; the other stations' is refused, and one of the wrong length is FORMAT; a settings write brings its value
in by its kind. R79 to R81, R89: a write of one station field of a vessel record is refused STATE for a FREE slot, RANGE with the
field's number (log entry 23), and DUPLICATE with the slot that has the mark; else the field takes the value, the ceiling hold is
evaluated again, and the vessel's order is judged again when its state, length or beam has changed. -/
def Obligations.WritesAreBroughtIntoRange : Prop :=
  (∀ (s : State) (data : List Byte), s.takes .tc → s.Calm →
    let x := bytesNat data
    (∀ n, 1 ≤ n → n ≤ 13 →
      let limit := if n ≤ 6 then 1000000 else if n = 7 then 5000 else if n = 8 ∨ n = 10 then 100 else if n = 9 then 10000
        else if n = 11 then 200 else 1439
      let width := if n ≤ 6 then 4 else 2
      (data.length = width →
        (∃ t, exec (.writeAt .tc 1 0 n n data) s = .next t
          ∧ t = { s.answered .tc 0x05 (if limit < x then .limited else .ok) [] with standby := t.standby, signals := t.signals }
          ∧ t.standby.get n = min limit x ∧ ∀ m, 1 ≤ m → m ≤ 13 → m ≠ n → t.standby.get m = s.standby.get m)
        ∧ ∀ w, (s.station .tc).window = w → w.collection = .tariffStandby → w.counter = n → n < w.last → w.last ≤ 13 →
          ∃ t, exec (.writeNext .tc (some 1) data) s = .next t
            ∧ t = { (s.setStation .tc { s.station .tc with window := { w with counter := n + 1 } }).answered .tc 0x03
                (if limit < x then .limited else .ok) [] with standby := t.standby, signals := t.signals }
            ∧ t.standby.get n = min limit x ∧ ∀ m, 1 ≤ m → m ≤ 13 → m ≠ n → t.standby.get m = s.standby.get m)
      ∧ (data.length ≠ width → exec (.writeAt .tc 1 0 n n data) s = .next (s.answered .tc 0x05 .format []))
      ∧ ∀ st, st ≠ .tc → s.takes st → data.length = width →
        exec (.writeAt st 1 0 n n data) s = .next (s.answered st 0x05 .notPermitted []))
    ∧ (data.length = 2 →
      (∃ t, exec (.writeAt .tc 3 0 5 5 data) s = .next t
        ∧ t = { s.answered .tc 0x05 (if 1 ≤ x ∧ x ≤ 15 then .ok else .limited) [] with
            settings.eqBand := max 1 (min 15 x), signals := t.signals })
      ∧ ∃ t, exec (.writeAt .tc 3 0 10 10 data) s = .next t
        ∧ t = { s.answered .tc 0x05 (if 100 ≤ x ∧ x ≤ 2000 ∧ x % 50 = 0 then .ok else .limited) [] with
            settings.fastInterval := max 100 (min 2000 (x - x % 50)), signals := t.signals })
    ∧ (data.length = 1 →
      ∃ t, exec (.writeAt .tc 3 0 2 2 data) s = .next t
        ∧ t = { s.answered .tc 0x05 (if x ≤ 1 then .ok else .limited) [] with
            settings.crossPresent := decide (x ≠ 0), signals := t.signals }))
    ∧ ∀ (s : State) (st : Station) (i n : Nat) (data : List Byte) (c : Instr) (code : Nat) (u : State),
      i < 128 → 3 ≤ n → n ≤ 10 → data.length = (if n = 3 then 8 else if n = 9 then 1 else if n = 10 then 4 else 2) →
      s.takes st → (∀ k, s.available k = false) →
      c = .writeAt st 0 i n n data ∧ code = 0x05 ∧ u = s
        ∨ (∃ w : Window, (s.station st).window = w ∧ w.collection = .vessels ∧ w.cursor = i ∧ w.counter = n ∧ n < w.last
            ∧ w.last ≤ 15 ∧ c = .writeNext st (some 1) data ∧ code = 0x03
            ∧ u = s.setStation st { s.station st with window := { w with counter := n + 1 } }) →
      let v := s.vessel i
      let x := bytesNat data
      let range := match n with
        | 4 => (0, 65535) | 5 => (50, 4000) | 6 => (20, 300) | 7 => (30, 600) | 8 => (0, 20000) | 9 => (0, 1)
        | _ => (0, 4000000000)
      let good := if n = 3 then markOk data = true else range.1 ≤ x ∧ x ≤ range.2
      let put : Vessel := match n with
        | 3 => { v with mark := data } | 4 => { v with operator := x } | 5 => { v with length := x }
        | 6 => { v with beam := x } | 7 => { v with draught := x } | 8 => { v with deadweight := x }
        | 9 => { v with exempt := decide (x = 1) } | _ => { v with ceiling := x }
      let atCeiling := put.ceiling ≠ 0 ∧ put.ceiling ≤ put.total
      (v.state = .free → exec c s = .next (s.answered st code .state []))
      ∧ (v.state ≠ .free → ¬good → exec c s = .next (s.answered st code .range [.half n]))
      ∧ (v.state ≠ .free → good → ∀ j, n = 3 → j < 128 → j ≠ i → (s.vessel j).state ≠ .free → (s.vessel j).mark = data →
        (∀ m, m < j → m ≠ i → (s.vessel m).state ≠ .free → (s.vessel m).mark ≠ data) →
        exec c s = .next (s.answered st code .duplicate [.half j]))
      ∧ (v.state ≠ .free → good → s.Calm →
        (n = 3 → ∀ j, j < 128 → j ≠ i → (s.vessel j).state ≠ .free → (s.vessel j).mark ≠ data) →
        ∃ t, exec c s = .next t
          ∧ t = { u.answered st code .ok [] with
              vessels := t.vessels, book := t.book, signals := t.signals, stations := t.stations }
          ∧ (∀ y, (t.station y).core = ((u.answered st code .ok []).station y).core)
          ∧ t.vessel i =
            { put with
              state := match v.state with
                | .active => if atCeiling then .held .ceiling else .active
                | .held .ceiling => if atCeiling then .held .ceiling else .active
                | y => y }
          ∧ (∀ j, j ≠ i → t.vessel j = s.vessel j)
          ∧ (v.state = .active → atCeiling → ∀ y, .vesselHeld ∈ (t.station y).notices)
          ∧ t.book =
            match v.order.bind s.book.find with
            | some o =>
              if o.state.isBound = true ∨ (t.vessel i).state = v.state ∧ put.length = v.length ∧ put.beam = v.beam then s.book
              else
                (s.changeOrder o.number (fun y =>
                  { y with
                    state := match (t.vessel i).state with
                      | .held _ => .blocked .held
                      | _ => if s.fits put then .waiting else .blocked .oversize })).book
            | none => s.book)

/-- R182, R187: TC's write of one setting, whichever it is, leaves it at the value its range or kind makes of the one given, which
the record then reads; the answer is LIMITED when that is another value; every other field of every record reads as before; a
value list of the wrong length is FORMAT, and another station NOT_PERMITTED. R16: what the write does at once: a changed EQ_SETTLE
makes each SETTLING pair EQUALISED whose time has reached it (R11), a changed AVG_DEPTH or TRIM_ENABLE clears every gauge's history
and a changed GAUGE_TRIM that of its own gauge (R5, R6), a changed TRAIL_PERIOD restarts or stops the trail timer (R13), every write
of PASS_LIMIT lowers the pass-over counts above it (R116), and a changed usable length or width of a chamber present re-judges the
orders that are not BOUND (R90, R91). The premises of EQ_SETTLE and of the dimensions leave out what an EQUALISED pair and a
WAITING order set off further. Which of the settings take 1 byte and which 2 is log entry 77. -/
def Obligations.SettingsWritesTakeEffect : Prop :=
  ∀ (s : State) (st : Station) (i n kept : Nat) (data : List Byte),
    let x := bytesNat data
    s.takes st → settingKept i n x = some kept →
    (data.length ≠ settingBytes i n → exec (.writeAt st 3 i n n data) s = .next (s.answered st 0x05 .format []))
    ∧ (data.length = settingBytes i n → st ≠ .tc →
      exec (.writeAt st 3 i n n data) s = .next (s.answered st 0x05 .notPermitted []))
    ∧ (data.length = settingBytes i n → st = .tc → s.Calm →
      (i = 0 ∧ n = 6 → s.NothingKept ∧ (∀ k, (s.chamber k).phase = none) ∧ s.arbiter.owner ≠ .engaged) →
      ((i = 1 ∨ i = 2) ∧ n ≤ 2 → s.BookInOrder ∧ ∀ k, s.available k = false) →
      let differs := fun m old => i = 0 ∧ n = m ∧ kept ≠ old
      let cleared := fun b g =>
        differs 8 s.settings.avgDepth ∨ differs 12 (if s.settings.trimEnable then 1 else 0)
          ∨ i = gaugeRecord b g ∧ signedHalf kept ≠ (s.settings.trim.get b).get g
      let resized := fun k =>
        s.chamberPresent k = true ∧ i = chamberRecord k
          ∧ (n = 1 ∧ kept ≠ (s.settings.chamber.get k).usableLength ∨ n = 2 ∧ kept ≠ (s.settings.chamber.get k).usableWidth)
      ∃ t, exec (.writeAt .tc 3 i n n data) s = .next t
        ∧ t = { s.answered .tc 0x05 (if kept = x then .ok else .limited) [] with
            settings := t.settings, levels := t.levels, book.lists := t.book.lists, signals := t.signals }
        ∧ t.readField .settings i n = [fieldOf (settingBytes i n) kept]
        ∧ (∀ j m, 0 < m → j ≠ i ∨ m ≠ n → t.readField .settings j m = s.readField .settings j m)
        ∧ (∀ p, t.pair p = match s.pair p with
          | .settling y =>
            if differs 6 s.settings.eqSettle ∧ y + seconds kept ≤ s.now then .equalised else .settling y
          | y => y)
        ∧ (∀ b g, (t.body b).gauges.get g =
          { (s.body b).gauges.get g with history := if cleared b g then [] else ((s.body b).gauges.get g).history })
        ∧ (∀ b, { t.body b with gauges := (s.body b).gauges } = s.body b)
        ∧ t.levels.queue = s.levels.queue ∧ t.levels.forceFast = s.levels.forceFast
        ∧ t.levels.poll.map (fun p => { p with before := none }) = s.levels.poll.map (fun p => { p with before := none })
        ∧ t.levels.trail = (if differs 31 s.settings.trailPeriod then if kept = 0 then none else some (s.now + seconds kept)
          else s.levels.trail)
        ∧ ∀ d, t.book.lists.get d = (s.book.lists.get d).map fun o =>
          if i = 0 ∧ n = 26 then { o with passOver := min kept o.passOver }
          else if (resized .c1 ∨ resized .c2) ∧ o.state.isBound = false then
            { o with
              state := match (s.vessel o.slot).state with
                | .held _ => .blocked .held
                | _ => if t.fits (s.vessel o.slot) then .waiting else .blocked .oversize }
          else o)

/-! ## The signal unit -/

/-- R122 to R126: a flash generator's phases, the proving of a lamp by its input, its failing once its no-current time reaches 200 ms
(while it runs, or counted up by a phase that ended on that ms: log entry 64), and the test of a chamber's lamps. -/
def Obligations.LampsAreProvedAndTested : Prop :=
  (∀ (s : State) (g : Generator),
    let x := s.generator g
    let rate := match g with | .a => s.settings.flashRateA | .b => s.settings.flashRateB
    let duty := match g with | .a => s.settings.flashDutyA | .b => s.settings.flashDutyB
    let period := if rate ≤ 5 then 2000 else if rate ≤ 10 then 1000 else if rate ≤ 15 then 667 else 500
    let on := (period * duty + 50) / 100
    ∃ t, exec (.flashPhaseChange g) s = .next t ∧ t = { s with now := max s.now x.phaseEnd, signals := t.signals }
      ∧ (x.on = true → t.generator g = { x with on := false, phaseEnd := x.phaseEnd + x.offMs })
      ∧ (x.on = false → t.generator g = ⟨true, x.phaseEnd + on, on, period - on⟩)
      ∧ (∀ h, h ≠ g → t.generator h = s.generator h) ∧ t.signals.aspects = s.signals.aspects ∧ t.signals.tests = s.signals.tests
      ∧ ∀ l, (t.lamp l).proven = (s.lamp l).proven ∧ (t.lamp l).output = (s.lamp l).output
        ∧ ((s.lamp l).output ≠ .flashing g → t.lamp l = s.lamp l))
    ∧ (∀ (s : State) (l : LampId) (c : Bool), s.chamberPresent l.chamber = false →
      exec (.provingInput l c) s = .next (s.setLamp l { s.lamp l with current := c }))
    ∧ (∀ (s : State) (l : LampId) (c : Bool), s.chamberPresent l.chamber = true →
      ∃ t, exec (.provingInput l c) s = .next t ∧ t = { s with signals.lamps := t.signals.lamps } ∧ (t.lamp l).current = c
        ∧ (t.lamp l).proven = (s.lamp l).proven ∧ (t.lamp l).output = (s.lamp l).output
        ∧ (c = true → s.lights (s.lamp l).output = true → (t.lamp l).count = 0 ∧ (t.lamp l).since = none)
        ∧ ∀ l', l' ≠ l → t.lamp l' = s.lamp l')
    ∧ (∀ (s : State) (l : LampId) (x : Nat), s.Calm → s.chamberPresent l.chamber = true →
      (∃ y, (s.lamp l).since = some y ∧ x = y + (200 - (s.lamp l).count))
        ∨ (s.lamp l).since = none ∧ 200 ≤ (s.lamp l).count ∧ x = s.now →
      (s.lamp l).proven = true → s.signals.tests.get l.chamber = none →
      let f := fun n : LampName => if (s.lamp { l with lamp := n }).proven then FaultKind.lampRed else .lampRedBoth
      let kind := match l.lamp with | .green => .lampGreen | .redA => f .redB | .redB => f .redA
      ∃ t, exec (.lampFailed l) s = .next t ∧ SameRecords s t
        ∧ t = { s with
            now := max s.now x, signals := t.signals, journal := t.journal
            stations := t.stations, capture := t.capture }
        ∧ (t.lamp l).proven = false ∧ (∀ l', l' ≠ l → (t.lamp l').proven = (s.lamp l').proven)
        ∧ t.journal = (s.write (.fault kind (.lamp l) s.time)).journal)
    ∧ (∀ (s : State) (st : Station) (k : Chamber), s.takes st → s.chamberPresent k = true →
      ((s.chamber k).state ≠ .outOfService → exec (.lampTest st k) s = .next (s.answered st 0x43 .state []))
      ∧ ((s.chamber k).state = .outOfService → s.Calm →
        ∃ t, exec (.lampTest st k) s = .next t ∧ t = { s.answered st 0x43 .ok [] with signals := t.signals }
          ∧ t.signals.tests.get k = some (s.now + 5000) ∧ t.signals.tests.get k.other = s.signals.tests.get k.other
          ∧ ∀ l, (t.lamp l).proven = (s.lamp l).proven
            ∧ (l.chamber = k → (t.lamp l).output = .lit ∧ (t.lamp l).testFailed = false)))
    ∧ ∀ (s : State) (k : Chamber) (x : Nat), s.Calm → s.signals.tests.get k = some x →
      ∃ t, exec (.lampTestEnd k) s = .next t ∧ t = { s with now := max s.now x, signals := t.signals }
        ∧ t.signals.tests.get k = none ∧ t.signals.tests.get k.other = s.signals.tests.get k.other
        ∧ ∀ l, (t.lamp l).proven = if l.chamber = k then !(s.lamp l).testFailed else (s.lamp l).proven

/-- R118 to R121: with the signals current, a GO is called only for a batch ENTERING at its entry signal, not overdue, or LEAVING
at its exit signal, before the clear-out point, in a live chamber; an entry signal shows it only at an OPEN gate, with a working
red lamp and a working green one; a green lamp is driven under no other aspects than PREPARE, GO and CLEAR_OUT. -/
def Obligations.GoIsShownOnlyWhenSafe : Prop :=
  ∀ (s : State) (k : Chamber) (g : Signal), s.SignalsCurrent →
    let a := (s.signals.aspects.get k).get g
    let lamp := fun n => s.lamp ⟨k, g, n⟩
    (a.called = .go ↔ s.chamberPresent k = true ∧ (s.chamber k).state ≠ .outOfService ∧ (s.chamber k).state ≠ .halted
      ∧ ∃ b, s.batch k = some b
        ∧ (b.state = .entering ∧ g = b.direction.entrySignal ∧ (s.chamber k).entryOverdue = false
          ∨ b.state = .leaving ∧ g = b.direction.exitSignal ∧ (s.chamber k).clearOut = false))
    ∧ (a.shown = .go → a.called = .go ∧ (lamp .green).proven = true
      ∧ (g = .eu ∨ g = .el → (s.gate k g.side).state = .opened ∧ ((lamp .redA).proven = true ∨ (lamp .redB).proven = true)))
    ∧ (s.signals.tests.get k = none → (s.derive.lamp ⟨k, g, .green⟩).output ≠ .dark →
      a.shown = .prepare ∨ a.shown = .go ∨ a.shown = .clearOut)
    ∧ (s.signals.tests.get k = none → a.shown = .stop →
      (s.derive.lamp ⟨k, g, .redA⟩).output = .lit ∨ (s.derive.lamp ⟨k, g, .redB⟩).output = .lit)

/-- R118 to R120: whatever command is carried out, the aspects are again those that follow from the state it leaves. -/
def Obligations.StepKeepsSignalsCurrent : Prop :=
  ∀ s t : State, s.SignalsCurrent → step s = .next t → t.SignalsCurrent

/-! ## Tariff tables, clock, accounts and tallies -/

/-- R131, R133: SWAP TARIFF exchanges the tables and SET CLOCK sets the clock, both from TC only; the set clock's tick takes the next
second of day, the next day after the last second, and day 0 after day 65,535. The argument numbers of RANGE rest on log entry 23. -/
def Obligations.TariffSwapsAndClockTicks : Prop :=
  (∀ s : State, s.takes .tc →
    exec (.swapTariff .tc) s = .next ({ s with active := s.standby, standby := s.active }.answered .tc 0x50 .ok [])
    ∧ ∀ d x,
      (d ≤ 65535 → x ≤ 86399 →
        exec (.setClock .tc d x) s = .next ({ s with clock := some ⟨⟨d, x⟩, s.now + 1000⟩ }.answered .tc 0x51 .ok []))
      ∧ (65535 < d → exec (.setClock .tc d x) s = .next (s.answered .tc 0x51 .range [.half 1]))
      ∧ (d ≤ 65535 → 86399 < x → exec (.setClock .tc d x) s = .next (s.answered .tc 0x51 .range [.half 2])))
    ∧ (∀ (s : State) (st : Station) (d x : Nat), st ≠ .tc → s.takes st →
      exec (.swapTariff st) s = .next (s.answered st 0x50 .notPermitted [])
      ∧ exec (.setClock st d x) s = .next (s.answered st 0x51 .notPermitted []))
    ∧ ∀ (s : State) (d x n : Nat), s.clock = some ⟨⟨d, x⟩, n⟩ →
      exec .siteClockTick s = .next
        { s with
          now := max s.now n
          clock := some
            ⟨if x < 86399 then ⟨d, x + 1⟩ else if d < 65535 then ⟨d + 1, 0⟩ else ⟨0, 0⟩, n + 1000⟩ }

/-- R151, R156, R157: an unreserved frame is written whole behind the others when it fits, with its watermark notices; with a
subscriber it is else dropped and counted; without one, room is made by discarding as few frames as will do, counted too. R153,
R154, R158: SUBSCRIBE places its station at the tail; READ JOURNAL takes the longest run of whole unread frames within 56 words;
after it, and after UNSUBSCRIBE, exactly the frames that every subscriber has read are freed. That the reply's frame count includes
the CLOCK frame is log entry 37. -/
def Obligations.JournalTakesAndFreesFrames : Prop :=
  ((∀ (s : State) (f : Frame), s.anySubscriber = true → f.words ≤ s.availableWords →
      ∃ r, s.write f = { s with journal.frames := s.journal.frames ++ [f], stations := r }
        ∧ ∀ st b, s.subscriber st = some b → b.read ≤ s.journal.frames.length →
          if s.unread st < b.watermark ∧ b.watermark ≤ s.unread st + f.words then .journalWatermark ∈ (r.get st).notices
          else r.get st = s.station st)
      ∧ (∀ (s : State) (f : Frame), s.anySubscriber = true → s.availableWords < f.words →
        s.write f = { s with journal.dropped := min 65535 (s.journal.dropped + 1) })
      ∧ ∀ (s : State) (f : Frame), s.anySubscriber = false → s.reserved + f.words ≤ 4096 →
        ∃ n, s.write f =
            { s with
              journal.frames := s.journal.frames.drop n ++ [f]
              journal.discarded := min 65535 (s.journal.discarded + n) }
          ∧ n ≤ s.journal.frames.length ∧ framesWords (s.journal.frames.drop n) + s.reserved + f.words ≤ 4096
          ∧ ∀ m, m < n → 4096 < framesWords (s.journal.frames.drop m) + s.reserved + f.words)
    ∧ (∀ (s : State) (st : Station) (w : Option Nat), s.takes st →
    let o : ReplyOutcome := if 4096 < w.getD 0 then .limited else .ok
    ∃ t, exec (.subscribe st w) s = .next t
      ∧ t = { s.answered st 0x52 o [] with
          journal.subscribers := s.journal.subscribers.set st (some ⟨0, match w with | some x => min 4096 x | none => 2048⟩)
          stations := t.stations }
      ∧ ∀ x, (t.station x).core = ((s.answered st 0x52 o []).station x).core)
    ∧ ∀ (s : State) (st : Station), s.takes st → s.Calm →
      (∀ who, st = who ∨ st = .tc → ∃ t n, exec (.unsubscribe st who) s = .next t
          ∧ t = { s.answered st 0x53 .ok [] with journal := t.journal, signals := t.signals }
          ∧ t.journal = { s.journal with frames := s.journal.frames.drop n, subscribers := t.journal.subscribers }
          ∧ t.subscriber who = none
          ∧ (∀ x, x ≠ who → t.subscriber x = (s.subscriber x).map (fun b => { b with read := b.read - n }))
          ∧ (∀ x b, x ≠ who → s.subscriber x = some b → n ≤ b.read)
          ∧ (n = 0 ∧ (∀ x, t.subscriber x = none) ∨ t.journal.frames = [] ∨ ∃ x b, t.subscriber x = some b ∧ b.read = 0))
      ∧ (s.subscriber st = none → exec (.readJournal st) s = .next (s.answered st 0x54 .state []))
      ∧ ∀ b, s.subscriber st = some b → ∃ t n fs rest, exec (.readJournal st) s = .next t
        ∧ s.journal.frames.drop b.read = fs ++ rest ∧ framesWords fs ≤ 56
        ∧ (∀ f ∈ rest.head?, 56 < framesWords fs + f.words)
        ∧ (let mark := decide (rest = []) && s.settings.clockMark
          t = { s.answered st 0x54 .ok
              [.frames ((fs.map Frame.bytes).flatten ++ if mark then clockBytes s.time else []),
                .half (fs.length + if mark then 1 else 0), .half (framesWords rest), yesNo (decide (rest = []))] with
            journal := t.journal, signals := t.signals })
        ∧ t.journal = { s.journal with frames := s.journal.frames.drop n, subscribers := t.journal.subscribers }
        ∧ t.subscriber st = some { b with read := b.read + fs.length - n }
        ∧ (∀ x, x ≠ st → t.subscriber x = (s.subscriber x).map (fun c => { c with read := c.read - n }))
        ∧ n ≤ b.read + fs.length ∧ (∀ x c, x ≠ st → s.subscriber x = some c → n ≤ c.read)
        ∧ (t.journal.frames = [] ∨ ∃ x c, t.subscriber x = some c ∧ c.read = 0)

/-- R149, R161: READ TALLIES answers the thirty counters as they stand, and with "clear" makes every one of them 0; SETTLE SITE from
TC clears the site account and answers its three values as they stood; READ SITE ACCOUNT answers them to any station and changes
nothing. That UP's six classes of a tally come before DOWN's is the model's choice (log entry 79). -/
def Obligations.TalliesAndSiteAreReadAndCleared : Prop :=
  (∀ (s : State) (st : Station) (clear : Bool), s.takes st →
    let row := fun v : PerClass Nat => [WireField.half v.a, .half v.b, .half v.c, .half v.d, .half v.e, .half v.f]
    exec (.readTallies st clear) s = .next
      ({ s with
          tallies :=
            if clear then ⟨⟨⟨0, 0, 0, 0, 0, 0⟩, ⟨0, 0, 0, 0, 0, 0⟩⟩, ⟨⟨0, 0, 0, 0, 0, 0⟩, ⟨0, 0, 0, 0, 0, 0⟩⟩, ⟨0, 0, 0, 0, 0, 0⟩⟩
            else s.tallies }.answered st 0x56 .ok
        (row s.tallies.completed.up ++ row s.tallies.completed.down ++ row s.tallies.abandoned.up
          ++ row s.tallies.abandoned.down ++ row s.tallies.oversize)))
    ∧ ∀ (s : State) (st : Station), s.takes st →
      let l := [WireField.word s.site.total, .word s.site.drawn, .word s.site.saved]
      exec (.readSiteAccount st) s = .next (s.answered st 0x57 .ok l)
      ∧ (st = .tc → exec (.settleSite st) s = .next ({ s with site := ⟨0, 0, 0⟩ }.answered st 0x58 .ok l))
      ∧ (st ≠ .tc → exec (.settleSite st) s = .next (s.answered st 0x58 .notPermitted []))

/-- R138, R141, R142: the shares of a charge are each the floor of its part or one more, and add up to the charge; a member's dues
are the sum of its parts, 0 for an exempt one, and never above the cap. -/
def Obligations.SharesAddUpAndDuesAreCapped : Prop :=
  (∀ (charge : Nat) (ws : List Nat), 0 < ws.sum →
    (apportion charge ws).length = ws.length ∧ (apportion charge ws).sum = charge
    ∧ ∀ i w : Nat, ws[i]? = some w → ∃ x, (apportion charge ws)[i]? = some x
      ∧ (x = charge * w / ws.sum ∨ x = charge * w / ws.sum + 1 ∧ charge * w % ws.sum ≠ 0))
    ∧ ∀ (s : State) (k : Chamber) (b : Batch) (m : Member),
      let sub := b.tariff.base.get m.cls
        + if m.laden then (m.deadweight * b.tariff.tonRate + 5) / 10
          else (m.deadweight * b.tariff.tonRate * b.tariff.unladenPct + 500) / 1000
      let night := if b.night = some true then (sub * b.tariff.nightPct + 50) / 100 else 0
      let priority := if m.priority = .priority then (sub * b.tariff.priorityPct + 50) / 100 else 0
      let share := if b.fill.isSome then m.share.getD 0 else 0
      let x := s.ticket k b m
      x.nightPart = night ∧ x.priorityPart = priority ∧ x.share = share ∧ x.base = b.tariff.base.get m.cls
        ∧ x.base + x.tonnage = sub
        ∧ x.dues = (if m.exempt then 0 else min 99999999 (sub + night + priority + share))
        ∧ (x.capped = true ↔ m.exempt = false ∧ 99999999 < sub + night + priority + share)

/-! ## Links, conduct, notices and the store -/

/-- R176 to R180: a whole frame with its length and CRC right is good; a good one is judged by its request's rule and answered, or
answered UNKNOWN when its code names none, and one for a port that is not IDLE joins its BUSY list; a bad one is counted; a SILENT
port takes nothing; replies run out in turn. That bytes which make no good frame are a bad one, and that frames are taken in any
receiver state, is log entry 28; that the BUSY list is emptied when its replies start, log entry 29. -/
def Obligations.LinkFramesAreTakenOrCounted : Prop :=
  (∀ (code : Nat) (args : List Byte), code < 256 → args.length ≤ 249 →
    let counted := BitVec.ofNat 8 (args.length + 1) :: BitVec.ofNat 8 code :: args
    goodFrame (counted ++ halfBytes (crc16 counted).toNat) = some (code, args))
    ∧ ∀ (s : State) (st : Station),
      let r := s.station st
      let heard := { r with
        link := Link.present
        silence := some (s.now + seconds s.settings.silenceLimit)
        receiver := .hunting }
      let hunted := { r with receiver := Receiver.hunting, badFrames := min 65535 (r.badFrames + 1) }
      (r.rate ≠ .silent →
        (∀ bytes code args, goodFrame bytes = some (code, args) →
          (∀ j u o l, r.service = .idle → requestOf st args code = some j → j (s.setStation st heard) = (u, some (o, l)) →
            exec (.requestFrame st bytes) s = .next
              (u.setStation st { u.station st with service := .serving, tx := [⟨code, o, l⟩] }))
          ∧ (r.service = .idle → requestOf st args code = none →
            exec (.requestFrame st bytes) s = .next
              (s.setStation st { heard with service := .serving, tx := [⟨code, .unknown, []⟩] }))
          ∧ (r.service ≠ .idle →
            exec (.requestFrame st bytes) s = .next
              (s.setStation st { heard with busy := if r.busy.length < 8 then r.busy ++ [code] else r.busy })))
        ∧ (∀ bytes, goodFrame bytes = none → exec (.requestFrame st bytes) s = .next (s.setStation st hunted))
        ∧ (∀ c, exec (.badFrame st c) s = .next (s.setStation st hunted))
        ∧ exec (.frameGapTimeout st) s = .next (s.setStation st hunted)
        ∧ (r.receiver = .hunting →
          exec (.strayLinkByte st 0x5A#8 false) s = .next (s.setStation st { r with receiver := .receiving })
          ∧ ∀ b e, b ≠ 0x5A#8 ∨ e = true → exec (.strayLinkByte st b e) s = .next s))
      ∧ (r.rate = .silent → ∀ bytes c b e, exec (.requestFrame st bytes) s = .next s ∧ exec (.badFrame st c) s = .next s
        ∧ exec (.frameGapTimeout st) s = .next s ∧ exec (.strayLinkByte st b e) s = .next s)
      ∧ (r.service ≠ .idle → st ≠ .tc ∨ s.store.storing = none →
        exec (.replySent st) s = .next (s.setStation st
          (if r.busy = [] then { r with service := .idle }
          else { r with service := .sendingBusy, busy := [], tx := r.busy.map (fun c => ⟨c, .busy, []⟩) })))

/-- R164 to R166: whom CLAIM takes the conduct from, and when it is refused; RELEASE CONDUCT; and the loss of a station, which gives
up its conduct, each DIRECTED chamber it conducted that is in service and not HALTED being halted with the cause LINK_LOST (R62;
the order of the frames: log entry 17). R167: a request that names an absent chamber 2 is refused RANGE, a conductor's request from
another station NO_CONDUCT with the holder, a confirmation too while another station conducts, and a request of the traffic centre
from another station NOT_PERMITTED. The argument number of RANGE rests on log entries 22 and 23. -/
def Obligations.ConductIsClaimedReleasedAndLost : Prop :=
  (∀ (s : State) (st : Station) (k : Chamber), s.takes st → s.Calm → s.chamberPresent k = true →
    let taken := fun (c : Instr) (n : Nat) (l : List WireField) (new : Option Station) (why : ConductCause) =>
      ∃ t, exec c s = .next t
        ∧ t = { s.answered st n .ok l with
            conduct := s.conduct.set k new, journal := t.journal, stations := t.stations, signals := t.signals }
        ∧ (∀ x, (t.station x).core = ((s.answered st n .ok l).station x).core)
        ∧ t.journal = (s.write (.conduct k (s.holder k) new why)).journal
        ∧ (why = .takeOver → ∀ old, s.holder k = some old → .conductTaken ∈ (t.station old).notices)
    (s.holder k = none → taken (.claim st k) 0x30 [.byte st.code] (some st) .claim)
    ∧ (s.holder k = some st → exec (.claim st k) s = .next (s.answered st 0x30 .ok [.byte st.code])
      ∧ taken (.releaseConduct st k) 0x31 [] none .release)
    ∧ (s.holder k ≠ some st → ∃ l, exec (.releaseConduct st k) s = .next (s.answered st 0x31 .noConduct l)
      ∧ l = match s.holder k with | some x => [.byte x.code] | none => [.byte 0])
    ∧ (∀ old, s.holder k = some old → old ≠ st →
      (old = .tc → taken (.claim st k) 0x30 [.byte st.code] (some st) .takeOver)
      ∧ (st = .tc → exec (.claim st k) s = .next (s.answered st 0x30 .noConduct [.byte old.code]))
      ∧ (old ≠ .tc → st ≠ .tc →
        (s.chamberMoving k = true → exec (.claim st k) s = .next (s.answered st 0x30 .busy [.byte old.code]))
        ∧ (s.chamberMoving k = false → taken (.claim st k) 0x30 [.byte st.code] (some st) .takeOver))))
    ∧ (∀ (s : State) (st : Station) (k : Chamber) (m : Mode) (d : Direction) (e : Side) (x : Bool) (w : SluiceChoice) (p : Nat)
      (l : Option (List Nat)), s.takes st →
      let byConductor :=
        [(Instr.setMode st k m, 0x32), (.serviceOn st k, 0x33), (.serviceOff st k, 0x33), (.resume st k, 0x35),
          (.abandonBatch st k, 0x36), (.bind st k d, 0x39), (.gateOpen st k e, 0x3A), (.gateClose st k e, 0x3A),
          (.gateStop st k e, 0x3A), (.fill st k x, 0x3B), (.empty st k x, 0x3C), (.sluice st k w p, 0x3D)]
      let confirming := [(Instr.confirmIn st k l, 0x37), (.confirmClear st k, 0x38)]
      let byAny :=
        [(Instr.claim st k, 0x30), (.releaseConduct st k, 0x31), (.halt st k, 0x34), (.readChamber st k, 0x40),
          (.lampTest st k, 0x43), (.readBatch st k, 0x23)]
      (s.chamberPresent k = false → ∀ c n, (c, n) ∈ byConductor ++ confirming ++ byAny →
        exec c s = .next (s.answered st n .range [.half 1]))
      ∧ (s.chamberPresent k = true →
        (∀ c n, (c, n) ∈ byConductor →
          (s.holder k = none → exec c s = .next (s.answered st n .noConduct [.byte 0]))
          ∧ ∀ y, s.holder k = some y → y ≠ st → exec c s = .next (s.answered st n .noConduct [.byte y.code]))
        ∧ ∀ c n y, (c, n) ∈ confirming → s.holder k = some y → y ≠ st →
          exec c s = .next (s.answered st n .noConduct [.byte y.code])))
    ∧ (∀ (s : State) (st who : Station) (a b : Nat), s.takes st → st ≠ .tc → who ≠ st → ∀ c n,
      (c, n) ∈ [(Instr.setClock st a b, 0x51), (.swapTariff st, 0x50), (.settle st a b, 0x16), (.settleSite st, 0x58),
        (.storeSettings st, 0x70), (.restart st, 0x71), (.unsubscribe st who, 0x53)] →
      exec c s = .next (s.answered st n .notPermitted []))
    ∧ ∀ (s : State) (st : Station) (x : Nat), s.Calm → (s.station st).link = .present → (s.station st).silence = some x →
      let lost := fun k => s.holder k = some st ∧ (s.chamber k).mode = .directed ∧ (s.chamber k).state.live = true
      let given := fun (u : State) k => if s.holder k = some st then u.write (.conduct k (some st) none .lost) else u
      let leaves := fun t : State =>
        (∀ k, t.holder k = if s.holder k = some st then none else s.holder k)
          ∧ (t.station st).core = { (s.station st).core with link := .lost, silence := none }
          ∧ (∀ y, y ≠ st → (t.station y).core = (s.station y).core)
          ∧ ((∀ k e, (s.gate k e).state.moving = false) →
            t.journal = ((given (given s .c1) .c2).write (.fault .linkLost (.station st) s.time)).journal)
      ((∀ k, s.holder k = some st → (s.chamber k).mode = .automatic) →
        ∃ t, exec (.linkLost st) s = .next t ∧ leaves t
          ∧ t = { s with
              now := max s.now x, conduct := t.conduct, journal := t.journal, stations := t.stations, capture := t.capture
              signals := t.signals })
      ∧ (s.CrossFree →
        ∃ t, exec (.linkLost st) s = .next t ∧ leaves t
          ∧ t = { s with
              now := max s.now x, conduct := t.conduct, journal := t.journal, stations := t.stations, capture := t.capture
              signals := t.signals, drive := t.drive, levels := t.levels, chambers := t.chambers }
          ∧ (∀ k, lost k → ChamberHalted s t k (s.chamber k).state .linkLost none) ∧ (∀ k, ¬lost k → SameChamber s t k)
          ∧ t.sluice .cross = s.sluice .cross ∧ SameLevels s t ∧ SameGuards s t ∧ SameLine s t)

/-- R169 to R171, R174: READ NOTICES answers the set and empties it; SET NOTICE MASK replaces the mask and drives a LEVEL line; SET
ATTENTION MODE changes the mode; a pulse ends; CLEAR FAULT clears the capture record. A notice raised, here by an entry or a leave
timer that runs out, joins every station's set: a kind not yet in it becomes pending, and an ENABLED one makes a LEVEL line active,
and in PULSE mode starts the pulse or extends it to 10 ms from then; a MASKED one, or one pending before, leaves the line. -/
def Obligations.NoticesDriveTheAttentionLine : Prop :=
  (∀ (s : State) (st : Station), s.takes st →
    let r := s.station st
    exec (.readNotices st) s = .next
      ((s.setStation st
        { r with
          notices := []
          line := match r.attention with | .level => false | .pulse => r.line }).answered st 0x60 .ok
        [.half (noticeBits r.notices), .half r.badFrames])
    ∧ (∀ l, ∃ mask, (∀ n, n ∈ mask ↔ n ∈ l) ∧ exec (.setNoticeMask st l) s = .next
        ((s.setStation st
          { r with
            enabled := mask
            line := match r.attention with | .level => r.notices.any (fun n => decide (n ∈ l)) | .pulse => r.line }).answered st
          0x61 .ok []))
    ∧ (∀ m, r.attention = m → exec (.setAttentionMode st m) s = .next (s.answered st 0x62 .ok []))
    ∧ (r.attention = .level → exec (.setAttentionMode st .pulse) s = .next
      ((s.setStation st { r with attention := .pulse, line := false }).answered st 0x62 .ok []))
    ∧ (r.attention = .pulse → exec (.setAttentionMode st .level) s = .next
      ((s.setStation st
        { r with
          attention := .level
          pulse := none
          line := r.notices.any (fun n => r.enabled.contains n) }).answered st 0x62 .ok []))
    ∧ exec (.clearFault st) s = .next ({ s with capture := ⟨none, false, false⟩ }.answered st 0x64 .ok []))
    ∧ (∀ (s : State) (k : Chamber) (c : Instr) (n : NoticeKind) (x : Nat), s.Calm →
      c = .entryOverdue k ∧ n = .entryOverdue ∧ (s.chamber k).entry = some x
        ∨ c = .leaveOverdue k ∧ n = .leaveOverdue ∧ (s.chamber k).leave.map (·.expiry) = some x →
      ∃ t, exec c s = .next t ∧ t.now = max s.now x ∧ ∀ st,
        let r := s.station st
        let y := t.station st
        y.core = r.core ∧ (∀ m, m ∈ y.notices ↔ m = n ∨ m ∈ r.notices)
          ∧ (n ∈ r.notices → y = r)
          ∧ (n ∉ r.notices → r.attention = .level → y.pulse = r.pulse ∧ y.line = y.notices.any (fun m => decide (m ∈ r.enabled)))
          ∧ (n ∉ r.notices → r.attention = .pulse → n ∈ r.enabled → y.line = true ∧ y.pulse = some (max s.now x + 10))
          ∧ (n ∉ r.notices → r.attention = .pulse → n ∉ r.enabled → y.line = r.line ∧ y.pulse = r.pulse))
    ∧ ∀ (s : State) (st : Station) (x : Nat), (s.station st).pulse = some x →
      exec (.attentionPulseEnd st) s = .next
        ({ s with now := max s.now x }.setStation st { s.station st with line := false, pulse := none })

/-- R189: STORE SETTINGS takes a copy of the settings and both tables and keeps TC's port SERVING; a read-back that matches makes the
copy the valid one and clears DEFAULTED; one that does not leaves no valid copy and raises SETTINGS_LOST (the byte of
STORE_FAILED: log entry 24). -/
def Obligations.StoreKeepsTheSettings : Prop :=
  (∀ s : State, s.takes .tc →
    ((∀ k, (s.chamber k).state = .outOfService ∨ (s.chamber k).state.rest.isSome = true) →
      exec (.storeSettings .tc) s = .next
        ({ s with store.storing := some ⟨s.settings, s.active, s.standby⟩ }.setStation .tc
          { s.station .tc with
            link := .present
            silence := some (s.now + seconds s.settings.silenceLimit)
            service := .serving
            receiver := .hunting }))
    ∧ ∀ k, (s.chamber k).state ≠ .outOfService → (s.chamber k).state.rest = none →
      exec (.storeSettings .tc) s = .next (s.answered .tc 0x70 .state []))
    ∧ (∀ (s : State) (st : Station), st ≠ .tc → s.takes st →
      exec (.storeSettings st) s = .next (s.answered st 0x70 .notPermitted []))
    ∧ ∀ (s : State) (i : StoreImage), s.store.storing = some i →
      exec (.storeReadbackEnd true) s = .next
        ({ s with store := { s.store with stored := some i, storing := none, defaulted := false } }.setStation .tc
          { s.station .tc with tx := [⟨0x70, .ok, []⟩] })
      ∧ ∃ t, exec (.storeReadbackEnd false) s = .next t
        ∧ t = { s with
            store := { s.store with stored := none, storing := none }
            journal := t.journal, stations := t.stations, capture := t.capture }
        ∧ (t.station .tc).tx = [⟨0x70, .state, [.byte 0]⟩] ∧ (s.settings.quietSoft = false → (∀ st, .fault ∈ (t.station st).notices)
          ∧ t.capture = s.capture.offer (s.captured .settingsLost .store))
        ∧ t.journal = (s.write (.fault .settingsLost .store s.time)).journal
end

