-- ==== Sys2Proof/Laws/State.lean ====
section
/-! SUPPORT. What each named update of the state does to each field: one lemma per field per update. -/

namespace Sys2Proof.Machine

/-! ## reach -/
@[simp] theorem State.reach_now (s : State) (t : Nat) :
    (s.reach t).now = max s.now t := rfl
@[simp] theorem State.reach_loaded (s : State) (t : Nat) : (s.reach t).loaded = s.loaded := rfl
@[simp] theorem State.reach_settings (s : State) (t : Nat) : (s.reach t).settings = s.settings := rfl
@[simp] theorem State.reach_levels (s : State) (t : Nat) : (s.reach t).levels = s.levels := rfl
@[simp] theorem State.reach_drive (s : State) (t : Nat) : (s.reach t).drive = s.drive := rfl
@[simp] theorem State.reach_chambers (s : State) (t : Nat) : (s.reach t).chambers = s.chambers := rfl
@[simp] theorem State.reach_arbiter (s : State) (t : Nat) : (s.reach t).arbiter = s.arbiter := rfl
@[simp] theorem State.reach_vessels (s : State) (t : Nat) : (s.reach t).vessels = s.vessels := rfl
@[simp] theorem State.reach_book (s : State) (t : Nat) : (s.reach t).book = s.book := rfl
@[simp] theorem State.reach_signals (s : State) (t : Nat) : (s.reach t).signals = s.signals := rfl
@[simp] theorem State.reach_active (s : State) (t : Nat) : (s.reach t).active = s.active := rfl
@[simp] theorem State.reach_standby (s : State) (t : Nat) : (s.reach t).standby = s.standby := rfl
@[simp] theorem State.reach_clock (s : State) (t : Nat) : (s.reach t).clock = s.clock := rfl
@[simp] theorem State.reach_journal (s : State) (t : Nat) : (s.reach t).journal = s.journal := rfl
@[simp] theorem State.reach_site (s : State) (t : Nat) : (s.reach t).site = s.site := rfl
@[simp] theorem State.reach_tallies (s : State) (t : Nat) : (s.reach t).tallies = s.tallies := rfl
@[simp] theorem State.reach_stations (s : State) (t : Nat) : (s.reach t).stations = s.stations := rfl
@[simp] theorem State.reach_conduct (s : State) (t : Nat) : (s.reach t).conduct = s.conduct := rfl
@[simp] theorem State.reach_capture (s : State) (t : Nat) : (s.reach t).capture = s.capture := rfl
@[simp] theorem State.reach_store (s : State) (t : Nat) : (s.reach t).store = s.store := rfl
@[simp] theorem State.reach_agenda (s : State) (t : Nat) : (s.reach t).agenda = s.agenda := rfl
@[simp] theorem State.reach_choices (s : State) (t : Nat) : (s.reach t).choices = s.choices := rfl
@[simp] theorem State.reach_pending (s : State) (t : Nat) : (s.reach t).pending = s.pending := rfl

/-! ## setBody -/
@[simp] theorem State.setBody_now (s : State) (b : Body) (r : BodyRec) : (s.setBody b r).now = s.now := rfl
@[simp] theorem State.setBody_loaded (s : State) (b : Body) (r : BodyRec) : (s.setBody b r).loaded = s.loaded := rfl
@[simp] theorem State.setBody_settings (s : State) (b : Body) (r : BodyRec) : (s.setBody b r).settings = s.settings := rfl
@[simp] theorem State.setBody_levels (s : State) (b : Body) (r : BodyRec) :
    (s.setBody b r).levels = { s.levels with bodies := s.levels.bodies.set b r } := rfl
@[simp] theorem State.setBody_drive (s : State) (b : Body) (r : BodyRec) : (s.setBody b r).drive = s.drive := rfl
@[simp] theorem State.setBody_chambers (s : State) (b : Body) (r : BodyRec) : (s.setBody b r).chambers = s.chambers := rfl
@[simp] theorem State.setBody_arbiter (s : State) (b : Body) (r : BodyRec) : (s.setBody b r).arbiter = s.arbiter := rfl
@[simp] theorem State.setBody_vessels (s : State) (b : Body) (r : BodyRec) : (s.setBody b r).vessels = s.vessels := rfl
@[simp] theorem State.setBody_book (s : State) (b : Body) (r : BodyRec) : (s.setBody b r).book = s.book := rfl
@[simp] theorem State.setBody_signals (s : State) (b : Body) (r : BodyRec) : (s.setBody b r).signals = s.signals := rfl
@[simp] theorem State.setBody_active (s : State) (b : Body) (r : BodyRec) : (s.setBody b r).active = s.active := rfl
@[simp] theorem State.setBody_standby (s : State) (b : Body) (r : BodyRec) : (s.setBody b r).standby = s.standby := rfl
@[simp] theorem State.setBody_clock (s : State) (b : Body) (r : BodyRec) : (s.setBody b r).clock = s.clock := rfl
@[simp] theorem State.setBody_journal (s : State) (b : Body) (r : BodyRec) : (s.setBody b r).journal = s.journal := rfl
@[simp] theorem State.setBody_site (s : State) (b : Body) (r : BodyRec) : (s.setBody b r).site = s.site := rfl
@[simp] theorem State.setBody_tallies (s : State) (b : Body) (r : BodyRec) : (s.setBody b r).tallies = s.tallies := rfl
@[simp] theorem State.setBody_stations (s : State) (b : Body) (r : BodyRec) : (s.setBody b r).stations = s.stations := rfl
@[simp] theorem State.setBody_conduct (s : State) (b : Body) (r : BodyRec) : (s.setBody b r).conduct = s.conduct := rfl
@[simp] theorem State.setBody_capture (s : State) (b : Body) (r : BodyRec) : (s.setBody b r).capture = s.capture := rfl
@[simp] theorem State.setBody_store (s : State) (b : Body) (r : BodyRec) : (s.setBody b r).store = s.store := rfl
@[simp] theorem State.setBody_agenda (s : State) (b : Body) (r : BodyRec) : (s.setBody b r).agenda = s.agenda := rfl
@[simp] theorem State.setBody_choices (s : State) (b : Body) (r : BodyRec) : (s.setBody b r).choices = s.choices := rfl
@[simp] theorem State.setBody_pending (s : State) (b : Body) (r : BodyRec) : (s.setBody b r).pending = s.pending := rfl

/-! ## setPair -/
@[simp] theorem State.setPair_now (s : State) (p : Pair) (x : PairState) : (s.setPair p x).now = s.now := by cases p <;> rfl
@[simp] theorem State.setPair_loaded (s : State) (p : Pair) (x : PairState) : (s.setPair p x).loaded = s.loaded := by cases p <;> rfl
@[simp] theorem State.setPair_settings (s : State) (p : Pair) (x : PairState) : (s.setPair p x).settings = s.settings := by cases p <;> rfl
@[simp] theorem State.setPair_drive (s : State) (p : Pair) (x : PairState) : (s.setPair p x).drive = s.drive := by cases p <;> rfl
@[simp] theorem State.setPair_chambers (s : State) (p : Pair) (x : PairState) : (s.setPair p x).chambers = s.chambers := by cases p <;> rfl
@[simp] theorem State.setPair_arbiter (s : State) (p : Pair) (x : PairState) : (s.setPair p x).arbiter = s.arbiter := by cases p <;> rfl
@[simp] theorem State.setPair_vessels (s : State) (p : Pair) (x : PairState) : (s.setPair p x).vessels = s.vessels := by cases p <;> rfl
@[simp] theorem State.setPair_book (s : State) (p : Pair) (x : PairState) : (s.setPair p x).book = s.book := by cases p <;> rfl
@[simp] theorem State.setPair_signals (s : State) (p : Pair) (x : PairState) : (s.setPair p x).signals = s.signals := by cases p <;> rfl
@[simp] theorem State.setPair_active (s : State) (p : Pair) (x : PairState) : (s.setPair p x).active = s.active := by cases p <;> rfl
@[simp] theorem State.setPair_standby (s : State) (p : Pair) (x : PairState) : (s.setPair p x).standby = s.standby := by cases p <;> rfl
@[simp] theorem State.setPair_clock (s : State) (p : Pair) (x : PairState) : (s.setPair p x).clock = s.clock := by cases p <;> rfl
@[simp] theorem State.setPair_journal (s : State) (p : Pair) (x : PairState) : (s.setPair p x).journal = s.journal := by cases p <;> rfl
@[simp] theorem State.setPair_site (s : State) (p : Pair) (x : PairState) : (s.setPair p x).site = s.site := by cases p <;> rfl
@[simp] theorem State.setPair_tallies (s : State) (p : Pair) (x : PairState) : (s.setPair p x).tallies = s.tallies := by cases p <;> rfl
@[simp] theorem State.setPair_stations (s : State) (p : Pair) (x : PairState) : (s.setPair p x).stations = s.stations := by cases p <;> rfl
@[simp] theorem State.setPair_conduct (s : State) (p : Pair) (x : PairState) : (s.setPair p x).conduct = s.conduct := by cases p <;> rfl
@[simp] theorem State.setPair_capture (s : State) (p : Pair) (x : PairState) : (s.setPair p x).capture = s.capture := by cases p <;> rfl
@[simp] theorem State.setPair_store (s : State) (p : Pair) (x : PairState) : (s.setPair p x).store = s.store := by cases p <;> rfl
@[simp] theorem State.setPair_agenda (s : State) (p : Pair) (x : PairState) : (s.setPair p x).agenda = s.agenda := by cases p <;> rfl
@[simp] theorem State.setPair_choices (s : State) (p : Pair) (x : PairState) : (s.setPair p x).choices = s.choices := by cases p <;> rfl
@[simp] theorem State.setPair_pending (s : State) (p : Pair) (x : PairState) : (s.setPair p x).pending = s.pending := by cases p <;> rfl

/-! ## setPoll -/
@[simp] theorem State.setPoll_now (s : State) (p : Option Poll) : (s.setPoll p).now = s.now := rfl
@[simp] theorem State.setPoll_loaded (s : State) (p : Option Poll) : (s.setPoll p).loaded = s.loaded := rfl
@[simp] theorem State.setPoll_settings (s : State) (p : Option Poll) : (s.setPoll p).settings = s.settings := rfl
@[simp] theorem State.setPoll_levels (s : State) (p : Option Poll) :
    (s.setPoll p).levels = { s.levels with poll := p } := rfl
@[simp] theorem State.setPoll_drive (s : State) (p : Option Poll) : (s.setPoll p).drive = s.drive := rfl
@[simp] theorem State.setPoll_chambers (s : State) (p : Option Poll) : (s.setPoll p).chambers = s.chambers := rfl
@[simp] theorem State.setPoll_arbiter (s : State) (p : Option Poll) : (s.setPoll p).arbiter = s.arbiter := rfl
@[simp] theorem State.setPoll_vessels (s : State) (p : Option Poll) : (s.setPoll p).vessels = s.vessels := rfl
@[simp] theorem State.setPoll_book (s : State) (p : Option Poll) : (s.setPoll p).book = s.book := rfl
@[simp] theorem State.setPoll_signals (s : State) (p : Option Poll) : (s.setPoll p).signals = s.signals := rfl
@[simp] theorem State.setPoll_active (s : State) (p : Option Poll) : (s.setPoll p).active = s.active := rfl
@[simp] theorem State.setPoll_standby (s : State) (p : Option Poll) : (s.setPoll p).standby = s.standby := rfl
@[simp] theorem State.setPoll_clock (s : State) (p : Option Poll) : (s.setPoll p).clock = s.clock := rfl
@[simp] theorem State.setPoll_journal (s : State) (p : Option Poll) : (s.setPoll p).journal = s.journal := rfl
@[simp] theorem State.setPoll_site (s : State) (p : Option Poll) : (s.setPoll p).site = s.site := rfl
@[simp] theorem State.setPoll_tallies (s : State) (p : Option Poll) : (s.setPoll p).tallies = s.tallies := rfl
@[simp] theorem State.setPoll_stations (s : State) (p : Option Poll) : (s.setPoll p).stations = s.stations := rfl
@[simp] theorem State.setPoll_conduct (s : State) (p : Option Poll) : (s.setPoll p).conduct = s.conduct := rfl
@[simp] theorem State.setPoll_capture (s : State) (p : Option Poll) : (s.setPoll p).capture = s.capture := rfl
@[simp] theorem State.setPoll_store (s : State) (p : Option Poll) : (s.setPoll p).store = s.store := rfl
@[simp] theorem State.setPoll_agenda (s : State) (p : Option Poll) : (s.setPoll p).agenda = s.agenda := rfl
@[simp] theorem State.setPoll_choices (s : State) (p : Option Poll) : (s.setPoll p).choices = s.choices := rfl
@[simp] theorem State.setPoll_pending (s : State) (p : Option Poll) : (s.setPoll p).pending = s.pending := rfl

/-! ## setForceFast -/
@[simp] theorem State.setForceFast_now (s : State) (x : Bool) : (s.setForceFast x).now = s.now := rfl
@[simp] theorem State.setForceFast_loaded (s : State) (x : Bool) : (s.setForceFast x).loaded = s.loaded := rfl
@[simp] theorem State.setForceFast_settings (s : State) (x : Bool) : (s.setForceFast x).settings = s.settings := rfl
@[simp] theorem State.setForceFast_levels (s : State) (x : Bool) :
    (s.setForceFast x).levels = { s.levels with forceFast := x } := rfl
@[simp] theorem State.setForceFast_drive (s : State) (x : Bool) : (s.setForceFast x).drive = s.drive := rfl
@[simp] theorem State.setForceFast_chambers (s : State) (x : Bool) : (s.setForceFast x).chambers = s.chambers := rfl
@[simp] theorem State.setForceFast_arbiter (s : State) (x : Bool) : (s.setForceFast x).arbiter = s.arbiter := rfl
@[simp] theorem State.setForceFast_vessels (s : State) (x : Bool) : (s.setForceFast x).vessels = s.vessels := rfl
@[simp] theorem State.setForceFast_book (s : State) (x : Bool) : (s.setForceFast x).book = s.book := rfl
@[simp] theorem State.setForceFast_signals (s : State) (x : Bool) : (s.setForceFast x).signals = s.signals := rfl
@[simp] theorem State.setForceFast_active (s : State) (x : Bool) : (s.setForceFast x).active = s.active := rfl
@[simp] theorem State.setForceFast_standby (s : State) (x : Bool) : (s.setForceFast x).standby = s.standby := rfl
@[simp] theorem State.setForceFast_clock (s : State) (x : Bool) : (s.setForceFast x).clock = s.clock := rfl
@[simp] theorem State.setForceFast_journal (s : State) (x : Bool) : (s.setForceFast x).journal = s.journal := rfl
@[simp] theorem State.setForceFast_site (s : State) (x : Bool) : (s.setForceFast x).site = s.site := rfl
@[simp] theorem State.setForceFast_tallies (s : State) (x : Bool) : (s.setForceFast x).tallies = s.tallies := rfl
@[simp] theorem State.setForceFast_stations (s : State) (x : Bool) : (s.setForceFast x).stations = s.stations := rfl
@[simp] theorem State.setForceFast_conduct (s : State) (x : Bool) : (s.setForceFast x).conduct = s.conduct := rfl
@[simp] theorem State.setForceFast_capture (s : State) (x : Bool) : (s.setForceFast x).capture = s.capture := rfl
@[simp] theorem State.setForceFast_store (s : State) (x : Bool) : (s.setForceFast x).store = s.store := rfl
@[simp] theorem State.setForceFast_agenda (s : State) (x : Bool) : (s.setForceFast x).agenda = s.agenda := rfl
@[simp] theorem State.setForceFast_choices (s : State) (x : Bool) : (s.setForceFast x).choices = s.choices := rfl
@[simp] theorem State.setForceFast_pending (s : State) (x : Bool) : (s.setForceFast x).pending = s.pending := rfl

/-! ## putGate -/
@[simp] theorem State.putGate_now (s : State) (k : Chamber) (e : Side) (g : Gate) : (s.putGate k e g).now = s.now := rfl
@[simp] theorem State.putGate_loaded (s : State) (k : Chamber) (e : Side) (g : Gate) : (s.putGate k e g).loaded = s.loaded := rfl
@[simp] theorem State.putGate_settings (s : State) (k : Chamber) (e : Side) (g : Gate) : (s.putGate k e g).settings = s.settings := rfl
@[simp] theorem State.putGate_levels (s : State) (k : Chamber) (e : Side) (g : Gate) : (s.putGate k e g).levels = s.levels := rfl
@[simp] theorem State.putGate_drive (s : State) (k : Chamber) (e : Side) (g : Gate) :
    (s.putGate k e g).drive = { s.drive with gates := s.drive.gates.set k ((s.drive.gates.get k).set e g) } := rfl
@[simp] theorem State.putGate_chambers (s : State) (k : Chamber) (e : Side) (g : Gate) : (s.putGate k e g).chambers = s.chambers := rfl
@[simp] theorem State.putGate_arbiter (s : State) (k : Chamber) (e : Side) (g : Gate) : (s.putGate k e g).arbiter = s.arbiter := rfl
@[simp] theorem State.putGate_vessels (s : State) (k : Chamber) (e : Side) (g : Gate) : (s.putGate k e g).vessels = s.vessels := rfl
@[simp] theorem State.putGate_book (s : State) (k : Chamber) (e : Side) (g : Gate) : (s.putGate k e g).book = s.book := rfl
@[simp] theorem State.putGate_signals (s : State) (k : Chamber) (e : Side) (g : Gate) : (s.putGate k e g).signals = s.signals := rfl
@[simp] theorem State.putGate_active (s : State) (k : Chamber) (e : Side) (g : Gate) : (s.putGate k e g).active = s.active := rfl
@[simp] theorem State.putGate_standby (s : State) (k : Chamber) (e : Side) (g : Gate) : (s.putGate k e g).standby = s.standby := rfl
@[simp] theorem State.putGate_clock (s : State) (k : Chamber) (e : Side) (g : Gate) : (s.putGate k e g).clock = s.clock := rfl
@[simp] theorem State.putGate_journal (s : State) (k : Chamber) (e : Side) (g : Gate) : (s.putGate k e g).journal = s.journal := rfl
@[simp] theorem State.putGate_site (s : State) (k : Chamber) (e : Side) (g : Gate) : (s.putGate k e g).site = s.site := rfl
@[simp] theorem State.putGate_tallies (s : State) (k : Chamber) (e : Side) (g : Gate) : (s.putGate k e g).tallies = s.tallies := rfl
@[simp] theorem State.putGate_stations (s : State) (k : Chamber) (e : Side) (g : Gate) : (s.putGate k e g).stations = s.stations := rfl
@[simp] theorem State.putGate_conduct (s : State) (k : Chamber) (e : Side) (g : Gate) : (s.putGate k e g).conduct = s.conduct := rfl
@[simp] theorem State.putGate_capture (s : State) (k : Chamber) (e : Side) (g : Gate) : (s.putGate k e g).capture = s.capture := rfl
@[simp] theorem State.putGate_store (s : State) (k : Chamber) (e : Side) (g : Gate) : (s.putGate k e g).store = s.store := rfl
@[simp] theorem State.putGate_agenda (s : State) (k : Chamber) (e : Side) (g : Gate) : (s.putGate k e g).agenda = s.agenda := rfl
@[simp] theorem State.putGate_choices (s : State) (k : Chamber) (e : Side) (g : Gate) : (s.putGate k e g).choices = s.choices := rfl
@[simp] theorem State.putGate_pending (s : State) (k : Chamber) (e : Side) (g : Gate) : (s.putGate k e g).pending = s.pending := rfl

/-! ## putSluice -/
@[simp] theorem State.putSluice_now (s : State) (q : Sluice) (r : SluiceRec) : (s.putSluice q r).now = s.now := by cases q <;> rfl
@[simp] theorem State.putSluice_loaded (s : State) (q : Sluice) (r : SluiceRec) : (s.putSluice q r).loaded = s.loaded := by cases q <;> rfl
@[simp] theorem State.putSluice_settings (s : State) (q : Sluice) (r : SluiceRec) : (s.putSluice q r).settings = s.settings := by cases q <;> rfl
@[simp] theorem State.putSluice_levels (s : State) (q : Sluice) (r : SluiceRec) : (s.putSluice q r).levels = s.levels := by cases q <;> rfl
@[simp] theorem State.putSluice_chambers (s : State) (q : Sluice) (r : SluiceRec) : (s.putSluice q r).chambers = s.chambers := by cases q <;> rfl
@[simp] theorem State.putSluice_arbiter (s : State) (q : Sluice) (r : SluiceRec) : (s.putSluice q r).arbiter = s.arbiter := by cases q <;> rfl
@[simp] theorem State.putSluice_vessels (s : State) (q : Sluice) (r : SluiceRec) : (s.putSluice q r).vessels = s.vessels := by cases q <;> rfl
@[simp] theorem State.putSluice_book (s : State) (q : Sluice) (r : SluiceRec) : (s.putSluice q r).book = s.book := by cases q <;> rfl
@[simp] theorem State.putSluice_signals (s : State) (q : Sluice) (r : SluiceRec) : (s.putSluice q r).signals = s.signals := by cases q <;> rfl
@[simp] theorem State.putSluice_active (s : State) (q : Sluice) (r : SluiceRec) : (s.putSluice q r).active = s.active := by cases q <;> rfl
@[simp] theorem State.putSluice_standby (s : State) (q : Sluice) (r : SluiceRec) : (s.putSluice q r).standby = s.standby := by cases q <;> rfl
@[simp] theorem State.putSluice_clock (s : State) (q : Sluice) (r : SluiceRec) : (s.putSluice q r).clock = s.clock := by cases q <;> rfl
@[simp] theorem State.putSluice_journal (s : State) (q : Sluice) (r : SluiceRec) : (s.putSluice q r).journal = s.journal := by cases q <;> rfl
@[simp] theorem State.putSluice_site (s : State) (q : Sluice) (r : SluiceRec) : (s.putSluice q r).site = s.site := by cases q <;> rfl
@[simp] theorem State.putSluice_tallies (s : State) (q : Sluice) (r : SluiceRec) : (s.putSluice q r).tallies = s.tallies := by cases q <;> rfl
@[simp] theorem State.putSluice_stations (s : State) (q : Sluice) (r : SluiceRec) : (s.putSluice q r).stations = s.stations := by cases q <;> rfl
@[simp] theorem State.putSluice_conduct (s : State) (q : Sluice) (r : SluiceRec) : (s.putSluice q r).conduct = s.conduct := by cases q <;> rfl
@[simp] theorem State.putSluice_capture (s : State) (q : Sluice) (r : SluiceRec) : (s.putSluice q r).capture = s.capture := by cases q <;> rfl
@[simp] theorem State.putSluice_store (s : State) (q : Sluice) (r : SluiceRec) : (s.putSluice q r).store = s.store := by cases q <;> rfl
@[simp] theorem State.putSluice_agenda (s : State) (q : Sluice) (r : SluiceRec) : (s.putSluice q r).agenda = s.agenda := by cases q <;> rfl
@[simp] theorem State.putSluice_choices (s : State) (q : Sluice) (r : SluiceRec) : (s.putSluice q r).choices = s.choices := by cases q <;> rfl
@[simp] theorem State.putSluice_pending (s : State) (q : Sluice) (r : SluiceRec) : (s.putSluice q r).pending = s.pending := by cases q <;> rfl

/-! ## setOverflow -/
@[simp] theorem State.setOverflow_now (s : State) (k : Chamber) (x : Bool) : (s.setOverflow k x).now = s.now := rfl
@[simp] theorem State.setOverflow_loaded (s : State) (k : Chamber) (x : Bool) : (s.setOverflow k x).loaded = s.loaded := rfl
@[simp] theorem State.setOverflow_settings (s : State) (k : Chamber) (x : Bool) : (s.setOverflow k x).settings = s.settings := rfl
@[simp] theorem State.setOverflow_levels (s : State) (k : Chamber) (x : Bool) : (s.setOverflow k x).levels = s.levels := rfl
@[simp] theorem State.setOverflow_drive (s : State) (k : Chamber) (x : Bool) :
    (s.setOverflow k x).drive = { s.drive with overflow := s.drive.overflow.set k x } := rfl
@[simp] theorem State.setOverflow_chambers (s : State) (k : Chamber) (x : Bool) : (s.setOverflow k x).chambers = s.chambers := rfl
@[simp] theorem State.setOverflow_arbiter (s : State) (k : Chamber) (x : Bool) : (s.setOverflow k x).arbiter = s.arbiter := rfl
@[simp] theorem State.setOverflow_vessels (s : State) (k : Chamber) (x : Bool) : (s.setOverflow k x).vessels = s.vessels := rfl
@[simp] theorem State.setOverflow_book (s : State) (k : Chamber) (x : Bool) : (s.setOverflow k x).book = s.book := rfl
@[simp] theorem State.setOverflow_signals (s : State) (k : Chamber) (x : Bool) : (s.setOverflow k x).signals = s.signals := rfl
@[simp] theorem State.setOverflow_active (s : State) (k : Chamber) (x : Bool) : (s.setOverflow k x).active = s.active := rfl
@[simp] theorem State.setOverflow_standby (s : State) (k : Chamber) (x : Bool) : (s.setOverflow k x).standby = s.standby := rfl
@[simp] theorem State.setOverflow_clock (s : State) (k : Chamber) (x : Bool) : (s.setOverflow k x).clock = s.clock := rfl
@[simp] theorem State.setOverflow_journal (s : State) (k : Chamber) (x : Bool) : (s.setOverflow k x).journal = s.journal := rfl
@[simp] theorem State.setOverflow_site (s : State) (k : Chamber) (x : Bool) : (s.setOverflow k x).site = s.site := rfl
@[simp] theorem State.setOverflow_tallies (s : State) (k : Chamber) (x : Bool) : (s.setOverflow k x).tallies = s.tallies := rfl
@[simp] theorem State.setOverflow_stations (s : State) (k : Chamber) (x : Bool) : (s.setOverflow k x).stations = s.stations := rfl
@[simp] theorem State.setOverflow_conduct (s : State) (k : Chamber) (x : Bool) : (s.setOverflow k x).conduct = s.conduct := rfl
@[simp] theorem State.setOverflow_capture (s : State) (k : Chamber) (x : Bool) : (s.setOverflow k x).capture = s.capture := rfl
@[simp] theorem State.setOverflow_store (s : State) (k : Chamber) (x : Bool) : (s.setOverflow k x).store = s.store := rfl
@[simp] theorem State.setOverflow_agenda (s : State) (k : Chamber) (x : Bool) : (s.setOverflow k x).agenda = s.agenda := rfl
@[simp] theorem State.setOverflow_choices (s : State) (k : Chamber) (x : Bool) : (s.setOverflow k x).choices = s.choices := rfl
@[simp] theorem State.setOverflow_pending (s : State) (k : Chamber) (x : Bool) : (s.setOverflow k x).pending = s.pending := rfl

/-! ## send -/
@[simp] theorem State.send_now (s : State) (a : Actuator) (o : DriveOrder) : (s.send a o).now = s.now := rfl
@[simp] theorem State.send_loaded (s : State) (a : Actuator) (o : DriveOrder) : (s.send a o).loaded = s.loaded := rfl
@[simp] theorem State.send_settings (s : State) (a : Actuator) (o : DriveOrder) : (s.send a o).settings = s.settings := rfl
@[simp] theorem State.send_levels (s : State) (a : Actuator) (o : DriveOrder) : (s.send a o).levels = s.levels := rfl
@[simp] theorem State.send_drive (s : State) (a : Actuator) (o : DriveOrder) :
    (s.send a o).drive = { s.drive with sent := s.drive.sent ++ [⟨a, o, false⟩] } := rfl
@[simp] theorem State.send_chambers (s : State) (a : Actuator) (o : DriveOrder) : (s.send a o).chambers = s.chambers := rfl
@[simp] theorem State.send_arbiter (s : State) (a : Actuator) (o : DriveOrder) : (s.send a o).arbiter = s.arbiter := rfl
@[simp] theorem State.send_vessels (s : State) (a : Actuator) (o : DriveOrder) : (s.send a o).vessels = s.vessels := rfl
@[simp] theorem State.send_book (s : State) (a : Actuator) (o : DriveOrder) : (s.send a o).book = s.book := rfl
@[simp] theorem State.send_signals (s : State) (a : Actuator) (o : DriveOrder) : (s.send a o).signals = s.signals := rfl
@[simp] theorem State.send_active (s : State) (a : Actuator) (o : DriveOrder) : (s.send a o).active = s.active := rfl
@[simp] theorem State.send_standby (s : State) (a : Actuator) (o : DriveOrder) : (s.send a o).standby = s.standby := rfl
@[simp] theorem State.send_clock (s : State) (a : Actuator) (o : DriveOrder) : (s.send a o).clock = s.clock := rfl
@[simp] theorem State.send_journal (s : State) (a : Actuator) (o : DriveOrder) : (s.send a o).journal = s.journal := rfl
@[simp] theorem State.send_site (s : State) (a : Actuator) (o : DriveOrder) : (s.send a o).site = s.site := rfl
@[simp] theorem State.send_tallies (s : State) (a : Actuator) (o : DriveOrder) : (s.send a o).tallies = s.tallies := rfl
@[simp] theorem State.send_stations (s : State) (a : Actuator) (o : DriveOrder) : (s.send a o).stations = s.stations := rfl
@[simp] theorem State.send_conduct (s : State) (a : Actuator) (o : DriveOrder) : (s.send a o).conduct = s.conduct := rfl
@[simp] theorem State.send_capture (s : State) (a : Actuator) (o : DriveOrder) : (s.send a o).capture = s.capture := rfl
@[simp] theorem State.send_store (s : State) (a : Actuator) (o : DriveOrder) : (s.send a o).store = s.store := rfl
@[simp] theorem State.send_agenda (s : State) (a : Actuator) (o : DriveOrder) : (s.send a o).agenda = s.agenda := rfl
@[simp] theorem State.send_choices (s : State) (a : Actuator) (o : DriveOrder) : (s.send a o).choices = s.choices := rfl
@[simp] theorem State.send_pending (s : State) (a : Actuator) (o : DriveOrder) : (s.send a o).pending = s.pending := rfl

/-! ## setChamber -/
@[simp] theorem State.setChamber_now (s : State) (k : Chamber) (c : Sequencer) : (s.setChamber k c).now = s.now := rfl
@[simp] theorem State.setChamber_loaded (s : State) (k : Chamber) (c : Sequencer) : (s.setChamber k c).loaded = s.loaded := rfl
@[simp] theorem State.setChamber_settings (s : State) (k : Chamber) (c : Sequencer) : (s.setChamber k c).settings = s.settings := rfl
@[simp] theorem State.setChamber_levels (s : State) (k : Chamber) (c : Sequencer) : (s.setChamber k c).levels = s.levels := rfl
@[simp] theorem State.setChamber_drive (s : State) (k : Chamber) (c : Sequencer) : (s.setChamber k c).drive = s.drive := rfl
@[simp] theorem State.setChamber_chambers (s : State) (k : Chamber) (c : Sequencer) :
    (s.setChamber k c).chambers = s.chambers.set k c := rfl
@[simp] theorem State.setChamber_arbiter (s : State) (k : Chamber) (c : Sequencer) : (s.setChamber k c).arbiter = s.arbiter := rfl
@[simp] theorem State.setChamber_vessels (s : State) (k : Chamber) (c : Sequencer) : (s.setChamber k c).vessels = s.vessels := rfl
@[simp] theorem State.setChamber_book (s : State) (k : Chamber) (c : Sequencer) : (s.setChamber k c).book = s.book := rfl
@[simp] theorem State.setChamber_signals (s : State) (k : Chamber) (c : Sequencer) : (s.setChamber k c).signals = s.signals := rfl
@[simp] theorem State.setChamber_active (s : State) (k : Chamber) (c : Sequencer) : (s.setChamber k c).active = s.active := rfl
@[simp] theorem State.setChamber_standby (s : State) (k : Chamber) (c : Sequencer) : (s.setChamber k c).standby = s.standby := rfl
@[simp] theorem State.setChamber_clock (s : State) (k : Chamber) (c : Sequencer) : (s.setChamber k c).clock = s.clock := rfl
@[simp] theorem State.setChamber_journal (s : State) (k : Chamber) (c : Sequencer) : (s.setChamber k c).journal = s.journal := rfl
@[simp] theorem State.setChamber_site (s : State) (k : Chamber) (c : Sequencer) : (s.setChamber k c).site = s.site := rfl
@[simp] theorem State.setChamber_tallies (s : State) (k : Chamber) (c : Sequencer) : (s.setChamber k c).tallies = s.tallies := rfl
@[simp] theorem State.setChamber_stations (s : State) (k : Chamber) (c : Sequencer) : (s.setChamber k c).stations = s.stations := rfl
@[simp] theorem State.setChamber_conduct (s : State) (k : Chamber) (c : Sequencer) : (s.setChamber k c).conduct = s.conduct := rfl
@[simp] theorem State.setChamber_capture (s : State) (k : Chamber) (c : Sequencer) : (s.setChamber k c).capture = s.capture := rfl
@[simp] theorem State.setChamber_store (s : State) (k : Chamber) (c : Sequencer) : (s.setChamber k c).store = s.store := rfl
@[simp] theorem State.setChamber_agenda (s : State) (k : Chamber) (c : Sequencer) : (s.setChamber k c).agenda = s.agenda := rfl
@[simp] theorem State.setChamber_choices (s : State) (k : Chamber) (c : Sequencer) : (s.setChamber k c).choices = s.choices := rfl
@[simp] theorem State.setChamber_pending (s : State) (k : Chamber) (c : Sequencer) : (s.setChamber k c).pending = s.pending := rfl

/-! ## setWish -/
@[simp] theorem State.setWish_now (s : State) (k : Chamber) (w : Option Wish) : (s.setWish k w).now = s.now := rfl
@[simp] theorem State.setWish_loaded (s : State) (k : Chamber) (w : Option Wish) : (s.setWish k w).loaded = s.loaded := rfl
@[simp] theorem State.setWish_settings (s : State) (k : Chamber) (w : Option Wish) : (s.setWish k w).settings = s.settings := rfl
@[simp] theorem State.setWish_levels (s : State) (k : Chamber) (w : Option Wish) : (s.setWish k w).levels = s.levels := rfl
@[simp] theorem State.setWish_drive (s : State) (k : Chamber) (w : Option Wish) : (s.setWish k w).drive = s.drive := rfl
@[simp] theorem State.setWish_chambers (s : State) (k : Chamber) (w : Option Wish) : (s.setWish k w).chambers = s.chambers := rfl
@[simp] theorem State.setWish_arbiter (s : State) (k : Chamber) (w : Option Wish) :
    (s.setWish k w).arbiter = { s.arbiter with wishes := s.arbiter.wishes.set k w } := rfl
@[simp] theorem State.setWish_vessels (s : State) (k : Chamber) (w : Option Wish) : (s.setWish k w).vessels = s.vessels := rfl
@[simp] theorem State.setWish_book (s : State) (k : Chamber) (w : Option Wish) : (s.setWish k w).book = s.book := rfl
@[simp] theorem State.setWish_signals (s : State) (k : Chamber) (w : Option Wish) : (s.setWish k w).signals = s.signals := rfl
@[simp] theorem State.setWish_active (s : State) (k : Chamber) (w : Option Wish) : (s.setWish k w).active = s.active := rfl
@[simp] theorem State.setWish_standby (s : State) (k : Chamber) (w : Option Wish) : (s.setWish k w).standby = s.standby := rfl
@[simp] theorem State.setWish_clock (s : State) (k : Chamber) (w : Option Wish) : (s.setWish k w).clock = s.clock := rfl
@[simp] theorem State.setWish_journal (s : State) (k : Chamber) (w : Option Wish) : (s.setWish k w).journal = s.journal := rfl
@[simp] theorem State.setWish_site (s : State) (k : Chamber) (w : Option Wish) : (s.setWish k w).site = s.site := rfl
@[simp] theorem State.setWish_tallies (s : State) (k : Chamber) (w : Option Wish) : (s.setWish k w).tallies = s.tallies := rfl
@[simp] theorem State.setWish_stations (s : State) (k : Chamber) (w : Option Wish) : (s.setWish k w).stations = s.stations := rfl
@[simp] theorem State.setWish_conduct (s : State) (k : Chamber) (w : Option Wish) : (s.setWish k w).conduct = s.conduct := rfl
@[simp] theorem State.setWish_capture (s : State) (k : Chamber) (w : Option Wish) : (s.setWish k w).capture = s.capture := rfl
@[simp] theorem State.setWish_store (s : State) (k : Chamber) (w : Option Wish) : (s.setWish k w).store = s.store := rfl
@[simp] theorem State.setWish_agenda (s : State) (k : Chamber) (w : Option Wish) : (s.setWish k w).agenda = s.agenda := rfl
@[simp] theorem State.setWish_choices (s : State) (k : Chamber) (w : Option Wish) : (s.setWish k w).choices = s.choices := rfl
@[simp] theorem State.setWish_pending (s : State) (k : Chamber) (w : Option Wish) : (s.setWish k w).pending = s.pending := rfl

/-! ## setVessel -/
@[simp] theorem State.setVessel_now (s : State) (i : Nat) (v : Vessel) : (s.setVessel i v).now = s.now := rfl
@[simp] theorem State.setVessel_loaded (s : State) (i : Nat) (v : Vessel) : (s.setVessel i v).loaded = s.loaded := rfl
@[simp] theorem State.setVessel_settings (s : State) (i : Nat) (v : Vessel) : (s.setVessel i v).settings = s.settings := rfl
@[simp] theorem State.setVessel_levels (s : State) (i : Nat) (v : Vessel) : (s.setVessel i v).levels = s.levels := rfl
@[simp] theorem State.setVessel_drive (s : State) (i : Nat) (v : Vessel) : (s.setVessel i v).drive = s.drive := rfl
@[simp] theorem State.setVessel_chambers (s : State) (i : Nat) (v : Vessel) : (s.setVessel i v).chambers = s.chambers := rfl
@[simp] theorem State.setVessel_arbiter (s : State) (i : Nat) (v : Vessel) : (s.setVessel i v).arbiter = s.arbiter := rfl
@[simp] theorem State.setVessel_vessels (s : State) (i : Nat) (v : Vessel) :
    (s.setVessel i v).vessels = s.vessels.setIfInBounds i v := rfl
@[simp] theorem State.setVessel_book (s : State) (i : Nat) (v : Vessel) : (s.setVessel i v).book = s.book := rfl
@[simp] theorem State.setVessel_signals (s : State) (i : Nat) (v : Vessel) : (s.setVessel i v).signals = s.signals := rfl
@[simp] theorem State.setVessel_active (s : State) (i : Nat) (v : Vessel) : (s.setVessel i v).active = s.active := rfl
@[simp] theorem State.setVessel_standby (s : State) (i : Nat) (v : Vessel) : (s.setVessel i v).standby = s.standby := rfl
@[simp] theorem State.setVessel_clock (s : State) (i : Nat) (v : Vessel) : (s.setVessel i v).clock = s.clock := rfl
@[simp] theorem State.setVessel_journal (s : State) (i : Nat) (v : Vessel) : (s.setVessel i v).journal = s.journal := rfl
@[simp] theorem State.setVessel_site (s : State) (i : Nat) (v : Vessel) : (s.setVessel i v).site = s.site := rfl
@[simp] theorem State.setVessel_tallies (s : State) (i : Nat) (v : Vessel) : (s.setVessel i v).tallies = s.tallies := rfl
@[simp] theorem State.setVessel_stations (s : State) (i : Nat) (v : Vessel) : (s.setVessel i v).stations = s.stations := rfl
@[simp] theorem State.setVessel_conduct (s : State) (i : Nat) (v : Vessel) : (s.setVessel i v).conduct = s.conduct := rfl
@[simp] theorem State.setVessel_capture (s : State) (i : Nat) (v : Vessel) : (s.setVessel i v).capture = s.capture := rfl
@[simp] theorem State.setVessel_store (s : State) (i : Nat) (v : Vessel) : (s.setVessel i v).store = s.store := rfl
@[simp] theorem State.setVessel_agenda (s : State) (i : Nat) (v : Vessel) : (s.setVessel i v).agenda = s.agenda := rfl
@[simp] theorem State.setVessel_choices (s : State) (i : Nat) (v : Vessel) : (s.setVessel i v).choices = s.choices := rfl
@[simp] theorem State.setVessel_pending (s : State) (i : Nat) (v : Vessel) : (s.setVessel i v).pending = s.pending := rfl

/-! ## setBatch -/
@[simp] theorem State.setBatch_now (s : State) (k : Chamber) (b : Option Batch) : (s.setBatch k b).now = s.now := rfl
@[simp] theorem State.setBatch_loaded (s : State) (k : Chamber) (b : Option Batch) : (s.setBatch k b).loaded = s.loaded := rfl
@[simp] theorem State.setBatch_settings (s : State) (k : Chamber) (b : Option Batch) : (s.setBatch k b).settings = s.settings := rfl
@[simp] theorem State.setBatch_levels (s : State) (k : Chamber) (b : Option Batch) : (s.setBatch k b).levels = s.levels := rfl
@[simp] theorem State.setBatch_drive (s : State) (k : Chamber) (b : Option Batch) : (s.setBatch k b).drive = s.drive := rfl
@[simp] theorem State.setBatch_chambers (s : State) (k : Chamber) (b : Option Batch) : (s.setBatch k b).chambers = s.chambers := rfl
@[simp] theorem State.setBatch_arbiter (s : State) (k : Chamber) (b : Option Batch) : (s.setBatch k b).arbiter = s.arbiter := rfl
@[simp] theorem State.setBatch_vessels (s : State) (k : Chamber) (b : Option Batch) : (s.setBatch k b).vessels = s.vessels := rfl
@[simp] theorem State.setBatch_book (s : State) (k : Chamber) (b : Option Batch) :
    (s.setBatch k b).book = { s.book with batches := s.book.batches.set k b } := rfl
@[simp] theorem State.setBatch_signals (s : State) (k : Chamber) (b : Option Batch) : (s.setBatch k b).signals = s.signals := rfl
@[simp] theorem State.setBatch_active (s : State) (k : Chamber) (b : Option Batch) : (s.setBatch k b).active = s.active := rfl
@[simp] theorem State.setBatch_standby (s : State) (k : Chamber) (b : Option Batch) : (s.setBatch k b).standby = s.standby := rfl
@[simp] theorem State.setBatch_clock (s : State) (k : Chamber) (b : Option Batch) : (s.setBatch k b).clock = s.clock := rfl
@[simp] theorem State.setBatch_journal (s : State) (k : Chamber) (b : Option Batch) : (s.setBatch k b).journal = s.journal := rfl
@[simp] theorem State.setBatch_site (s : State) (k : Chamber) (b : Option Batch) : (s.setBatch k b).site = s.site := rfl
@[simp] theorem State.setBatch_tallies (s : State) (k : Chamber) (b : Option Batch) : (s.setBatch k b).tallies = s.tallies := rfl
@[simp] theorem State.setBatch_stations (s : State) (k : Chamber) (b : Option Batch) : (s.setBatch k b).stations = s.stations := rfl
@[simp] theorem State.setBatch_conduct (s : State) (k : Chamber) (b : Option Batch) : (s.setBatch k b).conduct = s.conduct := rfl
@[simp] theorem State.setBatch_capture (s : State) (k : Chamber) (b : Option Batch) : (s.setBatch k b).capture = s.capture := rfl
@[simp] theorem State.setBatch_store (s : State) (k : Chamber) (b : Option Batch) : (s.setBatch k b).store = s.store := rfl
@[simp] theorem State.setBatch_agenda (s : State) (k : Chamber) (b : Option Batch) : (s.setBatch k b).agenda = s.agenda := rfl
@[simp] theorem State.setBatch_choices (s : State) (k : Chamber) (b : Option Batch) : (s.setBatch k b).choices = s.choices := rfl
@[simp] theorem State.setBatch_pending (s : State) (k : Chamber) (b : Option Batch) : (s.setBatch k b).pending = s.pending := rfl

/-! ## changeOrder -/
@[simp] theorem State.changeOrder_now (s : State) (n : Nat) (f : Order → Order) : (s.changeOrder n f).now = s.now := rfl
@[simp] theorem State.changeOrder_loaded (s : State) (n : Nat) (f : Order → Order) : (s.changeOrder n f).loaded = s.loaded := rfl
@[simp] theorem State.changeOrder_settings (s : State) (n : Nat) (f : Order → Order) : (s.changeOrder n f).settings = s.settings := rfl
@[simp] theorem State.changeOrder_levels (s : State) (n : Nat) (f : Order → Order) : (s.changeOrder n f).levels = s.levels := rfl
@[simp] theorem State.changeOrder_drive (s : State) (n : Nat) (f : Order → Order) : (s.changeOrder n f).drive = s.drive := rfl
@[simp] theorem State.changeOrder_chambers (s : State) (n : Nat) (f : Order → Order) : (s.changeOrder n f).chambers = s.chambers := rfl
@[simp] theorem State.changeOrder_arbiter (s : State) (n : Nat) (f : Order → Order) : (s.changeOrder n f).arbiter = s.arbiter := rfl
@[simp] theorem State.changeOrder_vessels (s : State) (n : Nat) (f : Order → Order) : (s.changeOrder n f).vessels = s.vessels := rfl
@[simp] theorem State.changeOrder_book (s : State) (n : Nat) (f : Order → Order) :
    (s.changeOrder n f).book = s.book.mapLists (changeIn n f) := rfl
@[simp] theorem State.changeOrder_signals (s : State) (n : Nat) (f : Order → Order) : (s.changeOrder n f).signals = s.signals := rfl
@[simp] theorem State.changeOrder_active (s : State) (n : Nat) (f : Order → Order) : (s.changeOrder n f).active = s.active := rfl
@[simp] theorem State.changeOrder_standby (s : State) (n : Nat) (f : Order → Order) : (s.changeOrder n f).standby = s.standby := rfl
@[simp] theorem State.changeOrder_clock (s : State) (n : Nat) (f : Order → Order) : (s.changeOrder n f).clock = s.clock := rfl
@[simp] theorem State.changeOrder_journal (s : State) (n : Nat) (f : Order → Order) : (s.changeOrder n f).journal = s.journal := rfl
@[simp] theorem State.changeOrder_site (s : State) (n : Nat) (f : Order → Order) : (s.changeOrder n f).site = s.site := rfl
@[simp] theorem State.changeOrder_tallies (s : State) (n : Nat) (f : Order → Order) : (s.changeOrder n f).tallies = s.tallies := rfl
@[simp] theorem State.changeOrder_stations (s : State) (n : Nat) (f : Order → Order) : (s.changeOrder n f).stations = s.stations := rfl
@[simp] theorem State.changeOrder_conduct (s : State) (n : Nat) (f : Order → Order) : (s.changeOrder n f).conduct = s.conduct := rfl
@[simp] theorem State.changeOrder_capture (s : State) (n : Nat) (f : Order → Order) : (s.changeOrder n f).capture = s.capture := rfl
@[simp] theorem State.changeOrder_store (s : State) (n : Nat) (f : Order → Order) : (s.changeOrder n f).store = s.store := rfl
@[simp] theorem State.changeOrder_agenda (s : State) (n : Nat) (f : Order → Order) : (s.changeOrder n f).agenda = s.agenda := rfl
@[simp] theorem State.changeOrder_choices (s : State) (n : Nat) (f : Order → Order) : (s.changeOrder n f).choices = s.choices := rfl
@[simp] theorem State.changeOrder_pending (s : State) (n : Nat) (f : Order → Order) : (s.changeOrder n f).pending = s.pending := rfl

/-! ## setLamp -/
@[simp] theorem State.setLamp_now (s : State) (l : LampId) (x : Lamp) : (s.setLamp l x).now = s.now := rfl
@[simp] theorem State.setLamp_loaded (s : State) (l : LampId) (x : Lamp) : (s.setLamp l x).loaded = s.loaded := rfl
@[simp] theorem State.setLamp_settings (s : State) (l : LampId) (x : Lamp) : (s.setLamp l x).settings = s.settings := rfl
@[simp] theorem State.setLamp_levels (s : State) (l : LampId) (x : Lamp) : (s.setLamp l x).levels = s.levels := rfl
@[simp] theorem State.setLamp_drive (s : State) (l : LampId) (x : Lamp) : (s.setLamp l x).drive = s.drive := rfl
@[simp] theorem State.setLamp_chambers (s : State) (l : LampId) (x : Lamp) : (s.setLamp l x).chambers = s.chambers := rfl
@[simp] theorem State.setLamp_arbiter (s : State) (l : LampId) (x : Lamp) : (s.setLamp l x).arbiter = s.arbiter := rfl
@[simp] theorem State.setLamp_vessels (s : State) (l : LampId) (x : Lamp) : (s.setLamp l x).vessels = s.vessels := rfl
@[simp] theorem State.setLamp_book (s : State) (l : LampId) (x : Lamp) : (s.setLamp l x).book = s.book := rfl
@[simp] theorem State.setLamp_active (s : State) (l : LampId) (x : Lamp) : (s.setLamp l x).active = s.active := rfl
@[simp] theorem State.setLamp_standby (s : State) (l : LampId) (x : Lamp) : (s.setLamp l x).standby = s.standby := rfl
@[simp] theorem State.setLamp_clock (s : State) (l : LampId) (x : Lamp) : (s.setLamp l x).clock = s.clock := rfl
@[simp] theorem State.setLamp_journal (s : State) (l : LampId) (x : Lamp) : (s.setLamp l x).journal = s.journal := rfl
@[simp] theorem State.setLamp_site (s : State) (l : LampId) (x : Lamp) : (s.setLamp l x).site = s.site := rfl
@[simp] theorem State.setLamp_tallies (s : State) (l : LampId) (x : Lamp) : (s.setLamp l x).tallies = s.tallies := rfl
@[simp] theorem State.setLamp_stations (s : State) (l : LampId) (x : Lamp) : (s.setLamp l x).stations = s.stations := rfl
@[simp] theorem State.setLamp_conduct (s : State) (l : LampId) (x : Lamp) : (s.setLamp l x).conduct = s.conduct := rfl
@[simp] theorem State.setLamp_capture (s : State) (l : LampId) (x : Lamp) : (s.setLamp l x).capture = s.capture := rfl
@[simp] theorem State.setLamp_store (s : State) (l : LampId) (x : Lamp) : (s.setLamp l x).store = s.store := rfl
@[simp] theorem State.setLamp_agenda (s : State) (l : LampId) (x : Lamp) : (s.setLamp l x).agenda = s.agenda := rfl
@[simp] theorem State.setLamp_choices (s : State) (l : LampId) (x : Lamp) : (s.setLamp l x).choices = s.choices := rfl
@[simp] theorem State.setLamp_pending (s : State) (l : LampId) (x : Lamp) : (s.setLamp l x).pending = s.pending := rfl

/-! ## mapChamberLamps -/
@[simp] theorem State.mapChamberLamps_now (s : State) (k : Chamber) (f : Lamp → Lamp) : (s.mapChamberLamps k f).now = s.now := rfl
@[simp] theorem State.mapChamberLamps_loaded (s : State) (k : Chamber) (f : Lamp → Lamp) : (s.mapChamberLamps k f).loaded = s.loaded := rfl
@[simp] theorem State.mapChamberLamps_settings (s : State) (k : Chamber) (f : Lamp → Lamp) : (s.mapChamberLamps k f).settings = s.settings := rfl
@[simp] theorem State.mapChamberLamps_levels (s : State) (k : Chamber) (f : Lamp → Lamp) : (s.mapChamberLamps k f).levels = s.levels := rfl
@[simp] theorem State.mapChamberLamps_drive (s : State) (k : Chamber) (f : Lamp → Lamp) : (s.mapChamberLamps k f).drive = s.drive := rfl
@[simp] theorem State.mapChamberLamps_chambers (s : State) (k : Chamber) (f : Lamp → Lamp) : (s.mapChamberLamps k f).chambers = s.chambers := rfl
@[simp] theorem State.mapChamberLamps_arbiter (s : State) (k : Chamber) (f : Lamp → Lamp) : (s.mapChamberLamps k f).arbiter = s.arbiter := rfl
@[simp] theorem State.mapChamberLamps_vessels (s : State) (k : Chamber) (f : Lamp → Lamp) : (s.mapChamberLamps k f).vessels = s.vessels := rfl
@[simp] theorem State.mapChamberLamps_book (s : State) (k : Chamber) (f : Lamp → Lamp) : (s.mapChamberLamps k f).book = s.book := rfl
@[simp] theorem State.mapChamberLamps_active (s : State) (k : Chamber) (f : Lamp → Lamp) : (s.mapChamberLamps k f).active = s.active := rfl
@[simp] theorem State.mapChamberLamps_standby (s : State) (k : Chamber) (f : Lamp → Lamp) : (s.mapChamberLamps k f).standby = s.standby := rfl
@[simp] theorem State.mapChamberLamps_clock (s : State) (k : Chamber) (f : Lamp → Lamp) : (s.mapChamberLamps k f).clock = s.clock := rfl
@[simp] theorem State.mapChamberLamps_journal (s : State) (k : Chamber) (f : Lamp → Lamp) : (s.mapChamberLamps k f).journal = s.journal := rfl
@[simp] theorem State.mapChamberLamps_site (s : State) (k : Chamber) (f : Lamp → Lamp) : (s.mapChamberLamps k f).site = s.site := rfl
@[simp] theorem State.mapChamberLamps_tallies (s : State) (k : Chamber) (f : Lamp → Lamp) : (s.mapChamberLamps k f).tallies = s.tallies := rfl
@[simp] theorem State.mapChamberLamps_stations (s : State) (k : Chamber) (f : Lamp → Lamp) : (s.mapChamberLamps k f).stations = s.stations := rfl
@[simp] theorem State.mapChamberLamps_conduct (s : State) (k : Chamber) (f : Lamp → Lamp) : (s.mapChamberLamps k f).conduct = s.conduct := rfl
@[simp] theorem State.mapChamberLamps_capture (s : State) (k : Chamber) (f : Lamp → Lamp) : (s.mapChamberLamps k f).capture = s.capture := rfl
@[simp] theorem State.mapChamberLamps_store (s : State) (k : Chamber) (f : Lamp → Lamp) : (s.mapChamberLamps k f).store = s.store := rfl
@[simp] theorem State.mapChamberLamps_agenda (s : State) (k : Chamber) (f : Lamp → Lamp) : (s.mapChamberLamps k f).agenda = s.agenda := rfl
@[simp] theorem State.mapChamberLamps_choices (s : State) (k : Chamber) (f : Lamp → Lamp) : (s.mapChamberLamps k f).choices = s.choices := rfl
@[simp] theorem State.mapChamberLamps_pending (s : State) (k : Chamber) (f : Lamp → Lamp) : (s.mapChamberLamps k f).pending = s.pending := rfl

/-! ## setTest -/
@[simp] theorem State.setTest_now (s : State) (k : Chamber) (t : Option Nat) : (s.setTest k t).now = s.now := rfl
@[simp] theorem State.setTest_loaded (s : State) (k : Chamber) (t : Option Nat) : (s.setTest k t).loaded = s.loaded := rfl
@[simp] theorem State.setTest_settings (s : State) (k : Chamber) (t : Option Nat) : (s.setTest k t).settings = s.settings := rfl
@[simp] theorem State.setTest_levels (s : State) (k : Chamber) (t : Option Nat) : (s.setTest k t).levels = s.levels := rfl
@[simp] theorem State.setTest_drive (s : State) (k : Chamber) (t : Option Nat) : (s.setTest k t).drive = s.drive := rfl
@[simp] theorem State.setTest_chambers (s : State) (k : Chamber) (t : Option Nat) : (s.setTest k t).chambers = s.chambers := rfl
@[simp] theorem State.setTest_arbiter (s : State) (k : Chamber) (t : Option Nat) : (s.setTest k t).arbiter = s.arbiter := rfl
@[simp] theorem State.setTest_vessels (s : State) (k : Chamber) (t : Option Nat) : (s.setTest k t).vessels = s.vessels := rfl
@[simp] theorem State.setTest_book (s : State) (k : Chamber) (t : Option Nat) : (s.setTest k t).book = s.book := rfl
@[simp] theorem State.setTest_signals (s : State) (k : Chamber) (t : Option Nat) :
    (s.setTest k t).signals = { s.signals with tests := s.signals.tests.set k t } := rfl
@[simp] theorem State.setTest_active (s : State) (k : Chamber) (t : Option Nat) : (s.setTest k t).active = s.active := rfl
@[simp] theorem State.setTest_standby (s : State) (k : Chamber) (t : Option Nat) : (s.setTest k t).standby = s.standby := rfl
@[simp] theorem State.setTest_clock (s : State) (k : Chamber) (t : Option Nat) : (s.setTest k t).clock = s.clock := rfl
@[simp] theorem State.setTest_journal (s : State) (k : Chamber) (t : Option Nat) : (s.setTest k t).journal = s.journal := rfl
@[simp] theorem State.setTest_site (s : State) (k : Chamber) (t : Option Nat) : (s.setTest k t).site = s.site := rfl
@[simp] theorem State.setTest_tallies (s : State) (k : Chamber) (t : Option Nat) : (s.setTest k t).tallies = s.tallies := rfl
@[simp] theorem State.setTest_stations (s : State) (k : Chamber) (t : Option Nat) : (s.setTest k t).stations = s.stations := rfl
@[simp] theorem State.setTest_conduct (s : State) (k : Chamber) (t : Option Nat) : (s.setTest k t).conduct = s.conduct := rfl
@[simp] theorem State.setTest_capture (s : State) (k : Chamber) (t : Option Nat) : (s.setTest k t).capture = s.capture := rfl
@[simp] theorem State.setTest_store (s : State) (k : Chamber) (t : Option Nat) : (s.setTest k t).store = s.store := rfl
@[simp] theorem State.setTest_agenda (s : State) (k : Chamber) (t : Option Nat) : (s.setTest k t).agenda = s.agenda := rfl
@[simp] theorem State.setTest_choices (s : State) (k : Chamber) (t : Option Nat) : (s.setTest k t).choices = s.choices := rfl
@[simp] theorem State.setTest_pending (s : State) (k : Chamber) (t : Option Nat) : (s.setTest k t).pending = s.pending := rfl

/-! ## setGenerator -/
@[simp] theorem State.setGenerator_now (s : State) (g : Generator) (x : FlashGen) : (s.setGenerator g x).now = s.now := by cases g <;> rfl
@[simp] theorem State.setGenerator_loaded (s : State) (g : Generator) (x : FlashGen) : (s.setGenerator g x).loaded = s.loaded := by cases g <;> rfl
@[simp] theorem State.setGenerator_settings (s : State) (g : Generator) (x : FlashGen) : (s.setGenerator g x).settings = s.settings := by cases g <;> rfl
@[simp] theorem State.setGenerator_levels (s : State) (g : Generator) (x : FlashGen) : (s.setGenerator g x).levels = s.levels := by cases g <;> rfl
@[simp] theorem State.setGenerator_drive (s : State) (g : Generator) (x : FlashGen) : (s.setGenerator g x).drive = s.drive := by cases g <;> rfl
@[simp] theorem State.setGenerator_chambers (s : State) (g : Generator) (x : FlashGen) : (s.setGenerator g x).chambers = s.chambers := by cases g <;> rfl
@[simp] theorem State.setGenerator_arbiter (s : State) (g : Generator) (x : FlashGen) : (s.setGenerator g x).arbiter = s.arbiter := by cases g <;> rfl
@[simp] theorem State.setGenerator_vessels (s : State) (g : Generator) (x : FlashGen) : (s.setGenerator g x).vessels = s.vessels := by cases g <;> rfl
@[simp] theorem State.setGenerator_book (s : State) (g : Generator) (x : FlashGen) : (s.setGenerator g x).book = s.book := by cases g <;> rfl
@[simp] theorem State.setGenerator_active (s : State) (g : Generator) (x : FlashGen) : (s.setGenerator g x).active = s.active := by cases g <;> rfl
@[simp] theorem State.setGenerator_standby (s : State) (g : Generator) (x : FlashGen) : (s.setGenerator g x).standby = s.standby := by cases g <;> rfl
@[simp] theorem State.setGenerator_clock (s : State) (g : Generator) (x : FlashGen) : (s.setGenerator g x).clock = s.clock := by cases g <;> rfl
@[simp] theorem State.setGenerator_journal (s : State) (g : Generator) (x : FlashGen) : (s.setGenerator g x).journal = s.journal := by cases g <;> rfl
@[simp] theorem State.setGenerator_site (s : State) (g : Generator) (x : FlashGen) : (s.setGenerator g x).site = s.site := by cases g <;> rfl
@[simp] theorem State.setGenerator_tallies (s : State) (g : Generator) (x : FlashGen) : (s.setGenerator g x).tallies = s.tallies := by cases g <;> rfl
@[simp] theorem State.setGenerator_stations (s : State) (g : Generator) (x : FlashGen) : (s.setGenerator g x).stations = s.stations := by cases g <;> rfl
@[simp] theorem State.setGenerator_conduct (s : State) (g : Generator) (x : FlashGen) : (s.setGenerator g x).conduct = s.conduct := by cases g <;> rfl
@[simp] theorem State.setGenerator_capture (s : State) (g : Generator) (x : FlashGen) : (s.setGenerator g x).capture = s.capture := by cases g <;> rfl
@[simp] theorem State.setGenerator_store (s : State) (g : Generator) (x : FlashGen) : (s.setGenerator g x).store = s.store := by cases g <;> rfl
@[simp] theorem State.setGenerator_agenda (s : State) (g : Generator) (x : FlashGen) : (s.setGenerator g x).agenda = s.agenda := by cases g <;> rfl
@[simp] theorem State.setGenerator_choices (s : State) (g : Generator) (x : FlashGen) : (s.setGenerator g x).choices = s.choices := by cases g <;> rfl
@[simp] theorem State.setGenerator_pending (s : State) (g : Generator) (x : FlashGen) : (s.setGenerator g x).pending = s.pending := by cases g <;> rfl

/-! ## setSubscriber -/
@[simp] theorem State.setSubscriber_now (s : State) (st : Station) (b : Option Subscriber) : (s.setSubscriber st b).now = s.now := rfl
@[simp] theorem State.setSubscriber_loaded (s : State) (st : Station) (b : Option Subscriber) : (s.setSubscriber st b).loaded = s.loaded := rfl
@[simp] theorem State.setSubscriber_settings (s : State) (st : Station) (b : Option Subscriber) : (s.setSubscriber st b).settings = s.settings := rfl
@[simp] theorem State.setSubscriber_levels (s : State) (st : Station) (b : Option Subscriber) : (s.setSubscriber st b).levels = s.levels := rfl
@[simp] theorem State.setSubscriber_drive (s : State) (st : Station) (b : Option Subscriber) : (s.setSubscriber st b).drive = s.drive := rfl
@[simp] theorem State.setSubscriber_chambers (s : State) (st : Station) (b : Option Subscriber) : (s.setSubscriber st b).chambers = s.chambers := rfl
@[simp] theorem State.setSubscriber_arbiter (s : State) (st : Station) (b : Option Subscriber) : (s.setSubscriber st b).arbiter = s.arbiter := rfl
@[simp] theorem State.setSubscriber_vessels (s : State) (st : Station) (b : Option Subscriber) : (s.setSubscriber st b).vessels = s.vessels := rfl
@[simp] theorem State.setSubscriber_book (s : State) (st : Station) (b : Option Subscriber) : (s.setSubscriber st b).book = s.book := rfl
@[simp] theorem State.setSubscriber_signals (s : State) (st : Station) (b : Option Subscriber) : (s.setSubscriber st b).signals = s.signals := rfl
@[simp] theorem State.setSubscriber_active (s : State) (st : Station) (b : Option Subscriber) : (s.setSubscriber st b).active = s.active := rfl
@[simp] theorem State.setSubscriber_standby (s : State) (st : Station) (b : Option Subscriber) : (s.setSubscriber st b).standby = s.standby := rfl
@[simp] theorem State.setSubscriber_clock (s : State) (st : Station) (b : Option Subscriber) : (s.setSubscriber st b).clock = s.clock := rfl
@[simp] theorem State.setSubscriber_journal (s : State) (st : Station) (b : Option Subscriber) :
    (s.setSubscriber st b).journal = { s.journal with subscribers := s.journal.subscribers.set st b } := rfl
@[simp] theorem State.setSubscriber_site (s : State) (st : Station) (b : Option Subscriber) : (s.setSubscriber st b).site = s.site := rfl
@[simp] theorem State.setSubscriber_tallies (s : State) (st : Station) (b : Option Subscriber) : (s.setSubscriber st b).tallies = s.tallies := rfl
@[simp] theorem State.setSubscriber_stations (s : State) (st : Station) (b : Option Subscriber) : (s.setSubscriber st b).stations = s.stations := rfl
@[simp] theorem State.setSubscriber_conduct (s : State) (st : Station) (b : Option Subscriber) : (s.setSubscriber st b).conduct = s.conduct := rfl
@[simp] theorem State.setSubscriber_capture (s : State) (st : Station) (b : Option Subscriber) : (s.setSubscriber st b).capture = s.capture := rfl
@[simp] theorem State.setSubscriber_store (s : State) (st : Station) (b : Option Subscriber) : (s.setSubscriber st b).store = s.store := rfl
@[simp] theorem State.setSubscriber_agenda (s : State) (st : Station) (b : Option Subscriber) : (s.setSubscriber st b).agenda = s.agenda := rfl
@[simp] theorem State.setSubscriber_choices (s : State) (st : Station) (b : Option Subscriber) : (s.setSubscriber st b).choices = s.choices := rfl
@[simp] theorem State.setSubscriber_pending (s : State) (st : Station) (b : Option Subscriber) : (s.setSubscriber st b).pending = s.pending := rfl

/-! ## postSite -/
@[simp] theorem State.postSite_now (s : State) (x y z : Nat) : (s.postSite x y z).now = s.now := rfl
@[simp] theorem State.postSite_loaded (s : State) (x y z : Nat) : (s.postSite x y z).loaded = s.loaded := rfl
@[simp] theorem State.postSite_settings (s : State) (x y z : Nat) : (s.postSite x y z).settings = s.settings := rfl
@[simp] theorem State.postSite_levels (s : State) (x y z : Nat) : (s.postSite x y z).levels = s.levels := rfl
@[simp] theorem State.postSite_drive (s : State) (x y z : Nat) : (s.postSite x y z).drive = s.drive := rfl
@[simp] theorem State.postSite_chambers (s : State) (x y z : Nat) : (s.postSite x y z).chambers = s.chambers := rfl
@[simp] theorem State.postSite_arbiter (s : State) (x y z : Nat) : (s.postSite x y z).arbiter = s.arbiter := rfl
@[simp] theorem State.postSite_vessels (s : State) (x y z : Nat) : (s.postSite x y z).vessels = s.vessels := rfl
@[simp] theorem State.postSite_book (s : State) (x y z : Nat) : (s.postSite x y z).book = s.book := rfl
@[simp] theorem State.postSite_signals (s : State) (x y z : Nat) : (s.postSite x y z).signals = s.signals := rfl
@[simp] theorem State.postSite_active (s : State) (x y z : Nat) : (s.postSite x y z).active = s.active := rfl
@[simp] theorem State.postSite_standby (s : State) (x y z : Nat) : (s.postSite x y z).standby = s.standby := rfl
@[simp] theorem State.postSite_clock (s : State) (x y z : Nat) : (s.postSite x y z).clock = s.clock := rfl
@[simp] theorem State.postSite_journal (s : State) (x y z : Nat) : (s.postSite x y z).journal = s.journal := rfl
@[simp] theorem State.postSite_site (s : State) (x y z : Nat) :
    (s.postSite x y z).site = s.site.post x y z := rfl
@[simp] theorem State.postSite_tallies (s : State) (x y z : Nat) : (s.postSite x y z).tallies = s.tallies := rfl
@[simp] theorem State.postSite_stations (s : State) (x y z : Nat) : (s.postSite x y z).stations = s.stations := rfl
@[simp] theorem State.postSite_conduct (s : State) (x y z : Nat) : (s.postSite x y z).conduct = s.conduct := rfl
@[simp] theorem State.postSite_capture (s : State) (x y z : Nat) : (s.postSite x y z).capture = s.capture := rfl
@[simp] theorem State.postSite_store (s : State) (x y z : Nat) : (s.postSite x y z).store = s.store := rfl
@[simp] theorem State.postSite_agenda (s : State) (x y z : Nat) : (s.postSite x y z).agenda = s.agenda := rfl
@[simp] theorem State.postSite_choices (s : State) (x y z : Nat) : (s.postSite x y z).choices = s.choices := rfl
@[simp] theorem State.postSite_pending (s : State) (x y z : Nat) : (s.postSite x y z).pending = s.pending := rfl

/-! ## setStation -/
@[simp] theorem State.setStation_now (s : State) (st : Station) (r : StationRec) : (s.setStation st r).now = s.now := rfl
@[simp] theorem State.setStation_loaded (s : State) (st : Station) (r : StationRec) : (s.setStation st r).loaded = s.loaded := rfl
@[simp] theorem State.setStation_settings (s : State) (st : Station) (r : StationRec) : (s.setStation st r).settings = s.settings := rfl
@[simp] theorem State.setStation_levels (s : State) (st : Station) (r : StationRec) : (s.setStation st r).levels = s.levels := rfl
@[simp] theorem State.setStation_drive (s : State) (st : Station) (r : StationRec) : (s.setStation st r).drive = s.drive := rfl
@[simp] theorem State.setStation_chambers (s : State) (st : Station) (r : StationRec) : (s.setStation st r).chambers = s.chambers := rfl
@[simp] theorem State.setStation_arbiter (s : State) (st : Station) (r : StationRec) : (s.setStation st r).arbiter = s.arbiter := rfl
@[simp] theorem State.setStation_vessels (s : State) (st : Station) (r : StationRec) : (s.setStation st r).vessels = s.vessels := rfl
@[simp] theorem State.setStation_book (s : State) (st : Station) (r : StationRec) : (s.setStation st r).book = s.book := rfl
@[simp] theorem State.setStation_signals (s : State) (st : Station) (r : StationRec) : (s.setStation st r).signals = s.signals := rfl
@[simp] theorem State.setStation_active (s : State) (st : Station) (r : StationRec) : (s.setStation st r).active = s.active := rfl
@[simp] theorem State.setStation_standby (s : State) (st : Station) (r : StationRec) : (s.setStation st r).standby = s.standby := rfl
@[simp] theorem State.setStation_clock (s : State) (st : Station) (r : StationRec) : (s.setStation st r).clock = s.clock := rfl
@[simp] theorem State.setStation_journal (s : State) (st : Station) (r : StationRec) : (s.setStation st r).journal = s.journal := rfl
@[simp] theorem State.setStation_site (s : State) (st : Station) (r : StationRec) : (s.setStation st r).site = s.site := rfl
@[simp] theorem State.setStation_tallies (s : State) (st : Station) (r : StationRec) : (s.setStation st r).tallies = s.tallies := rfl
@[simp] theorem State.setStation_stations (s : State) (st : Station) (r : StationRec) :
    (s.setStation st r).stations = s.stations.set st r := rfl
@[simp] theorem State.setStation_conduct (s : State) (st : Station) (r : StationRec) : (s.setStation st r).conduct = s.conduct := rfl
@[simp] theorem State.setStation_capture (s : State) (st : Station) (r : StationRec) : (s.setStation st r).capture = s.capture := rfl
@[simp] theorem State.setStation_store (s : State) (st : Station) (r : StationRec) : (s.setStation st r).store = s.store := rfl
@[simp] theorem State.setStation_agenda (s : State) (st : Station) (r : StationRec) : (s.setStation st r).agenda = s.agenda := rfl
@[simp] theorem State.setStation_choices (s : State) (st : Station) (r : StationRec) : (s.setStation st r).choices = s.choices := rfl
@[simp] theorem State.setStation_pending (s : State) (st : Station) (r : StationRec) : (s.setStation st r).pending = s.pending := rfl

/-! ## setHolder -/
@[simp] theorem State.setHolder_now (s : State) (k : Chamber) (h : Option Station) : (s.setHolder k h).now = s.now := rfl
@[simp] theorem State.setHolder_loaded (s : State) (k : Chamber) (h : Option Station) : (s.setHolder k h).loaded = s.loaded := rfl
@[simp] theorem State.setHolder_settings (s : State) (k : Chamber) (h : Option Station) : (s.setHolder k h).settings = s.settings := rfl
@[simp] theorem State.setHolder_levels (s : State) (k : Chamber) (h : Option Station) : (s.setHolder k h).levels = s.levels := rfl
@[simp] theorem State.setHolder_drive (s : State) (k : Chamber) (h : Option Station) : (s.setHolder k h).drive = s.drive := rfl
@[simp] theorem State.setHolder_chambers (s : State) (k : Chamber) (h : Option Station) : (s.setHolder k h).chambers = s.chambers := rfl
@[simp] theorem State.setHolder_arbiter (s : State) (k : Chamber) (h : Option Station) : (s.setHolder k h).arbiter = s.arbiter := rfl
@[simp] theorem State.setHolder_vessels (s : State) (k : Chamber) (h : Option Station) : (s.setHolder k h).vessels = s.vessels := rfl
@[simp] theorem State.setHolder_book (s : State) (k : Chamber) (h : Option Station) : (s.setHolder k h).book = s.book := rfl
@[simp] theorem State.setHolder_signals (s : State) (k : Chamber) (h : Option Station) : (s.setHolder k h).signals = s.signals := rfl
@[simp] theorem State.setHolder_active (s : State) (k : Chamber) (h : Option Station) : (s.setHolder k h).active = s.active := rfl
@[simp] theorem State.setHolder_standby (s : State) (k : Chamber) (h : Option Station) : (s.setHolder k h).standby = s.standby := rfl
@[simp] theorem State.setHolder_clock (s : State) (k : Chamber) (h : Option Station) : (s.setHolder k h).clock = s.clock := rfl
@[simp] theorem State.setHolder_journal (s : State) (k : Chamber) (h : Option Station) : (s.setHolder k h).journal = s.journal := rfl
@[simp] theorem State.setHolder_site (s : State) (k : Chamber) (h : Option Station) : (s.setHolder k h).site = s.site := rfl
@[simp] theorem State.setHolder_tallies (s : State) (k : Chamber) (h : Option Station) : (s.setHolder k h).tallies = s.tallies := rfl
@[simp] theorem State.setHolder_stations (s : State) (k : Chamber) (h : Option Station) : (s.setHolder k h).stations = s.stations := rfl
@[simp] theorem State.setHolder_conduct (s : State) (k : Chamber) (h : Option Station) :
    (s.setHolder k h).conduct = s.conduct.set k h := rfl
@[simp] theorem State.setHolder_capture (s : State) (k : Chamber) (h : Option Station) : (s.setHolder k h).capture = s.capture := rfl
@[simp] theorem State.setHolder_store (s : State) (k : Chamber) (h : Option Station) : (s.setHolder k h).store = s.store := rfl
@[simp] theorem State.setHolder_agenda (s : State) (k : Chamber) (h : Option Station) : (s.setHolder k h).agenda = s.agenda := rfl
@[simp] theorem State.setHolder_choices (s : State) (k : Chamber) (h : Option Station) : (s.setHolder k h).choices = s.choices := rfl
@[simp] theorem State.setHolder_pending (s : State) (k : Chamber) (h : Option Station) : (s.setHolder k h).pending = s.pending := rfl

end Sys2Proof.Machine
end

