-- ==== Sys2Proof/Laws/Views.lean ====
section
/-! SUPPORT. What each named update of the state does to each reading of it, and reading back what was written. -/

namespace Sys2Proof

/-! ## The containers -/

/-- Reading a station of the container after one was replaced. -/
@[simp] theorem PerStation.get_set {α : Type} (v : PerStation α) (i j : Station) (x : α) :
    (v.set i x).get j = if j = i then x else v.get j := by cases i <;> cases j <;> rfl

/-- Replacing twice keeps the later one. -/
@[simp] theorem PerStation.set_set {α : Type} (v : PerStation α) (i : Station) (x y : α) : (v.set i x).set i y = v.set i y := by
  cases i <;> rfl

/-- Replacing by what stands there changes nothing. -/
@[simp] theorem PerStation.set_get {α : Type} (v : PerStation α) (i : Station) : v.set i (v.get i) = v := by cases i <;> rfl

/-- Reading a chamber of the container after one was replaced. -/
@[simp] theorem PerChamber.get_set {α : Type} (v : PerChamber α) (i j : Chamber) (x : α) :
    (v.set i x).get j = if j = i then x else v.get j := by cases i <;> cases j <;> rfl

/-- Replacing twice keeps the later one. -/
@[simp] theorem PerChamber.set_set {α : Type} (v : PerChamber α) (i : Chamber) (x y : α) : (v.set i x).set i y = v.set i y := by
  cases i <;> rfl

/-- Replacing by what stands there changes nothing. -/
@[simp] theorem PerChamber.set_get {α : Type} (v : PerChamber α) (i : Chamber) : v.set i (v.get i) = v := by cases i <;> rfl

/-- Reading a body of the container after one was replaced. -/
@[simp] theorem PerBody.get_set {α : Type} (v : PerBody α) (i j : Body) (x : α) :
    (v.set i x).get j = if j = i then x else v.get j := by cases i <;> cases j <;> rfl

/-- Replacing twice keeps the later one. -/
@[simp] theorem PerBody.set_set {α : Type} (v : PerBody α) (i : Body) (x y : α) : (v.set i x).set i y = v.set i y := by
  cases i <;> rfl

/-- Replacing by what stands there changes nothing. -/
@[simp] theorem PerBody.set_get {α : Type} (v : PerBody α) (i : Body) : v.set i (v.get i) = v := by cases i <;> rfl

/-- Reading a gaugeside of the container after one was replaced. -/
@[simp] theorem PerGauge.get_set {α : Type} (v : PerGauge α) (i j : GaugeSide) (x : α) :
    (v.set i x).get j = if j = i then x else v.get j := by cases i <;> cases j <;> rfl

/-- Replacing twice keeps the later one. -/
@[simp] theorem PerGauge.set_set {α : Type} (v : PerGauge α) (i : GaugeSide) (x y : α) : (v.set i x).set i y = v.set i y := by
  cases i <;> rfl

/-- Replacing by what stands there changes nothing. -/
@[simp] theorem PerGauge.set_get {α : Type} (v : PerGauge α) (i : GaugeSide) : v.set i (v.get i) = v := by cases i <;> rfl

/-- Reading a side of the container after one was replaced. -/
@[simp] theorem PerEnd.get_set {α : Type} (v : PerEnd α) (i j : Side) (x : α) :
    (v.set i x).get j = if j = i then x else v.get j := by cases i <;> cases j <;> rfl

/-- Replacing twice keeps the later one. -/
@[simp] theorem PerEnd.set_set {α : Type} (v : PerEnd α) (i : Side) (x y : α) : (v.set i x).set i y = v.set i y := by
  cases i <;> rfl

/-- Replacing by what stands there changes nothing. -/
@[simp] theorem PerEnd.set_get {α : Type} (v : PerEnd α) (i : Side) : v.set i (v.get i) = v := by cases i <;> rfl

/-- Reading a direction of the container after one was replaced. -/
@[simp] theorem PerDirection.get_set {α : Type} (v : PerDirection α) (i j : Direction) (x : α) :
    (v.set i x).get j = if j = i then x else v.get j := by cases i <;> cases j <;> rfl

/-- Replacing twice keeps the later one. -/
@[simp] theorem PerDirection.set_set {α : Type} (v : PerDirection α) (i : Direction) (x y : α) : (v.set i x).set i y = v.set i y := by
  cases i <;> rfl

/-- Replacing by what stands there changes nothing. -/
@[simp] theorem PerDirection.set_get {α : Type} (v : PerDirection α) (i : Direction) : v.set i (v.get i) = v := by cases i <;> rfl

/-- Reading a signal of the container after one was replaced. -/
@[simp] theorem PerSignal.get_set {α : Type} (v : PerSignal α) (i j : Signal) (x : α) :
    (v.set i x).get j = if j = i then x else v.get j := by cases i <;> cases j <;> rfl

/-- Replacing twice keeps the later one. -/
@[simp] theorem PerSignal.set_set {α : Type} (v : PerSignal α) (i : Signal) (x y : α) : (v.set i x).set i y = v.set i y := by
  cases i <;> rfl

/-- Replacing by what stands there changes nothing. -/
@[simp] theorem PerSignal.set_get {α : Type} (v : PerSignal α) (i : Signal) : v.set i (v.get i) = v := by cases i <;> rfl

/-- Reading a lampname of the container after one was replaced. -/
@[simp] theorem PerLamp.get_set {α : Type} (v : PerLamp α) (i j : LampName) (x : α) :
    (v.set i x).get j = if j = i then x else v.get j := by cases i <;> cases j <;> rfl

/-- Replacing twice keeps the later one. -/
@[simp] theorem PerLamp.set_set {α : Type} (v : PerLamp α) (i : LampName) (x y : α) : (v.set i x).set i y = v.set i y := by
  cases i <;> rfl

/-- Replacing by what stands there changes nothing. -/
@[simp] theorem PerLamp.set_get {α : Type} (v : PerLamp α) (i : LampName) : v.set i (v.get i) = v := by cases i <;> rfl

end Sys2Proof

namespace Sys2Proof.Machine

/-! ## reach -/
@[simp] theorem State.reach_body (s : State) (t : Nat) (b' : Body) : (s.reach t).body b' = s.body b' := rfl
@[simp] theorem State.reach_pair (s : State) (t : Nat) (p' : Pair) : (s.reach t).pair p' = s.pair p' := rfl
@[simp] theorem State.reach_gate (s : State) (t : Nat) (k' : Chamber) (e' : Side) : (s.reach t).gate k' e' = s.gate k' e' := rfl
@[simp] theorem State.reach_sluice (s : State) (t : Nat) (q' : Sluice) : (s.reach t).sluice q' = s.sluice q' := rfl
@[simp] theorem State.reach_chamber (s : State) (t : Nat) (k' : Chamber) : (s.reach t).chamber k' = s.chamber k' := rfl
@[simp] theorem State.reach_wish (s : State) (t : Nat) (k' : Chamber) : (s.reach t).wish k' = s.wish k' := rfl
@[simp] theorem State.reach_vessel (s : State) (t : Nat) (i' : Nat) : (s.reach t).vessel i' = s.vessel i' := rfl
@[simp] theorem State.reach_batch (s : State) (t : Nat) (k' : Chamber) : (s.reach t).batch k' = s.batch k' := rfl
@[simp] theorem State.reach_lamp (s : State) (t : Nat) (l' : LampId) : (s.reach t).lamp l' = s.lamp l' := rfl
@[simp] theorem State.reach_generator (s : State) (t : Nat) (g' : Generator) : (s.reach t).generator g' = s.generator g' := rfl
@[simp] theorem State.reach_subscriber (s : State) (t : Nat) (st' : Station) : (s.reach t).subscriber st' = s.subscriber st' := rfl
@[simp] theorem State.reach_station (s : State) (t : Nat) (st' : Station) : (s.reach t).station st' = s.station st' := rfl
@[simp] theorem State.reach_holder (s : State) (t : Nat) (k' : Chamber) : (s.reach t).holder k' = s.holder k' := rfl
@[simp] theorem State.reach_time (s : State) (t : Nat) : (s.reach t).time = s.time := rfl
@[simp] theorem State.reach_chamberPresent (s : State) (t : Nat) (k' : Chamber) : (s.reach t).chamberPresent k' = s.chamberPresent k' := rfl

/-! ## setBody -/
@[simp] theorem State.setBody_pair (s : State) (b : Body) (r : BodyRec) (p' : Pair) : (s.setBody b r).pair p' = s.pair p' := rfl
@[simp] theorem State.setBody_gate (s : State) (b : Body) (r : BodyRec) (k' : Chamber) (e' : Side) : (s.setBody b r).gate k' e' = s.gate k' e' := rfl
@[simp] theorem State.setBody_sluice (s : State) (b : Body) (r : BodyRec) (q' : Sluice) : (s.setBody b r).sluice q' = s.sluice q' := rfl
@[simp] theorem State.setBody_chamber (s : State) (b : Body) (r : BodyRec) (k' : Chamber) : (s.setBody b r).chamber k' = s.chamber k' := rfl
@[simp] theorem State.setBody_wish (s : State) (b : Body) (r : BodyRec) (k' : Chamber) : (s.setBody b r).wish k' = s.wish k' := rfl
@[simp] theorem State.setBody_vessel (s : State) (b : Body) (r : BodyRec) (i' : Nat) : (s.setBody b r).vessel i' = s.vessel i' := rfl
@[simp] theorem State.setBody_batch (s : State) (b : Body) (r : BodyRec) (k' : Chamber) : (s.setBody b r).batch k' = s.batch k' := rfl
@[simp] theorem State.setBody_lamp (s : State) (b : Body) (r : BodyRec) (l' : LampId) : (s.setBody b r).lamp l' = s.lamp l' := rfl
@[simp] theorem State.setBody_generator (s : State) (b : Body) (r : BodyRec) (g' : Generator) : (s.setBody b r).generator g' = s.generator g' := rfl
@[simp] theorem State.setBody_subscriber (s : State) (b : Body) (r : BodyRec) (st' : Station) : (s.setBody b r).subscriber st' = s.subscriber st' := rfl
@[simp] theorem State.setBody_station (s : State) (b : Body) (r : BodyRec) (st' : Station) : (s.setBody b r).station st' = s.station st' := rfl
@[simp] theorem State.setBody_holder (s : State) (b : Body) (r : BodyRec) (k' : Chamber) : (s.setBody b r).holder k' = s.holder k' := rfl
@[simp] theorem State.setBody_time (s : State) (b : Body) (r : BodyRec) : (s.setBody b r).time = s.time := rfl
@[simp] theorem State.setBody_chamberPresent (s : State) (b : Body) (r : BodyRec) (k' : Chamber) : (s.setBody b r).chamberPresent k' = s.chamberPresent k' := rfl

/-! ## setPair -/
@[simp] theorem State.setPair_body (s : State) (p : Pair) (x : PairState) (b' : Body) : (s.setPair p x).body b' = s.body b' := by cases p <;> cases b' <;> rfl
@[simp] theorem State.setPair_gate (s : State) (p : Pair) (x : PairState) (k' : Chamber) (e' : Side) : (s.setPair p x).gate k' e' = s.gate k' e' := by cases p <;> rfl
@[simp] theorem State.setPair_sluice (s : State) (p : Pair) (x : PairState) (q' : Sluice) : (s.setPair p x).sluice q' = s.sluice q' := by cases p <;> rfl
@[simp] theorem State.setPair_chamber (s : State) (p : Pair) (x : PairState) (k' : Chamber) : (s.setPair p x).chamber k' = s.chamber k' := by cases p <;> rfl
@[simp] theorem State.setPair_wish (s : State) (p : Pair) (x : PairState) (k' : Chamber) : (s.setPair p x).wish k' = s.wish k' := by cases p <;> rfl
@[simp] theorem State.setPair_vessel (s : State) (p : Pair) (x : PairState) (i' : Nat) : (s.setPair p x).vessel i' = s.vessel i' := by cases p <;> rfl
@[simp] theorem State.setPair_batch (s : State) (p : Pair) (x : PairState) (k' : Chamber) : (s.setPair p x).batch k' = s.batch k' := by cases p <;> rfl
@[simp] theorem State.setPair_lamp (s : State) (p : Pair) (x : PairState) (l' : LampId) : (s.setPair p x).lamp l' = s.lamp l' := by cases p <;> rfl
@[simp] theorem State.setPair_generator (s : State) (p : Pair) (x : PairState) (g' : Generator) : (s.setPair p x).generator g' = s.generator g' := by cases p <;> rfl
@[simp] theorem State.setPair_subscriber (s : State) (p : Pair) (x : PairState) (st' : Station) : (s.setPair p x).subscriber st' = s.subscriber st' := by cases p <;> rfl
@[simp] theorem State.setPair_station (s : State) (p : Pair) (x : PairState) (st' : Station) : (s.setPair p x).station st' = s.station st' := by cases p <;> rfl
@[simp] theorem State.setPair_holder (s : State) (p : Pair) (x : PairState) (k' : Chamber) : (s.setPair p x).holder k' = s.holder k' := by cases p <;> rfl
@[simp] theorem State.setPair_time (s : State) (p : Pair) (x : PairState) : (s.setPair p x).time = s.time := by cases p <;> rfl
@[simp] theorem State.setPair_chamberPresent (s : State) (p : Pair) (x : PairState) (k' : Chamber) : (s.setPair p x).chamberPresent k' = s.chamberPresent k' := by cases p <;> rfl

/-! ## setPoll -/
@[simp] theorem State.setPoll_body (s : State) (p : Option Poll) (b' : Body) : (s.setPoll p).body b' = s.body b' := rfl
@[simp] theorem State.setPoll_pair (s : State) (p : Option Poll) (p' : Pair) : (s.setPoll p).pair p' = s.pair p' := rfl
@[simp] theorem State.setPoll_gate (s : State) (p : Option Poll) (k' : Chamber) (e' : Side) : (s.setPoll p).gate k' e' = s.gate k' e' := rfl
@[simp] theorem State.setPoll_sluice (s : State) (p : Option Poll) (q' : Sluice) : (s.setPoll p).sluice q' = s.sluice q' := rfl
@[simp] theorem State.setPoll_chamber (s : State) (p : Option Poll) (k' : Chamber) : (s.setPoll p).chamber k' = s.chamber k' := rfl
@[simp] theorem State.setPoll_wish (s : State) (p : Option Poll) (k' : Chamber) : (s.setPoll p).wish k' = s.wish k' := rfl
@[simp] theorem State.setPoll_vessel (s : State) (p : Option Poll) (i' : Nat) : (s.setPoll p).vessel i' = s.vessel i' := rfl
@[simp] theorem State.setPoll_batch (s : State) (p : Option Poll) (k' : Chamber) : (s.setPoll p).batch k' = s.batch k' := rfl
@[simp] theorem State.setPoll_lamp (s : State) (p : Option Poll) (l' : LampId) : (s.setPoll p).lamp l' = s.lamp l' := rfl
@[simp] theorem State.setPoll_generator (s : State) (p : Option Poll) (g' : Generator) : (s.setPoll p).generator g' = s.generator g' := rfl
@[simp] theorem State.setPoll_subscriber (s : State) (p : Option Poll) (st' : Station) : (s.setPoll p).subscriber st' = s.subscriber st' := rfl
@[simp] theorem State.setPoll_station (s : State) (p : Option Poll) (st' : Station) : (s.setPoll p).station st' = s.station st' := rfl
@[simp] theorem State.setPoll_holder (s : State) (p : Option Poll) (k' : Chamber) : (s.setPoll p).holder k' = s.holder k' := rfl
@[simp] theorem State.setPoll_time (s : State) (p : Option Poll) : (s.setPoll p).time = s.time := rfl
@[simp] theorem State.setPoll_chamberPresent (s : State) (p : Option Poll) (k' : Chamber) : (s.setPoll p).chamberPresent k' = s.chamberPresent k' := rfl

/-! ## setForceFast -/
@[simp] theorem State.setForceFast_body (s : State) (x : Bool) (b' : Body) : (s.setForceFast x).body b' = s.body b' := rfl
@[simp] theorem State.setForceFast_pair (s : State) (x : Bool) (p' : Pair) : (s.setForceFast x).pair p' = s.pair p' := rfl
@[simp] theorem State.setForceFast_gate (s : State) (x : Bool) (k' : Chamber) (e' : Side) : (s.setForceFast x).gate k' e' = s.gate k' e' := rfl
@[simp] theorem State.setForceFast_sluice (s : State) (x : Bool) (q' : Sluice) : (s.setForceFast x).sluice q' = s.sluice q' := rfl
@[simp] theorem State.setForceFast_chamber (s : State) (x : Bool) (k' : Chamber) : (s.setForceFast x).chamber k' = s.chamber k' := rfl
@[simp] theorem State.setForceFast_wish (s : State) (x : Bool) (k' : Chamber) : (s.setForceFast x).wish k' = s.wish k' := rfl
@[simp] theorem State.setForceFast_vessel (s : State) (x : Bool) (i' : Nat) : (s.setForceFast x).vessel i' = s.vessel i' := rfl
@[simp] theorem State.setForceFast_batch (s : State) (x : Bool) (k' : Chamber) : (s.setForceFast x).batch k' = s.batch k' := rfl
@[simp] theorem State.setForceFast_lamp (s : State) (x : Bool) (l' : LampId) : (s.setForceFast x).lamp l' = s.lamp l' := rfl
@[simp] theorem State.setForceFast_generator (s : State) (x : Bool) (g' : Generator) : (s.setForceFast x).generator g' = s.generator g' := rfl
@[simp] theorem State.setForceFast_subscriber (s : State) (x : Bool) (st' : Station) : (s.setForceFast x).subscriber st' = s.subscriber st' := rfl
@[simp] theorem State.setForceFast_station (s : State) (x : Bool) (st' : Station) : (s.setForceFast x).station st' = s.station st' := rfl
@[simp] theorem State.setForceFast_holder (s : State) (x : Bool) (k' : Chamber) : (s.setForceFast x).holder k' = s.holder k' := rfl
@[simp] theorem State.setForceFast_time (s : State) (x : Bool) : (s.setForceFast x).time = s.time := rfl
@[simp] theorem State.setForceFast_chamberPresent (s : State) (x : Bool) (k' : Chamber) : (s.setForceFast x).chamberPresent k' = s.chamberPresent k' := rfl

/-! ## putGate -/
@[simp] theorem State.putGate_body (s : State) (k : Chamber) (e : Side) (g : Gate) (b' : Body) : (s.putGate k e g).body b' = s.body b' := rfl
@[simp] theorem State.putGate_pair (s : State) (k : Chamber) (e : Side) (g : Gate) (p' : Pair) : (s.putGate k e g).pair p' = s.pair p' := rfl
@[simp] theorem State.putGate_sluice (s : State) (k : Chamber) (e : Side) (g : Gate) (q' : Sluice) : (s.putGate k e g).sluice q' = s.sluice q' := rfl
@[simp] theorem State.putGate_chamber (s : State) (k : Chamber) (e : Side) (g : Gate) (k' : Chamber) : (s.putGate k e g).chamber k' = s.chamber k' := rfl
@[simp] theorem State.putGate_wish (s : State) (k : Chamber) (e : Side) (g : Gate) (k' : Chamber) : (s.putGate k e g).wish k' = s.wish k' := rfl
@[simp] theorem State.putGate_vessel (s : State) (k : Chamber) (e : Side) (g : Gate) (i' : Nat) : (s.putGate k e g).vessel i' = s.vessel i' := rfl
@[simp] theorem State.putGate_batch (s : State) (k : Chamber) (e : Side) (g : Gate) (k' : Chamber) : (s.putGate k e g).batch k' = s.batch k' := rfl
@[simp] theorem State.putGate_lamp (s : State) (k : Chamber) (e : Side) (g : Gate) (l' : LampId) : (s.putGate k e g).lamp l' = s.lamp l' := rfl
@[simp] theorem State.putGate_generator (s : State) (k : Chamber) (e : Side) (g : Gate) (g' : Generator) : (s.putGate k e g).generator g' = s.generator g' := rfl
@[simp] theorem State.putGate_subscriber (s : State) (k : Chamber) (e : Side) (g : Gate) (st' : Station) : (s.putGate k e g).subscriber st' = s.subscriber st' := rfl
@[simp] theorem State.putGate_station (s : State) (k : Chamber) (e : Side) (g : Gate) (st' : Station) : (s.putGate k e g).station st' = s.station st' := rfl
@[simp] theorem State.putGate_holder (s : State) (k : Chamber) (e : Side) (g : Gate) (k' : Chamber) : (s.putGate k e g).holder k' = s.holder k' := rfl
@[simp] theorem State.putGate_time (s : State) (k : Chamber) (e : Side) (g : Gate) : (s.putGate k e g).time = s.time := rfl
@[simp] theorem State.putGate_chamberPresent (s : State) (k : Chamber) (e : Side) (g : Gate) (k' : Chamber) : (s.putGate k e g).chamberPresent k' = s.chamberPresent k' := rfl

/-! ## putSluice -/
@[simp] theorem State.putSluice_body (s : State) (q : Sluice) (r : SluiceRec) (b' : Body) : (s.putSluice q r).body b' = s.body b' := by cases q <;> rfl
@[simp] theorem State.putSluice_pair (s : State) (q : Sluice) (r : SluiceRec) (p' : Pair) : (s.putSluice q r).pair p' = s.pair p' := by cases q <;> rfl
@[simp] theorem State.putSluice_gate (s : State) (q : Sluice) (r : SluiceRec) (k' : Chamber) (e' : Side) : (s.putSluice q r).gate k' e' = s.gate k' e' := by cases q <;> cases k' <;> rfl
@[simp] theorem State.putSluice_chamber (s : State) (q : Sluice) (r : SluiceRec) (k' : Chamber) : (s.putSluice q r).chamber k' = s.chamber k' := by cases q <;> rfl
@[simp] theorem State.putSluice_wish (s : State) (q : Sluice) (r : SluiceRec) (k' : Chamber) : (s.putSluice q r).wish k' = s.wish k' := by cases q <;> rfl
@[simp] theorem State.putSluice_vessel (s : State) (q : Sluice) (r : SluiceRec) (i' : Nat) : (s.putSluice q r).vessel i' = s.vessel i' := by cases q <;> rfl
@[simp] theorem State.putSluice_batch (s : State) (q : Sluice) (r : SluiceRec) (k' : Chamber) : (s.putSluice q r).batch k' = s.batch k' := by cases q <;> rfl
@[simp] theorem State.putSluice_lamp (s : State) (q : Sluice) (r : SluiceRec) (l' : LampId) : (s.putSluice q r).lamp l' = s.lamp l' := by cases q <;> rfl
@[simp] theorem State.putSluice_generator (s : State) (q : Sluice) (r : SluiceRec) (g' : Generator) : (s.putSluice q r).generator g' = s.generator g' := by cases q <;> rfl
@[simp] theorem State.putSluice_subscriber (s : State) (q : Sluice) (r : SluiceRec) (st' : Station) : (s.putSluice q r).subscriber st' = s.subscriber st' := by cases q <;> rfl
@[simp] theorem State.putSluice_station (s : State) (q : Sluice) (r : SluiceRec) (st' : Station) : (s.putSluice q r).station st' = s.station st' := by cases q <;> rfl
@[simp] theorem State.putSluice_holder (s : State) (q : Sluice) (r : SluiceRec) (k' : Chamber) : (s.putSluice q r).holder k' = s.holder k' := by cases q <;> rfl
@[simp] theorem State.putSluice_time (s : State) (q : Sluice) (r : SluiceRec) : (s.putSluice q r).time = s.time := by cases q <;> rfl
@[simp] theorem State.putSluice_chamberPresent (s : State) (q : Sluice) (r : SluiceRec) (k' : Chamber) : (s.putSluice q r).chamberPresent k' = s.chamberPresent k' := by cases q <;> rfl

/-! ## setOverflow -/
@[simp] theorem State.setOverflow_body (s : State) (k : Chamber) (x : Bool) (b' : Body) : (s.setOverflow k x).body b' = s.body b' := rfl
@[simp] theorem State.setOverflow_pair (s : State) (k : Chamber) (x : Bool) (p' : Pair) : (s.setOverflow k x).pair p' = s.pair p' := rfl
@[simp] theorem State.setOverflow_gate (s : State) (k : Chamber) (x : Bool) (k' : Chamber) (e' : Side) : (s.setOverflow k x).gate k' e' = s.gate k' e' := rfl
@[simp] theorem State.setOverflow_sluice (s : State) (k : Chamber) (x : Bool) (q' : Sluice) : (s.setOverflow k x).sluice q' = s.sluice q' := rfl
@[simp] theorem State.setOverflow_chamber (s : State) (k : Chamber) (x : Bool) (k' : Chamber) : (s.setOverflow k x).chamber k' = s.chamber k' := rfl
@[simp] theorem State.setOverflow_wish (s : State) (k : Chamber) (x : Bool) (k' : Chamber) : (s.setOverflow k x).wish k' = s.wish k' := rfl
@[simp] theorem State.setOverflow_vessel (s : State) (k : Chamber) (x : Bool) (i' : Nat) : (s.setOverflow k x).vessel i' = s.vessel i' := rfl
@[simp] theorem State.setOverflow_batch (s : State) (k : Chamber) (x : Bool) (k' : Chamber) : (s.setOverflow k x).batch k' = s.batch k' := rfl
@[simp] theorem State.setOverflow_lamp (s : State) (k : Chamber) (x : Bool) (l' : LampId) : (s.setOverflow k x).lamp l' = s.lamp l' := rfl
@[simp] theorem State.setOverflow_generator (s : State) (k : Chamber) (x : Bool) (g' : Generator) : (s.setOverflow k x).generator g' = s.generator g' := rfl
@[simp] theorem State.setOverflow_subscriber (s : State) (k : Chamber) (x : Bool) (st' : Station) : (s.setOverflow k x).subscriber st' = s.subscriber st' := rfl
@[simp] theorem State.setOverflow_station (s : State) (k : Chamber) (x : Bool) (st' : Station) : (s.setOverflow k x).station st' = s.station st' := rfl
@[simp] theorem State.setOverflow_holder (s : State) (k : Chamber) (x : Bool) (k' : Chamber) : (s.setOverflow k x).holder k' = s.holder k' := rfl
@[simp] theorem State.setOverflow_time (s : State) (k : Chamber) (x : Bool) : (s.setOverflow k x).time = s.time := rfl
@[simp] theorem State.setOverflow_chamberPresent (s : State) (k : Chamber) (x : Bool) (k' : Chamber) : (s.setOverflow k x).chamberPresent k' = s.chamberPresent k' := rfl

/-! ## send -/
@[simp] theorem State.send_body (s : State) (a : Actuator) (o : DriveOrder) (b' : Body) : (s.send a o).body b' = s.body b' := rfl
@[simp] theorem State.send_pair (s : State) (a : Actuator) (o : DriveOrder) (p' : Pair) : (s.send a o).pair p' = s.pair p' := rfl
@[simp] theorem State.send_gate (s : State) (a : Actuator) (o : DriveOrder) (k' : Chamber) (e' : Side) : (s.send a o).gate k' e' = s.gate k' e' := rfl
@[simp] theorem State.send_sluice (s : State) (a : Actuator) (o : DriveOrder) (q' : Sluice) : (s.send a o).sluice q' = s.sluice q' := rfl
@[simp] theorem State.send_chamber (s : State) (a : Actuator) (o : DriveOrder) (k' : Chamber) : (s.send a o).chamber k' = s.chamber k' := rfl
@[simp] theorem State.send_wish (s : State) (a : Actuator) (o : DriveOrder) (k' : Chamber) : (s.send a o).wish k' = s.wish k' := rfl
@[simp] theorem State.send_vessel (s : State) (a : Actuator) (o : DriveOrder) (i' : Nat) : (s.send a o).vessel i' = s.vessel i' := rfl
@[simp] theorem State.send_batch (s : State) (a : Actuator) (o : DriveOrder) (k' : Chamber) : (s.send a o).batch k' = s.batch k' := rfl
@[simp] theorem State.send_lamp (s : State) (a : Actuator) (o : DriveOrder) (l' : LampId) : (s.send a o).lamp l' = s.lamp l' := rfl
@[simp] theorem State.send_generator (s : State) (a : Actuator) (o : DriveOrder) (g' : Generator) : (s.send a o).generator g' = s.generator g' := rfl
@[simp] theorem State.send_subscriber (s : State) (a : Actuator) (o : DriveOrder) (st' : Station) : (s.send a o).subscriber st' = s.subscriber st' := rfl
@[simp] theorem State.send_station (s : State) (a : Actuator) (o : DriveOrder) (st' : Station) : (s.send a o).station st' = s.station st' := rfl
@[simp] theorem State.send_holder (s : State) (a : Actuator) (o : DriveOrder) (k' : Chamber) : (s.send a o).holder k' = s.holder k' := rfl
@[simp] theorem State.send_time (s : State) (a : Actuator) (o : DriveOrder) : (s.send a o).time = s.time := rfl
@[simp] theorem State.send_chamberPresent (s : State) (a : Actuator) (o : DriveOrder) (k' : Chamber) : (s.send a o).chamberPresent k' = s.chamberPresent k' := rfl

/-! ## setChamber -/
@[simp] theorem State.setChamber_body (s : State) (k : Chamber) (c : Sequencer) (b' : Body) : (s.setChamber k c).body b' = s.body b' := rfl
@[simp] theorem State.setChamber_pair (s : State) (k : Chamber) (c : Sequencer) (p' : Pair) : (s.setChamber k c).pair p' = s.pair p' := rfl
@[simp] theorem State.setChamber_gate (s : State) (k : Chamber) (c : Sequencer) (k' : Chamber) (e' : Side) : (s.setChamber k c).gate k' e' = s.gate k' e' := rfl
@[simp] theorem State.setChamber_sluice (s : State) (k : Chamber) (c : Sequencer) (q' : Sluice) : (s.setChamber k c).sluice q' = s.sluice q' := rfl
@[simp] theorem State.setChamber_wish (s : State) (k : Chamber) (c : Sequencer) (k' : Chamber) : (s.setChamber k c).wish k' = s.wish k' := rfl
@[simp] theorem State.setChamber_vessel (s : State) (k : Chamber) (c : Sequencer) (i' : Nat) : (s.setChamber k c).vessel i' = s.vessel i' := rfl
@[simp] theorem State.setChamber_batch (s : State) (k : Chamber) (c : Sequencer) (k' : Chamber) : (s.setChamber k c).batch k' = s.batch k' := rfl
@[simp] theorem State.setChamber_lamp (s : State) (k : Chamber) (c : Sequencer) (l' : LampId) : (s.setChamber k c).lamp l' = s.lamp l' := rfl
@[simp] theorem State.setChamber_generator (s : State) (k : Chamber) (c : Sequencer) (g' : Generator) : (s.setChamber k c).generator g' = s.generator g' := rfl
@[simp] theorem State.setChamber_subscriber (s : State) (k : Chamber) (c : Sequencer) (st' : Station) : (s.setChamber k c).subscriber st' = s.subscriber st' := rfl
@[simp] theorem State.setChamber_station (s : State) (k : Chamber) (c : Sequencer) (st' : Station) : (s.setChamber k c).station st' = s.station st' := rfl
@[simp] theorem State.setChamber_holder (s : State) (k : Chamber) (c : Sequencer) (k' : Chamber) : (s.setChamber k c).holder k' = s.holder k' := rfl
@[simp] theorem State.setChamber_time (s : State) (k : Chamber) (c : Sequencer) : (s.setChamber k c).time = s.time := rfl
@[simp] theorem State.setChamber_chamberPresent (s : State) (k : Chamber) (c : Sequencer) (k' : Chamber) : (s.setChamber k c).chamberPresent k' = s.chamberPresent k' := rfl

/-! ## setWish -/
@[simp] theorem State.setWish_body (s : State) (k : Chamber) (w : Option Wish) (b' : Body) : (s.setWish k w).body b' = s.body b' := rfl
@[simp] theorem State.setWish_pair (s : State) (k : Chamber) (w : Option Wish) (p' : Pair) : (s.setWish k w).pair p' = s.pair p' := rfl
@[simp] theorem State.setWish_gate (s : State) (k : Chamber) (w : Option Wish) (k' : Chamber) (e' : Side) : (s.setWish k w).gate k' e' = s.gate k' e' := rfl
@[simp] theorem State.setWish_sluice (s : State) (k : Chamber) (w : Option Wish) (q' : Sluice) : (s.setWish k w).sluice q' = s.sluice q' := rfl
@[simp] theorem State.setWish_chamber (s : State) (k : Chamber) (w : Option Wish) (k' : Chamber) : (s.setWish k w).chamber k' = s.chamber k' := rfl
@[simp] theorem State.setWish_vessel (s : State) (k : Chamber) (w : Option Wish) (i' : Nat) : (s.setWish k w).vessel i' = s.vessel i' := rfl
@[simp] theorem State.setWish_batch (s : State) (k : Chamber) (w : Option Wish) (k' : Chamber) : (s.setWish k w).batch k' = s.batch k' := rfl
@[simp] theorem State.setWish_lamp (s : State) (k : Chamber) (w : Option Wish) (l' : LampId) : (s.setWish k w).lamp l' = s.lamp l' := rfl
@[simp] theorem State.setWish_generator (s : State) (k : Chamber) (w : Option Wish) (g' : Generator) : (s.setWish k w).generator g' = s.generator g' := rfl
@[simp] theorem State.setWish_subscriber (s : State) (k : Chamber) (w : Option Wish) (st' : Station) : (s.setWish k w).subscriber st' = s.subscriber st' := rfl
@[simp] theorem State.setWish_station (s : State) (k : Chamber) (w : Option Wish) (st' : Station) : (s.setWish k w).station st' = s.station st' := rfl
@[simp] theorem State.setWish_holder (s : State) (k : Chamber) (w : Option Wish) (k' : Chamber) : (s.setWish k w).holder k' = s.holder k' := rfl
@[simp] theorem State.setWish_time (s : State) (k : Chamber) (w : Option Wish) : (s.setWish k w).time = s.time := rfl
@[simp] theorem State.setWish_chamberPresent (s : State) (k : Chamber) (w : Option Wish) (k' : Chamber) : (s.setWish k w).chamberPresent k' = s.chamberPresent k' := rfl

/-! ## setVessel -/
@[simp] theorem State.setVessel_body (s : State) (i : Nat) (v : Vessel) (b' : Body) : (s.setVessel i v).body b' = s.body b' := rfl
@[simp] theorem State.setVessel_pair (s : State) (i : Nat) (v : Vessel) (p' : Pair) : (s.setVessel i v).pair p' = s.pair p' := rfl
@[simp] theorem State.setVessel_gate (s : State) (i : Nat) (v : Vessel) (k' : Chamber) (e' : Side) : (s.setVessel i v).gate k' e' = s.gate k' e' := rfl
@[simp] theorem State.setVessel_sluice (s : State) (i : Nat) (v : Vessel) (q' : Sluice) : (s.setVessel i v).sluice q' = s.sluice q' := rfl
@[simp] theorem State.setVessel_chamber (s : State) (i : Nat) (v : Vessel) (k' : Chamber) : (s.setVessel i v).chamber k' = s.chamber k' := rfl
@[simp] theorem State.setVessel_wish (s : State) (i : Nat) (v : Vessel) (k' : Chamber) : (s.setVessel i v).wish k' = s.wish k' := rfl
@[simp] theorem State.setVessel_batch (s : State) (i : Nat) (v : Vessel) (k' : Chamber) : (s.setVessel i v).batch k' = s.batch k' := rfl
@[simp] theorem State.setVessel_lamp (s : State) (i : Nat) (v : Vessel) (l' : LampId) : (s.setVessel i v).lamp l' = s.lamp l' := rfl
@[simp] theorem State.setVessel_generator (s : State) (i : Nat) (v : Vessel) (g' : Generator) : (s.setVessel i v).generator g' = s.generator g' := rfl
@[simp] theorem State.setVessel_subscriber (s : State) (i : Nat) (v : Vessel) (st' : Station) : (s.setVessel i v).subscriber st' = s.subscriber st' := rfl
@[simp] theorem State.setVessel_station (s : State) (i : Nat) (v : Vessel) (st' : Station) : (s.setVessel i v).station st' = s.station st' := rfl
@[simp] theorem State.setVessel_holder (s : State) (i : Nat) (v : Vessel) (k' : Chamber) : (s.setVessel i v).holder k' = s.holder k' := rfl
@[simp] theorem State.setVessel_time (s : State) (i : Nat) (v : Vessel) : (s.setVessel i v).time = s.time := rfl
@[simp] theorem State.setVessel_chamberPresent (s : State) (i : Nat) (v : Vessel) (k' : Chamber) : (s.setVessel i v).chamberPresent k' = s.chamberPresent k' := rfl

/-! ## setBatch -/
@[simp] theorem State.setBatch_body (s : State) (k : Chamber) (b : Option Batch) (b' : Body) : (s.setBatch k b).body b' = s.body b' := rfl
@[simp] theorem State.setBatch_pair (s : State) (k : Chamber) (b : Option Batch) (p' : Pair) : (s.setBatch k b).pair p' = s.pair p' := rfl
@[simp] theorem State.setBatch_gate (s : State) (k : Chamber) (b : Option Batch) (k' : Chamber) (e' : Side) : (s.setBatch k b).gate k' e' = s.gate k' e' := rfl
@[simp] theorem State.setBatch_sluice (s : State) (k : Chamber) (b : Option Batch) (q' : Sluice) : (s.setBatch k b).sluice q' = s.sluice q' := rfl
@[simp] theorem State.setBatch_chamber (s : State) (k : Chamber) (b : Option Batch) (k' : Chamber) : (s.setBatch k b).chamber k' = s.chamber k' := rfl
@[simp] theorem State.setBatch_wish (s : State) (k : Chamber) (b : Option Batch) (k' : Chamber) : (s.setBatch k b).wish k' = s.wish k' := rfl
@[simp] theorem State.setBatch_vessel (s : State) (k : Chamber) (b : Option Batch) (i' : Nat) : (s.setBatch k b).vessel i' = s.vessel i' := rfl
@[simp] theorem State.setBatch_lamp (s : State) (k : Chamber) (b : Option Batch) (l' : LampId) : (s.setBatch k b).lamp l' = s.lamp l' := rfl
@[simp] theorem State.setBatch_generator (s : State) (k : Chamber) (b : Option Batch) (g' : Generator) : (s.setBatch k b).generator g' = s.generator g' := rfl
@[simp] theorem State.setBatch_subscriber (s : State) (k : Chamber) (b : Option Batch) (st' : Station) : (s.setBatch k b).subscriber st' = s.subscriber st' := rfl
@[simp] theorem State.setBatch_station (s : State) (k : Chamber) (b : Option Batch) (st' : Station) : (s.setBatch k b).station st' = s.station st' := rfl
@[simp] theorem State.setBatch_holder (s : State) (k : Chamber) (b : Option Batch) (k' : Chamber) : (s.setBatch k b).holder k' = s.holder k' := rfl
@[simp] theorem State.setBatch_time (s : State) (k : Chamber) (b : Option Batch) : (s.setBatch k b).time = s.time := rfl
@[simp] theorem State.setBatch_chamberPresent (s : State) (k : Chamber) (b : Option Batch) (k' : Chamber) : (s.setBatch k b).chamberPresent k' = s.chamberPresent k' := rfl

/-! ## changeOrder -/
@[simp] theorem State.changeOrder_body (s : State) (n : Nat) (f : Order → Order) (b' : Body) : (s.changeOrder n f).body b' = s.body b' := rfl
@[simp] theorem State.changeOrder_pair (s : State) (n : Nat) (f : Order → Order) (p' : Pair) : (s.changeOrder n f).pair p' = s.pair p' := rfl
@[simp] theorem State.changeOrder_gate (s : State) (n : Nat) (f : Order → Order) (k' : Chamber) (e' : Side) : (s.changeOrder n f).gate k' e' = s.gate k' e' := rfl
@[simp] theorem State.changeOrder_sluice (s : State) (n : Nat) (f : Order → Order) (q' : Sluice) : (s.changeOrder n f).sluice q' = s.sluice q' := rfl
@[simp] theorem State.changeOrder_chamber (s : State) (n : Nat) (f : Order → Order) (k' : Chamber) : (s.changeOrder n f).chamber k' = s.chamber k' := rfl
@[simp] theorem State.changeOrder_wish (s : State) (n : Nat) (f : Order → Order) (k' : Chamber) : (s.changeOrder n f).wish k' = s.wish k' := rfl
@[simp] theorem State.changeOrder_vessel (s : State) (n : Nat) (f : Order → Order) (i' : Nat) : (s.changeOrder n f).vessel i' = s.vessel i' := rfl
@[simp] theorem State.changeOrder_batch (s : State) (n : Nat) (f : Order → Order) (k' : Chamber) : (s.changeOrder n f).batch k' = s.batch k' := rfl
@[simp] theorem State.changeOrder_lamp (s : State) (n : Nat) (f : Order → Order) (l' : LampId) : (s.changeOrder n f).lamp l' = s.lamp l' := rfl
@[simp] theorem State.changeOrder_generator (s : State) (n : Nat) (f : Order → Order) (g' : Generator) : (s.changeOrder n f).generator g' = s.generator g' := rfl
@[simp] theorem State.changeOrder_subscriber (s : State) (n : Nat) (f : Order → Order) (st' : Station) : (s.changeOrder n f).subscriber st' = s.subscriber st' := rfl
@[simp] theorem State.changeOrder_station (s : State) (n : Nat) (f : Order → Order) (st' : Station) : (s.changeOrder n f).station st' = s.station st' := rfl
@[simp] theorem State.changeOrder_holder (s : State) (n : Nat) (f : Order → Order) (k' : Chamber) : (s.changeOrder n f).holder k' = s.holder k' := rfl
@[simp] theorem State.changeOrder_time (s : State) (n : Nat) (f : Order → Order) : (s.changeOrder n f).time = s.time := rfl
@[simp] theorem State.changeOrder_chamberPresent (s : State) (n : Nat) (f : Order → Order) (k' : Chamber) : (s.changeOrder n f).chamberPresent k' = s.chamberPresent k' := rfl

/-! ## setLamp -/
@[simp] theorem State.setLamp_body (s : State) (l : LampId) (x : Lamp) (b' : Body) : (s.setLamp l x).body b' = s.body b' := rfl
@[simp] theorem State.setLamp_pair (s : State) (l : LampId) (x : Lamp) (p' : Pair) : (s.setLamp l x).pair p' = s.pair p' := rfl
@[simp] theorem State.setLamp_gate (s : State) (l : LampId) (x : Lamp) (k' : Chamber) (e' : Side) : (s.setLamp l x).gate k' e' = s.gate k' e' := rfl
@[simp] theorem State.setLamp_sluice (s : State) (l : LampId) (x : Lamp) (q' : Sluice) : (s.setLamp l x).sluice q' = s.sluice q' := rfl
@[simp] theorem State.setLamp_chamber (s : State) (l : LampId) (x : Lamp) (k' : Chamber) : (s.setLamp l x).chamber k' = s.chamber k' := rfl
@[simp] theorem State.setLamp_wish (s : State) (l : LampId) (x : Lamp) (k' : Chamber) : (s.setLamp l x).wish k' = s.wish k' := rfl
@[simp] theorem State.setLamp_vessel (s : State) (l : LampId) (x : Lamp) (i' : Nat) : (s.setLamp l x).vessel i' = s.vessel i' := rfl
@[simp] theorem State.setLamp_batch (s : State) (l : LampId) (x : Lamp) (k' : Chamber) : (s.setLamp l x).batch k' = s.batch k' := rfl
@[simp] theorem State.setLamp_generator (s : State) (l : LampId) (x : Lamp) (g' : Generator) : (s.setLamp l x).generator g' = s.generator g' := rfl
@[simp] theorem State.setLamp_subscriber (s : State) (l : LampId) (x : Lamp) (st' : Station) : (s.setLamp l x).subscriber st' = s.subscriber st' := rfl
@[simp] theorem State.setLamp_station (s : State) (l : LampId) (x : Lamp) (st' : Station) : (s.setLamp l x).station st' = s.station st' := rfl
@[simp] theorem State.setLamp_holder (s : State) (l : LampId) (x : Lamp) (k' : Chamber) : (s.setLamp l x).holder k' = s.holder k' := rfl
@[simp] theorem State.setLamp_time (s : State) (l : LampId) (x : Lamp) : (s.setLamp l x).time = s.time := rfl
@[simp] theorem State.setLamp_chamberPresent (s : State) (l : LampId) (x : Lamp) (k' : Chamber) : (s.setLamp l x).chamberPresent k' = s.chamberPresent k' := rfl

/-! ## mapChamberLamps -/
@[simp] theorem State.mapChamberLamps_body (s : State) (k : Chamber) (f : Lamp → Lamp) (b' : Body) : (s.mapChamberLamps k f).body b' = s.body b' := rfl
@[simp] theorem State.mapChamberLamps_pair (s : State) (k : Chamber) (f : Lamp → Lamp) (p' : Pair) : (s.mapChamberLamps k f).pair p' = s.pair p' := rfl
@[simp] theorem State.mapChamberLamps_gate (s : State) (k : Chamber) (f : Lamp → Lamp) (k' : Chamber) (e' : Side) : (s.mapChamberLamps k f).gate k' e' = s.gate k' e' := rfl
@[simp] theorem State.mapChamberLamps_sluice (s : State) (k : Chamber) (f : Lamp → Lamp) (q' : Sluice) : (s.mapChamberLamps k f).sluice q' = s.sluice q' := rfl
@[simp] theorem State.mapChamberLamps_chamber (s : State) (k : Chamber) (f : Lamp → Lamp) (k' : Chamber) : (s.mapChamberLamps k f).chamber k' = s.chamber k' := rfl
@[simp] theorem State.mapChamberLamps_wish (s : State) (k : Chamber) (f : Lamp → Lamp) (k' : Chamber) : (s.mapChamberLamps k f).wish k' = s.wish k' := rfl
@[simp] theorem State.mapChamberLamps_vessel (s : State) (k : Chamber) (f : Lamp → Lamp) (i' : Nat) : (s.mapChamberLamps k f).vessel i' = s.vessel i' := rfl
@[simp] theorem State.mapChamberLamps_batch (s : State) (k : Chamber) (f : Lamp → Lamp) (k' : Chamber) : (s.mapChamberLamps k f).batch k' = s.batch k' := rfl
@[simp] theorem State.mapChamberLamps_generator (s : State) (k : Chamber) (f : Lamp → Lamp) (g' : Generator) : (s.mapChamberLamps k f).generator g' = s.generator g' := rfl
@[simp] theorem State.mapChamberLamps_subscriber (s : State) (k : Chamber) (f : Lamp → Lamp) (st' : Station) : (s.mapChamberLamps k f).subscriber st' = s.subscriber st' := rfl
@[simp] theorem State.mapChamberLamps_station (s : State) (k : Chamber) (f : Lamp → Lamp) (st' : Station) : (s.mapChamberLamps k f).station st' = s.station st' := rfl
@[simp] theorem State.mapChamberLamps_holder (s : State) (k : Chamber) (f : Lamp → Lamp) (k' : Chamber) : (s.mapChamberLamps k f).holder k' = s.holder k' := rfl
@[simp] theorem State.mapChamberLamps_time (s : State) (k : Chamber) (f : Lamp → Lamp) : (s.mapChamberLamps k f).time = s.time := rfl
@[simp] theorem State.mapChamberLamps_chamberPresent (s : State) (k : Chamber) (f : Lamp → Lamp) (k' : Chamber) : (s.mapChamberLamps k f).chamberPresent k' = s.chamberPresent k' := rfl

/-! ## setTest -/
@[simp] theorem State.setTest_body (s : State) (k : Chamber) (t : Option Nat) (b' : Body) : (s.setTest k t).body b' = s.body b' := rfl
@[simp] theorem State.setTest_pair (s : State) (k : Chamber) (t : Option Nat) (p' : Pair) : (s.setTest k t).pair p' = s.pair p' := rfl
@[simp] theorem State.setTest_gate (s : State) (k : Chamber) (t : Option Nat) (k' : Chamber) (e' : Side) : (s.setTest k t).gate k' e' = s.gate k' e' := rfl
@[simp] theorem State.setTest_sluice (s : State) (k : Chamber) (t : Option Nat) (q' : Sluice) : (s.setTest k t).sluice q' = s.sluice q' := rfl
@[simp] theorem State.setTest_chamber (s : State) (k : Chamber) (t : Option Nat) (k' : Chamber) : (s.setTest k t).chamber k' = s.chamber k' := rfl
@[simp] theorem State.setTest_wish (s : State) (k : Chamber) (t : Option Nat) (k' : Chamber) : (s.setTest k t).wish k' = s.wish k' := rfl
@[simp] theorem State.setTest_vessel (s : State) (k : Chamber) (t : Option Nat) (i' : Nat) : (s.setTest k t).vessel i' = s.vessel i' := rfl
@[simp] theorem State.setTest_batch (s : State) (k : Chamber) (t : Option Nat) (k' : Chamber) : (s.setTest k t).batch k' = s.batch k' := rfl
@[simp] theorem State.setTest_lamp (s : State) (k : Chamber) (t : Option Nat) (l' : LampId) : (s.setTest k t).lamp l' = s.lamp l' := rfl
@[simp] theorem State.setTest_generator (s : State) (k : Chamber) (t : Option Nat) (g' : Generator) : (s.setTest k t).generator g' = s.generator g' := rfl
@[simp] theorem State.setTest_subscriber (s : State) (k : Chamber) (t : Option Nat) (st' : Station) : (s.setTest k t).subscriber st' = s.subscriber st' := rfl
@[simp] theorem State.setTest_station (s : State) (k : Chamber) (t : Option Nat) (st' : Station) : (s.setTest k t).station st' = s.station st' := rfl
@[simp] theorem State.setTest_holder (s : State) (k : Chamber) (t : Option Nat) (k' : Chamber) : (s.setTest k t).holder k' = s.holder k' := rfl
@[simp] theorem State.setTest_time (s : State) (k : Chamber) (t : Option Nat) : (s.setTest k t).time = s.time := rfl
@[simp] theorem State.setTest_chamberPresent (s : State) (k : Chamber) (t : Option Nat) (k' : Chamber) : (s.setTest k t).chamberPresent k' = s.chamberPresent k' := rfl

/-! ## setGenerator -/
@[simp] theorem State.setGenerator_body (s : State) (g : Generator) (x : FlashGen) (b' : Body) : (s.setGenerator g x).body b' = s.body b' := by cases g <;> rfl
@[simp] theorem State.setGenerator_pair (s : State) (g : Generator) (x : FlashGen) (p' : Pair) : (s.setGenerator g x).pair p' = s.pair p' := by cases g <;> rfl
@[simp] theorem State.setGenerator_gate (s : State) (g : Generator) (x : FlashGen) (k' : Chamber) (e' : Side) : (s.setGenerator g x).gate k' e' = s.gate k' e' := by cases g <;> rfl
@[simp] theorem State.setGenerator_sluice (s : State) (g : Generator) (x : FlashGen) (q' : Sluice) : (s.setGenerator g x).sluice q' = s.sluice q' := by cases g <;> rfl
@[simp] theorem State.setGenerator_chamber (s : State) (g : Generator) (x : FlashGen) (k' : Chamber) : (s.setGenerator g x).chamber k' = s.chamber k' := by cases g <;> rfl
@[simp] theorem State.setGenerator_wish (s : State) (g : Generator) (x : FlashGen) (k' : Chamber) : (s.setGenerator g x).wish k' = s.wish k' := by cases g <;> rfl
@[simp] theorem State.setGenerator_vessel (s : State) (g : Generator) (x : FlashGen) (i' : Nat) : (s.setGenerator g x).vessel i' = s.vessel i' := by cases g <;> rfl
@[simp] theorem State.setGenerator_batch (s : State) (g : Generator) (x : FlashGen) (k' : Chamber) : (s.setGenerator g x).batch k' = s.batch k' := by cases g <;> rfl
@[simp] theorem State.setGenerator_lamp (s : State) (g : Generator) (x : FlashGen) (l' : LampId) : (s.setGenerator g x).lamp l' = s.lamp l' := by cases g <;> cases l' <;> rfl
@[simp] theorem State.setGenerator_subscriber (s : State) (g : Generator) (x : FlashGen) (st' : Station) : (s.setGenerator g x).subscriber st' = s.subscriber st' := by cases g <;> rfl
@[simp] theorem State.setGenerator_station (s : State) (g : Generator) (x : FlashGen) (st' : Station) : (s.setGenerator g x).station st' = s.station st' := by cases g <;> rfl
@[simp] theorem State.setGenerator_holder (s : State) (g : Generator) (x : FlashGen) (k' : Chamber) : (s.setGenerator g x).holder k' = s.holder k' := by cases g <;> rfl
@[simp] theorem State.setGenerator_time (s : State) (g : Generator) (x : FlashGen) : (s.setGenerator g x).time = s.time := by cases g <;> rfl
@[simp] theorem State.setGenerator_chamberPresent (s : State) (g : Generator) (x : FlashGen) (k' : Chamber) : (s.setGenerator g x).chamberPresent k' = s.chamberPresent k' := by cases g <;> rfl

/-! ## setSubscriber -/
@[simp] theorem State.setSubscriber_body (s : State) (st : Station) (b : Option Subscriber) (b' : Body) : (s.setSubscriber st b).body b' = s.body b' := rfl
@[simp] theorem State.setSubscriber_pair (s : State) (st : Station) (b : Option Subscriber) (p' : Pair) : (s.setSubscriber st b).pair p' = s.pair p' := rfl
@[simp] theorem State.setSubscriber_gate (s : State) (st : Station) (b : Option Subscriber) (k' : Chamber) (e' : Side) : (s.setSubscriber st b).gate k' e' = s.gate k' e' := rfl
@[simp] theorem State.setSubscriber_sluice (s : State) (st : Station) (b : Option Subscriber) (q' : Sluice) : (s.setSubscriber st b).sluice q' = s.sluice q' := rfl
@[simp] theorem State.setSubscriber_chamber (s : State) (st : Station) (b : Option Subscriber) (k' : Chamber) : (s.setSubscriber st b).chamber k' = s.chamber k' := rfl
@[simp] theorem State.setSubscriber_wish (s : State) (st : Station) (b : Option Subscriber) (k' : Chamber) : (s.setSubscriber st b).wish k' = s.wish k' := rfl
@[simp] theorem State.setSubscriber_vessel (s : State) (st : Station) (b : Option Subscriber) (i' : Nat) : (s.setSubscriber st b).vessel i' = s.vessel i' := rfl
@[simp] theorem State.setSubscriber_batch (s : State) (st : Station) (b : Option Subscriber) (k' : Chamber) : (s.setSubscriber st b).batch k' = s.batch k' := rfl
@[simp] theorem State.setSubscriber_lamp (s : State) (st : Station) (b : Option Subscriber) (l' : LampId) : (s.setSubscriber st b).lamp l' = s.lamp l' := rfl
@[simp] theorem State.setSubscriber_generator (s : State) (st : Station) (b : Option Subscriber) (g' : Generator) : (s.setSubscriber st b).generator g' = s.generator g' := rfl
@[simp] theorem State.setSubscriber_station (s : State) (st : Station) (b : Option Subscriber) (st' : Station) : (s.setSubscriber st b).station st' = s.station st' := rfl
@[simp] theorem State.setSubscriber_holder (s : State) (st : Station) (b : Option Subscriber) (k' : Chamber) : (s.setSubscriber st b).holder k' = s.holder k' := rfl
@[simp] theorem State.setSubscriber_time (s : State) (st : Station) (b : Option Subscriber) : (s.setSubscriber st b).time = s.time := rfl
@[simp] theorem State.setSubscriber_chamberPresent (s : State) (st : Station) (b : Option Subscriber) (k' : Chamber) : (s.setSubscriber st b).chamberPresent k' = s.chamberPresent k' := rfl

/-! ## postSite -/
@[simp] theorem State.postSite_body (s : State) (x y z : Nat) (b' : Body) : (s.postSite x y z).body b' = s.body b' := rfl
@[simp] theorem State.postSite_pair (s : State) (x y z : Nat) (p' : Pair) : (s.postSite x y z).pair p' = s.pair p' := rfl
@[simp] theorem State.postSite_gate (s : State) (x y z : Nat) (k' : Chamber) (e' : Side) : (s.postSite x y z).gate k' e' = s.gate k' e' := rfl
@[simp] theorem State.postSite_sluice (s : State) (x y z : Nat) (q' : Sluice) : (s.postSite x y z).sluice q' = s.sluice q' := rfl
@[simp] theorem State.postSite_chamber (s : State) (x y z : Nat) (k' : Chamber) : (s.postSite x y z).chamber k' = s.chamber k' := rfl
@[simp] theorem State.postSite_wish (s : State) (x y z : Nat) (k' : Chamber) : (s.postSite x y z).wish k' = s.wish k' := rfl
@[simp] theorem State.postSite_vessel (s : State) (x y z : Nat) (i' : Nat) : (s.postSite x y z).vessel i' = s.vessel i' := rfl
@[simp] theorem State.postSite_batch (s : State) (x y z : Nat) (k' : Chamber) : (s.postSite x y z).batch k' = s.batch k' := rfl
@[simp] theorem State.postSite_lamp (s : State) (x y z : Nat) (l' : LampId) : (s.postSite x y z).lamp l' = s.lamp l' := rfl
@[simp] theorem State.postSite_generator (s : State) (x y z : Nat) (g' : Generator) : (s.postSite x y z).generator g' = s.generator g' := rfl
@[simp] theorem State.postSite_subscriber (s : State) (x y z : Nat) (st' : Station) : (s.postSite x y z).subscriber st' = s.subscriber st' := rfl
@[simp] theorem State.postSite_station (s : State) (x y z : Nat) (st' : Station) : (s.postSite x y z).station st' = s.station st' := rfl
@[simp] theorem State.postSite_holder (s : State) (x y z : Nat) (k' : Chamber) : (s.postSite x y z).holder k' = s.holder k' := rfl
@[simp] theorem State.postSite_time (s : State) (x y z : Nat) : (s.postSite x y z).time = s.time := rfl
@[simp] theorem State.postSite_chamberPresent (s : State) (x y z : Nat) (k' : Chamber) : (s.postSite x y z).chamberPresent k' = s.chamberPresent k' := rfl

/-! ## setStation -/
@[simp] theorem State.setStation_body (s : State) (st : Station) (r : StationRec) (b' : Body) : (s.setStation st r).body b' = s.body b' := rfl
@[simp] theorem State.setStation_pair (s : State) (st : Station) (r : StationRec) (p' : Pair) : (s.setStation st r).pair p' = s.pair p' := rfl
@[simp] theorem State.setStation_gate (s : State) (st : Station) (r : StationRec) (k' : Chamber) (e' : Side) : (s.setStation st r).gate k' e' = s.gate k' e' := rfl
@[simp] theorem State.setStation_sluice (s : State) (st : Station) (r : StationRec) (q' : Sluice) : (s.setStation st r).sluice q' = s.sluice q' := rfl
@[simp] theorem State.setStation_chamber (s : State) (st : Station) (r : StationRec) (k' : Chamber) : (s.setStation st r).chamber k' = s.chamber k' := rfl
@[simp] theorem State.setStation_wish (s : State) (st : Station) (r : StationRec) (k' : Chamber) : (s.setStation st r).wish k' = s.wish k' := rfl
@[simp] theorem State.setStation_vessel (s : State) (st : Station) (r : StationRec) (i' : Nat) : (s.setStation st r).vessel i' = s.vessel i' := rfl
@[simp] theorem State.setStation_batch (s : State) (st : Station) (r : StationRec) (k' : Chamber) : (s.setStation st r).batch k' = s.batch k' := rfl
@[simp] theorem State.setStation_lamp (s : State) (st : Station) (r : StationRec) (l' : LampId) : (s.setStation st r).lamp l' = s.lamp l' := rfl
@[simp] theorem State.setStation_generator (s : State) (st : Station) (r : StationRec) (g' : Generator) : (s.setStation st r).generator g' = s.generator g' := rfl
@[simp] theorem State.setStation_subscriber (s : State) (st : Station) (r : StationRec) (st' : Station) : (s.setStation st r).subscriber st' = s.subscriber st' := rfl
@[simp] theorem State.setStation_holder (s : State) (st : Station) (r : StationRec) (k' : Chamber) : (s.setStation st r).holder k' = s.holder k' := rfl
@[simp] theorem State.setStation_time (s : State) (st : Station) (r : StationRec) : (s.setStation st r).time = s.time := rfl
@[simp] theorem State.setStation_chamberPresent (s : State) (st : Station) (r : StationRec) (k' : Chamber) : (s.setStation st r).chamberPresent k' = s.chamberPresent k' := rfl

/-! ## setHolder -/
@[simp] theorem State.setHolder_body (s : State) (k : Chamber) (h : Option Station) (b' : Body) : (s.setHolder k h).body b' = s.body b' := rfl
@[simp] theorem State.setHolder_pair (s : State) (k : Chamber) (h : Option Station) (p' : Pair) : (s.setHolder k h).pair p' = s.pair p' := rfl
@[simp] theorem State.setHolder_gate (s : State) (k : Chamber) (h : Option Station) (k' : Chamber) (e' : Side) : (s.setHolder k h).gate k' e' = s.gate k' e' := rfl
@[simp] theorem State.setHolder_sluice (s : State) (k : Chamber) (h : Option Station) (q' : Sluice) : (s.setHolder k h).sluice q' = s.sluice q' := rfl
@[simp] theorem State.setHolder_chamber (s : State) (k : Chamber) (h : Option Station) (k' : Chamber) : (s.setHolder k h).chamber k' = s.chamber k' := rfl
@[simp] theorem State.setHolder_wish (s : State) (k : Chamber) (h : Option Station) (k' : Chamber) : (s.setHolder k h).wish k' = s.wish k' := rfl
@[simp] theorem State.setHolder_vessel (s : State) (k : Chamber) (h : Option Station) (i' : Nat) : (s.setHolder k h).vessel i' = s.vessel i' := rfl
@[simp] theorem State.setHolder_batch (s : State) (k : Chamber) (h : Option Station) (k' : Chamber) : (s.setHolder k h).batch k' = s.batch k' := rfl
@[simp] theorem State.setHolder_lamp (s : State) (k : Chamber) (h : Option Station) (l' : LampId) : (s.setHolder k h).lamp l' = s.lamp l' := rfl
@[simp] theorem State.setHolder_generator (s : State) (k : Chamber) (h : Option Station) (g' : Generator) : (s.setHolder k h).generator g' = s.generator g' := rfl
@[simp] theorem State.setHolder_subscriber (s : State) (k : Chamber) (h : Option Station) (st' : Station) : (s.setHolder k h).subscriber st' = s.subscriber st' := rfl
@[simp] theorem State.setHolder_station (s : State) (k : Chamber) (h : Option Station) (st' : Station) : (s.setHolder k h).station st' = s.station st' := rfl
@[simp] theorem State.setHolder_time (s : State) (k : Chamber) (h : Option Station) : (s.setHolder k h).time = s.time := rfl
@[simp] theorem State.setHolder_chamberPresent (s : State) (k : Chamber) (h : Option Station) (k' : Chamber) : (s.setHolder k h).chamberPresent k' = s.chamberPresent k' := rfl

/-! ## Reading back what was written -/

@[simp] theorem State.setBody_body (s : State) (b : Body) (r : BodyRec) (b' : Body) :
    (s.setBody b r).body b' = if b' = b then r else s.body b' := PerBody.get_set _ _ _ _

@[simp] theorem State.setChamber_chamber (s : State) (k : Chamber) (c : Sequencer) (k' : Chamber) :
    (s.setChamber k c).chamber k' = if k' = k then c else s.chamber k' := PerChamber.get_set _ _ _ _

@[simp] theorem State.setWish_wish (s : State) (k : Chamber) (w : Option Wish) (k' : Chamber) :
    (s.setWish k w).wish k' = if k' = k then w else s.wish k' := PerChamber.get_set _ _ _ _

@[simp] theorem State.setBatch_batch (s : State) (k : Chamber) (b : Option Batch) (k' : Chamber) :
    (s.setBatch k b).batch k' = if k' = k then b else s.batch k' := PerChamber.get_set _ _ _ _

@[simp] theorem State.setStation_station (s : State) (st : Station) (r : StationRec) (st' : Station) :
    (s.setStation st r).station st' = if st' = st then r else s.station st' := PerStation.get_set _ _ _ _

@[simp] theorem State.setHolder_holder (s : State) (k : Chamber) (h : Option Station) (k' : Chamber) :
    (s.setHolder k h).holder k' = if k' = k then h else s.holder k' := PerChamber.get_set _ _ _ _

@[simp] theorem State.setSubscriber_subscriber (s : State) (st : Station) (b : Option Subscriber) (st' : Station) :
    (s.setSubscriber st b).subscriber st' = if st' = st then b else s.subscriber st' := PerStation.get_set _ _ _ _

@[simp] theorem State.putGate_gate (s : State) (k : Chamber) (e : Side) (g : Gate) (k' : Chamber) (e' : Side) :
    (s.putGate k e g).gate k' e' = if k' = k ∧ e' = e then g else s.gate k' e' := by
  cases k <;> cases k' <;> cases e <;> cases e' <;> rfl

@[simp] theorem State.putSluice_sluice (s : State) (q : Sluice) (r : SluiceRec) (q' : Sluice) :
    (s.putSluice q r).sluice q' = if q' = q then r else s.sluice q' := by
  rcases q with ⟨k, e⟩ | _ <;> rcases q' with ⟨k', e'⟩ | _ <;> first | rfl | cases k <;> cases k' <;> cases e <;> cases e' <;> rfl

@[simp] theorem State.setPair_pair (s : State) (p : Pair) (x : PairState) (p' : Pair) :
    (s.setPair p x).pair p' = if p' = p then x else s.pair p' := by
  rcases p with ⟨e, k⟩ | _ <;> rcases p' with ⟨e', k'⟩ | _ <;>
    first | rfl | cases k <;> cases k' <;> cases e <;> cases e' <;> rfl

@[simp] theorem State.setGenerator_generator (s : State) (g : Generator) (x : FlashGen) (g' : Generator) :
    (s.setGenerator g x).generator g' = if g' = g then x else s.generator g' := by
  cases g <;> cases g' <;> rfl

/-- A lamp read after one was replaced. -/
@[simp] theorem State.setLamp_lamp (s : State) (l : LampId) (x : Lamp) (l' : LampId) :
    (s.setLamp l x).lamp l' = if l' = l then x else s.lamp l' := by
  rcases l with ⟨k, g, n⟩
  rcases l' with ⟨k', g', n'⟩
  by_cases hk : k' = k <;> by_cases hg : g' = g <;> by_cases hn : n' = n <;>
    simp [State.setLamp, State.lamp, hk, hg, hn]

/-- A slot read after one was replaced: a slot beyond 127 is not written. -/
@[simp] theorem State.setVessel_vessel (s : State) (i : Nat) (v : Vessel) (j : Nat) :
    (s.setVessel i v).vessel j = if j = i ∧ i < 128 then v else s.vessel j := by
  unfold State.setVessel State.vessel
  simp only [Vector.getElem?_setIfInBounds]
  by_cases h : i = j
  · subst h
    by_cases h' : i < 128 <;> simp [h']
  · simp [h, Ne.symm h]

end Sys2Proof.Machine
end

