-- ==== Sys2Proof/Laws/Core.lean ====
section
/-! SUPPORT. What no consequence of an event touches: the settled part of the state, and one lemma per shared operation that says
it keeps it. -/

namespace Sys2Proof.Machine

/-- A body without its sampling mode and the timers that follow from it. -/
def BodyRec.core (r : BodyRec) : BodyRec := { r with sampling := .primary, hold := none, roundTimer := none }

/-- The part of the state that no consequence of an event touches: time, settings, levels, level states and pairs, vessels, tariff
tables, clock, tallies, the ports, conduct, store and queue. Everything else is blanked. -/
def State.core (s : State) : State where
  now := s.now
  loaded := s.loaded
  settings := s.settings
  levels :=
    { s.levels with
      bodies := ⟨s.levels.bodies.up.core, s.levels.bodies.lp.core, s.levels.bodies.c1.core, s.levels.bodies.c2.core⟩
      queue := [] }
  drive := {}
  chambers := ⟨{}, {}⟩
  arbiter := {}
  vessels := s.vessels
  book := {}
  signals := State.reset.signals
  active := s.active
  standby := s.standby
  clock := s.clock
  journal := {}
  site := {}
  tallies := s.tallies
  stations := ⟨s.stations.uc.core, s.stations.lc.core, s.stations.tc.core⟩
  conduct := s.conduct
  capture := {}
  store := s.store
  agenda := []
  choices := 0
  pending := s.pending

/-- A fold of steps that keep the settled part keeps it. -/
@[simp] theorem foldl_core {α : Type} (f : State → α → State) (l : List α) (s : State) (h : ∀ t x, (f t x).core = t.core) :
    (l.foldl f s).core = s.core := by
  induction l generalizing s with
  | nil => rfl
  | cons x xs ih => rw [List.foldl_cons, ih, h]

/-! ## Blanked fields -/

@[simp] theorem State.core_drive (t : State) (x : Drive) : State.core { t with drive := x } = t.core := rfl

@[simp] theorem State.core_chambers (t : State) (x : PerChamber Sequencer) :
    State.core { t with chambers := x } = t.core := rfl

@[simp] theorem State.core_arbiter (t : State) (x : Arbiter) : State.core { t with arbiter := x } = t.core := rfl

@[simp] theorem State.core_book (t : State) (x : Book) : State.core { t with book := x } = t.core := rfl

@[simp] theorem State.core_signals (t : State) (x : Signals) : State.core { t with signals := x } = t.core := rfl

@[simp] theorem State.core_journal (t : State) (x : Journal) : State.core { t with journal := x } = t.core := rfl

@[simp] theorem State.core_site (t : State) (x : SiteAccount) : State.core { t with site := x } = t.core := rfl

@[simp] theorem State.core_capture (t : State) (x : Capture) : State.core { t with capture := x } = t.core := rfl

@[simp] theorem State.core_agenda (t : State) (x : List Task) : State.core { t with agenda := x } = t.core := rfl

@[simp] theorem State.core_choices (t : State) (x : Nat) : State.core { t with choices := x } = t.core := rfl

/-- A body's record may be replaced by one that differs in its sampling only. -/
@[simp] theorem State.setBody_core (s : State) (b : Body) (r : BodyRec) (h : r.core = (s.body b).core) :
    (s.setBody b r).core = s.core := by
  cases b <;> simp only [State.core, State.setBody, PerBody.set] <;> rw [h] <;> rfl

/-- A station's record may be replaced by one that differs in its notices and its line only. -/
@[simp] theorem State.setStation_core (s : State) (st : Station) (r : StationRec) (h : r.core = (s.station st).core) :
    (s.setStation st r).core = s.core := by
  cases st <;> simp only [State.core, State.setStation, PerStation.set] <;> rw [h] <;> rfl

@[simp] theorem State.setSampling_core (s : State) (b : Body) (x : Sampling) :
    (s.setBody b { s.body b with sampling := x }).core = s.core := s.setBody_core b _ rfl

@[simp] theorem State.setHold_core (s : State) (b : Body) (x : Option Nat) :
    (s.setBody b { s.body b with hold := x }).core = s.core := s.setBody_core b _ rfl

@[simp] theorem State.setRoundTimer_core (s : State) (b : Body) (x : Option Nat) :
    (s.setBody b { s.body b with roundTimer := x }).core = s.core := s.setBody_core b _ rfl

@[simp] theorem StationRec.driveLevel_core (r : StationRec) : r.driveLevel.core = r.core := by
  unfold StationRec.driveLevel
  split <;> rfl

@[simp] theorem StationRec.raise_core (r : StationRec) (now : Nat) (n : NoticeKind) : (r.raise now n).core = r.core := by
  unfold StationRec.raise
  dsimp only
  (repeat' split) <;> first | rfl | exact StationRec.driveLevel_core _

/-! ## The named updates -/

@[simp] theorem State.putGate_core (s : State) (k : Chamber) (e : Side) (g : Gate) : (s.putGate k e g).core = s.core := rfl

@[simp] theorem State.putSluice_core (s : State) (q : Sluice) (r : SluiceRec) : (s.putSluice q r).core = s.core := by
  cases q <;> rfl

@[simp] theorem State.setOverflow_core (s : State) (k : Chamber) (x : Bool) : (s.setOverflow k x).core = s.core := rfl

@[simp] theorem State.send_core (s : State) (a : Actuator) (o : DriveOrder) : (s.send a o).core = s.core := rfl

@[simp] theorem State.setChamber_core (s : State) (k : Chamber) (c : Sequencer) : (s.setChamber k c).core = s.core := rfl

@[simp] theorem State.setWish_core (s : State) (k : Chamber) (w : Option Wish) : (s.setWish k w).core = s.core := rfl

@[simp] theorem State.setBatch_core (s : State) (k : Chamber) (b : Option Batch) : (s.setBatch k b).core = s.core := rfl

@[simp] theorem State.changeOrder_core (s : State) (n : Nat) (f : Order → Order) : (s.changeOrder n f).core = s.core := rfl

@[simp] theorem State.setLamp_core (s : State) (l : LampId) (x : Lamp) : (s.setLamp l x).core = s.core := rfl

@[simp] theorem State.mapChamberLamps_core (s : State) (k : Chamber) (f : Lamp → Lamp) :
    (s.mapChamberLamps k f).core = s.core := rfl

@[simp] theorem State.setTest_core (s : State) (k : Chamber) (t : Option Nat) : (s.setTest k t).core = s.core := rfl

@[simp] theorem State.setGenerator_core (s : State) (g : Generator) (x : FlashGen) :
    (s.setGenerator g x).core = s.core := by cases g <;> rfl

@[simp] theorem State.setSubscriber_core (s : State) (st : Station) (b : Option Subscriber) :
    (s.setSubscriber st b).core = s.core := rfl

@[simp] theorem State.postSite_core (s : State) (x y z : Nat) : (s.postSite x y z).core = s.core := rfl

/-! ## The cascade's list -/

@[simp] theorem State.push_core (s : State) (t : Task) : (s.push t).core = s.core := by
  unfold State.push
  split <;> simp

@[simp] theorem State.pushForms_core (s : State) (x y : Bool) : (s.pushForms x y).core = s.core := by
  unfold State.pushForms
  (repeat' split) <;> simp

@[simp] theorem State.pushAvailable_core (s : State) : s.pushAvailable.core = s.core := by
  simp [State.pushAvailable]

/-! ## Flags -/

@[simp] theorem State.raiseAt_core (s : State) (st : Station) (n : NoticeKind) : (s.raiseAt st n).core = s.core := by
  simp [State.raiseAt]

@[simp] theorem State.raiseAll_core (s : State) (n : NoticeKind) : (s.raiseAll n).core = s.core := by
  simp [State.raiseAll]

/-! ## Journal -/

@[simp] theorem State.watermarkAt_core (s : State) (st : Station) (x y : Nat) : (s.watermarkAt st x y).core = s.core := by
  unfold State.watermarkAt
  (repeat' split) <;> simp

@[simp] theorem State.watermarks_core (s : State) (old : State) : (s.watermarks old).core = s.core := by
  simp [State.watermarks]

@[simp] theorem State.append_core (s : State) (f : Frame) : (s.append f).core = s.core := by
  simp [State.append]

@[simp] theorem State.discardFor_core (s : State) (n : Nat) : (s.discardFor n).core = s.core := rfl

@[simp] theorem State.write_core (s : State) (f : Frame) : (s.write f).core = s.core := by
  unfold State.write
  (repeat' split) <;> simp

@[simp] theorem State.writeReserved_core (s : State) (k : Chamber) (f : Frame) : (s.writeReserved k f).core = s.core := by
  unfold State.writeReserved
  split <;> simp

@[simp] theorem State.noteFreed_core (s : State) (old : State) : (s.noteFreed old).core = s.core := by
  unfold State.noteFreed
  split <;> simp

@[simp] theorem State.free_core (s : State) : s.free.core = s.core := by
  unfold State.free
  split <;> simp

@[simp] theorem State.releaseReserve_core (s : State) (k : Chamber) (n : Nat) : (s.releaseReserve k n).core = s.core := by
  unfold State.releaseReserve
  split <;> simp

/-! ## Faults -/

@[simp] theorem State.raiseFault_core (s : State) (f : FaultKind) (x : Subject) : (s.raiseFault f x).core = s.core := by
  unfold State.raiseFault
  split <;> simp

/-! ## Sampling -/

@[simp] theorem State.enqueue_core (s : State) (b : Body) : (s.enqueue b).core = s.core := by
  unfold State.enqueue
  split <;> rfl

@[simp] theorem State.dueAfter_core (s : State) (b : Body) (n : Nat) : (s.dueAfter b n).core = s.core := by
  unfold State.dueAfter
  (repeat' split) <;> simp

@[simp] theorem State.becomeFast_core (s : State) (b : Body) : (s.becomeFast b).core = s.core := by
  unfold State.becomeFast
  split <;> simp

@[simp] theorem State.becomePrimary_core (s : State) (b : Body) : (s.becomePrimary b).core = s.core := by
  simp [State.becomePrimary]

@[simp] theorem State.gainCause_core (s : State) (b : Body) : (s.gainCause b).core = s.core := by
  simp [State.gainCause]

@[simp] theorem State.holdOut_core (s : State) (b : Body) : (s.holdOut b).core = s.core := by
  unfold State.holdOut
  dsimp only
  split <;> simp

@[simp] theorem State.loseCause_core (s : State) (b : Body) : (s.loseCause b).core = s.core := by
  unfold State.loseCause
  split <;> simp

@[simp] theorem State.noteFastAt_core (s : State) (old : State) (b : Body) : (s.noteFastAt old b).core = s.core := by
  unfold State.noteFastAt
  (repeat' split) <;> simp

@[simp] theorem State.noteFast_core (s : State) (old : State) : (s.noteFast old).core = s.core := by
  simp [State.noteFast]

@[simp] theorem State.setGate_core (s : State) (k : Chamber) (e : Side) (g : Gate) : (s.setGate k e g).core = s.core := by
  simp [State.setGate]

@[simp] theorem State.setSluice_core (s : State) (q : Sluice) (r : SluiceRec) : (s.setSluice q r).core = s.core := by
  simp [State.setSluice]

/-! ## Drive -/

@[simp] theorem State.moveFrame_core (s : State) (a : Actuator) (o : MoveOutcome) : (s.moveFrame a o).core = s.core := by
  simp [State.moveFrame]

@[simp] theorem State.startGate_core (s : State) (k : Chamber) (e : Side) (m : GateMove) :
    (s.startGate k e m).core = s.core := by
  unfold State.startGate
  split <;> simp

@[simp] theorem State.openGate_core (s : State) (k : Chamber) (e : Side) : (s.openGate k e).1.core = s.core := by
  unfold State.openGate
  (repeat' split) <;> simp

@[simp] theorem State.closeGate_core (s : State) (k : Chamber) (e : Side) : (s.closeGate k e).1.core = s.core := by
  unfold State.closeGate
  split <;> simp

@[simp] theorem State.stopGate_core (s : State) (k : Chamber) (e : Side) : (s.stopGate k e).core = s.core := by
  unfold State.stopGate
  dsimp only
  split <;> simp

@[simp] theorem State.stallGate_core (s : State) (k : Chamber) (e : Side) : (s.stallGate k e).core = s.core := by
  simp [State.stallGate]

@[simp] theorem State.sendMove_core (s : State) (q : Sluice) (n : Nat) : (s.sendMove q n).core = s.core := by
  simp [State.sendMove]

@[simp] theorem State.moveSluice_core (s : State) (q : Sluice) (n : Nat) : (s.moveSluice q n).1.core = s.core := by
  unfold State.moveSluice
  dsimp only
  (repeat' split) <;> simp

@[simp] theorem State.endRamp_core (s : State) (q : Sluice) : (s.endRamp q).core = s.core := by
  simp [State.endRamp]

@[simp] theorem State.orderSluice_core (s : State) (q : Sluice) (n : Nat) : (s.orderSluice q n).1.core = s.core := by
  unfold State.orderSluice
  have h := s.moveSluice_core q n
  split <;> simp_all

@[simp] theorem State.shutSluice_core (s : State) (q : Sluice) : (s.shutSluice q).core = s.core := by
  simp [State.shutSluice]

@[simp] theorem State.forceShut_core (s : State) (q : Sluice) : (s.forceShut q).core = s.core := by
  simp [State.forceShut]

@[simp] theorem State.stopSluice_core (s : State) (q : Sluice) : (s.stopSluice q).core = s.core := by
  unfold State.stopSluice
  dsimp only
  split <;> simp

@[simp] theorem State.stallSluice_core (s : State) (q : Sluice) : (s.stallSluice q).core = s.core := by
  simp [State.stallSluice]

@[simp] theorem State.setRamp_core (s : State) (q : Sluice) (r : Option Ramp) : (s.setRamp q r).core = s.core := by
  simp [State.setRamp]

@[simp] theorem State.rampOrder_core (s : State) (q : Sluice) (r : Ramp) : (s.rampOrder q r).core = s.core := by
  unfold State.rampOrder
  have h := s.moveSluice_core q r.next
  split <;> simp_all

@[simp] theorem State.rampDecide_core (s : State) (q : Sluice) (r : Ramp) : (s.rampDecide q r).core = s.core := by
  unfold State.rampDecide
  (repeat' split) <;> simp

@[simp] theorem State.startRamp_core (s : State) (q : Sluice) (w : Requester) (n : Nat) :
    (s.startRamp q w n).core = s.core := by
  unfold State.startRamp
  dsimp only
  (repeat' split) <;> simp

@[simp] theorem State.rampReached_core (s : State) (q : Sluice) (n : Nat) : (s.rampReached q n).core = s.core := by
  unfold State.rampReached
  (repeat' split) <;> simp

@[simp] theorem State.rampLevel_core (s : State) (b : Body) (q : Sluice) : (s.rampLevel b q).core = s.core := by
  unfold State.rampLevel
  (repeat' split) <;> simp

@[simp] theorem State.rampRetry_core (s : State) (h : Handed) (q : Sluice) : (s.rampRetry h q).core = s.core := by
  unfold State.rampRetry
  (repeat' split) <;> simp

@[simp] theorem State.rampRetries_core (s : State) (h : Handed) : (s.rampRetries h).core = s.core :=
  foldl_core _ _ _ (fun t q => t.rampRetry_core h q)

/-! ## Orders -/

@[simp] theorem State.orderFrame_core (s : State) (n : Option Nat) (slot : Nat) (e : OrderEvent) (st : Station) :
    (s.orderFrame n slot e st).core = s.core := by simp [State.orderFrame]

@[simp] theorem State.rejudge_core (s : State) (slot : Nat) : (s.rejudge slot).core = s.core := by
  unfold State.rejudge
  dsimp only
  (repeat' split) <;> simp

@[simp] theorem State.rejudgeAll_core (s : State) : s.rejudgeAll.core = s.core := foldl_core _ _ _ (fun t o => t.rejudge_core o.slot)

@[simp] theorem State.returnOrder_core (s : State) (o : Order) : (s.returnOrder o).core = s.core := rfl

/-! ## Dues -/

@[simp] theorem State.takeForBatch_core (s : State) (k : Chamber) (w : WaterRec) (b : Batch) (x : Option Nat) :
    (s.takeForBatch k w b x).core = s.core := by
  unfold State.takeForBatch
  split <;> simp

@[simp] theorem State.takeForSite_core (s : State) (k : Chamber) (w : WaterRec) (x : Option Nat) :
    (s.takeForSite k w x).core = s.core := by
  unfold State.takeForSite
  split <;> simp

@[simp] theorem State.closeWater_core (s : State) (k : Chamber) (x : Bool) : (s.closeWater k x).core = s.core := by
  unfold State.closeWater
  dsimp only
  (repeat' split) <;> simp

@[simp] theorem State.reapportion_core (s : State) (k : Chamber) (x : Bool) : (s.reapportion k x).core = s.core := by
  unfold State.reapportion
  (repeat' split) <;> simp

@[simp] theorem State.noteUnset_core (s : State) : s.noteUnset.core = s.core := by
  unfold State.noteUnset
  split <;> simp

/-! ## Batches -/

@[simp] theorem State.raiseCounts_core (s : State) (c : Scan) : (s.raiseCounts c).core = s.core := foldl_core _ _ _ (fun t n => t.changeOrder_core n _)

@[simp] theorem State.bindBatch_core (s : State) (k : Chamber) (d : Direction) (c : Scan) :
    (s.bindBatch k d c).core = s.core := by
  unfold State.bindBatch
  simp only [push_core, raiseAll_core, core_book]
  rw [foldl_core]
  · rfl
  · intro t m
    rfl

@[simp] theorem State.bindScan_core (s : State) (k : Chamber) (d : Direction) (c : Scan) :
    (s.bindScan k d c).1.core = s.core := by
  unfold State.bindScan
  split
  · next t h =>
    have : t.core = s.core := by
      unfold State.askReserve at h
      (repeat' split at h) <;> simp_all <;> rw [← h] <;> simp [State.discardFor_core]
    simpa using this
  · dsimp only
    split <;> simp

@[simp] theorem State.formFrom_core (s : State) (k : Chamber) (d : Direction) : (s.formFrom k d).1.core = s.core := by
  unfold State.formFrom
  dsimp only
  (repeat' split) <;> simp

@[simp] theorem State.form_core (s : State) (k : Chamber) : (s.form k).core = s.core := by
  unfold State.form
  dsimp only
  (repeat' split) <;> simp

@[simp] theorem State.leaveBatch_core (s : State) (k : Chamber) (n : Nat) : (s.leaveBatch k n).core = s.core := by
  unfold State.leaveBatch
  split <;> simp

@[simp] theorem State.removeBatch_core (s : State) (k : Chamber) : (s.removeBatch k).core = s.core := by
  simp [State.removeBatch]

@[simp] theorem State.abandonBatch_core (s : State) (k : Chamber) : (s.abandonBatch k).core = s.core := by
  simp [State.abandonBatch]

@[simp] theorem State.returnMember_core (s : State) (st : Station) (n : Nat) : (s.returnMember st n).core = s.core := by
  unfold State.returnMember
  split <;> simp

@[simp] theorem State.unbind_core (s : State) (k : Chamber) (st : Station) : (s.unbind k st).core = s.core := by
  unfold State.unbind
  dsimp only
  (repeat' split) <;> simp

/-! ## Phases -/

@[simp] theorem State.setChamberState_core (s : State) (k : Chamber) (x : ChamberState) :
    (s.setChamberState k x).core = s.core := rfl

@[simp] theorem State.openWater_core (s : State) (k : Chamber) (x : WaterKind) : (s.openWater k x).core = s.core := rfl

@[simp] theorem State.beginPhase_core (s : State) (k : Chamber) (x : WaterKind) : (s.beginPhase k x).core = s.core := rfl

@[simp] theorem State.phaseDone_core (s : State) (k : Chamber) (x : WaterKind) : (s.phaseDone k x).core = s.core := by
  unfold State.phaseDone
  dsimp only
  split <;> simp

@[simp] theorem State.endPhase_core (s : State) (k : Chamber) (x : WaterKind) : (s.endPhase k x).core = s.core := by
  simp [State.endPhase]

@[simp] theorem State.enterPhase_core (s : State) (k : Chamber) (x : WaterKind) : (s.enterPhase k x).core = s.core := by
  unfold State.enterPhase
  dsimp only
  split <;> simp

@[simp] theorem State.proceedAlone_core (s : State) (k : Chamber) : (s.proceedAlone k).core = s.core := by
  unfold State.proceedAlone
  split <;> simp

@[simp] theorem State.endCross_core (s : State) (x : CrossEnd) : (s.endCross x).core = s.core := by
  simp [State.endCross]

@[simp] theorem State.deliver_core (s : State) (k : Chamber) : (s.deliver k).core = s.core := by
  unfold State.deliver
  (repeat' split) <;> rfl

@[simp] theorem State.deliverEnd_core (s : State) (k : Chamber) (x : WaterKind) : (s.deliverEnd k x).core = s.core := by
  unfold State.deliverEnd
  dsimp only
  (repeat' split) <;> simp

@[simp] theorem State.crossDone_core (s : State) : s.crossDone.core = s.core := by
  unfold State.crossDone
  (repeat' split) <;> simp

@[simp] theorem State.closeCross_core (s : State) (x : CrossEnd) : (s.closeCross x).core = s.core := by
  simp [State.closeCross]

@[simp] theorem State.quitCross_core (s : State) (k : Chamber) (x : CrossEnd) : (s.quitCross k x).core = s.core := by
  simp [State.quitCross]

@[simp] theorem State.engage_core (s : State) (f : Chamber) (x y : Nat) : (s.engage f x y).core = s.core := by
  unfold State.engage
  dsimp only
  split <;> simp

@[simp] theorem State.offer_core (s : State) (k : Chamber) (x : WaterKind) : (s.offer k x).core = s.core := by
  unfold State.offer
  dsimp only
  (repeat' split) <;> simp

@[simp] theorem State.leaveCross_core (s : State) (k : Chamber) (x : CrossEnd) : (s.leaveCross k x).core = s.core := by
  unfold State.leaveCross
  dsimp only
  split <;> simp

/-! ## Chambers -/

@[simp] theorem State.becomeEntering_core (s : State) (k : Chamber) (b : Batch) : (s.becomeEntering k b).core = s.core := rfl

@[simp] theorem State.becomeLeaving_core (s : State) (k : Chamber) (b : Batch) : (s.becomeLeaving k b).core = s.core := rfl

@[simp] theorem State.noteComplete_core (s : State) (k : Chamber) (e : Side) (r : OrderResult) :
    (s.noteComplete k e r).core = s.core := by
  unfold State.noteComplete
  split <;> simp

@[simp] theorem State.sequenceClose_core (s : State) (k : Chamber) (e : Side) : (s.sequenceClose k e).core = s.core := by
  simp [State.sequenceClose]

@[simp] theorem State.sequenceOpen_core (s : State) (k : Chamber) (e : Side) : (s.sequenceOpen k e).core = s.core := by
  unfold State.sequenceOpen
  have h := s.openGate_core k e
  split <;> simp_all

@[simp] theorem State.sequencePhase_core (s : State) (k : Chamber) (x : WaterKind) :
    (s.sequencePhase k x).core = s.core := by simp [State.sequencePhase]

@[simp] theorem State.dropPending_core (s : State) (k : Chamber) : (s.dropPending k).core = s.core := rfl

@[simp] theorem State.takeRest_core (s : State) (k : Chamber) (e : Side) (b : Batch) (x : RestStep) :
    (s.takeRest k e b x).core = s.core := by
  unfold State.takeRest
  (repeat' split) <;> simp

@[simp] theorem State.restStep_core (s : State) (k : Chamber) : (s.restStep k).core = s.core := by
  unfold State.restStep
  (repeat' split) <;> simp

@[simp] theorem State.gateDone_core (s : State) (k : Chamber) (e : Side) : (s.gateDone k e).core = s.core := by
  unfold State.gateDone
  (repeat' split) <;> simp

@[simp] theorem State.stopMoving_core (s : State) (k : Chamber) (e : Side) : (s.stopMoving k e).core = s.core := by
  unfold State.stopMoving
  split <;> simp

@[simp] theorem State.shutBoth_core (s : State) (k : Chamber) : (s.shutBoth k).core = s.core := by
  simp [State.shutBoth]

@[simp] theorem State.haltChamber_core (s : State) (k : Chamber) (w : HaltCause) (e : Option Side) (x : CrossEnd) :
    (s.haltChamber k w e x).core = s.core := by
  unfold State.haltChamber
  (repeat' split) <;> simp

@[simp] theorem State.faultHalt_core (s : State) (k : Chamber) (f : FaultKind) (e : Option Side) :
    (s.faultHalt k f e).core = s.core := by
  unfold State.faultHalt
  split <;> simp

@[simp] theorem State.crossHalt_core (s : State) (k : Chamber) (f : FaultKind) : (s.crossHalt k f).core = s.core := by
  unfold State.crossHalt
  split <;> simp

@[simp] theorem State.crossFault_core (s : State) (f : FaultKind) : (s.crossFault f).core = s.core := by
  unfold State.crossFault
  split <;> simp

@[simp] theorem State.sluiceFault_core (s : State) (q : Sluice) (f : FaultKind) : (s.sluiceFault q f).core = s.core := by
  unfold State.sluiceFault
  split <;> simp

@[simp] theorem State.crossStartup_core (s : State) : s.crossStartup.core = s.core := by
  unfold State.crossStartup
  split <;> simp

@[simp] theorem State.retryPending_core (s : State) (h : Handed) (k : Chamber) : (s.retryPending h k).core = s.core := by
  unfold State.retryPending
  (repeat' split) <;> simp

@[simp] theorem State.retries_core (s : State) (h : Handed) : (s.retries h).core = s.core := by
  simp [State.retries]

@[simp] theorem State.equalised_core (s : State) (p : Pair) : (s.equalised p).core = s.core := by
  unfold State.equalised
  (repeat' split) <;> simp

@[simp] theorem State.runTask_core (s : State) (t : Task) : (s.runTask t).core = s.core := by
  unfold State.runTask
  split <;> simp

@[simp] theorem State.deriveChamber_core (s : State) (k : Chamber) : (s.deriveChamber k).core = s.core := rfl

@[simp] theorem State.derive_core (s : State) : s.derive.core = s.core := rfl

@[simp] theorem State.clearDeferred_core (s : State) : s.clearDeferred.core = s.core := rfl

/-- The cascade keeps the settled part, however long it runs. -/
@[simp] theorem settle_core (n : Nat) (s : State) : (settle n s).core = s.core := by
  induction n generalizing s with
  | zero => rfl
  | succ n ih =>
    unfold settle
    split
    · rfl
    · rw [ih]
      simp

@[simp] theorem State.tellEqualised_core (s : State) (p : Pair) : (s.tellEqualised p).core = s.core := by
  simp [State.tellEqualised]

@[simp] theorem State.finish_core (s : State) : s.finish.core = s.core := by
  simp [State.finish]

/-! ## Levels -/

@[simp] theorem State.lateStart_core (s : State) (k : Chamber) : (s.lateStart k).core = s.core := by
  unfold State.lateStart
  dsimp only
  (repeat' split) <;> simp

@[simp] theorem State.overflowGuard_core (s : State) (k : Chamber) : (s.overflowGuard k).core = s.core := by
  unfold State.overflowGuard
  dsimp only
  (repeat' split) <;> simp

@[simp] theorem State.surgeGuard_core (s : State) (g : Chamber × Side) : (s.surgeGuard g).core = s.core := by
  unfold State.surgeGuard
  split <;> simp

@[simp] theorem State.readers_core (s : State) (b : Body) : (s.readers b).core = s.core := by
  unfold State.readers
  split <;> simp

/-! ## Reports -/

@[simp] theorem State.pollClosed_core (s : State) : s.pollClosed.core = s.core := rfl

@[simp] theorem State.driveEvent_core (s : State) (a : Actuator) : (s.driveEvent a).core = s.core := by
  simp [State.driveEvent]

@[simp] theorem State.gateReaches_core (s : State) (k : Chamber) (e : Side) (x : GateState) :
    (s.gateReaches k e x).core = s.core := by simp [State.gateReaches]

@[simp] theorem State.unexpectedReach_core (s : State) (k : Chamber) (e : Side) (x : GateState) :
    (s.unexpectedReach k e x).core = s.core := by simp [State.unexpectedReach]

@[simp] theorem State.unexpectedLeft_core (s : State) (k : Chamber) (e : Side) : (s.unexpectedLeft k e).core = s.core := by
  simp [State.unexpectedLeft]

@[simp] theorem State.gateDriveFault_core (s : State) (k : Chamber) (e : Side) : (s.gateDriveFault k e).core = s.core := by
  unfold State.gateDriveFault
  split <;> simp

@[simp] theorem State.idleReport_core (s : State) (k : Chamber) (e : Side) (r : GateReport) :
    (s.idleReport k e r).core = s.core := by
  unfold State.idleReport
  dsimp only
  (repeat' split) <;> simp

@[simp] theorem State.applyGateReport_core (s : State) (k : Chamber) (e : Side) (r : GateReport) :
    (s.applyGateReport k e r).core = s.core := by
  unfold State.applyGateReport
  dsimp only
  (repeat' split) <;> simp

@[simp] theorem State.noteSluice_core (s : State) (q : Sluice) : (s.noteSluice q).core = s.core := by
  unfold State.noteSluice
  split <;> simp

@[simp] theorem State.sluiceReaches_core (s : State) (q : Sluice) (n : Nat) : (s.sluiceReaches q n).core = s.core := by
  simp [State.sluiceReaches]

@[simp] theorem State.sluicePosition_core (s : State) (q : Sluice) (n : Nat) : (s.sluicePosition q n).core = s.core := by
  simp [State.sluicePosition]

@[simp] theorem State.applySluiceReport_core (s : State) (q : Sluice) (n : Nat) :
    (s.applySluiceReport q n).core = s.core := by
  unfold State.applySluiceReport
  dsimp only
  (repeat' split) <;> simp

@[simp] theorem State.statusFault_core (s : State) (a : Actuator) (x : Option Nat) : (s.statusFault a x).core = s.core := by
  unfold State.statusFault
  split <;> simp

@[simp] theorem State.dropQuery_core (s : State) (a : Actuator) : (s.dropQuery a).core = s.core := rfl

@[simp] theorem State.closeQuery_core (s : State) (a : Actuator) : (s.closeQuery a).core = s.core := by
  unfold State.closeQuery
  dsimp only
  split <;> simp

@[simp] theorem State.noStatus_core (s : State) (a : Actuator) (q : Query) : (s.noStatus a q).core = s.core := by
  unfold State.noStatus
  split
  · simp
  · rw [State.finish_core]
    rfl

@[simp] theorem State.echoFailed_core (s : State) (a : Actuator) : (s.echoFailed a).core = s.core := by
  unfold State.echoFailed
  (repeat' split) <;> simp

/-! ## Cycle -/

@[simp] theorem State.tidySluice_core (s : State) (q : Sluice) : (s.tidySluice q).core = s.core := by
  unfold State.tidySluice
  split <;> simp

@[simp] theorem State.tidyGate_core (s : State) (k : Chamber) (e : Side) : (s.tidyGate k e).core = s.core := by
  unfold State.tidyGate
  split <;> simp

@[simp] theorem State.tidy_core (s : State) (k : Chamber) : (s.tidy k).core = s.core := by
  simp [State.tidy]

@[simp] theorem State.cutTest_core (s : State) (k : Chamber) : (s.cutTest k).core = s.core := by
  unfold State.cutTest
  split <;> simp

@[simp] theorem State.intoService_core (s : State) (k : Chamber) (c : ChamberState) :
    (s.intoService k c).core = s.core := by simp [State.intoService]

@[simp] theorem State.serviceOff_core (s : State) (st : Station) (k : Chamber) : (s.serviceOff st k).core = s.core := by
  simp [State.serviceOff]

@[simp] theorem State.restore_core (s : State) (k : Chamber) (c : ChamberState) : (s.restore k c).core = s.core := rfl

@[simp] theorem State.undoPhase_core (s : State) (k : Chamber) (x : WaterKind) : (s.undoPhase k x).core = s.core := rfl

@[simp] theorem State.sluicePhase_core (s : State) (st : Station) (k : Chamber) (x : WaterKind) (n : Nat) :
    (s.sluicePhase st k x n).core = s.core := by
  unfold State.sluicePhase
  dsimp only
  split <;> simp

/-! ## Lamps and the book -/

@[simp] theorem State.failLamp_core (s : State) (l : LampId) : (s.failLamp l).core = s.core := by
  unfold State.failLamp
  dsimp only
  split <;> simp

@[simp] theorem State.absent_core (s : State) (st : Station) (k : Chamber) (n : Nat) : (s.absent st k n).core = s.core := by
  simp [State.absent]

@[simp] theorem State.secure_core (s : State) (k : Chamber) (b : Batch) : (s.secure k b).core = s.core := by
  unfold State.secure
  dsimp only
  (repeat' split) <;> simp

@[simp] theorem State.confirm_core (s : State) (st : Station) (k : Chamber) (l : List Nat) :
    (s.confirm st k l).core = s.core := by
  unfold State.confirm
  dsimp only
  (repeat' split) <;> simp

@[simp] theorem State.abandonEmpty_core (s : State) (k : Chamber) : (s.abandonEmpty k).core = s.core := by
  unfold State.abandonEmpty
  (repeat' split) <;> simp

end Sys2Proof.Machine
end

