-- ==== Sys2Proof/Laws/Held.lean ====
section
/-! SUPPORT. What the invariants rest on: the marks of the register, the links, the conduct record, the site clock and the queue,
and one lemma per shared operation and per request that says it keeps them. -/

namespace Sys2Proof.Machine

/-- What the invariants read of the state. -/
structure Held where
  marks : Vector (Bool × List Byte) 128
  links : PerStation Link
  conduct : PerChamber (Option Station)
  clock : Option Clock
  pending : List Instr

/-- A slot as the duplicate test sees it. -/
def Vessel.key (v : Vessel) : Bool × List Byte := (v.nonFree, v.mark)

/-- What the invariants read of a state. -/
def State.held (s : State) : Held where
  marks := s.vessels.map Vessel.key
  links := ⟨s.stations.uc.link, s.stations.lc.link, s.stations.tc.link⟩
  conduct := s.conduct
  clock := s.clock
  pending := s.pending

/-- The settled part of the state determines what the invariants read. -/
theorem held_of_core {s t : State} (h : t.core = s.core) : t.held = s.held := by
  have hs : t.held = ⟨t.core.vessels.map Vessel.key, ⟨t.core.stations.uc.link, t.core.stations.lc.link, t.core.stations.tc.link⟩,
    t.core.conduct, t.core.clock, t.core.pending⟩ := rfl
  rw [hs, h]
  rfl

/-- A fold of steps that keep what the invariants read keeps it. -/
@[simp] theorem foldl_held {α : Type} (f : State → α → State) (l : List α) (s : State) (h : ∀ t x, (f t x).held = t.held) :
    (l.foldl f s).held = s.held := by
  induction l generalizing s with
  | nil => rfl
  | cons x xs ih => rw [List.foldl_cons, ih, h]

/-! ## Fields the invariants do not read -/

@[simp] theorem State.held_loaded (t : State) (x : Loaded) : State.held { t with loaded := x } = t.held := rfl

@[simp] theorem State.held_settings (t : State) (x : Settings) : State.held { t with settings := x } = t.held := rfl

@[simp] theorem State.held_levels (t : State) (x : Levels) : State.held { t with levels := x } = t.held := rfl

@[simp] theorem State.held_book (t : State) (x : Book) : State.held { t with book := x } = t.held := rfl

@[simp] theorem State.held_signals (t : State) (x : Signals) : State.held { t with signals := x } = t.held := rfl

@[simp] theorem State.held_active (t : State) (x : Tariff) : State.held { t with active := x } = t.held := rfl

@[simp] theorem State.held_standby (t : State) (x : Tariff) : State.held { t with standby := x } = t.held := rfl

@[simp] theorem State.held_journal (t : State) (x : Journal) : State.held { t with journal := x } = t.held := rfl

@[simp] theorem State.held_site (t : State) (x : SiteAccount) : State.held { t with site := x } = t.held := rfl

@[simp] theorem State.held_tallies (t : State) (x : Tallies) : State.held { t with tallies := x } = t.held := rfl

@[simp] theorem State.held_capture (t : State) (x : Capture) : State.held { t with capture := x } = t.held := rfl

@[simp] theorem State.held_store (t : State) (x : Store) : State.held { t with store := x } = t.held := rfl

/-- A slot may be replaced by a record of the same state class and mark. -/
theorem State.setVessel_held (s : State) (i : Nat) (v : Vessel) (h : v.key = (s.vessel i).key) :
    (s.setVessel i v).held = s.held := by
  have : (s.vessels.setIfInBounds i v).map Vessel.key = s.vessels.map Vessel.key := by
    refine Vector.ext fun j hj => ?_
    rw [Vector.getElem_map, Vector.getElem_map, Vector.getElem_setIfInBounds]
    split
    · next e =>
      subst e
      simp [h, State.vessel, hj]
    · rfl
  simp only [State.held, State.setVessel, this]

/-- A station's record may be replaced by one of the same link. -/
theorem State.setStation_held (s : State) (st : Station) (r : StationRec) (h : r.link = (s.station st).link) :
    (s.setStation st r).held = s.held := by
  cases st <;> simp only [State.held, State.setStation, PerStation.set] <;> rw [h] <;> rfl

/-! ## The operations that keep the settled part -/

@[simp] theorem State.putGate_held (s : State) (k : Chamber) (e : Side) (g : Gate) :
    (s.putGate k e g).held = s.held := rfl

@[simp] theorem State.putSluice_held (s : State) (q : Sluice) (r : SluiceRec) : (s.putSluice q r).held = s.held := held_of_core (by simp)

@[simp] theorem State.setOverflow_held (s : State) (k : Chamber) (x : Bool) : (s.setOverflow k x).held = s.held := rfl

@[simp] theorem State.send_held (s : State) (a : Actuator) (o : DriveOrder) : (s.send a o).held = s.held := rfl

@[simp] theorem State.setChamber_held (s : State) (k : Chamber) (c : Sequencer) :
    (s.setChamber k c).held = s.held := rfl

@[simp] theorem State.setWish_held (s : State) (k : Chamber) (w : Option Wish) : (s.setWish k w).held = s.held := rfl

@[simp] theorem State.setBatch_held (s : State) (k : Chamber) (b : Option Batch) :
    (s.setBatch k b).held = s.held := rfl

@[simp] theorem State.changeOrder_held (s : State) (n : Nat) (f : Order → Order) :
    (s.changeOrder n f).held = s.held := rfl

@[simp] theorem State.setLamp_held (s : State) (l : LampId) (x : Lamp) : (s.setLamp l x).held = s.held := rfl

@[simp] theorem State.mapChamberLamps_held (s : State) (k : Chamber) (f : Lamp → Lamp) :
    (s.mapChamberLamps k f).held = s.held := rfl

@[simp] theorem State.setTest_held (s : State) (k : Chamber) (t : Option Nat) : (s.setTest k t).held = s.held := rfl

@[simp] theorem State.setGenerator_held (s : State) (g : Generator) (x : FlashGen) :
    (s.setGenerator g x).held = s.held := held_of_core (by simp)

@[simp] theorem State.setSubscriber_held (s : State) (st : Station) (b : Option Subscriber) :
    (s.setSubscriber st b).held = s.held := rfl

@[simp] theorem State.postSite_held (s : State) (x y z : Nat) : (s.postSite x y z).held = s.held := rfl

@[simp] theorem State.push_held (s : State) (t : Task) : (s.push t).held = s.held := held_of_core (by simp)

@[simp] theorem State.pushForms_held (s : State) (x y : Bool) : (s.pushForms x y).held = s.held := held_of_core (by simp)

@[simp] theorem State.pushAvailable_held (s : State) : s.pushAvailable.held = s.held := held_of_core (by simp)

@[simp] theorem State.raiseAt_held (s : State) (st : Station) (n : NoticeKind) : (s.raiseAt st n).held = s.held := held_of_core (by simp)

@[simp] theorem State.raiseAll_held (s : State) (n : NoticeKind) : (s.raiseAll n).held = s.held := held_of_core (by simp)

@[simp] theorem State.watermarkAt_held (s : State) (st : Station) (x y : Nat) :
    (s.watermarkAt st x y).held = s.held := held_of_core (by simp)

@[simp] theorem State.watermarks_held (s : State) (old : State) : (s.watermarks old).held = s.held := held_of_core (by simp)

@[simp] theorem State.append_held (s : State) (f : Frame) : (s.append f).held = s.held := held_of_core (by simp)

@[simp] theorem State.discardFor_held (s : State) (n : Nat) : (s.discardFor n).held = s.held := rfl

@[simp] theorem State.write_held (s : State) (f : Frame) : (s.write f).held = s.held := held_of_core (by simp)

@[simp] theorem State.writeReserved_held (s : State) (k : Chamber) (f : Frame) :
    (s.writeReserved k f).held = s.held := held_of_core (by simp)

@[simp] theorem State.noteFreed_held (s : State) (old : State) : (s.noteFreed old).held = s.held := held_of_core (by simp)

@[simp] theorem State.free_held (s : State) : s.free.held = s.held := held_of_core (by simp)

@[simp] theorem State.releaseReserve_held (s : State) (k : Chamber) (n : Nat) :
    (s.releaseReserve k n).held = s.held := held_of_core (by simp)

@[simp] theorem State.raiseFault_held (s : State) (f : FaultKind) (x : Subject) :
    (s.raiseFault f x).held = s.held := held_of_core (by simp)

@[simp] theorem State.enqueue_held (s : State) (b : Body) : (s.enqueue b).held = s.held := held_of_core (by simp)

@[simp] theorem State.dueAfter_held (s : State) (b : Body) (n : Nat) : (s.dueAfter b n).held = s.held := held_of_core (by simp)

@[simp] theorem State.becomeFast_held (s : State) (b : Body) : (s.becomeFast b).held = s.held := held_of_core (by simp)

@[simp] theorem State.becomePrimary_held (s : State) (b : Body) : (s.becomePrimary b).held = s.held := held_of_core (by simp)

@[simp] theorem State.gainCause_held (s : State) (b : Body) : (s.gainCause b).held = s.held := held_of_core (by simp)

@[simp] theorem State.holdOut_held (s : State) (b : Body) : (s.holdOut b).held = s.held := held_of_core (by simp)

@[simp] theorem State.loseCause_held (s : State) (b : Body) : (s.loseCause b).held = s.held := held_of_core (by simp)

@[simp] theorem State.noteFastAt_held (s : State) (old : State) (b : Body) : (s.noteFastAt old b).held = s.held := held_of_core (by simp)

@[simp] theorem State.noteFast_held (s : State) (old : State) : (s.noteFast old).held = s.held := held_of_core (by simp)

@[simp] theorem State.setGate_held (s : State) (k : Chamber) (e : Side) (g : Gate) :
    (s.setGate k e g).held = s.held := held_of_core (by simp)

@[simp] theorem State.setSluice_held (s : State) (q : Sluice) (r : SluiceRec) : (s.setSluice q r).held = s.held := held_of_core (by simp)

@[simp] theorem State.moveFrame_held (s : State) (a : Actuator) (o : MoveOutcome) :
    (s.moveFrame a o).held = s.held := held_of_core (by simp)

@[simp] theorem State.startGate_held (s : State) (k : Chamber) (e : Side) (m : GateMove) :
    (s.startGate k e m).held = s.held := held_of_core (by simp)

@[simp] theorem State.openGate_held (s : State) (k : Chamber) (e : Side) : (s.openGate k e).1.held = s.held := held_of_core (by simp)

@[simp] theorem State.closeGate_held (s : State) (k : Chamber) (e : Side) : (s.closeGate k e).1.held = s.held := held_of_core (by simp)

@[simp] theorem State.stopGate_held (s : State) (k : Chamber) (e : Side) : (s.stopGate k e).held = s.held := held_of_core (by simp)

@[simp] theorem State.stallGate_held (s : State) (k : Chamber) (e : Side) : (s.stallGate k e).held = s.held := held_of_core (by simp)

@[simp] theorem State.sendMove_held (s : State) (q : Sluice) (n : Nat) : (s.sendMove q n).held = s.held := held_of_core (by simp)

@[simp] theorem State.moveSluice_held (s : State) (q : Sluice) (n : Nat) : (s.moveSluice q n).1.held = s.held := held_of_core (by simp)

@[simp] theorem State.endRamp_held (s : State) (q : Sluice) : (s.endRamp q).held = s.held := held_of_core (by simp)

@[simp] theorem State.orderSluice_held (s : State) (q : Sluice) (n : Nat) : (s.orderSluice q n).1.held = s.held := held_of_core (by simp)

@[simp] theorem State.shutSluice_held (s : State) (q : Sluice) : (s.shutSluice q).held = s.held := held_of_core (by simp)

@[simp] theorem State.forceShut_held (s : State) (q : Sluice) : (s.forceShut q).held = s.held := held_of_core (by simp)

@[simp] theorem State.stopSluice_held (s : State) (q : Sluice) : (s.stopSluice q).held = s.held := held_of_core (by simp)

@[simp] theorem State.stallSluice_held (s : State) (q : Sluice) : (s.stallSluice q).held = s.held := held_of_core (by simp)

@[simp] theorem State.setRamp_held (s : State) (q : Sluice) (r : Option Ramp) : (s.setRamp q r).held = s.held := held_of_core (by simp)

@[simp] theorem State.rampOrder_held (s : State) (q : Sluice) (r : Ramp) : (s.rampOrder q r).held = s.held := held_of_core (by simp)

@[simp] theorem State.rampDecide_held (s : State) (q : Sluice) (r : Ramp) : (s.rampDecide q r).held = s.held := held_of_core (by simp)

@[simp] theorem State.startRamp_held (s : State) (q : Sluice) (w : Requester) (n : Nat) :
    (s.startRamp q w n).held = s.held := held_of_core (by simp)

@[simp] theorem State.rampReached_held (s : State) (q : Sluice) (n : Nat) : (s.rampReached q n).held = s.held := held_of_core (by simp)

@[simp] theorem State.rampLevel_held (s : State) (b : Body) (q : Sluice) : (s.rampLevel b q).held = s.held := held_of_core (by simp)

@[simp] theorem State.rampRetry_held (s : State) (h : Handed) (q : Sluice) : (s.rampRetry h q).held = s.held := held_of_core (by simp)

@[simp] theorem State.rampRetries_held (s : State) (h : Handed) : (s.rampRetries h).held = s.held := held_of_core (by simp)

@[simp] theorem State.orderFrame_held (s : State) (n : Option Nat) (slot : Nat) (e : OrderEvent) (st : Station) :
    (s.orderFrame n slot e st).held = s.held := held_of_core (by simp)

@[simp] theorem State.rejudge_held (s : State) (slot : Nat) : (s.rejudge slot).held = s.held := held_of_core (by simp)

@[simp] theorem State.rejudgeAll_held (s : State) : s.rejudgeAll.held = s.held := held_of_core (by simp)

@[simp] theorem State.returnOrder_held (s : State) (o : Order) : (s.returnOrder o).held = s.held := rfl

@[simp] theorem State.takeForBatch_held (s : State) (k : Chamber) (w : WaterRec) (b : Batch) (x : Option Nat) :
    (s.takeForBatch k w b x).held = s.held := held_of_core (by simp)

@[simp] theorem State.takeForSite_held (s : State) (k : Chamber) (w : WaterRec) (x : Option Nat) :
    (s.takeForSite k w x).held = s.held := held_of_core (by simp)

@[simp] theorem State.closeWater_held (s : State) (k : Chamber) (x : Bool) : (s.closeWater k x).held = s.held := held_of_core (by simp)

@[simp] theorem State.reapportion_held (s : State) (k : Chamber) (x : Bool) : (s.reapportion k x).held = s.held := held_of_core (by simp)

@[simp] theorem State.noteUnset_held (s : State) : s.noteUnset.held = s.held := held_of_core (by simp)

@[simp] theorem State.raiseCounts_held (s : State) (c : Scan) : (s.raiseCounts c).held = s.held := held_of_core (by simp)

@[simp] theorem State.bindBatch_held (s : State) (k : Chamber) (d : Direction) (c : Scan) :
    (s.bindBatch k d c).held = s.held := held_of_core (by simp)

@[simp] theorem State.bindScan_held (s : State) (k : Chamber) (d : Direction) (c : Scan) :
    (s.bindScan k d c).1.held = s.held := held_of_core (by simp)

@[simp] theorem State.formFrom_held (s : State) (k : Chamber) (d : Direction) : (s.formFrom k d).1.held = s.held := held_of_core (by simp)

@[simp] theorem State.form_held (s : State) (k : Chamber) : (s.form k).held = s.held := held_of_core (by simp)

@[simp] theorem State.leaveBatch_held (s : State) (k : Chamber) (n : Nat) : (s.leaveBatch k n).held = s.held := held_of_core (by simp)

@[simp] theorem State.removeBatch_held (s : State) (k : Chamber) : (s.removeBatch k).held = s.held := held_of_core (by simp)

@[simp] theorem State.abandonBatch_held (s : State) (k : Chamber) : (s.abandonBatch k).held = s.held := held_of_core (by simp)

@[simp] theorem State.returnMember_held (s : State) (st : Station) (n : Nat) :
    (s.returnMember st n).held = s.held := held_of_core (by simp)

@[simp] theorem State.unbind_held (s : State) (k : Chamber) (st : Station) : (s.unbind k st).held = s.held := held_of_core (by simp)

@[simp] theorem State.setChamberState_held (s : State) (k : Chamber) (x : ChamberState) :
    (s.setChamberState k x).held = s.held := rfl

@[simp] theorem State.openWater_held (s : State) (k : Chamber) (x : WaterKind) : (s.openWater k x).held = s.held := rfl

@[simp] theorem State.beginPhase_held (s : State) (k : Chamber) (x : WaterKind) :
    (s.beginPhase k x).held = s.held := rfl

@[simp] theorem State.endPhase_held (s : State) (k : Chamber) (x : WaterKind) : (s.endPhase k x).held = s.held := held_of_core (by simp)

@[simp] theorem State.enterPhase_held (s : State) (k : Chamber) (x : WaterKind) :
    (s.enterPhase k x).held = s.held := held_of_core (by simp)

@[simp] theorem State.phaseDone_held (s : State) (k : Chamber) (x : WaterKind) : (s.phaseDone k x).held = s.held := held_of_core (by simp)

@[simp] theorem State.proceedAlone_held (s : State) (k : Chamber) : (s.proceedAlone k).held = s.held := held_of_core (by simp)

@[simp] theorem State.endCross_held (s : State) (x : CrossEnd) : (s.endCross x).held = s.held := held_of_core (by simp)

@[simp] theorem State.engage_held (s : State) (f : Chamber) (x y : Nat) : (s.engage f x y).held = s.held := held_of_core (by simp)

@[simp] theorem State.offer_held (s : State) (k : Chamber) (x : WaterKind) : (s.offer k x).held = s.held := held_of_core (by simp)

@[simp] theorem State.deliver_held (s : State) (k : Chamber) : (s.deliver k).held = s.held := held_of_core (by simp)

@[simp] theorem State.deliverEnd_held (s : State) (k : Chamber) (x : WaterKind) :
    (s.deliverEnd k x).held = s.held := held_of_core (by simp)

@[simp] theorem State.crossDone_held (s : State) : s.crossDone.held = s.held := held_of_core (by simp)

@[simp] theorem State.closeCross_held (s : State) (x : CrossEnd) : (s.closeCross x).held = s.held := held_of_core (by simp)

@[simp] theorem State.quitCross_held (s : State) (k : Chamber) (x : CrossEnd) :
    (s.quitCross k x).held = s.held := held_of_core (by simp)

@[simp] theorem State.leaveCross_held (s : State) (k : Chamber) (x : CrossEnd) :
    (s.leaveCross k x).held = s.held := held_of_core (by simp)

@[simp] theorem State.becomeEntering_held (s : State) (k : Chamber) (b : Batch) :
    (s.becomeEntering k b).held = s.held := rfl

@[simp] theorem State.becomeLeaving_held (s : State) (k : Chamber) (b : Batch) :
    (s.becomeLeaving k b).held = s.held := rfl

@[simp] theorem State.noteComplete_held (s : State) (k : Chamber) (e : Side) (r : OrderResult) :
    (s.noteComplete k e r).held = s.held := held_of_core (by simp)

@[simp] theorem State.sequenceClose_held (s : State) (k : Chamber) (e : Side) :
    (s.sequenceClose k e).held = s.held := held_of_core (by simp)

@[simp] theorem State.sequenceOpen_held (s : State) (k : Chamber) (e : Side) :
    (s.sequenceOpen k e).held = s.held := held_of_core (by simp)

@[simp] theorem State.sequencePhase_held (s : State) (k : Chamber) (x : WaterKind) :
    (s.sequencePhase k x).held = s.held := held_of_core (by simp)

@[simp] theorem State.dropPending_held (s : State) (k : Chamber) : (s.dropPending k).held = s.held := rfl

@[simp] theorem State.takeRest_held (s : State) (k : Chamber) (e : Side) (b : Batch) (x : RestStep) :
    (s.takeRest k e b x).held = s.held := held_of_core (by simp)

@[simp] theorem State.restStep_held (s : State) (k : Chamber) : (s.restStep k).held = s.held := held_of_core (by simp)

@[simp] theorem State.gateDone_held (s : State) (k : Chamber) (e : Side) : (s.gateDone k e).held = s.held := held_of_core (by simp)

@[simp] theorem State.stopMoving_held (s : State) (k : Chamber) (e : Side) : (s.stopMoving k e).held = s.held := held_of_core (by simp)

@[simp] theorem State.shutBoth_held (s : State) (k : Chamber) : (s.shutBoth k).held = s.held := held_of_core (by simp)

@[simp] theorem State.haltChamber_held (s : State) (k : Chamber) (w : HaltCause) (e : Option Side) (x : CrossEnd) :
    (s.haltChamber k w e x).held = s.held := held_of_core (by simp)

@[simp] theorem State.faultHalt_held (s : State) (k : Chamber) (f : FaultKind) (e : Option Side) :
    (s.faultHalt k f e).held = s.held := held_of_core (by simp)

@[simp] theorem State.crossHalt_held (s : State) (k : Chamber) (f : FaultKind) : (s.crossHalt k f).held = s.held := held_of_core (by simp)

@[simp] theorem State.crossFault_held (s : State) (f : FaultKind) : (s.crossFault f).held = s.held := held_of_core (by simp)

@[simp] theorem State.sluiceFault_held (s : State) (q : Sluice) (f : FaultKind) :
    (s.sluiceFault q f).held = s.held := held_of_core (by simp)

@[simp] theorem State.crossStartup_held (s : State) : s.crossStartup.held = s.held := held_of_core (by simp)

@[simp] theorem State.retryPending_held (s : State) (h : Handed) (k : Chamber) : (s.retryPending h k).held = s.held := held_of_core (by simp)

@[simp] theorem State.retries_held (s : State) (h : Handed) : (s.retries h).held = s.held := held_of_core (by simp)

@[simp] theorem State.equalised_held (s : State) (p : Pair) : (s.equalised p).held = s.held := held_of_core (by simp)

@[simp] theorem State.tellEqualised_held (s : State) (p : Pair) : (s.tellEqualised p).held = s.held := held_of_core (by simp)

@[simp] theorem State.runTask_held (s : State) (t : Task) : (s.runTask t).held = s.held := held_of_core (by simp)

@[simp] theorem State.deriveChamber_held (s : State) (k : Chamber) : (s.deriveChamber k).held = s.held := rfl

@[simp] theorem State.derive_held (s : State) : s.derive.held = s.held := rfl

@[simp] theorem State.clearDeferred_held (s : State) : s.clearDeferred.held = s.held := rfl

@[simp] theorem State.finish_held (s : State) : s.finish.held = s.held := held_of_core (by simp)

@[simp] theorem State.lateStart_held (s : State) (k : Chamber) : (s.lateStart k).held = s.held := held_of_core (by simp)

@[simp] theorem State.overflowGuard_held (s : State) (k : Chamber) : (s.overflowGuard k).held = s.held := held_of_core (by simp)

@[simp] theorem State.surgeGuard_held (s : State) (g : Chamber × Side) : (s.surgeGuard g).held = s.held := held_of_core (by simp)

@[simp] theorem State.readers_held (s : State) (b : Body) : (s.readers b).held = s.held := held_of_core (by simp)

@[simp] theorem State.pollClosed_held (s : State) : s.pollClosed.held = s.held := held_of_core (by simp)

@[simp] theorem State.driveEvent_held (s : State) (a : Actuator) : (s.driveEvent a).held = s.held := held_of_core (by simp)

@[simp] theorem State.gateReaches_held (s : State) (k : Chamber) (e : Side) (x : GateState) :
    (s.gateReaches k e x).held = s.held := held_of_core (by simp)

@[simp] theorem State.unexpectedReach_held (s : State) (k : Chamber) (e : Side) (x : GateState) :
    (s.unexpectedReach k e x).held = s.held := held_of_core (by simp)

@[simp] theorem State.unexpectedLeft_held (s : State) (k : Chamber) (e : Side) :
    (s.unexpectedLeft k e).held = s.held := held_of_core (by simp)

@[simp] theorem State.gateDriveFault_held (s : State) (k : Chamber) (e : Side) :
    (s.gateDriveFault k e).held = s.held := held_of_core (by simp)

@[simp] theorem State.idleReport_held (s : State) (k : Chamber) (e : Side) (r : GateReport) :
    (s.idleReport k e r).held = s.held := held_of_core (by simp)

@[simp] theorem State.applyGateReport_held (s : State) (k : Chamber) (e : Side) (r : GateReport) :
    (s.applyGateReport k e r).held = s.held := held_of_core (by simp)

@[simp] theorem State.noteSluice_held (s : State) (q : Sluice) : (s.noteSluice q).held = s.held := held_of_core (by simp)

@[simp] theorem State.sluiceReaches_held (s : State) (q : Sluice) (n : Nat) :
    (s.sluiceReaches q n).held = s.held := held_of_core (by simp)

@[simp] theorem State.sluicePosition_held (s : State) (q : Sluice) (n : Nat) :
    (s.sluicePosition q n).held = s.held := held_of_core (by simp)

@[simp] theorem State.applySluiceReport_held (s : State) (q : Sluice) (n : Nat) :
    (s.applySluiceReport q n).held = s.held := held_of_core (by simp)

@[simp] theorem State.statusFault_held (s : State) (a : Actuator) (x : Option Nat) :
    (s.statusFault a x).held = s.held := held_of_core (by simp)

@[simp] theorem State.dropQuery_held (s : State) (a : Actuator) : (s.dropQuery a).held = s.held := rfl

@[simp] theorem State.noStatus_held (s : State) (a : Actuator) (q : Query) : (s.noStatus a q).held = s.held := held_of_core (by simp)

@[simp] theorem State.closeQuery_held (s : State) (a : Actuator) : (s.closeQuery a).held = s.held := held_of_core (by simp)

@[simp] theorem State.echoFailed_held (s : State) (a : Actuator) : (s.echoFailed a).held = s.held := held_of_core (by simp)

@[simp] theorem State.tidySluice_held (s : State) (q : Sluice) : (s.tidySluice q).held = s.held := held_of_core (by simp)

@[simp] theorem State.tidyGate_held (s : State) (k : Chamber) (e : Side) : (s.tidyGate k e).held = s.held := held_of_core (by simp)

@[simp] theorem State.tidy_held (s : State) (k : Chamber) : (s.tidy k).held = s.held := held_of_core (by simp)

@[simp] theorem State.cutTest_held (s : State) (k : Chamber) : (s.cutTest k).held = s.held := held_of_core (by simp)

@[simp] theorem State.intoService_held (s : State) (k : Chamber) (c : ChamberState) :
    (s.intoService k c).held = s.held := held_of_core (by simp)

@[simp] theorem State.serviceOff_held (s : State) (st : Station) (k : Chamber) :
    (s.serviceOff st k).held = s.held := held_of_core (by simp)

@[simp] theorem State.restore_held (s : State) (k : Chamber) (c : ChamberState) : (s.restore k c).held = s.held := rfl

@[simp] theorem State.undoPhase_held (s : State) (k : Chamber) (x : WaterKind) : (s.undoPhase k x).held = s.held := rfl

@[simp] theorem State.sluicePhase_held (s : State) (st : Station) (k : Chamber) (x : WaterKind) (n : Nat) :
    (s.sluicePhase st k x n).held = s.held := held_of_core (by simp)

@[simp] theorem State.failLamp_held (s : State) (l : LampId) : (s.failLamp l).held = s.held := held_of_core (by simp)

@[simp] theorem State.absent_held (s : State) (st : Station) (k : Chamber) (n : Nat) :
    (s.absent st k n).held = s.held := held_of_core (by simp)

@[simp] theorem State.secure_held (s : State) (k : Chamber) (b : Batch) : (s.secure k b).held = s.held := held_of_core (by simp)

@[simp] theorem State.confirm_held (s : State) (st : Station) (k : Chamber) (l : List Nat) :
    (s.confirm st k l).held = s.held := held_of_core (by simp)

@[simp] theorem State.abandonEmpty_held (s : State) (k : Chamber) : (s.abandonEmpty k).held = s.held := held_of_core (by simp)

/-! ## Time and levels -/

@[simp] theorem State.reach_held (s : State) (t : Nat) : (s.reach t).held = s.held := rfl

@[simp] theorem State.setBody_held (s : State) (b : Body) (r : BodyRec) : (s.setBody b r).held = s.held := rfl

@[simp] theorem State.setPair_held (s : State) (p : Pair) (x : PairState) : (s.setPair p x).held = s.held := by cases p <;> rfl

@[simp] theorem State.setPoll_held (s : State) (p : Option Poll) : (s.setPoll p).held = s.held := rfl

@[simp] theorem State.setForceFast_held (s : State) (x : Bool) : (s.setForceFast x).held = s.held := rfl

@[simp] theorem State.setGauge_held (s : State) (b : Body) (g : GaugeSide) (r : GaugeRec) :
    (s.setGauge b g r).held = s.held := rfl

@[simp] theorem State.recordReading_held (s : State) (b : Body) (g : GaugeSide) (x : GaugeStatus) (n : Nat) :
    (s.recordReading b g x n).held = s.held := rfl

@[simp] theorem State.levelFault_held (s : State) (b : Body) (x : LevelState) (g : Bool) :
    (s.levelFault b x g).held = s.held := by
  unfold State.levelFault
  (repeat' split) <;> simp

@[simp] theorem State.testPair_held (s : State) (p : Pair) : (s.testPair p).held = s.held := by
  unfold State.testPair
  (repeat' split) <;> simp

@[simp] theorem State.handOver_held (s : State) (b : Body) : (s.handOver b).held = s.held := by
  unfold State.handOver
  split <;> simp

@[simp] theorem State.roundEnd_held (s : State) (b : Body) (x y : Bool) : (s.roundEnd b x y).held = s.held := by simp [State.roundEnd]

@[simp] theorem State.closePoll_held (s : State) (p : Poll) (x : GaugeStatus) (n : Nat) :
    (s.closePoll p x n).held = s.held := by
  unfold State.closePoll
  split <;> simp

@[simp] theorem State.startRound_held (s : State) : s.startRound.held = s.held := by
  unfold State.startRound
  split <;> rfl

@[simp] theorem State.relaxBody_held (s : State) (b : Body) : (s.relaxBody b).held = s.held := by
  unfold State.relaxBody
  split <;> simp

@[simp] theorem State.pairSettled_held (s : State) (p : Pair) : (s.pairSettled p).held = s.held := by
  simp [State.pairSettled]

@[simp] theorem State.resettlePair_held (s : State) (p : Pair) : (s.resettlePair p).held = s.held := by
  unfold State.resettlePair
  (repeat' split) <;> simp

@[simp] theorem State.resettle_held (s : State) : s.resettle.held = s.held := by simp [State.resettle]

@[simp] theorem State.clearHistory_held (s : State) (b : Body) (g : GaugeSide) :
    (s.clearHistory b g).held = s.held := rfl

@[simp] theorem State.clearHistories_held (s : State) : s.clearHistories.held = s.held := foldl_held _ _ _ fun t g => t.clearHistory_held g.1 g.2

@[simp] theorem State.lowerCounts_held (s : State) : s.lowerCounts.held = s.held := rfl

@[simp] theorem State.startTrail_held (s : State) : s.startTrail.held = s.held := rfl

@[simp] theorem State.trimChanged_held (s : State) (old : Settings) (g : Body × GaugeSide) :
    (s.trimChanged old g).held = s.held := by
  unfold State.trimChanged
  split <;> simp

@[simp] theorem State.settingsWritten_held (s : State) (old : Settings) (limit : Bool) :
    (s.settingsWritten old limit).held = s.held := by
  unfold State.settingsWritten
  (repeat' split) <;> simp

/-! ## Vessels -/

@[simp] theorem State.setVessel_post_held (s : State) (i n : Nat) :
    (s.setVessel i ((s.vessel i).post n)).held = s.held :=
  s.setVessel_held i _ (by unfold Vessel.post; split <;> rfl)

@[simp] theorem State.setVessel_passed_held (s : State) (i : Nat) (t : Option TimeOfDay) :
    (s.setVessel i ((s.vessel i).passed t)).held = s.held := s.setVessel_held i _ rfl

/-- A hold keeps a non-FREE vessel non-FREE. -/
theorem State.holdVessel_held (s : State) (i : Nat) (c : HoldCause) (h : (s.vessel i).nonFree = true) :
    (s.holdVessel i c).held = s.held := by
  unfold State.holdVessel
  rw [State.rejudge_held, State.raiseAll_held]
  exact s.setVessel_held i _ (by simp [Vessel.key, h]; rfl)

/-- A release keeps a non-FREE vessel non-FREE. -/
theorem State.activate_held (s : State) (i : Nat) (h : (s.vessel i).nonFree = true) : (s.activate i).held = s.held := by
  unfold State.activate
  rw [State.rejudge_held]
  exact s.setVessel_held i _ (by simp [Vessel.key, h]; rfl)

@[simp] theorem State.removeOrder_held (s : State) (o : Order) : (s.removeOrder o).held = s.held := s.setVessel_held o.slot { s.vessel o.slot with order := none } rfl

@[simp] theorem State.reevaluate_held (s : State) (i : Nat) : (s.reevaluate i).held = s.held := by
  unfold State.reevaluate
  dsimp only
  split
  · next h =>
    split
    · exact s.holdVessel_held i _ (by simp [Vessel.nonFree, h])
    · rfl
  · next h =>
    split
    · rfl
    · exact s.activate_held i (by simp [Vessel.nonFree, h])
  · rfl

@[simp] theorem State.cancelled_held (s : State) (st : Station) (o : Order) : (s.cancelled st o).held = s.held := by simp [State.cancelled]

@[simp] theorem State.addOrder_held (s : State) (o : Order) : (s.addOrder o).held = s.held := s.setVessel_held o.slot { s.vessel o.slot with order := some o.number } rfl

@[simp] theorem State.countAbandoned_held (s : State) (d : Direction) (cl : LengthClass) :
    (s.countAbandoned d cl).held = s.held := rfl

@[simp] theorem State.countCompleted_held (s : State) (d : Direction) (cl : LengthClass) :
    (s.countCompleted d cl).held = s.held := rfl

@[simp] theorem State.abandonMember_held (s : State) (st : Station) (d : Direction) (m : Member) :
    (s.abandonMember st d m).held = s.held := by
  unfold State.abandonMember
  split <;> simp

@[simp] theorem State.postTicket_held (s : State) (k : Chamber) (m : Member) (t : Ticket) :
    (s.postTicket k m t).held = s.held := by
  unfold State.postTicket
  split <;> simp

@[simp] theorem State.passMember_held (s : State) (m : Member) : (s.passMember m).held = s.held := by
  unfold State.passMember
  dsimp only
  split <;> simp

@[simp] theorem State.clearMember_held (s : State) (k : Chamber) (b : Batch) (m : Member) :
    (s.clearMember k b m).held = s.held := by simp [State.clearMember]

@[simp] theorem State.vesselWritten_held (s : State) (i : Nat) (v : Vessel) :
    (s.vesselWritten i v).held = s.held := by
  unfold State.vesselWritten
  dsimp only
  split <;> simp

/-! ## Ports -/

@[simp] theorem State.setService_held (s : State) (st : Station) (x : Service) :
    (s.setService st x).held = s.held := s.setStation_held st _ rfl

@[simp] theorem State.reply_held (s : State) (st : Station) (n : Nat) (a : Answer) :
    (s.reply st n a).held = s.held := s.setStation_held st _ rfl

@[simp] theorem State.hunt_held (s : State) (st : Station) : (s.hunt st).held = s.held := s.setStation_held st _ rfl

@[simp] theorem State.badFrame_held (s : State) (st : Station) : (s.badFrame st).held = s.held := by
  unfold State.badFrame
  split
  · rfl
  · exact s.setStation_held st _ rfl

@[simp] theorem State.setWindowOf_held (s : State) (st : Station) (w : Window) :
    (s.setWindowOf st w).held = s.held := s.setStation_held st _ rfl

@[simp] theorem State.subscribeAt_held (s : State) (st : Station) (n : Nat) : (s.subscribeAt st n).held = s.held := by simp [State.subscribeAt]

@[simp] theorem State.afterLoad_held (s : State) : s.afterLoad.held = s.held := by
  unfold State.afterLoad
  split <;> simp

/-! ## The invariants, read off -/

/-- Whether conduct is held only by PRESENT stations. -/
theorem State.conductPresent_iff (s : State) :
    s.ConductPresent ↔ ∀ k st, s.held.conduct.get k = some st → s.held.links.get st = .present := by
  have h : ∀ st, (s.station st).link = s.held.links.get st := by
    intro st
    cases st <;> rfl
  unfold State.ConductPresent
  simp only [h]
  rfl

/-- Whether the clock is in range. -/
theorem State.clockInRange_iff (s : State) :
    s.ClockInRange ↔ ∀ t, s.held.clock.map (·.time) = some t → t.day ≤ 65535 ∧ t.second ≤ 86399 := Iff.rfl

/-- Whether the marks are unique. -/
theorem State.marksUnique_iff (s : State) :
    s.MarksUnique ↔ ∀ (i j : Nat) (hi : i < 128) (hj : j < 128), (s.held.marks[i]).1 = true → (s.held.marks[j]).1 = true →
      (s.held.marks[i]).2 = (s.held.marks[j]).2 → i = j := by
  have h : ∀ i (hi : i < 128), s.held.marks[i] = ((s.vessel i).nonFree, (s.vessel i).mark) := by
    intro i hi
    simp [State.held, Vessel.key, State.vessel, hi]
  constructor
  · intro hm i j hi hj
    rw [h i hi, h j hj]
    exact hm i j hi hj
  · intro hm i j hi hj
    have := hm i j hi hj
    rw [h i hi, h j hj] at this
    exact this

end Sys2Proof.Machine
end

