-- ==== Sys2Proof/Laws/Events.lean ====
section
/-! SUPPORT. How an event ends: the signal unit's derivation touches the signals only and is the same done twice, the cascade of an
event without consequences does nothing, and what a port makes of a request it takes at once. -/

namespace Sys2Proof.Machine

/-! ## The derivation of the signals touches nothing else -/

@[simp] theorem State.derive_now (s : State) : s.derive.now = s.now := rfl

@[simp] theorem State.derive_loaded (s : State) : s.derive.loaded = s.loaded := rfl

@[simp] theorem State.derive_settings (s : State) : s.derive.settings = s.settings := rfl

@[simp] theorem State.derive_levels (s : State) : s.derive.levels = s.levels := rfl

@[simp] theorem State.derive_drive (s : State) : s.derive.drive = s.drive := rfl

@[simp] theorem State.derive_chambers (s : State) : s.derive.chambers = s.chambers := rfl

@[simp] theorem State.derive_arbiter (s : State) : s.derive.arbiter = s.arbiter := rfl

@[simp] theorem State.derive_vessels (s : State) : s.derive.vessels = s.vessels := rfl

@[simp] theorem State.derive_book (s : State) : s.derive.book = s.book := rfl

@[simp] theorem State.derive_active (s : State) : s.derive.active = s.active := rfl

@[simp] theorem State.derive_standby (s : State) : s.derive.standby = s.standby := rfl

@[simp] theorem State.derive_clock (s : State) : s.derive.clock = s.clock := rfl

@[simp] theorem State.derive_journal (s : State) : s.derive.journal = s.journal := rfl

@[simp] theorem State.derive_site (s : State) : s.derive.site = s.site := rfl

@[simp] theorem State.derive_tallies (s : State) : s.derive.tallies = s.tallies := rfl

@[simp] theorem State.derive_stations (s : State) : s.derive.stations = s.stations := rfl

@[simp] theorem State.derive_conduct (s : State) : s.derive.conduct = s.conduct := rfl

@[simp] theorem State.derive_capture (s : State) : s.derive.capture = s.capture := rfl

@[simp] theorem State.derive_store (s : State) : s.derive.store = s.store := rfl

@[simp] theorem State.derive_agenda (s : State) : s.derive.agenda = s.agenda := rfl

@[simp] theorem State.derive_choices (s : State) : s.derive.choices = s.choices := rfl

@[simp] theorem State.derive_pending (s : State) : s.derive.pending = s.pending := rfl

@[simp] theorem State.derive_body (s : State) (b : Body) : s.derive.body b = s.body b := rfl

@[simp] theorem State.derive_pair (s : State) (p : Pair) : s.derive.pair p = s.pair p := rfl

@[simp] theorem State.derive_gate (s : State) (k : Chamber) (e : Side) : s.derive.gate k e = s.gate k e := rfl

@[simp] theorem State.derive_sluice (s : State) (q : Sluice) : s.derive.sluice q = s.sluice q := rfl

@[simp] theorem State.derive_chamber (s : State) (k : Chamber) : s.derive.chamber k = s.chamber k := rfl

@[simp] theorem State.derive_wish (s : State) (k : Chamber) : s.derive.wish k = s.wish k := rfl

@[simp] theorem State.derive_vessel (s : State) (i : Nat) : s.derive.vessel i = s.vessel i := rfl

@[simp] theorem State.derive_batch (s : State) (k : Chamber) : s.derive.batch k = s.batch k := rfl

@[simp] theorem State.derive_subscriber (s : State) (st : Station) : s.derive.subscriber st = s.subscriber st := rfl

@[simp] theorem State.derive_station (s : State) (st : Station) : s.derive.station st = s.station st := rfl

@[simp] theorem State.derive_holder (s : State) (k : Chamber) : s.derive.holder k = s.holder k := rfl

@[simp] theorem State.derive_generator (s : State) (g : Generator) : s.derive.generator g = s.generator g := rfl

@[simp] theorem State.derive_chamberPresent (s : State) (k : Chamber) : s.derive.chamberPresent k = s.chamberPresent k := by
  cases k <;> rfl

@[simp] theorem State.derive_signals_tests (s : State) : s.derive.signals.tests = s.signals.tests := rfl

@[simp] theorem State.derive_signals_genA (s : State) : s.derive.signals.genA = s.signals.genA := rfl

@[simp] theorem State.derive_signals_genB (s : State) : s.derive.signals.genB = s.signals.genB := rfl

/-! ## Derived twice is derived once -/

/-- A no-current time carried over the same moment twice is carried over once. -/
theorem Lamp.recount_recount (l : Lamp) (now : Nat) (lit tested : Bool) :
    (l.recount now lit tested).recount now lit tested = l.recount now lit tested := by
  unfold Lamp.recount
  by_cases h : (decide (l.output = .dark) || !l.counts tested || lit && l.current) = true
  · simp only [h, if_true]
    have h' : (decide (l.output = .dark) || !({ l with count := 0, since := none } : Lamp).counts tested || lit && l.current) = true := h
    simp [h']
  · simp only [h]
    have h' : ¬(decide (l.output = .dark) || !({ l with count := l.noCurrent now, since := if lit then some now else none } : Lamp).counts tested
        || lit && l.current) = true := h
    simp [h']
    cases lit <;> simp [Lamp.noCurrent]

@[simp] theorem Lamp.recount_output (l : Lamp) (now : Nat) (lit tested : Bool) : (l.recount now lit tested).output = l.output := by
  unfold Lamp.recount
  split <;> rfl

@[simp] theorem Lamp.recount_proven (l : Lamp) (now : Nat) (lit tested : Bool) : (l.recount now lit tested).proven = l.proven := by
  unfold Lamp.recount
  split <;> rfl

/-- A lamp driven twice is driven once. -/
theorem State.driveLamp_driveLamp (s : State) (k : Chamber) (l : Lamp) (out : LampOutput) :
    s.driveLamp k (s.driveLamp k l out) out = s.driveLamp k l out := by
  have h : ∀ r : Lamp, r.output = out → ({ r with output := out } : Lamp) = r := by
    intro r hr
    subst hr
    rfl
  show ({ s.driveLamp k l out with output := out } : Lamp).recount _ _ _ = _
  rw [h _ (Lamp.recount_output _ _ _ _)]
  exact Lamp.recount_recount _ _ _ _

@[simp] theorem State.driveLamp_proven (s : State) (k : Chamber) (l : Lamp) (out : LampOutput) :
    (s.driveLamp k l out).proven = l.proven := Lamp.recount_proven _ _ _ _

/-- A signal driven twice is driven once. -/
theorem State.driveSignal_driveSignal (s : State) (k : Chamber) (a : Aspect) (l : PerLamp Lamp) :
    s.driveSignal k a (s.driveSignal k a l) = s.driveSignal k a l := by
  have h : ∀ n, s.outputs k a (s.driveSignal k a l) n = s.outputs k a l n := by
    intro n
    simp [State.outputs, State.driveSignal]
  show PerLamp.mk (s.driveLamp k (s.driveSignal k a l).redA (s.outputs k a (s.driveSignal k a l) .redA))
    (s.driveLamp k (s.driveSignal k a l).redB (s.outputs k a (s.driveSignal k a l) .redB))
    (s.driveLamp k (s.driveSignal k a l).green (s.outputs k a (s.driveSignal k a l) .green)) = _
  rw [h, h, h]
  simp only [State.driveSignal, State.driveLamp_driveLamp]

/-- A shown aspect depends on which lamps are PROVEN, not on how they are driven. -/
theorem shownAspect_driveSignal (s : State) (k : Chamber) (a c : Aspect) (g : Signal) (x : GateState) (l : PerLamp Lamp) :
    shownAspect c g x (s.driveSignal k a l) = shownAspect c g x l := by
  simp [shownAspect, State.driveSignal]

/-- Driving the lamps changes no aspect. -/
theorem State.deriveChamber_aspectsOf (s : State) (k : Chamber) (g : Signal) :
    (s.deriveChamber k).aspectsOf k g = s.aspectsOf k g := by
  have hl : ((s.deriveChamber k).signals.lamps.get k).get g =
      s.driveSignal k (s.aspectsOf k g).shown ((s.signals.lamps.get k).get g) := by
    cases k <;> cases g <;> rfl
  have hc : (s.deriveChamber k).called k g = s.called k g := by cases k <;> rfl
  have hg : (s.deriveChamber k).gate k g.side = s.gate k g.side := rfl
  unfold State.aspectsOf at hl ⊢
  rw [hl, hc, hg]
  dsimp only
  rw [shownAspect_driveSignal]

/-- What a chamber's derivation writes. -/
theorem State.deriveChamber_eq (s : State) (k : Chamber) :
    s.deriveChamber k =
      { s with
        signals.aspects := s.signals.aspects.set k (s.newAspects k)
        signals.lamps := s.signals.lamps.set k (s.newLamps k) } := rfl

/-- A chamber's signals derived twice are derived once. -/
theorem State.deriveChamber_idem (s : State) (k : Chamber) : (s.deriveChamber k).deriveChamber k = s.deriveChamber k := by
  have ha : (s.deriveChamber k).newAspects k = s.newAspects k := by
    unfold State.newAspects
    simp only [State.deriveChamber_aspectsOf]
  have hd : ∀ a l, (s.deriveChamber k).driveSignal k a l = s.driveSignal k a l := fun _ _ => rfl
  have hl : (s.deriveChamber k).signals.lamps.get k = s.newLamps k := by cases k <;> rfl
  have hn : (s.deriveChamber k).newLamps k = s.newLamps k := by
    unfold State.newLamps at hl ⊢
    simp only [hl, hd, State.deriveChamber_aspectsOf, State.driveSignal_driveSignal]
  rw [State.deriveChamber_eq (s.deriveChamber k), ha, hn]
  cases k <;> rfl

/-- The derivations of the two chambers do not meet. -/
theorem State.deriveChamber_comm (s : State) :
    (s.deriveChamber .c2).deriveChamber .c1 = (s.deriveChamber .c1).deriveChamber .c2 := rfl

/-- The signals derived twice are derived once. -/
@[simp] theorem State.derive_derive (s : State) : s.derive.derive = s.derive := by
  unfold State.derive
  rw [← State.deriveChamber_comm s, State.deriveChamber_idem, State.deriveChamber_comm, State.deriveChamber_idem]

/-! ## The cascade -/

/-- A cascade with nothing to do does nothing. -/
@[simp] theorem settle_nil (n : Nat) (s : State) (h : s.agenda = []) : settle n s = s := by
  cases n with
  | zero => rfl
  | succ n =>
    unfold settle
    rw [h]

/-- A cascade carries out the head of its list. -/
theorem settle_cons (n : Nat) (s : State) (t : Task) (ts : List Task) (h : s.agenda = t :: ts) :
    settle (n + 1) s = settle n ({ s with agenda := ts }.runTask t).derive := by
  conv_lhs => unfold settle
  rw [h]

/-- An event without further consequence ends with the signals derived and the deferred marks kept true. -/
theorem State.finish_nil (s : State) (h : s.agenda = []) : s.finish = s.settled := by
  unfold State.finish State.settled
  rw [settle_nil cascadeFuel s.derive h, State.derive_derive]

/-- An event whose one consequence changes nothing ends like an event without one. -/
theorem State.finish_idle (s : State) (t : Task) (h : s.agenda = [t])
    (hr : ({ s with agenda := [] } : State).derive.runTask t = ({ s with agenda := [] } : State).derive) :
    s.finish = ({ s with agenda := [] } : State).settled := by
  have hr' : ({ s.derive with agenda := [] } : State).runTask t = ({ s with agenda := [] } : State).derive := hr
  unfold State.finish State.settled
  rw [settle_cons 63 s.derive t [] h, hr', settle_nil _ _ rfl, State.derive_derive, State.derive_derive]

/-! ## The port -/

/-- A station's record replaced twice. -/
@[simp] theorem State.setStation_setStation (s : State) (st : Station) (x y : StationRec) :
    (s.setStation st x).setStation st y = s.setStation st y := by
  simp [State.setStation]

/-- What a valid frame leaves of its station. -/
@[simp] theorem State.validFrame_station (s : State) (st st' : Station) :
    (s.validFrame st).station st' = if st' = st then
      { s.station st with
        link := .present, silence := some (s.now + seconds s.settings.silenceLimit), receiver := .hunting }
      else s.station st' :=
  PerStation.get_set _ _ _ _

/-- A request taken at once is judged in the state its frame leaves, and its reply is put on the line. -/
theorem State.exchange_takes {s t : State} {st : Station} {code : Nat} {judge : State → Judged} {o : ReplyOutcome}
    {l : List WireField} (h : s.takes st) (hj : judge (s.validFrame st) = (t, some (o, l))) :
    s.exchange st code judge = .next (t.setStation st { t.station st with tx := [⟨code, o, l⟩], service := .idle }) := by
  unfold State.exchange State.portTake
  rw [if_neg h.1]
  have hs : ((s.validFrame st).station st).service = .idle := by
    rw [State.validFrame_station, if_pos rfl]
    exact h.2
  simp only [hs, if_true, State.serve, hj, State.reply, State.setService, State.setStation_setStation,
    State.setStation_station]

/-- A request that changes nothing and is answered. -/
theorem State.exchange_report {s : State} {st : Station} {code : Nat} {judge : State → Judged} {o : ReplyOutcome}
    {l : List WireField} (h : s.takes st) (hj : judge (s.validFrame st) = (s.validFrame st, some (o, l))) :
    s.exchange st code judge = .next (s.answered st code o l) := by
  rw [State.exchange_takes h hj]
  have hs := h.2
  simp only [State.validFrame, State.answered, State.setStation_setStation, State.setStation_station, if_true, ← hs]

/-- A request that is answered, its judgement leaving the core of its sender's record as the frame left it. -/
theorem State.exchange_answered {s t : State} {st : Station} {code : Nat} {judge : State → Judged} {o : ReplyOutcome}
    {l : List WireField} (h : s.takes st) (hj : judge (s.validFrame st) = (t, some (o, l)))
    (hc : (t.station st).core = ((s.validFrame st).station st).core) (hn : t.now = s.now)
    (hs : t.settings.silenceLimit = s.settings.silenceLimit) :
    s.exchange st code judge = .next (t.answered st code o l) := by
  rw [State.exchange_takes h hj]
  have h2 := h.2
  have e1 : (t.station st).link = .present := by
    simpa [StationRec.core] using congrArg StationRec.link hc
  have e2 : (t.station st).silence = some (s.now + seconds s.settings.silenceLimit) := by
    simpa [StationRec.core] using congrArg StationRec.silence hc
  have e3 : (t.station st).service = .idle := by
    simpa [StationRec.core, h2] using congrArg StationRec.service hc
  have e4 : (t.station st).receiver = .hunting := by
    simpa [StationRec.core] using congrArg StationRec.receiver hc
  unfold State.answered
  rw [hn, hs, ← e1, ← e2, ← e3, ← e4]

end Sys2Proof.Machine
end

