-- ==== Sys2Proof/Laws/Commands.lean ====
section
/-! SUPPORT. What each request and each event keeps of what the invariants read. -/

namespace Sys2Proof.Machine

/-! ## Answers -/

@[simp] theorem State.report_fst (s : State) (l : List WireField) : (s.report l).1 = s := rfl

@[simp] theorem State.refuse_fst (s : State) (o : ReplyOutcome) (l : List WireField) : (s.refuse o l).1 = s := rfl

@[simp] theorem State.outOfRange_fst (s : State) (n : Nat) : (s.outOfRange n).1 = s := rfl

@[simp] theorem State.interlocked_fst (s : State) (c : Clause) : (s.interlocked c).1 = s := rfl

@[simp] theorem State.done_fst (s : State) (o : ReplyOutcome) (l : List WireField) : (s.done o l).1 = s.finish := rfl

/-- A request that passes its permission keeps what its own rule keeps. -/
theorem State.judged_held (s : State) (st : Station) (p : Permission) (own : State → Judged) (h : (own s).1.held = s.held) :
    (s.judged st p own).1.held = s.held := by
  unfold State.judged
  split
  · rfl
  · exact h

/-- A directed request keeps what its own rule keeps. -/
theorem State.directed_held (s : State) (st : Station) (k : Chamber) (own : State → Judged) (h : (own s).1.held = s.held) :
    (s.directed st k own).1.held = s.held := by
  unfold State.directed
  apply State.judged_held
  split
  · exact h
  · rfl

/-- A request that names a slot keeps what its own rule keeps. -/
theorem State.withVessel_held (s : State) (i : Nat) (own : Vessel → Judged)
    (h : (s.vessel i).nonFree = true → (own (s.vessel i)).1.held = s.held) : (s.withVessel i own).1.held = s.held := by
  unfold State.withVessel
  split
  · rfl
  · split
    · rfl
    · next hf => exact h (by simpa [Vessel.nonFree] using hf)

/-- A step of a pair that keeps what the invariants read. -/
theorem held_of_fst {α : Type} {x : State × α} {t : State} {y : α} {s : State} (h : x.1.held = s.held) (e : x = (t, y)) :
    t.held = s.held := by
  subst e
  exact h

/-! ## The requests -/

@[simp] theorem State.phaseReply_held (s : State) (k : Chamber) (x : WaterKind) (o : ReplyOutcome) :
    (s.phaseReply k x o).1.held = s.held := by
  unfold State.phaseReply
  split <;> simp

@[simp] theorem State.directPhase_held (s : State) (k : Chamber) (x : WaterKind) (c : Bool) :
    (s.directPhase k x c).1.held = s.held := by
  unfold State.directPhase
  split
  · dsimp only
    split <;> simp
  · rfl

@[simp] theorem State.directOpen_held (s : State) (k : Chamber) (e : Side) : (s.directOpen k e).1.held = s.held := by
  unfold State.directOpen
  have h := s.openGate_held k e
  dsimp only
  split
  · split <;> simp_all
  · split <;> rfl

@[simp] theorem State.directClose_held (s : State) (k : Chamber) (e : Side) : (s.directClose k e).1.held = s.held := by
  unfold State.directClose
  dsimp only
  (repeat' split) <;> simp

@[simp] theorem State.sluiceWithin_held (s : State) (st : Station) (q : Sluice) (n : Nat) :
    (s.sluiceWithin st q n).1.held = s.held := by
  unfold State.sluiceWithin
  have h := s.orderSluice_held q n
  dsimp only
  (repeat' split) <;> simp_all

@[simp] theorem State.directSluice_held (s : State) (st : Station) (k : Chamber) (e : Side) (n : Nat) :
    (s.directSluice st k e n).1.held = s.held := by
  unfold State.directSluice
  dsimp only
  (repeat' split) <;> simp

@[simp] theorem State.resumePhase_held (s t : State) (k : Chamber) (x : WaterKind) (h : t.held = s.held) :
    (s.resumePhase t k x).1.held = s.held := by
  unfold State.resumePhase
  split
  · rfl
  · rw [State.done_fst, State.finish_held, h]

@[simp] theorem State.resumeAs_held (s : State) (k : Chamber) (c : ChamberState) : (s.resumeAs k c).1.held = s.held := by
  unfold State.resumeAs
  split
  · simp
  · have h := fun e => (s.restore k c).openGate_held k e
    simp only [State.restore_held] at h
    split
    · split
      · next e => split <;> first | rfl | simp [held_of_fst (h _) e]
      · next e => simp [held_of_fst (h _) e]
    · split <;> simp
  · simp
  · simp

@[simp] theorem State.found_held (s : State) (st : Station) (q : SeekArgs) (i : Option Nat) :
    (s.found st q i).1.held = s.held := s.setStation_held st _ rfl

@[simp] theorem StationRec.driveLevel_link (r : StationRec) : r.driveLevel.link = r.link := by
  unfold StationRec.driveLevel
  split <;> rfl

@[simp] theorem StationRec.setAttention_link (r : StationRec) (m : AttentionMode) : (r.setAttention m).link = r.link := by
  unfold StationRec.setAttention
  (repeat' split) <;> simp

@[simp] theorem judgeRestart_held (st : Station) (s : State) : (judgeRestart st s).1.held = s.held := by
  unfold judgeRestart
  apply State.judged_held
  split <;> simp

@[simp] theorem judgeForceFast_held (st : Station) (on : Bool) (s : State) : (judgeForceFast st on s).1.held = s.held := by
  unfold judgeForceFast
  apply State.judged_held
  split <;> simp

@[simp] theorem judgeReadLevels_held (st : Station) (s : State) : (judgeReadLevels st s).1.held = s.held := by
  unfold judgeReadLevels
  apply State.judged_held
  rfl

@[simp] theorem judgeServiceOn_held (st : Station) (k : Chamber) (s : State) : (judgeServiceOn st k s).1.held = s.held := by
  unfold judgeServiceOn
  apply State.judged_held
  (repeat' split) <;> simp

@[simp] theorem judgeServiceOff_held (st : Station) (k : Chamber) (s : State) : (judgeServiceOff st k s).1.held = s.held := by
  unfold judgeServiceOff
  apply State.judged_held
  (repeat' split) <;> simp

@[simp] theorem judgeSetMode_held (st : Station) (k : Chamber) (m : Mode) (s : State) : (judgeSetMode st k m s).1.held = s.held := by
  unfold judgeSetMode
  apply State.judged_held
  (repeat' split) <;> simp

@[simp] theorem judgeConfirmIn_held (st : Station) (k : Chamber) (present : Option (List Nat)) (s : State) : (judgeConfirmIn st k present s).1.held = s.held := by
  unfold judgeConfirmIn
  apply State.judged_held
  dsimp only
  (repeat' split) <;> simp

@[simp] theorem judgeConfirmClear_held (st : Station) (k : Chamber) (s : State) : (judgeConfirmClear st k s).1.held = s.held := by
  unfold judgeConfirmClear
  apply State.judged_held
  (repeat' split) <;> simp

@[simp] theorem judgeHalt_held (st : Station) (k : Chamber) (s : State) : (judgeHalt st k s).1.held = s.held := by
  unfold judgeHalt
  apply State.judged_held
  split <;> simp

@[simp] theorem judgeResume_held (st : Station) (k : Chamber) (s : State) : (judgeResume st k s).1.held = s.held := by
  unfold judgeResume
  apply State.judged_held
  split <;> simp

@[simp] theorem judgeAbandonBatch_held (st : Station) (k : Chamber) (s : State) : (judgeAbandonBatch st k s).1.held = s.held := by
  unfold judgeAbandonBatch
  apply State.judged_held
  (repeat' split) <;> simp

@[simp] theorem judgeBind_held (st : Station) (k : Chamber) (d : Direction) (s : State) : (judgeBind st k d s).1.held = s.held := by
  unfold judgeBind
  apply State.directed_held
  have h := s.formFrom_held k d
  split
  · rfl
  · split
    · rfl
    · next e => exact held_of_fst h e
    · next e => rw [State.done_fst, State.finish_held, held_of_fst h e]
    · next e => rw [State.done_fst, State.finish_held, held_of_fst h e]

@[simp] theorem judgeGateOpen_held (st : Station) (k : Chamber) (e : Side) (s : State) : (judgeGateOpen st k e s).1.held = s.held := by
  unfold judgeGateOpen
  apply State.directed_held
  simp

@[simp] theorem judgeGateClose_held (st : Station) (k : Chamber) (e : Side) (s : State) : (judgeGateClose st k e s).1.held = s.held := by
  unfold judgeGateClose
  apply State.directed_held
  simp

@[simp] theorem judgeGateStop_held (st : Station) (k : Chamber) (e : Side) (s : State) : (judgeGateStop st k e s).1.held = s.held := by
  unfold judgeGateStop
  apply State.directed_held
  split <;> simp

@[simp] theorem judgeFill_held (st : Station) (k : Chamber) (cross : Bool) (s : State) : (judgeFill st k cross s).1.held = s.held := by
  unfold judgeFill
  apply State.directed_held
  simp

@[simp] theorem judgeEmpty_held (st : Station) (k : Chamber) (cross : Bool) (s : State) : (judgeEmpty st k cross s).1.held = s.held := by
  unfold judgeEmpty
  apply State.directed_held
  simp

@[simp] theorem judgeSluice_held (st : Station) (k : Chamber) (which : SluiceChoice) (step : Nat) (s : State) : (judgeSluice st k which step s).1.held = s.held := by
  unfold judgeSluice
  apply State.directed_held
  (repeat' split) <;> simp

@[simp] theorem judgeReadChamber_held (st : Station) (k : Chamber) (s : State) : (judgeReadChamber st k s).1.held = s.held := by
  unfold judgeReadChamber
  apply State.judged_held
  rfl

@[simp] theorem judgeSeek_held (st : Station) (q : SeekArgs) (s : State) : (judgeSeek st q s).1.held = s.held := by
  unfold judgeSeek
  apply State.judged_held
  split <;> simp

@[simp] theorem judgeSeekNext_held (st : Station) (s : State) : (judgeSeekNext st s).1.held = s.held := by
  unfold judgeSeekNext
  apply State.judged_held
  split <;> simp

@[simp] theorem judgeEnterOrder_held (st : Station) (slot : Nat) (d : Direction) (laden : Bool) (cls : OrderClass) (s : State) : (judgeEnterOrder st slot d laden cls s).1.held = s.held := by
  unfold judgeEnterOrder
  apply State.judged_held
  dsimp only
  (repeat' split) <;> simp

@[simp] theorem judgeCancelOrder_held (st : Station) (n : Nat) (s : State) : (judgeCancelOrder st n s).1.held = s.held := by
  unfold judgeCancelOrder
  apply State.judged_held
  (repeat' split) <;> simp

@[simp] theorem judgeReadBook_held (st : Station) (d : Direction) (pos : Nat) (s : State) : (judgeReadBook st d pos s).1.held = s.held := by
  unfold judgeReadBook
  apply State.judged_held
  split <;> simp

@[simp] theorem judgeReadBatch_held (st : Station) (k : Chamber) (s : State) : (judgeReadBatch st k s).1.held = s.held := by
  unfold judgeReadBatch
  apply State.judged_held
  split <;> simp

@[simp] theorem judgeLampTest_held (st : Station) (k : Chamber) (s : State) : (judgeLampTest st k s).1.held = s.held := by
  unfold judgeLampTest
  apply State.judged_held
  split <;> simp

@[simp] theorem judgeSwapTariff_held (st : Station) (s : State) : (judgeSwapTariff st s).1.held = s.held := by
  unfold judgeSwapTariff
  apply State.judged_held
  rfl

@[simp] theorem judgeSubscribe_held (st : Station) (watermark : Option Nat) (s : State) : (judgeSubscribe st watermark s).1.held = s.held := by
  unfold judgeSubscribe
  apply State.judged_held
  split <;> simp

@[simp] theorem judgeUnsubscribe_held (st : Station) (who : Station) (s : State) : (judgeUnsubscribe st who s).1.held = s.held := by
  unfold judgeUnsubscribe
  apply State.judged_held
  simp

@[simp] theorem judgeReadJournal_held (st : Station) (s : State) : (judgeReadJournal st s).1.held = s.held := by
  unfold judgeReadJournal
  apply State.judged_held
  split <;> simp

@[simp] theorem judgeReadJournalStatus_held (st : Station) (s : State) : (judgeReadJournalStatus st s).1.held = s.held := by
  unfold judgeReadJournalStatus
  apply State.judged_held
  rfl

@[simp] theorem judgeReadTallies_held (st : Station) (clear : Bool) (s : State) : (judgeReadTallies st clear s).1.held = s.held := by
  unfold judgeReadTallies
  apply State.judged_held
  split <;> simp

@[simp] theorem judgeReadSiteAccount_held (st : Station) (s : State) : (judgeReadSiteAccount st s).1.held = s.held := by
  unfold judgeReadSiteAccount
  apply State.judged_held
  rfl

@[simp] theorem judgeSettleSite_held (st : Station) (s : State) : (judgeSettleSite st s).1.held = s.held := by
  unfold judgeSettleSite
  apply State.judged_held
  rfl

@[simp] theorem judgeReadNotices_held (st : Station) (s : State) : (judgeReadNotices st s).1.held = s.held := by
  unfold judgeReadNotices
  apply State.judged_held
  exact s.setStation_held st _ (by simp)

@[simp] theorem judgeSetNoticeMask_held (st : Station) (enabled : List NoticeKind) (s : State) : (judgeSetNoticeMask st enabled s).1.held = s.held := by
  unfold judgeSetNoticeMask
  apply State.judged_held
  exact s.setStation_held st _ (by simp)

@[simp] theorem judgeSetAttentionMode_held (st : Station) (m : AttentionMode) (s : State) : (judgeSetAttentionMode st m s).1.held = s.held := by
  unfold judgeSetAttentionMode
  apply State.judged_held
  exact s.setStation_held st _ (by simp)

@[simp] theorem judgeReadFault_held (st : Station) (s : State) : (judgeReadFault st s).1.held = s.held := by
  unfold judgeReadFault
  apply State.judged_held
  rfl

@[simp] theorem judgeClearFault_held (st : Station) (s : State) : (judgeClearFault st s).1.held = s.held := by
  unfold judgeClearFault
  apply State.judged_held
  rfl

@[simp] theorem judgeSetWindow_held (st : Station) (collection : Nat) (cursor : Nat) (move : WindowStep) (first : Nat) (last : Nat) (s : State) : (judgeSetWindow st collection cursor move first last s).1.held = s.held := by
  unfold judgeSetWindow
  apply State.judged_held
  split <;> simp

@[simp] theorem judgeReadNext_held (st : Station) (count : Option Nat) (s : State) : (judgeReadNext st count s).1.held = s.held := by
  unfold judgeReadNext
  apply State.judged_held
  dsimp only
  split <;> simp

@[simp] theorem judgeReadAt_held (st : Station) (collection : Nat) (index : Nat) (first : Nat) (last : Nat) (s : State) : (judgeReadAt st collection index first last s).1.held = s.held := by
  unfold judgeReadAt
  apply State.judged_held
  split <;> simp

@[simp] theorem judgeStoreSettings_held (st : Station) (s : State) : (judgeStoreSettings st s).1.held = s.held := by
  unfold judgeStoreSettings
  apply State.judged_held
  split <;> simp

/-! ## Requests on a vessel -/

@[simp] theorem judgeHold_held (st : Station) (slot : Nat) (s : State) : (judgeHold st slot s).1.held = s.held := by
  unfold judgeHold
  apply State.judged_held
  apply State.withVessel_held
  intro hf
  split
  · simp [s.holdVessel_held slot _ hf]
  · next h => exact s.setVessel_held slot _ (by simp [Vessel.key, hf]; rfl)
  · rfl

@[simp] theorem judgeRelease_held (st : Station) (slot : Nat) (s : State) : (judgeRelease st slot s).1.held = s.held := by
  unfold judgeRelease
  apply State.judged_held
  apply State.withVessel_held
  intro hf
  split
  · split
    · exact s.setVessel_held slot _ (by simp [Vessel.key, hf]; rfl)
    · simp [s.activate_held slot hf]
  · rfl
  · rfl

@[simp] theorem judgeSettle_held (st : Station) (slot amount : Nat) (s : State) :
    (judgeSettle st slot amount s).1.held = s.held := by
  unfold judgeSettle
  apply State.judged_held
  have h := s.setVessel_held slot ((s.vessel slot).settle amount) rfl
  (repeat' split) <;> first | rfl | simp [h]

/-! ## The port -/

/-- A valid frame makes its sender PRESENT. -/
@[simp] theorem State.validFrame_held (s : State) (st : Station) :
    (s.validFrame st).held = { s.held with links := s.held.links.set st .present } := by
  cases st <;> rfl

@[simp] theorem StationRec.addBusy_link (r : StationRec) (n : Nat) : (r.addBusy n).link = r.link := by
  unfold StationRec.addBusy
  split <;> rfl

/-- A request in service keeps what its judgement keeps. -/
theorem State.serve_held (s : State) (st : Station) (n : Nat) (x : Service) (j : State → Judged) :
    (s.serve st n x j).held = (j s).1.held := by
  unfold State.serve
  split <;> simp_all

/-- What a request frame leaves: nothing of it, its sender PRESENT, or what the judgement left. -/
theorem State.portTake_held (s : State) (st : Station) (n : Nat) (x : Service) (j : State → Judged) :
    (s.portTake st n x j).held = s.held ∨ (s.portTake st n x j).held = (s.validFrame st).held
      ∨ (s.portTake st n x j).held = (j (s.validFrame st)).1.held := by
  unfold State.portTake
  split
  · exact .inl rfl
  · dsimp only
    split
    · exact .inr (.inr (State.serve_held _ _ _ _ _))
    · exact .inr (.inl (State.setStation_held _ _ _ (by simp)))

/-! ## The events -/

/-- A valid STATUS answer keeps what the invariants read. -/
theorem State.statusOf_held {s t : State} {a : Actuator} {x : StatusAnswer} (h : s.statusOf a x = some t) : t.held = s.held := by
  unfold State.statusOf at h
  (repeat' split at h) <;> first | contradiction | (injection h with h; subst h; simp)

@[simp] theorem State.readback_held (s : State) (i : StoreImage) (m : Bool) : (s.readback i m).held = s.held := by
  unfold State.readback
  split <;> rw [State.reply_held]
  · rfl
  · rw [State.raiseFault_held]
    rfl

@[simp] theorem StationRec.nextReplies_link (r : StationRec) : r.nextReplies.link = r.link := by
  unfold StationRec.nextReplies
  split <;> rfl

theorem execRoundStart_held (s t : State) (h : execRoundStart s = .next t) : t.held = s.held := by
  unfold execRoundStart at h
  injection h with h
  subst h
  simp

theorem execRoundTimerExpiry_held (b : Body) (s t : State) (h : execRoundTimerExpiry b s = .next t) : t.held = s.held := by
  unfold execRoundTimerExpiry at h
  split at h <;> injection h with h <;> subst h <;> simp

theorem execGaugeReply_held (b1 : Byte) (b2 : Byte) (b3 : Byte) (b4 : Byte) (s t : State) (h : execGaugeReply b1 b2 b3 b4 s = .next t) : t.held = s.held := by
  unfold execGaugeReply at h
  split at h <;> injection h with h <;> subst h <;> simp

theorem execNoReply_held (s t : State) (h : execNoReply s = .next t) : t.held = s.held := by
  unfold execNoReply at h
  split at h <;> injection h with h <;> subst h <;> simp

theorem execGaugeStrayBytes_held (bytes : List Byte) (s t : State) (h : execGaugeStrayBytes bytes s = .next t) : t.held = s.held := by
  unfold execGaugeStrayBytes at h
  injection h with h
  subst h
  simp

theorem execHoldTimerExpiry_held (b : Body) (s t : State) (h : execHoldTimerExpiry b s = .next t) : t.held = s.held := by
  unfold execHoldTimerExpiry at h
  split at h <;> injection h with h <;> subst h <;> simp

theorem execSettleExpiry_held (p : Pair) (s t : State) (h : execSettleExpiry p s = .next t) : t.held = s.held := by
  unfold execSettleExpiry at h
  split at h <;> injection h with h <;> subst h <;> simp

theorem execTrailTimerExpiry_held (s t : State) (h : execTrailTimerExpiry s = .next t) : t.held = s.held := by
  unfold execTrailTimerExpiry at h
  split at h <;> injection h with h <;> subst h
  · rw [State.write_held]
    rfl
  · rfl

theorem execDrivePollCycle_held (s t : State) (h : execDrivePollCycle s = .next t) : t.held = s.held := by
  unfold execDrivePollCycle at h
  split at h <;> injection h with h <;> subst h <;> rfl

theorem execGateReport_held (k : Chamber) (e : Side) (r : GateReport) (s t : State) (h : execGateReport k e r s = .next t) : t.held = s.held := by
  unfold execGateReport at h
  split at h <;> injection h with h <;> subst h <;> simp

theorem execSluiceReport_held (q : Sluice) (step : Nat) (s t : State) (h : execSluiceReport q step s = .next t) : t.held = s.held := by
  unfold execSluiceReport at h
  (repeat' split at h) <;> injection h with h <;> subst h <;> first | rfl | simp

theorem execDriveAnswerTimeout_held (s t : State) (h : execDriveAnswerTimeout s = .next t) : t.held = s.held := by
  unfold execDriveAnswerTimeout at h
  injection h with h
  subst h
  rfl

theorem execOrderEcho_held (a : Actuator) (s t : State) (h : execOrderEcho a s = .next t) : t.held = s.held := by
  unfold execOrderEcho at h
  split at h <;> injection h with h <;> subst h <;> rfl

theorem execEchoTimeout_held (a : Actuator) (s t : State) (h : execEchoTimeout a s = .next t) : t.held = s.held := by
  unfold execEchoTimeout at h
  split at h
  · dsimp only at h
    split at h <;> injection h with h <;> subst h
    · rw [State.driveEvent_held, State.echoFailed_held]
      rfl
    · rfl
  · injection h with h
    subst h
    rfl

theorem execDriveStrayBytes_held (bytes : List Byte) (s t : State) (h : execDriveStrayBytes bytes s = .next t) : t.held = s.held := by
  unfold execDriveStrayBytes at h
  injection h with h
  subst h
  simp

theorem execStatusAnswer_held (a : Actuator) (ans : StatusAnswer) (s t : State) (h : execStatusAnswer a ans s = .next t) : t.held = s.held := by
  unfold execStatusAnswer at h
  split at h
  · split at h
    · next e =>
      injection h with h
      subst h
      rw [State.closeQuery_held, State.statusOf_held e]
    · injection h with h
      subst h
      simp
  · injection h with h
    subst h
    rfl

theorem execStatusTimeout_held (a : Actuator) (s t : State) (h : execStatusTimeout a s = .next t) : t.held = s.held := by
  unfold execStatusTimeout at h
  split at h <;> injection h with h <;> subst h <;> simp

theorem execGateMovementTimeout_held (k : Chamber) (e : Side) (s t : State) (h : execGateMovementTimeout k e s = .next t) : t.held = s.held := by
  unfold execGateMovementTimeout at h
  split at h <;> injection h with h <;> subst h <;> simp

theorem execSluiceMovementTimeout_held (q : Sluice) (s t : State) (h : execSluiceMovementTimeout q s = .next t) : t.held = s.held := by
  unfold execSluiceMovementTimeout at h
  split at h <;> injection h with h <;> subst h <;> simp

theorem execRampIntervalExpiry_held (q : Sluice) (s t : State) (h : execRampIntervalExpiry q s = .next t) : t.held = s.held := by
  unfold execRampIntervalExpiry at h
  (repeat' split at h) <;> injection h with h <;> subst h <;> first | rfl | simp

theorem execFillSlow_held (k : Chamber) (s t : State) (h : execFillSlow k s = .next t) : t.held = s.held := by
  unfold execFillSlow at h
  dsimp only at h
  (repeat' split at h) <;> injection h with h <;> subst h <;> first | rfl | simp

theorem execEqualiseTimeout_held (k : Chamber) (s t : State) (h : execEqualiseTimeout k s = .next t) : t.held = s.held := by
  unfold execEqualiseTimeout at h
  split at h <;> injection h with h <;> subst h <;> simp

theorem execEntryOverdue_held (k : Chamber) (s t : State) (h : execEntryOverdue k s = .next t) : t.held = s.held := by
  unfold execEntryOverdue at h
  split at h <;> injection h with h <;> subst h <;> simp

theorem execClearOut_held (k : Chamber) (s t : State) (h : execClearOut k s = .next t) : t.held = s.held := by
  unfold execClearOut at h
  dsimp only at h
  (repeat' split at h) <;> injection h with h <;> subst h <;> first | rfl | simp

theorem execLeaveOverdue_held (k : Chamber) (s t : State) (h : execLeaveOverdue k s = .next t) : t.held = s.held := by
  unfold execLeaveOverdue at h
  split at h <;> injection h with h <;> subst h <;> simp

theorem execWishExpiry_held (k : Chamber) (s t : State) (h : execWishExpiry k s = .next t) : t.held = s.held := by
  unfold execWishExpiry at h
  split at h <;> injection h with h <;> subst h <;> simp

theorem execCrossSlow_held (s t : State) (h : execCrossSlow s = .next t) : t.held = s.held := by
  unfold execCrossSlow at h
  split at h <;> injection h with h <;> subst h <;> simp

theorem execFormationTimerExpiry_held (s t : State) (h : execFormationTimerExpiry s = .next t) : t.held = s.held := by
  unfold execFormationTimerExpiry at h
  split at h <;> injection h with h <;> subst h
  · rw [State.finish_held, State.pushAvailable_held]
    rfl
  · rfl

theorem execFlashPhaseChange_held (g : Generator) (s t : State) (h : execFlashPhaseChange g s = .next t) : t.held = s.held := by
  unfold execFlashPhaseChange at h
  injection h with h
  subst h
  simp

theorem execProvingInput_held (l : LampId) (current : Bool) (s t : State) (h : execProvingInput l current s = .next t) : t.held = s.held := by
  unfold execProvingInput at h
  split at h <;> injection h with h <;> subst h <;> simp

theorem execLampFailed_held (l : LampId) (s t : State) (h : execLampFailed l s = .next t) : t.held = s.held := by
  unfold execLampFailed at h
  (repeat' split at h) <;> injection h with h <;> subst h <;> first | rfl | simp

theorem execLampTestEnd_held (k : Chamber) (s t : State) (h : execLampTestEnd k s = .next t) : t.held = s.held := by
  unfold execLampTestEnd at h
  split at h <;> injection h with h <;> subst h <;> simp

theorem execStoreReadbackEnd_held (matched : Bool) (s t : State) (h : execStoreReadbackEnd matched s = .next t) : t.held = s.held := by
  unfold execStoreReadbackEnd at h
  split at h <;> injection h with h <;> subst h <;> simp

theorem execNoneAnswer_held (s t : State) (h : execNoneAnswer s = .next t) : t.held = s.held := by
  unfold execNoneAnswer at h
  injection h with h
  subst h
  rfl

theorem execBadFrame_held (st : Station) (cause : BadCause) (s t : State) (h : execBadFrame st cause s = .next t) : t.held = s.held := by
  unfold execBadFrame at h
  injection h with h
  subst h
  simp

theorem execFrameGapTimeout_held (st : Station) (s t : State) (h : execFrameGapTimeout st s = .next t) : t.held = s.held := by
  unfold execFrameGapTimeout at h
  injection h with h
  subst h
  simp

theorem execStrayLinkByte_held (st : Station) (byte : Byte) (framingError : Bool) (s t : State) (h : execStrayLinkByte st byte framingError s = .next t) : t.held = s.held := by
  unfold execStrayLinkByte at h
  dsimp only at h
  split at h <;> injection h with h <;> subst h
  · exact s.setStation_held st _ rfl
  · rfl

theorem execReplySent_held (st : Station) (s t : State) (h : execReplySent st s = .next t) : t.held = s.held := by
  unfold execReplySent at h
  split at h <;> injection h with h <;> subst h
  · rfl
  · exact s.setStation_held st _ (by simp)

theorem execAttentionPulseEnd_held (st : Station) (s t : State) (h : execAttentionPulseEnd st s = .next t) : t.held = s.held := by
  unfold execAttentionPulseEnd at h
  split at h <;> injection h with h <;> subst h
  · refine (State.setStation_held _ st _ ?_).trans (s.reach_held _)
    rfl
  · rfl

end Sys2Proof.Machine
end

