-- ==== Sys2Proof/Laws/Orders.lean ====
section
/-! SUPPORT. What an order to an actuator does: the level monitor, told of the change, touches the bodies' sampling only, and MOVE,
STOP and the overflow guard's order each write one actuator and append one order; when an order kept after a refusal is asked again;
what a pair that becomes EQUALISED ends, and what the end of a cross phase leaves. -/

namespace Sys2Proof.Machine

/-! ## The level monitor told of a change -/

/-- Only the sampling of the bodies, its timers and the round queue differ. -/
structure SamplingOnly (s t : State) : Prop where
  rest : t = { s with levels := t.levels }
  levels : SameLevels s t
  forceFast : t.levels.forceFast = s.levels.forceFast

theorem SamplingOnly.refl (s : State) : SamplingOnly s s :=
  ⟨rfl, ⟨fun _ => ⟨rfl, rfl, rfl, rfl, rfl, rfl⟩, fun _ => rfl, rfl, rfl⟩, rfl⟩

theorem SamplingOnly.trans {s t u : State} (h : SamplingOnly s t) (g : SamplingOnly t u) : SamplingOnly s u := by
  refine ⟨by rw [g.rest, h.rest], ⟨fun b => ?_, fun p => (g.levels.2.1 p).trans (h.levels.2.1 p),
    g.levels.2.2.1.trans h.levels.2.2.1, g.levels.2.2.2.trans h.levels.2.2.2⟩, g.forceFast.trans h.forceFast⟩
  have x := h.levels.1 b
  have y := g.levels.1 b
  exact ⟨y.1.trans x.1, y.2.trans x.2, y.3.trans x.3, y.4.trans x.4, y.5.trans x.5, y.6.trans x.6⟩

/-- A body's record replaced by one with the same measurements. -/
theorem SamplingOnly.setBody (s : State) (b : Body) (r : BodyRec) (h : r.core = (s.body b).core) :
    SamplingOnly s (s.setBody b r) := by
  refine ⟨rfl, ⟨fun b' => ?_, fun p => by simp, rfl, rfl⟩, rfl⟩
  have x := congrArg BodyRec.level h
  have y := congrArg BodyRec.state h
  have z := congrArg BodyRec.handedLevel h
  have u := congrArg BodyRec.handedState h
  have v := congrArg BodyRec.gauges h
  have w := congrArg BodyRec.lastRound h
  constructor <;> rw [State.setBody_body] <;> split <;> (try subst b') <;> first | rfl | assumption

theorem State.enqueue_sampling (s : State) (b : Body) : SamplingOnly s (s.enqueue b) := by
  unfold State.enqueue
  split
  · exact .refl s
  · exact ⟨rfl, ⟨fun _ => ⟨rfl, rfl, rfl, rfl, rfl, rfl⟩, fun _ => rfl, rfl, rfl⟩, rfl⟩

theorem State.dueAfter_sampling (s : State) (b : Body) (n : Nat) : SamplingOnly s (s.dueAfter b n) := by
  unfold State.dueAfter
  split
  · exact .refl s
  · split
    · exact s.enqueue_sampling b
    · exact .setBody _ _ _ rfl

theorem State.becomeFast_sampling (s : State) (b : Body) : SamplingOnly s (s.becomeFast b) := by
  unfold State.becomeFast
  split
  · exact .trans (.setBody s b { s.body b with sampling := .fast } rfl) (State.dueAfter_sampling _ _ _)
  · exact .refl s

theorem State.becomePrimary_sampling (s : State) (b : Body) : SamplingOnly s (s.becomePrimary b) :=
  .trans (.setBody s b { s.body b with sampling := .primary } rfl) (State.dueAfter_sampling _ _ _)

theorem State.holdOut_sampling (s : State) (b : Body) : SamplingOnly s (s.holdOut b) := by
  have h : SamplingOnly s (s.setBody b { s.body b with hold := none }) := .setBody _ _ _ rfl
  unfold State.holdOut
  dsimp only
  split
  · exact h
  · exact h.trans (State.becomePrimary_sampling _ _)

/-- R18: telling the level monitor of one body's causes changes its sampling alone. -/
theorem State.noteFastAt_sampling (s old : State) (b : Body) : SamplingOnly s (s.noteFastAt old b) := by
  unfold State.noteFastAt
  split
  · exact .trans (.setBody s b { s.body b with hold := none } rfl) (State.becomeFast_sampling _ _)
  · split
    · unfold State.loseCause
      split
      · exact s.holdOut_sampling b
      · exact .setBody _ _ _ rfl
    · exact .refl s

/-- R18: telling the level monitor of a change of an actuator changes the bodies' sampling alone. -/
theorem State.noteFast_sampling (s old : State) : SamplingOnly s (s.noteFast old) :=
  (((s.noteFastAt_sampling old .up).trans (State.noteFastAt_sampling _ _ _)).trans (State.noteFastAt_sampling _ _ _)).trans
    (State.noteFastAt_sampling _ _ _)

@[simp] theorem State.noteFast_drive (s old : State) : (s.noteFast old).drive = s.drive := by
  rw [(s.noteFast_sampling old).rest]

@[simp] theorem State.noteFast_gate (s old : State) (k : Chamber) (e : Side) : (s.noteFast old).gate k e = s.gate k e := by
  unfold State.gate
  rw [s.noteFast_drive]

@[simp] theorem State.noteFast_sluice (s old : State) (q : Sluice) : (s.noteFast old).sluice q = s.sluice q := by
  unfold State.sluice
  rw [s.noteFast_drive]

/-! ## An actuator changed -/

/-- A sluice changed: that sluice's record, and the bodies' sampling. -/
theorem State.setSluice_frame (s : State) (q : Sluice) (r : SluiceRec) :
    s.setSluice q r = { s.putSluice q r with levels := (s.setSluice q r).levels }
      ∧ SameLevels (s.putSluice q r) (s.setSluice q r) :=
  have h := (s.putSluice q r).noteFast_sampling s
  ⟨h.rest, h.levels⟩

@[simp] theorem State.setSluice_sluice (s : State) (q : Sluice) (r : SluiceRec) (q' : Sluice) :
    (s.setSluice q r).sluice q' = if q' = q then r else s.sluice q' := by
  simp [State.setSluice]

@[simp] theorem State.setSluice_gate (s : State) (q : Sluice) (r : SluiceRec) (k : Chamber) (e : Side) :
    (s.setSluice q r).gate k e = s.gate k e := by
  simp [State.setSluice]

/-- A gate changed: that gate's record, its surge memory kept only while OPENING, and the bodies' sampling. -/
@[simp] theorem State.setGate_gate (s : State) (k : Chamber) (e : Side) (g : Gate) (k' : Chamber) (e' : Side) :
    (s.setGate k e g).gate k' e' =
      if k' = k ∧ e' = e then if g.state = .opening then g else { g with surge := false } else s.gate k' e' := by
  simp [State.setGate]

@[simp] theorem State.setGate_sluice (s : State) (k : Chamber) (e : Side) (g : Gate) (q : Sluice) :
    (s.setGate k e g).sluice q = s.sluice q := by
  simp [State.setGate]

/-! ## Orders to sluices -/

/-- R23: a MOVE sent makes its sluice MOVING to the new target, the old one superseded, with its timer restarted. -/
theorem State.sendMove_sluice (s : State) (q : Sluice) (n : Nat) (q' : Sluice) :
    (s.sendMove q n).sluice q' =
      if q' = q then
        { s.sluice q with
          state := .moving
          target := some (.step n)
          superseded := if (s.sluice q).state = .moving then (s.sluice q).supersede else none
          timer := some s.sluiceExpiry }
      else s.sluice q' := by
  simp [State.sendMove]

/-- R34: the overflow guard's order leaves its sluice MOVING to 0 without a ramp, whatever it did before. -/
theorem State.forceShut_sluice (s : State) (q : Sluice) :
    ((s.forceShut q).sluice q).state = .moving ∧ ((s.forceShut q).sluice q).target = some (.step 0)
      ∧ ((s.forceShut q).sluice q).ramp = none ∧ ∀ q', q' ≠ q → (s.forceShut q).sluice q' = s.sluice q' := by
  refine ⟨?_, ?_, ?_, fun q' h => ?_⟩ <;> simp [State.forceShut, State.endRamp, State.sendMove_sluice, *]

/-- R23: STOP asked of a MOVING sluice makes STOP its target, the old one superseded, with its timer restarted and no ramp. -/
theorem State.stopSluice_moving (s : State) (q : Sluice) (h : (s.sluice q).state = .moving) (q' : Sluice) :
    (s.stopSluice q).sluice q' =
      if q' = q then
        { s.sluice q with
          target := some .stop, superseded := (s.sluice q).supersede, timer := some s.sluiceExpiry, ramp := none }
      else s.sluice q' := by
  simp [State.stopSluice, h]

/-- R23: STOP asked of a SHUT or HELD sluice sends nothing. -/
theorem State.stopSluice_rest (s : State) (q : Sluice) (h : (s.sluice q).state = .shut ∨ (s.sluice q).state = .held) :
    s.stopSluice q = s := by
  rcases h with h | h <;> simp [State.stopSluice, h]

/-! ## Fast causes while the STATUS query is open -/

/-- R15: no body has a fast cause while a drive's STATUS query is open. -/
theorem State.fastCause_open (s : State) (b : Body) (h : s.statusAnswered = false) : s.fastCause b = false := by
  simp [State.fastCause, h]

/-- R15: with the STATUS query open before and after, a change of an actuator is none of the level monitor's. -/
theorem State.noteFast_open (s old : State) (hs : s.statusAnswered = false) (ho : old.statusAnswered = false) :
    s.noteFast old = s := by
  have h : ∀ b, s.noteFastAt old b = s := fun b => by
    simp [State.noteFastAt, State.fastCause_open, hs, ho]
  simp [State.noteFast, h]

/-- R27: a drive's STATUS query closed while another drive's is open leaves the level monitor and the cross sluice alone. -/
theorem State.closeQuery_open (s : State) (a : Actuator) (h : (s.dropQuery a).statusAnswered = false) :
    s.closeQuery a = (s.dropQuery a).driveEvent a := by
  have ho : s.statusAnswered = false := by
    cases hq : s.drive.queries with
    | nil => simp [State.statusAnswered, State.dropQuery, hq] at h
    | cons => simp [State.statusAnswered, hq]
  simp [State.closeQuery, State.noteFast_open _ s h ho, h]

/-! ## Orders kept after a refusal -/

/-- R30, R33: at an event a sluice's ramp stays as it is, or it waited with a step refused by a clause that reads the event, was
asked for by no station, and decides again. -/
theorem State.rampRetry_cases (s : State) (h : Handed) (q : Sluice) :
    s.rampRetry h q = s
      ∨ ∃ r c, (s.sluice q).ramp = some r ∧ r.waiting = .retry c ∧ (∀ st, r.requester ≠ .station st)
        ∧ c.reads (.sluice q) h = true ∧ s.rampRetry h q = s.rampDecide q { r with first := false } := by
  unfold State.rampRetry
  split
  · next r hr =>
    split
    · exact .inl rfl
    · next c hw hn =>
      split
      · next hc => exact .inr ⟨r, c, hr, hw, fun st e => hn st e, hc, rfl⟩
      · exact .inl rfl
    · exact .inl rfl
  · exact .inl rfl

/-- R30: at an event a chamber's pending order stays as it is, or the clause that refused it reads the event and its sequencer asks
again. -/
theorem State.retryPending_cases (s : State) (h : Handed) (k : Chamber) :
    s.retryPending h k = s
      ∨ ∃ e c, (s.chamber k).pendingOrder = some (e, c) ∧ c.reads (.gate k e) h = true
        ∧ s.retryPending h k = if (s.chamber k).state = openingState e then s.sequenceOpen k e else s.restStep k := by
  unfold State.retryPending
  split
  · next e c hp =>
    split
    · next hc => exact .inr ⟨e, c, hp, hc, rfl⟩
    · exact .inl rfl
  · exact .inl rfl

/-- R30: an event that no clause of a kept order reads asks nothing again. -/
theorem State.retries_unread (s : State) (h : Handed)
    (hr : ∀ q r c, (s.sluice q).ramp = some r → r.waiting = .retry c → c.reads (.sluice q) h = false)
    (hp : ∀ k e c, (s.chamber k).pendingOrder = some (e, c) → c.reads (.gate k e) h = false) : s.retries h = s := by
  have ramp : ∀ q, s.rampRetry h q = s := fun q => by
    rcases s.rampRetry_cases h q with e | ⟨r, c, h1, h2, _, h3, _⟩
    · exact e
    · simp [hr q r c h1 h2] at h3
  have pending : ∀ k, s.retryPending h k = s := fun k => by
    rcases s.retryPending_cases h k with e | ⟨e, c, h1, h2, _⟩
    · exact e
    · simp [hp k e c h1] at h2
  simp [State.retries, State.rampRetries, allSluices, ramp, pending]

/-! ## A pair that becomes EQUALISED -/

/-- R45, R18: the end of a fill or an empty orders its sluice to 0; on one that is SHUT then it also closes the record and brings the
chamber to rest. -/
theorem State.endPhase_cases (s : State) (k : Chamber) (kind : WaterKind) :
    let t := (s.setChamber k { s.chamber k with phase := none }).shutSluice (.chamber k kind.side)
    s.endPhase k kind = t
      ∨ (t.chamber k).state = kind.phase ∧ t.sluiceShut (.chamber k kind.side) = true
        ∧ s.endPhase k kind = ((t.closeWater k true).setChamberState k kind.ends).push (.rest k) := by
  intro t
  unfold State.endPhase State.phaseDone
  dsimp only
  split
  · next h =>
    simp only [Bool.and_eq_true, decide_eq_true_eq] at h
    exact .inr ⟨h.1.1, h.2, rfl⟩
  · exact .inl rfl

/-- R12: the neighbour of a pair that becomes EQUALISED ends the fill or the empty that runs there, or the cross phase engaged, or does
nothing; what completes by it follows at once. -/
theorem State.tellEqualised_cases (s : State) (p : Pair) :
    s.tellEqualised p = settle cascadeFuel s
      ∨ (∃ k kind, p = .across kind.side k ∧ (s.chamber k).running kind = true
        ∧ s.tellEqualised p = settle cascadeFuel (s.endPhase k kind))
      ∨ p = .cross ∧ s.arbiter.owner = .engaged ∧ s.tellEqualised p = settle cascadeFuel (s.closeCross .equalised) := by
  unfold State.tellEqualised State.equalised
  split
  · next k =>
    split
    · next h => exact .inr (.inl ⟨k, .fill, rfl, h, rfl⟩)
    · exact .inl rfl
  · next k =>
    split
    · next h => exact .inr (.inl ⟨k, .empty, rfl, h, rfl⟩)
    · exact .inl rfl
  · split
    · next h =>
      simp only [Bool.and_eq_true, decide_eq_true_eq] at h
      exact .inr (.inr ⟨rfl, h.2, rfl⟩)
    · exact .inl rfl

/-- R12: with no phase under way in its chamber, or none engaged, and no consequence waiting, telling of a pair changes nothing. -/
theorem State.tellEqualised_idle (s : State) (p : Pair) (ha : s.agenda = []) (hp : ∀ k, (s.chamber k).phase = none)
    (ho : s.arbiter.owner ≠ .engaged) : s.tellEqualised p = s := by
  rcases s.tellEqualised_cases p with e | ⟨k, kind, _, h, _⟩ | ⟨_, h, _⟩
  · rw [e, settle_nil _ _ ha]
  · simp [Sequencer.running, hp k] at h
  · exact absurd h ho

/-- R71: while the arbiter is not ENDING with its sluice SHUT nothing is delivered; else it is left IDLE, without a record. -/
theorem State.crossDone_cases (s : State) :
    s.crossDone = s ∧ ¬(s.arbiter.owner = .ending ∧ s.sluiceShut .cross = true)
      ∨ s.arbiter.owner = .ending ∧ s.sluiceShut .cross = true
        ∧ s.crossDone.arbiter.owner = .idle ∧ s.crossDone.arbiter.record = none := by
  unfold State.crossDone
  simp only [Bool.and_eq_true, decide_eq_true_eq]
  split
  · next h => exact .inr ⟨h.1, h.2, rfl, rfl⟩
  · next h => exact .inl ⟨rfl, h⟩

/-- R70, R71: the end of a cross phase leaves the arbiter ENDING, or on a sluice that is SHUT then IDLE, without a record. -/
theorem State.closeCross_cases (s : State) (cause : CrossEnd) :
    s.closeCross cause = s.endCross cause ∧ (s.endCross cause).sluiceShut .cross = false
      ∨ (s.endCross cause).sluiceShut .cross = true
        ∧ (s.closeCross cause).arbiter.owner = .idle ∧ (s.closeCross cause).arbiter.record = none := by
  rcases (s.endCross cause).crossDone_cases with ⟨e, h⟩ | ⟨_, h, r⟩
  · exact .inl ⟨e, by simpa [State.endCross] using h⟩
  · exact .inr ⟨h, r⟩

/-! ## The report poll closed -/

@[simp] theorem State.pollClosed_gate (s : State) (k : Chamber) (e : Side) : s.pollClosed.gate k e = s.gate k e := rfl

@[simp] theorem State.pollClosed_sluice (s : State) (q : Sluice) : s.pollClosed.sluice q = s.sluice q := rfl

@[simp] theorem State.pollClosed_polls (s : State) : s.pollClosed.drive.polls = s.drive.polls.tail := rfl

@[simp] theorem State.pollClosed_sent (s : State) : s.pollClosed.drive.sent = s.drive.sent := rfl

@[simp] theorem State.pollClosed_levels (s : State) : s.pollClosed.levels = s.levels := rfl

@[simp] theorem State.pollClosed_chamber (s : State) (k : Chamber) : s.pollClosed.chamber k = s.chamber k := rfl

@[simp] theorem State.pollClosed_batch (s : State) (k : Chamber) : s.pollClosed.batch k = s.batch k := rfl

@[simp] theorem State.pollClosed_journal (s : State) : s.pollClosed.journal = s.journal := rfl

end Sys2Proof.Machine
end

