-- ==== Sys2Proof/WellFormed.lean ====
section
/-! DEFINITION. Which commands the part's connections can carry: the widths of the arguments of a request (R177) and the shapes
of the plant's messages. The machine itself is total: it has a meaning for the others too. -/

namespace Sys2Proof

/-- A quantity carried in 2 bytes. -/
def halfWide (n : Nat) : Bool := decide (n < 65536)

/-- A quantity carried in 4 bytes. -/
def wordWide (n : Nat) : Bool := decide (n < 4294967296)

/-- A value carried in 1 byte. -/
def byteWide (n : Nat) : Bool := decide (n < 256)

/-- A sluice's step, 0 to 8. -/
def stepInRange (n : Nat) : Bool := decide (n ≤ 8)

/-- R78, R177: the arguments of ADD VESSEL as their fields carry them. -/
def VesselArgs.wellFormed (v : VesselArgs) : Bool :=
  decide (v.mark.length = 8) && halfWide v.operator && halfWide v.length && halfWide v.beam && halfWide v.draught
    && halfWide v.deadweight && byteWide v.exempt && wordWide v.ceiling

/-- R84, R177: the arguments of SEEK as their fields carry them: eight characters and a flag for each. -/
def SeekArgs.wellFormed (q : SeekArgs) : Bool :=
  decide (q.key.length = 8) && decide (q.care.length = 8) && halfWide q.operator

/-- R27: an answer that a drive of this kind can give. -/
def StatusAnswer.fits (a : Actuator) (x : StatusAnswer) : Bool :=
  match a, x with
  | .gate _ _, .closed => true
  | .gate _ _, .opened => true
  | .gate _ _, .intermediate => true
  | .gate _ _, .movingOpen => true
  | .gate _ _, .movingClosed => true
  | .gate _ _, .fault step => step.isNone
  | .sluice _, .atRest n => stepInRange n
  | .sluice _, .moving t n => stepInRange t && stepInRange n
  | .sluice _, .fault (some n) => stepInRange n
  | .sluice _, .fault none => true
  | _, _ => false

/-- A counted list of order numbers fits a CONFIRM IN: 2 bytes each, after the code, the chamber and the count, in at most 250
bytes (R177). -/
def numbersFit (l : List Nat) : Bool := l.all halfWide && decide (l.length ≤ 123)

/-- The commands that the part's connections can carry. -/
def Instr.wellFormed : Instr → Bool
  | .sluiceReport _ step => stepInRange step
  | .statusAnswer a x => x.fits a
  | .sluice _ _ _ step => byteWide step
  | .confirmIn _ _ (some l) => numbersFit l
  | .addVessel _ v => v.wellFormed
  | .deleteVessel _ slot => halfWide slot
  | .seek _ q => q.wellFormed
  | .hold _ slot => halfWide slot
  | .release _ slot => halfWide slot
  | .settle _ slot amount => halfWide slot && wordWide amount
  | .enterOrder _ slot _ _ _ => halfWide slot
  | .cancelOrder _ n => halfWide n
  | .readBook _ _ pos => halfWide pos
  | .setClock _ day second => halfWide day && wordWide second
  | .subscribe _ (some w) => halfWide w
  | .requestFrame _ bytes => decide (4 ≤ bytes.length) && decide (bytes.length ≤ 253)
  | .setNoticeMask _ l => decide l.Nodup
  | .setWindow _ c i _ a b => byteWide c && halfWide i && halfWide a && halfWide b
  | .readNext _ (some n) => halfWide n
  | .writeNext _ (some n) data => halfWide n && decide (data.length ≤ 247)
  | .writeNext _ none data => decide (data.length ≤ 249)
  | .readAt _ c i a b => byteWide c && halfWide i && halfWide a && halfWide b
  | .writeAt _ c i a b data =>
    byteWide c && halfWide i && halfWide a && halfWide b && decide (data.length ≤ 242)
  | .powerOnReset _ => true
  | .restart _ => true
  | .restartEvent _ => true
  | .roundStart => true
  | .roundTimerExpiry _ => true
  | .gaugeReply _ _ _ _ => true
  | .noReply => true
  | .gaugeStrayBytes _ => true
  | .holdTimerExpiry _ => true
  | .settleExpiry _ => true
  | .trailTimerExpiry => true
  | .forceFast _ _ => true
  | .readLevels _ => true
  | .drivePollCycle => true
  | .gateReport _ _ _ => true
  | .driveAnswerTimeout => true
  | .orderEcho _ => true
  | .echoTimeout _ => true
  | .driveStrayBytes _ => true
  | .statusTimeout _ => true
  | .gateMovementTimeout _ _ => true
  | .sluiceMovementTimeout _ => true
  | .rampIntervalExpiry _ => true
  | .serviceOn _ _ => true
  | .serviceOff _ _ => true
  | .setMode _ _ _ => true
  | .fillSlow _ => true
  | .equaliseTimeout _ => true
  | .entryOverdue _ => true
  | .clearOut _ => true
  | .leaveOverdue _ => true
  | .confirmIn _ _ none => true
  | .confirmClear _ _ => true
  | .halt _ _ => true
  | .resume _ _ => true
  | .abandonBatch _ _ => true
  | .bind _ _ _ => true
  | .gateOpen _ _ _ => true
  | .gateClose _ _ _ => true
  | .gateStop _ _ _ => true
  | .fill _ _ _ => true
  | .empty _ _ _ => true
  | .readChamber _ _ => true
  | .wishExpiry _ => true
  | .crossSlow => true
  | .seekNext _ => true
  | .readBatch _ _ => true
  | .formationTimerExpiry => true
  | .flashPhaseChange _ => true
  | .provingInput _ _ => true
  | .lampFailed _ => true
  | .lampTest _ _ => true
  | .lampTestEnd _ => true
  | .swapTariff _ => true
  | .siteClockTick => true
  | .subscribe _ none => true
  | .unsubscribe _ _ => true
  | .readJournal _ => true
  | .readJournalStatus _ => true
  | .readTallies _ _ => true
  | .readSiteAccount _ => true
  | .settleSite _ => true
  | .badFrame _ _ => true
  | .frameGapTimeout _ => true
  | .strayLinkByte _ _ _ => true
  | .replySent _ => true
  | .linkLost _ => true
  | .claim _ _ => true
  | .releaseConduct _ _ => true
  | .readNotices _ => true
  | .setAttentionMode _ _ => true
  | .attentionPulseEnd _ => true
  | .readFault _ => true
  | .clearFault _ => true
  | .readNext _ none => true
  | .storeSettings _ => true
  | .storeReadbackEnd _ => true
  | .noneAnswer => true

end Sys2Proof
end

