-- ==== Sys2Proof/Laws/PerInstr.lean ====
section
/-! SUPPORT. One statement about every command as syntax: what a well-formed request carries fits one frame (R177). -/

namespace Sys2Proof

/-- R177: the bytes of a request's arguments, each field at its width, a counted list with its count; a message that is no request
carries none. A frame given as bytes holds a length, a code and a CRC beside them. -/
def Instr.argBytes : Instr → Nat
  | .powerOnReset _ => 0
  | .restart _ => 0
  | .restartEvent _ => 0
  | .roundStart => 0
  | .roundTimerExpiry _ => 0
  | .gaugeReply _ _ _ _ => 0
  | .noReply => 0
  | .gaugeStrayBytes _ => 0
  | .holdTimerExpiry _ => 0
  | .settleExpiry _ => 0
  | .trailTimerExpiry => 0
  | .forceFast _ _ => 1
  | .readLevels _ => 0
  | .drivePollCycle => 0
  | .gateReport _ _ _ => 0
  | .sluiceReport _ _ => 0
  | .driveAnswerTimeout => 0
  | .orderEcho _ => 0
  | .echoTimeout _ => 0
  | .driveStrayBytes _ => 0
  | .statusAnswer _ _ => 0
  | .statusTimeout _ => 0
  | .gateMovementTimeout _ _ => 0
  | .sluiceMovementTimeout _ => 0
  | .rampIntervalExpiry _ => 0
  | .serviceOn _ _ => 2
  | .serviceOff _ _ => 2
  | .setMode _ _ _ => 2
  | .fillSlow _ => 0
  | .equaliseTimeout _ => 0
  | .entryOverdue _ => 0
  | .clearOut _ => 0
  | .leaveOverdue _ => 0
  | .confirmIn _ _ none => 1
  | .confirmIn _ _ (some l) => 2 + 2 * l.length
  | .confirmClear _ _ => 1
  | .halt _ _ => 1
  | .resume _ _ => 1
  | .abandonBatch _ _ => 1
  | .bind _ _ _ => 2
  | .gateOpen _ _ _ => 3
  | .gateClose _ _ _ => 3
  | .gateStop _ _ _ => 3
  | .fill _ _ _ => 2
  | .empty _ _ _ => 2
  | .sluice _ _ _ _ => 3
  | .readChamber _ _ => 1
  | .wishExpiry _ => 0
  | .crossSlow => 0
  | .addVessel _ _ => 23
  | .deleteVessel _ _ => 2
  | .seek _ _ => 14
  | .seekNext _ => 0
  | .hold _ _ => 2
  | .release _ _ => 2
  | .settle _ _ _ => 6
  | .enterOrder _ _ _ _ _ => 5
  | .cancelOrder _ _ => 2
  | .readBook _ _ _ => 3
  | .readBatch _ _ => 1
  | .formationTimerExpiry => 0
  | .flashPhaseChange _ => 0
  | .provingInput _ _ => 0
  | .lampFailed _ => 0
  | .lampTest _ _ => 1
  | .lampTestEnd _ => 0
  | .swapTariff _ => 0
  | .setClock _ _ _ => 6
  | .siteClockTick => 0
  | .subscribe _ none => 0
  | .subscribe _ (some _) => 2
  | .unsubscribe _ _ => 1
  | .readJournal _ => 0
  | .readJournalStatus _ => 0
  | .readTallies _ _ => 1
  | .readSiteAccount _ => 0
  | .settleSite _ => 0
  | .requestFrame _ bytes => bytes.length - 4
  | .badFrame _ _ => 0
  | .frameGapTimeout _ => 0
  | .strayLinkByte _ _ _ => 0
  | .replySent _ => 0
  | .linkLost _ => 0
  | .claim _ _ => 1
  | .releaseConduct _ _ => 1
  | .readNotices _ => 0
  | .setNoticeMask _ _ => 2
  | .setAttentionMode _ _ => 1
  | .attentionPulseEnd _ => 0
  | .readFault _ => 0
  | .clearFault _ => 0
  | .setWindow _ _ _ _ _ _ => 8
  | .readNext _ none => 0
  | .readNext _ (some _) => 2
  | .writeNext _ none data => data.length
  | .writeNext _ (some _) data => 2 + data.length
  | .readAt _ _ _ _ _ => 7
  | .writeAt _ _ _ _ _ data => 7 + data.length
  | .storeSettings _ => 0
  | .storeReadbackEnd _ => 0
  | .noneAnswer => 0

namespace Laws.ArgumentsFitAFrame

/-- R177: the length byte of a frame counts its code and its arguments, and is at most 250. -/
def Statement (i : Instr) : Prop := i.wellFormed = true → i.argBytes ≤ 249

theorem powerOnReset (straps : PerStation Straps) : Statement (.powerOnReset straps) := fun _ => Nat.le_of_ble_eq_true rfl

theorem restart (st : Station) : Statement (.restart st) := fun _ => Nat.le_of_ble_eq_true rfl

theorem restartEvent (straps : PerStation Straps) : Statement (.restartEvent straps) := fun _ => Nat.le_of_ble_eq_true rfl

theorem roundStart : Statement (.roundStart) := fun _ => Nat.le_of_ble_eq_true rfl

theorem roundTimerExpiry (b : Body) : Statement (.roundTimerExpiry b) := fun _ => Nat.le_of_ble_eq_true rfl

theorem gaugeReply (b1 : Byte) (b2 : Byte) (b3 : Byte) (b4 : Byte) : Statement (.gaugeReply b1 b2 b3 b4) := fun _ => Nat.le_of_ble_eq_true rfl

theorem noReply : Statement (.noReply) := fun _ => Nat.le_of_ble_eq_true rfl

theorem gaugeStrayBytes (bytes : List Byte) : Statement (.gaugeStrayBytes bytes) := fun _ => Nat.le_of_ble_eq_true rfl

theorem holdTimerExpiry (b : Body) : Statement (.holdTimerExpiry b) := fun _ => Nat.le_of_ble_eq_true rfl

theorem settleExpiry (p : Pair) : Statement (.settleExpiry p) := fun _ => Nat.le_of_ble_eq_true rfl

theorem trailTimerExpiry : Statement (.trailTimerExpiry) := fun _ => Nat.le_of_ble_eq_true rfl

theorem forceFast (st : Station) (on : Bool) : Statement (.forceFast st on) := fun _ => Nat.le_of_ble_eq_true rfl

theorem readLevels (st : Station) : Statement (.readLevels st) := fun _ => Nat.le_of_ble_eq_true rfl

theorem drivePollCycle : Statement (.drivePollCycle) := fun _ => Nat.le_of_ble_eq_true rfl

theorem gateReport (k : Chamber) (e : Side) (r : GateReport) : Statement (.gateReport k e r) := fun _ => Nat.le_of_ble_eq_true rfl

theorem sluiceReport (q : Sluice) (step : Nat) : Statement (.sluiceReport q step) := fun _ => Nat.le_of_ble_eq_true rfl

theorem driveAnswerTimeout : Statement (.driveAnswerTimeout) := fun _ => Nat.le_of_ble_eq_true rfl

theorem orderEcho (a : Actuator) : Statement (.orderEcho a) := fun _ => Nat.le_of_ble_eq_true rfl

theorem echoTimeout (a : Actuator) : Statement (.echoTimeout a) := fun _ => Nat.le_of_ble_eq_true rfl

theorem driveStrayBytes (bytes : List Byte) : Statement (.driveStrayBytes bytes) := fun _ => Nat.le_of_ble_eq_true rfl

theorem statusAnswer (a : Actuator) (ans : StatusAnswer) : Statement (.statusAnswer a ans) := fun _ => Nat.le_of_ble_eq_true rfl

theorem statusTimeout (a : Actuator) : Statement (.statusTimeout a) := fun _ => Nat.le_of_ble_eq_true rfl

theorem gateMovementTimeout (k : Chamber) (e : Side) : Statement (.gateMovementTimeout k e) := fun _ => Nat.le_of_ble_eq_true rfl

theorem sluiceMovementTimeout (q : Sluice) : Statement (.sluiceMovementTimeout q) := fun _ => Nat.le_of_ble_eq_true rfl

theorem rampIntervalExpiry (q : Sluice) : Statement (.rampIntervalExpiry q) := fun _ => Nat.le_of_ble_eq_true rfl

theorem serviceOn (st : Station) (k : Chamber) : Statement (.serviceOn st k) := fun _ => Nat.le_of_ble_eq_true rfl

theorem serviceOff (st : Station) (k : Chamber) : Statement (.serviceOff st k) := fun _ => Nat.le_of_ble_eq_true rfl

theorem setMode (st : Station) (k : Chamber) (m : Mode) : Statement (.setMode st k m) := fun _ => Nat.le_of_ble_eq_true rfl

theorem fillSlow (k : Chamber) : Statement (.fillSlow k) := fun _ => Nat.le_of_ble_eq_true rfl

theorem equaliseTimeout (k : Chamber) : Statement (.equaliseTimeout k) := fun _ => Nat.le_of_ble_eq_true rfl

theorem entryOverdue (k : Chamber) : Statement (.entryOverdue k) := fun _ => Nat.le_of_ble_eq_true rfl

theorem clearOut (k : Chamber) : Statement (.clearOut k) := fun _ => Nat.le_of_ble_eq_true rfl

theorem leaveOverdue (k : Chamber) : Statement (.leaveOverdue k) := fun _ => Nat.le_of_ble_eq_true rfl

theorem confirmIn (st : Station) (k : Chamber) (present : Option (List Nat)) : Statement (.confirmIn st k present) := by
  cases present <;> simp [Statement, Instr.wellFormed, Instr.argBytes, numbersFit]
  intro _ h
  omega

theorem confirmClear (st : Station) (k : Chamber) : Statement (.confirmClear st k) := fun _ => Nat.le_of_ble_eq_true rfl

theorem halt (st : Station) (k : Chamber) : Statement (.halt st k) := fun _ => Nat.le_of_ble_eq_true rfl

theorem resume (st : Station) (k : Chamber) : Statement (.resume st k) := fun _ => Nat.le_of_ble_eq_true rfl

theorem abandonBatch (st : Station) (k : Chamber) : Statement (.abandonBatch st k) := fun _ => Nat.le_of_ble_eq_true rfl

theorem bind (st : Station) (k : Chamber) (d : Direction) : Statement (.bind st k d) := fun _ => Nat.le_of_ble_eq_true rfl

theorem gateOpen (st : Station) (k : Chamber) (e : Side) : Statement (.gateOpen st k e) := fun _ => Nat.le_of_ble_eq_true rfl

theorem gateClose (st : Station) (k : Chamber) (e : Side) : Statement (.gateClose st k e) := fun _ => Nat.le_of_ble_eq_true rfl

theorem gateStop (st : Station) (k : Chamber) (e : Side) : Statement (.gateStop st k e) := fun _ => Nat.le_of_ble_eq_true rfl

theorem fill (st : Station) (k : Chamber) (cross : Bool) : Statement (.fill st k cross) := fun _ => Nat.le_of_ble_eq_true rfl

theorem empty (st : Station) (k : Chamber) (cross : Bool) : Statement (.empty st k cross) := fun _ => Nat.le_of_ble_eq_true rfl

theorem sluice (st : Station) (k : Chamber) (which : SluiceChoice) (step : Nat) : Statement (.sluice st k which step) := fun _ => Nat.le_of_ble_eq_true rfl

theorem readChamber (st : Station) (k : Chamber) : Statement (.readChamber st k) := fun _ => Nat.le_of_ble_eq_true rfl

theorem wishExpiry (k : Chamber) : Statement (.wishExpiry k) := fun _ => Nat.le_of_ble_eq_true rfl

theorem crossSlow : Statement (.crossSlow) := fun _ => Nat.le_of_ble_eq_true rfl

theorem addVessel (st : Station) (v : VesselArgs) : Statement (.addVessel st v) := fun _ => Nat.le_of_ble_eq_true rfl

theorem deleteVessel (st : Station) (slot : Nat) : Statement (.deleteVessel st slot) := fun _ => Nat.le_of_ble_eq_true rfl

theorem seek (st : Station) (q : SeekArgs) : Statement (.seek st q) := fun _ => Nat.le_of_ble_eq_true rfl

theorem seekNext (st : Station) : Statement (.seekNext st) := fun _ => Nat.le_of_ble_eq_true rfl

theorem hold (st : Station) (slot : Nat) : Statement (.hold st slot) := fun _ => Nat.le_of_ble_eq_true rfl

theorem release (st : Station) (slot : Nat) : Statement (.release st slot) := fun _ => Nat.le_of_ble_eq_true rfl

theorem settle (st : Station) (slot : Nat) (amount : Nat) : Statement (.settle st slot amount) := fun _ => Nat.le_of_ble_eq_true rfl

theorem enterOrder (st : Station) (slot : Nat) (d : Direction) (laden : Bool) (cls : OrderClass) : Statement (.enterOrder st slot d laden cls) := fun _ => Nat.le_of_ble_eq_true rfl

theorem cancelOrder (st : Station) (n : Nat) : Statement (.cancelOrder st n) := fun _ => Nat.le_of_ble_eq_true rfl

theorem readBook (st : Station) (d : Direction) (pos : Nat) : Statement (.readBook st d pos) := fun _ => Nat.le_of_ble_eq_true rfl

theorem readBatch (st : Station) (k : Chamber) : Statement (.readBatch st k) := fun _ => Nat.le_of_ble_eq_true rfl

theorem formationTimerExpiry : Statement (.formationTimerExpiry) := fun _ => Nat.le_of_ble_eq_true rfl

theorem flashPhaseChange (g : Generator) : Statement (.flashPhaseChange g) := fun _ => Nat.le_of_ble_eq_true rfl

theorem provingInput (l : LampId) (current : Bool) : Statement (.provingInput l current) := fun _ => Nat.le_of_ble_eq_true rfl

theorem lampFailed (l : LampId) : Statement (.lampFailed l) := fun _ => Nat.le_of_ble_eq_true rfl

theorem lampTest (st : Station) (k : Chamber) : Statement (.lampTest st k) := fun _ => Nat.le_of_ble_eq_true rfl

theorem lampTestEnd (k : Chamber) : Statement (.lampTestEnd k) := fun _ => Nat.le_of_ble_eq_true rfl

theorem swapTariff (st : Station) : Statement (.swapTariff st) := fun _ => Nat.le_of_ble_eq_true rfl

theorem setClock (st : Station) (day : Nat) (second : Nat) : Statement (.setClock st day second) := fun _ => Nat.le_of_ble_eq_true rfl

theorem siteClockTick : Statement (.siteClockTick) := fun _ => Nat.le_of_ble_eq_true rfl

theorem subscribe (st : Station) (watermark : Option Nat) : Statement (.subscribe st watermark) := by cases watermark <;> simp [Statement, Instr.argBytes]

theorem unsubscribe (st : Station) (who : Station) : Statement (.unsubscribe st who) := fun _ => Nat.le_of_ble_eq_true rfl

theorem readJournal (st : Station) : Statement (.readJournal st) := fun _ => Nat.le_of_ble_eq_true rfl

theorem readJournalStatus (st : Station) : Statement (.readJournalStatus st) := fun _ => Nat.le_of_ble_eq_true rfl

theorem readTallies (st : Station) (clear : Bool) : Statement (.readTallies st clear) := fun _ => Nat.le_of_ble_eq_true rfl

theorem readSiteAccount (st : Station) : Statement (.readSiteAccount st) := fun _ => Nat.le_of_ble_eq_true rfl

theorem settleSite (st : Station) : Statement (.settleSite st) := fun _ => Nat.le_of_ble_eq_true rfl

theorem requestFrame (st : Station) (bytes : List Byte) : Statement (.requestFrame st bytes) := by
  simp [Statement, Instr.wellFormed, Instr.argBytes]

theorem badFrame (st : Station) (cause : BadCause) : Statement (.badFrame st cause) := fun _ => Nat.le_of_ble_eq_true rfl

theorem frameGapTimeout (st : Station) : Statement (.frameGapTimeout st) := fun _ => Nat.le_of_ble_eq_true rfl

theorem strayLinkByte (st : Station) (byte : Byte) (framingError : Bool) : Statement (.strayLinkByte st byte framingError) := fun _ => Nat.le_of_ble_eq_true rfl

theorem replySent (st : Station) : Statement (.replySent st) := fun _ => Nat.le_of_ble_eq_true rfl

theorem linkLost (st : Station) : Statement (.linkLost st) := fun _ => Nat.le_of_ble_eq_true rfl

theorem claim (st : Station) (k : Chamber) : Statement (.claim st k) := fun _ => Nat.le_of_ble_eq_true rfl

theorem releaseConduct (st : Station) (k : Chamber) : Statement (.releaseConduct st k) := fun _ => Nat.le_of_ble_eq_true rfl

theorem readNotices (st : Station) : Statement (.readNotices st) := fun _ => Nat.le_of_ble_eq_true rfl

theorem setNoticeMask (st : Station) (enabled : List NoticeKind) : Statement (.setNoticeMask st enabled) := fun _ => Nat.le_of_ble_eq_true rfl

theorem setAttentionMode (st : Station) (m : AttentionMode) : Statement (.setAttentionMode st m) := fun _ => Nat.le_of_ble_eq_true rfl

theorem attentionPulseEnd (st : Station) : Statement (.attentionPulseEnd st) := fun _ => Nat.le_of_ble_eq_true rfl

theorem readFault (st : Station) : Statement (.readFault st) := fun _ => Nat.le_of_ble_eq_true rfl

theorem clearFault (st : Station) : Statement (.clearFault st) := fun _ => Nat.le_of_ble_eq_true rfl

theorem setWindow (st : Station) (collection : Nat) (cursor : Nat) (move : WindowStep) (first : Nat) (last : Nat) : Statement (.setWindow st collection cursor move first last) := fun _ => Nat.le_of_ble_eq_true rfl

theorem readNext (st : Station) (count : Option Nat) : Statement (.readNext st count) := by cases count <;> simp [Statement, Instr.argBytes]

theorem writeNext (st : Station) (count : Option Nat) (data : List Byte) : Statement (.writeNext st count data) := by
  cases count <;> simp [Statement, Instr.wellFormed, Instr.argBytes]
  intro _ h
  omega

theorem readAt (st : Station) (collection : Nat) (index : Nat) (first : Nat) (last : Nat) : Statement (.readAt st collection index first last) := fun _ => Nat.le_of_ble_eq_true rfl

theorem writeAt (st : Station) (collection : Nat) (index : Nat) (first : Nat) (last : Nat) (data : List Byte) : Statement (.writeAt st collection index first last data) := by
  simp [Statement, Instr.wellFormed, Instr.argBytes]
  intros
  omega

theorem storeSettings (st : Station) : Statement (.storeSettings st) := fun _ => Nat.le_of_ble_eq_true rfl

theorem storeReadbackEnd (matched : Bool) : Statement (.storeReadbackEnd matched) := fun _ => Nat.le_of_ble_eq_true rfl

theorem noneAnswer : Statement (.noneAnswer) := fun _ => Nat.le_of_ble_eq_true rfl

end Laws.ArgumentsFitAFrame

end Sys2Proof
end

