-- ==== Sys2Proof/Tests/Slice0.lean ====
section
/-! SUPPORT. The tests: the well-formedness smoke test, small tests of the commands with results worked from the manual's examples
and tables, and for each statement with hypotheses a state and operands that meet them. -/

namespace Sys2Proof.Tests

open Sys2Proof.Machine

-- One theorem at a time: the kernel evaluates each test, and the queue of the others would only hold memory.
set_option Elab.async false

/-! ## Well-formedness: each check refuses an ill-formed command -/

theorem test_wf_sluiceReport_step : Instr.wellFormed (.sluiceReport .cross 9) = false := by decide
theorem test_wf_statusAnswer_kind : Instr.wellFormed (.statusAnswer (.gate .c1 .upper) (.atRest 0)) = false := by decide
theorem test_wf_statusAnswer_step : Instr.wellFormed (.statusAnswer (.sluice .cross) (.moving 8 9)) = false := by decide
theorem test_wf_statusAnswer_target : Instr.wellFormed (.statusAnswer (.sluice .cross) (.moving 9 8)) = false := by decide
theorem test_wf_statusAnswer_rest : Instr.wellFormed (.statusAnswer (.sluice .cross) (.atRest 9)) = false := by decide
theorem test_wf_statusAnswer_fault : Instr.wellFormed (.statusAnswer (.sluice .cross) (.fault (some 9))) = false := by decide
theorem test_wf_statusAnswer_gateFault :
    Instr.wellFormed (.statusAnswer (.gate .c1 .upper) (.fault (some 1))) = false := by decide
theorem test_wf_sluice_step : Instr.wellFormed (.sluice .uc .c1 .upper 256) = false := by decide
theorem test_wf_confirmIn_number : Instr.wellFormed (.confirmIn .uc .c1 (some [65536])) = false := by decide
theorem test_wf_confirmIn_count : Instr.wellFormed (.confirmIn .uc .c1 (some (List.replicate 124 1))) = false := by decide +kernel
theorem test_wf_addVessel_mark : Instr.wellFormed (.addVessel .uc ⟨[0x41], 0, 50, 20, 30, 0, 0, 0⟩) = false := by decide
theorem test_wf_addVessel_operator :
    Instr.wellFormed (.addVessel .uc ⟨blankMark, 65536, 50, 20, 30, 0, 0, 0⟩) = false := by decide
theorem test_wf_addVessel_length :
    Instr.wellFormed (.addVessel .uc ⟨blankMark, 0, 65536, 20, 30, 0, 0, 0⟩) = false := by decide
theorem test_wf_addVessel_beam : Instr.wellFormed (.addVessel .uc ⟨blankMark, 0, 50, 65536, 30, 0, 0, 0⟩) = false := by decide
theorem test_wf_addVessel_draught : Instr.wellFormed (.addVessel .uc ⟨blankMark, 0, 50, 20, 65536, 0, 0, 0⟩) = false := by decide
theorem test_wf_addVessel_deadweight :
    Instr.wellFormed (.addVessel .uc ⟨blankMark, 0, 50, 20, 30, 65536, 0, 0⟩) = false := by decide
theorem test_wf_addVessel_exempt : Instr.wellFormed (.addVessel .uc ⟨blankMark, 0, 50, 20, 30, 0, 256, 0⟩) = false := by decide
theorem test_wf_addVessel_ceiling :
    Instr.wellFormed (.addVessel .uc ⟨blankMark, 0, 50, 20, 30, 0, 0, 4294967296⟩) = false := by decide
theorem test_wf_deleteVessel : Instr.wellFormed (.deleteVessel .uc 65536) = false := by decide
theorem test_wf_seek_key :
    Instr.wellFormed (.seek .uc ⟨[], List.replicate 8 false, 0, false, false⟩) = false := by decide
theorem test_wf_seek_care : Instr.wellFormed (.seek .uc ⟨blankMark, [], 0, false, false⟩) = false := by decide
theorem test_wf_seek_operator :
    Instr.wellFormed (.seek .uc ⟨blankMark, List.replicate 8 false, 65536, false, false⟩) = false := by decide
theorem test_wf_hold : Instr.wellFormed (.hold .uc 65536) = false := by decide
theorem test_wf_release : Instr.wellFormed (.release .uc 65536) = false := by decide
theorem test_wf_settle_slot : Instr.wellFormed (.settle .tc 65536 0) = false := by decide
theorem test_wf_settle_amount : Instr.wellFormed (.settle .tc 0 4294967296) = false := by decide
theorem test_wf_enterOrder : Instr.wellFormed (.enterOrder .uc 65536 .up true .normal) = false := by decide
theorem test_wf_cancelOrder : Instr.wellFormed (.cancelOrder .uc 65536) = false := by decide
theorem test_wf_readBook : Instr.wellFormed (.readBook .uc .up 65536) = false := by decide
theorem test_wf_setClock_day : Instr.wellFormed (.setClock .tc 65536 0) = false := by decide
theorem test_wf_setClock_second : Instr.wellFormed (.setClock .tc 0 4294967296) = false := by decide
theorem test_wf_subscribe : Instr.wellFormed (.subscribe .uc (some 65536)) = false := by decide
theorem test_wf_requestFrame_short : Instr.wellFormed (.requestFrame .uc [0, 0, 0]) = false := by decide
theorem test_wf_requestFrame_long : Instr.wellFormed (.requestFrame .uc (List.replicate 254 0)) = false := by decide +kernel
theorem test_wf_setNoticeMask : Instr.wellFormed (.setNoticeMask .uc [.fault, .fault]) = false := by decide
theorem test_wf_setWindow_collection : Instr.wellFormed (.setWindow .uc 256 0 .up 1 1) = false := by decide
theorem test_wf_setWindow_cursor : Instr.wellFormed (.setWindow .uc 0 65536 .up 1 1) = false := by decide
theorem test_wf_setWindow_first : Instr.wellFormed (.setWindow .uc 0 0 .up 65536 1) = false := by decide
theorem test_wf_setWindow_last : Instr.wellFormed (.setWindow .uc 0 0 .up 1 65536) = false := by decide
theorem test_wf_readNext : Instr.wellFormed (.readNext .uc (some 65536)) = false := by decide
theorem test_wf_writeNext_count : Instr.wellFormed (.writeNext .uc (some 65536) []) = false := by decide
theorem test_wf_writeNext_data : Instr.wellFormed (.writeNext .uc (some 1) (List.replicate 248 0)) = false := by decide +kernel
theorem test_wf_writeNext_all : Instr.wellFormed (.writeNext .uc none (List.replicate 250 0)) = false := by decide +kernel
theorem test_wf_readAt_collection : Instr.wellFormed (.readAt .uc 256 0 1 1) = false := by decide
theorem test_wf_readAt_index : Instr.wellFormed (.readAt .uc 0 65536 1 1) = false := by decide
theorem test_wf_readAt_first : Instr.wellFormed (.readAt .uc 0 0 65536 1) = false := by decide
theorem test_wf_readAt_last : Instr.wellFormed (.readAt .uc 0 0 1 65536) = false := by decide
theorem test_wf_writeAt_collection : Instr.wellFormed (.writeAt .tc 256 0 1 1 []) = false := by decide
theorem test_wf_writeAt_index : Instr.wellFormed (.writeAt .tc 0 65536 1 1 []) = false := by decide
theorem test_wf_writeAt_first : Instr.wellFormed (.writeAt .tc 0 0 65536 1 []) = false := by decide
theorem test_wf_writeAt_last : Instr.wellFormed (.writeAt .tc 0 0 1 65536 []) = false := by decide
theorem test_wf_writeAt_data : Instr.wellFormed (.writeAt .tc 0 0 1 1 (List.replicate 243 0)) = false := by decide +kernel

/-! ## Small states -/

/-- The state a command leaves. -/
def after (c : Instr) (s : State) : State :=
  match exec c s with
  | .next t => t
  | _ => s

/-- What a station's port has answered last. -/
def answer (st : Station) (s : State) : List (ReplyOutcome × List WireField) :=
  (s.station st).tx.map (fun r => (r.outcome, r.results))

/-- A body with a good level, handed on. -/
def goodBody (h : Nat) : BodyRec :=
  { level := some h, state := .good, handedLevel := some h, handedState := .good, lastRound := some 99000 }

def gateAt (x : GateState) : Gate := { state := x }

def shutSluice : SluiceRec := { state := .shut, step := some 0 }

/-- The plant at rest, every drive answered: UP at 1,706, LP and C1 at 1,018, C2 at 1,705; TC conducts chamber 1, UC chamber 2. -/
def plant : State :=
  { State.reset with
    now := 100000
    levels :=
      { bodies := ⟨goodBody 1706, goodBody 1018, goodBody 1018, goodBody 1705⟩
        queue := []
        pairs := ⟨⟨.notEqual, .equalised⟩, ⟨.equalised, .notEqual⟩⟩ }
    drive :=
      { gates := ⟨⟨gateAt .closed, gateAt .closed⟩, ⟨gateAt .closed, gateAt .closed⟩⟩
        sluices := ⟨⟨shutSluice, shutSluice⟩, ⟨shutSluice, shutSluice⟩⟩
        crossSluice := shutSluice }
    conduct := ⟨some .tc, some .uc⟩
    stations :=
      ⟨{ link := .present, silence := some 105000 }, { link := .lost }, { link := .present, silence := some 104000 }⟩ }

/-- A state with chamber 1's sequencer replaced. -/
def with1 (s : State) (c : Sequencer) : State := s.setChamber .c1 c

/-- A state with the lower gate of chamber 1 replaced. -/
def withGate (s : State) (g : Gate) : State := s.putGate .c1 .lower g

/-- A state with the upper sluice of chamber 1 replaced. -/
def withSluice (s : State) (q : SluiceRec) : State := s.putSluice (.chamber .c1 .upper) q

/-- A state with the report poll of one drive outstanding. -/
def asked (a : Actuator) (s : State) : State := { s with drive.polls := [a] }

/-- "KORVA " and two more characters. -/
def korva (a b : Byte) : List Byte := [75, 79, 82, 86, 65, 32, a, b]

def tessel : List Byte := [84, 69, 83, 83, 69, 76, 32, 52]

def ship (m : List Byte) (op len beam draught weight : Nat) (order : Option Nat) : Vessel :=
  { state := .active, mark := m, operator := op, length := len, beam := beam, draught := draught
    deadweight := weight, order := order }

def waiting (n slot : Nat) (passOver : Nat := 0) : Order :=
  ⟨n, slot, .up, true, .normal, .uc, n, none, 50000, .waiting, passOver⟩

/-- The register and the UP list of the manual's formation example: orders 301 to 308 of the vessels in slots 1 to 8. -/
def harbour : State :=
  let s := { plant with
    book :=
      { lists :=
          ⟨[waiting 301 1, waiting 302 2 1, waiting 303 3, waiting 304 4, waiting 305 5, waiting 306 6,
            { waiting 307 7 with state := .blocked .held }, waiting 308 8], []⟩
        nextOrder := 309
        nextBatch := 52
        entrySequence := 308
        timer := some 102000 } }
  let s := (s.setVessel 1 (ship (korva 49 50) 4410 800 114 300 2400 (some 301))).setVessel 2
    (ship (korva 49 51) 4410 1150 100 200 100 (some 302))
  let s := (s.setVessel 3 (ship (korva 49 52) 4410 500 60 360 100 (some 303))).setVessel 4
    (ship (korva 49 53) 4410 850 57 250 1350 (some 304))
  let s := (s.setVessel 5 { ship (korva 49 54) 4410 380 51 180 410 (some 305) with exempt := true }).setVessel 6
    (ship (korva 49 55) 4410 600 60 220 100 (some 306))
  (s.setVessel 7 { ship (korva 49 56) 4410 400 40 150 100 (some 307) with state := .held .station }).setVessel 8
    (ship (korva 49 57) 4410 150 60 120 100 (some 308))

/-- The tariff copy of the manual's dues example. -/
def tariff52 : Tariff :=
  { base := ⟨0, 4500, 0, 18000, 0, 0⟩, tonRate := 12, unladenPct := 40, waterRate := 35, nightPct := 25, priorityPct := 50
    nightStart := 1320, nightEnd := 360 }

/-- Batch 52 as bound, of the vessels of orders 301, 304, 305 and 308. -/
def batch52 (x : BatchState) : Batch :=
  { number := 52
    direction := .up
    state := x
    members :=
      [memberOf (waiting 301 1) (harbour.vessel 1) 1, { memberOf (waiting 304 4) (harbour.vessel 4) 2 with laden := false },
        memberOf (waiting 305 5) (harbour.vessel 5) 2, memberOf (waiting 308 8) (harbour.vessel 8) 3]
    rows := [⟨800, 114⟩, ⟨850, 113⟩, ⟨150, 60⟩]
    tariff := tariff52
    night := none
    fill := none
    empty := none
    reserve := 100
    sideClear := 5 }

def bound52 (o : Order) : Order :=
  if o.number = 301 ∨ o.number = 304 ∨ o.number = 305 ∨ o.number = 308 then { o with state := .bound 52 } else o

/-- The harbour with batch 52 in chamber 1, DIRECTED in `c`. -/
def carrying (x : BatchState) (c : ChamberState) : State :=
  let s := { harbour with book.lists.up := harbour.book.lists.up.map bound52 }
  with1 (s.setBatch .c1 (some (batch52 x)))
    { state := c, mode := .directed, entry := some 120000, leave := some ⟨110000, 130000⟩ }

/-- The harbour with a batch of one, order 301, in chamber 1. -/
def single (x : BatchState) (c : ChamberState) : State :=
  let s := { harbour with book.lists := ⟨[{ waiting 301 1 with state := .bound 52 }, waiting 302 2], []⟩ }
  let b := { batch52 x with members := [memberOf (waiting 301 1) (harbour.vessel 1) 1], rows := [⟨800, 114⟩], reserve := 52 }
  with1 (s.setBatch .c1 (some b))
    { state := c, mode := .directed, entry := some 120000, leave := some ⟨110000, 130000⟩ }

/-- The same batch after its fill, its closed record in place and its shares fixed. -/
def filled52 (x : BatchState) : Batch :=
  { batch52 x with
    members := (shareMembers 35350 ((batch52 x).members.take 3)).map (fun m => { m with present := true })
    rows := [⟨800, 114⟩, ⟨850, 113⟩]
    night := some true
    fill := some ⟨some 1020, some 1261, some 1704, 5495, 10100, 35350, 0, [301, 304, 305]⟩
    reserve := 72 }

/-- Batch 52 LEAVING at the upper gate. -/
def leaving52 : State :=
  (carrying .leaving .highOpen).setBatch .c1 (some (filled52 .leaving))

/-- The register of the manual's search example. -/
def searching : State :=
  let s := (plant.setVessel 3 (ship (korva 49 50) 4410 500 50 100 100 none)).setVessel 9 (ship tessel 4410 500 50 100 100 none)
  let s := (s.setVessel 14 { ship (korva 51 49) 4410 500 50 100 100 none with state := .held .station }).setVessel 22
    (ship (korva 48 55) 2015 500 50 100 100 none)
  s.setVessel 40 (ship [75, 79, 82, 86, 65, 78, 32, 50] 4410 500 50 100 100 none)

/-- The SEEK of that example. -/
def seekKorva : SeekArgs := ⟨korva 32 32, [true, true, true, true, true, true, false, false], 4410, true, false⟩

/-! ## Levels (chapter 1) -/

-- The manual's six rounds: readings, values and levels.
theorem test_corrected_trim : corrected 12 17038 = 17050 := by decide
theorem test_corrected_clamped : corrected (-500) 100 = 0 := by decide
theorem test_gauge_value_two : gaugeValue [17050, 17058] = some 1705 := by decide
theorem test_gauge_value_four : gaugeValue [17061, 17064, 17070, 17072] = some 1707 := by decide
theorem test_level_round1 : reconcile 4 none .unknown (some 1705) (some 1706) = (some 1706, .good) := by decide
theorem test_level_round3 : reconcile 4 (some 1706) .good none (some 1707) = (some 1707, .single) := by decide
theorem test_level_round6 : reconcile 4 (some 1708) .single none none = (some 1708, .lost) := by decide
theorem test_reading_bad_sum : replyStatus 5 5 0x42 0x8E 0x2A = .checkFail := by decide
theorem test_reading_good : replyStatus 5 5 0x42 0x8E 0x2B = .ok := by decide
theorem test_reading_saturated : replyStatus 5 5 0x9F 0xF6 0x66 = .saturated := by decide

theorem test_roundStart : (after .roundStart State.reset).levels.poll = some ⟨.up, .a, 20, false, none⟩ := by decide +kernel

theorem test_roundTimerExpiry :
    (after (.roundTimerExpiry .lp) (plant.setBody .lp { goodBody 1018 with roundTimer := some 101000 })).levels.queue = [.lp] := by
  decide +kernel

/-- Chamber 1's gauge B polled, gauge A good in this round. -/
def polledB (pair : PairState) (upLevel : Nat) (a : List Nat) : State :=
  let s := (plant.setBody .up (goodBody upLevel)).setBody .c1
    { goodBody 1700 with gauges := ⟨⟨some .ok, a⟩, ⟨none, []⟩⟩ }
  { s with levels := { s.levels with poll := some ⟨.c1, .b, 100010, true, some {}⟩, pairs.upper.c1 := pair } }

-- The manual's equalisation: 1,706 and 1,701 differ by 5; 1,707 and 1,701 by 6.
theorem test_gaugeReply_settles :
    (after (.gaugeReply 6 0x42 0x72 0x46) (polledB .notEqual 1706 [17010])).pair (.across .upper .c1) = .settling 100000 := by
  decide +kernel
theorem test_gaugeReply_unsettles :
    (after (.gaugeReply 6 0x42 0x72 0x46) (polledB (.settling 98000) 1707 [17010])).pair (.across .upper .c1) = .notEqual := by
  decide +kernel

theorem test_noReply_single :
    ((after .noReply (polledB .notEqual 1706 [17010])).body .c1).handedState = .single := by decide +kernel

theorem test_gaugeStrayBytes : (after (.gaugeStrayBytes [1, 2, 3]) plant) = plant := by decide +kernel

theorem test_settleExpiry :
    (after (.settleExpiry .cross) (plant.setPair .cross (.settling 100000))).pair .cross = .equalised := by decide +kernel
theorem test_settleExpiry_time :
    (after (.settleExpiry .cross) (plant.setPair .cross (.settling 100000))).now = 104000 := by decide +kernel

theorem test_holdTimerExpiry :
    let t := after (.holdTimerExpiry .up) (plant.setBody .up { goodBody 1706 with sampling := .fast, hold := some 103000 })
    (t.body .up).sampling = .primary ∧ (t.body .up).roundTimer = some 104000 := by decide +kernel

theorem test_trailTimerExpiry :
    (after .trailTimerExpiry { plant with levels.trail := some 101000, settings.trailPeriod := 10 }).levels.trail = some 111000 := by
  decide +kernel

theorem test_forceFast : ((after (.forceFast .lc true) plant).body .lp).sampling = .fast := by decide +kernel

theorem test_readLevels : (answer .lc (after (.readLevels .lc) plant)).map (·.1) = [.ok] := by decide +kernel

/-! ## Drives (chapter 2) -/

theorem test_drivePollCycle : (after .drivePollCycle plant).drive.polls.length = 9 := by decide +kernel

theorem test_driveAnswerTimeout :
    (after .driveAnswerTimeout { plant with drive.polls := [.sluice .cross] }).drive.polls = [] := by decide +kernel

theorem test_noneAnswer :
    (after .noneAnswer { plant with drive.polls := [.gate .c1 .upper, .sluice .cross] }).drive.polls = [.sluice .cross] := by
  decide +kernel

-- A gate ordered CLOSE while it was opening may still report OPEN_REACHED: it changes nothing.
theorem test_gateReport_late :
    let s := asked (.gate .c1 .lower)
      (withGate plant { state := .closing, outstanding := some .cls, lastMove := some .cls, timer := some 150000 })
    (after (.gateReport .c1 .lower .openReached) s).gate .c1 .lower = s.gate .c1 .lower := by decide +kernel
theorem test_gateReport_reached :
    (after (.gateReport .c1 .lower .openReached)
      (asked (.gate .c1 .lower)
        (withGate plant { state := .opening, outstanding := some .opn, lastMove := some .opn, timer := some 150000 }))).gate .c1
          .lower = { state := .opened } := by decide +kernel

/-- A sluice ordered to 0 on its way from step 6 to step 7. -/
def late : State :=
  asked (.sluice (.chamber .c1 .upper))
    (withSluice plant { state := .moving, step := some 6, target := some (.step 0), superseded := some 7, timer := some 120000 })

-- The manual's ramp: REACHED(7) late at a MOVE(0), and a REACHED(8) that is neither target nor superseded.
theorem test_sluiceReport_late :
    (after (.sluiceReport (.chamber .c1 .upper) 7) late).sluice (.chamber .c1 .upper)
      = { state := .moving, step := some 7, target := some (.step 0), timer := some 120000 } := by decide +kernel
theorem test_sluiceReport_position :
    let t := after (.sluiceReport (.chamber .c1 .upper) 8) late
    (t.sluice (.chamber .c1 .upper)).state = .fault ∧ (t.sluice (.chamber .c1 .upper)).step = some 8
      ∧ t.capture.record.map (·.kind) = some .sluicePosition := by decide +kernel

theorem test_orderEcho :
    (after (.orderEcho (.sluice .cross)) { plant with drive.sent := [⟨.sluice .cross, .move 0, false⟩] }).drive.sent = [] := by
  decide +kernel
theorem test_echoTimeout :
    (after (.echoTimeout (.sluice .cross)) { plant with drive.sent := [⟨.sluice .cross, .move 0, false⟩] }).drive.sent
      = [⟨.sluice .cross, .move 0, true⟩] := by decide +kernel
theorem test_driveStrayBytes : after (.driveStrayBytes [9]) plant = plant := by decide +kernel

theorem test_statusAnswer :
    ((after (.statusAnswer (.gate .c1 .upper) .intermediate) State.reset).gate .c1 .upper).state = .stopped := by decide +kernel
theorem test_statusTimeout :
    (after (.statusTimeout (.gate .c1 .upper)) State.reset).query (.gate .c1 .upper) = some ⟨.gate .c1 .upper, true⟩ := by
  decide +kernel

theorem test_gateMovementTimeout :
    let t := after (.gateMovementTimeout .c1 .lower)
      (withGate plant { state := .opening, outstanding := some .opn, lastMove := some .opn, timer := some 150000 })
    (t.gate .c1 .lower).state = .stalled ∧ t.drive.sent = [⟨.gate .c1 .lower, .stop, false⟩] ∧ t.now = 150000 := by
  decide +kernel

theorem test_sluiceMovementTimeout :
    ((after (.sluiceMovementTimeout (.chamber .c1 .upper))
      (withSluice plant { state := .moving, step := some 3, target := some (.step 4), timer := some 120000 })).sluice
        (.chamber .c1 .upper)).state = .fault := by decide +kernel

/-- Chamber 1 filling from 1,020 under a ramp at step `n`, its interval out at 8 s. -/
def ramping (c1 n : Nat) : State :=
  let s := withSluice (plant.setBody .c1 (goodBody c1))
    { state := .held, step := some n, ramp := some ⟨.sequencer .c1, 8, n + 1, some 92000, false, .interval⟩ }
  with1 s { state := .fill, phase := some ⟨90000, 900000⟩ }

-- The manual's ramp: at head 686 the limit is 4, at head 299 it is 8.
theorem test_rampIntervalExpiry_limit :
    ((after (.rampIntervalExpiry (.chamber .c1 .upper)) (ramping 1020 4)).sluice (.chamber .c1 .upper)).state = .held := by
  decide +kernel
theorem test_rampIntervalExpiry_moves :
    (after (.rampIntervalExpiry (.chamber .c1 .upper)) (ramping 1407 4)).drive.sent
      = [⟨.sluice (.chamber .c1 .upper), .move 5, false⟩] := by decide +kernel

-- R30: a step refused by I4 is not tried again at a gate's report, one refused by I2 is.
theorem test_rampRetry_reads :
    (Clause.reads .i4 (.sluice (.chamber .c1 .upper)) (.drive (.gate .c1 .lower)),
      Clause.reads .i2 (.sluice (.chamber .c1 .upper)) (.drive (.gate .c1 .lower)),
      Clause.reads .i4 (.sluice (.chamber .c1 .upper)) (.level .c1)) = (false, true, true) := by decide
-- R15: a sluice above 0 gives no fast cause while another drive's STATUS query is open; with the last answer it does.
theorem test_statusAnswer_fastCause :
    let s := { withSluice plant { state := .held, step := some 1 } with drive.queries := [⟨.sluice .cross, false⟩] }
    (s.fastCause .c1, ((after (.statusAnswer (.sluice .cross) (.atRest 0)) s).body .c1).sampling) = (false, .fast) := by
  decide +kernel

/-! ## The chamber cycle (chapter 3) -/

theorem test_serviceOn : ((after (.serviceOn .tc .c1) plant).chamber .c1).state = .lowShut := by decide +kernel
theorem test_serviceOn_noConduct :
    answer .uc (after (.serviceOn .uc .c1) plant) = [(.noConduct, [.byte 3])] := by decide +kernel
theorem test_serviceOff :
    ((after (.serviceOff .tc .c1) (with1 plant { state := .lowShut, mode := .directed })).chamber .c1)
      = { state := .outOfService, mode := .directed } := by decide +kernel
theorem test_setMode :
    ((after (.setMode .tc .c1 .directed) (with1 plant { state := .lowShut })).chamber .c1).mode = .directed := by decide +kernel

theorem test_fillSlow :
    let t := after (.fillSlow .c1) (with1 plant { state := .fill, phase := some ⟨90000, 900000⟩ })
    (t.chamber .c1).phase = some ⟨90000, 900000⟩ ∧ (t.chamber .c1).slowRaised = true
      ∧ t.capture.record.map (·.kind) = some .fillSlow := by decide +kernel
theorem test_equaliseTimeout :
    let t := after (.equaliseTimeout .c1) (with1 plant { state := .fill, phase := some ⟨90000, 900000⟩, slowRaised := true })
    (t.chamber .c1).state = .halted ∧ (t.chamber .c1).interrupted = some .fill ∧ t.now = 1890000 := by decide +kernel
theorem test_entryOverdue : ((after (.entryOverdue .c1) (carrying .entering .lowOpen)).chamber .c1).entryOverdue = true := by
  decide +kernel
theorem test_clearOut : ((after (.clearOut .c1) (carrying .leaving .highOpen)).chamber .c1).clearOut = true := by decide +kernel
theorem test_leaveOverdue :
    .leaveOverdue ∈ ((after (.leaveOverdue .c1) (carrying .leaving .highOpen)).station .lc).notices := by decide +kernel

-- Batch 52 at CONFIRM IN, order 308 found absent.
theorem test_confirmIn_absent :
    let t := after (.confirmIn .tc .c1 (some [301, 304, 305])) (carrying .entering .lowOpen)
    (t.batch .c1).map (fun b => (b.state, b.rows, b.reserve)) = some (.secured, [⟨800, 114⟩, ⟨850, 113⟩], 84)
      ∧ (t.book.find 308).map (·.state) = some .waiting := by decide +kernel
theorem test_confirmIn_night :
    ((after (.confirmIn .tc .c1 none) { carrying .entering .lowOpen with clock := some ⟨⟨812, 83460⟩, 100500⟩ }).batch .c1).bind
      (·.night) = some true := by decide +kernel

-- Batch 52 at CONFIRM CLEAR: the dues of its three members, and the exempt one's share.
theorem test_confirmClear_dues :
    let t := after (.confirmClear .tc .c1) leaving52
    (t.vessel 1).total = 46372 ∧ (t.vessel 4).total = 34080 ∧ (t.vessel 5).total = 0 ∧ t.site.total = 4308 := by
  decide +kernel
theorem test_confirmClear_counts :
    let t := after (.confirmClear .tc .c1) leaving52
    t.journal.frames.length = 3 ∧ t.batch .c1 = none ∧ t.tallies.completed.up = ⟨0, 1, 0, 2, 0, 0⟩
      ∧ t.book.find 304 = none ∧ (t.vessel 1).passages = 1 := by decide +kernel

theorem test_halt_ramp :
    let t := after (.halt .lc .c1) (ramping 1407 4)
    (t.chamber .c1).state = .halted ∧ (t.sluice (.chamber .c1 .upper)).ramp = none
      ∧ t.drive.sent = [⟨.sluice (.chamber .c1 .upper), .move 0, false⟩] := by decide +kernel
theorem test_resume :
    let c : Sequencer := { state := .halted, mode := .directed, interrupted := some .lowShut, haltCause := some .request }
    ((after (.resume .tc .c1) (with1 plant c)).chamber .c1).state = .lowShut := by decide +kernel
theorem test_abandonBatch :
    (after (.abandonBatch .tc .c1) (carrying .secured .halted)).tallies.abandoned.up = ⟨1, 1, 0, 2, 0, 0⟩ := by decide +kernel

theorem test_gateOpen :
    (after (.gateOpen .tc .c1 .lower) (with1 plant { state := .lowShut, mode := .directed })).drive.sent
      = [⟨.gate .c1 .lower, .opn, false⟩] := by decide +kernel
-- An OPEN of the upper gate from LOW_SHUT is refused STATE.
theorem test_gateOpen_state :
    answer .tc (after (.gateOpen .tc .c1 .upper) (with1 plant { state := .lowShut, mode := .directed })) = [(.state, [])] := by
  decide +kernel
theorem test_gateClose :
    ((after (.gateClose .tc .c1 .lower) (with1 (withGate plant (gateAt .opened)) { state := .lowOpen, mode := .directed })).chamber
      .c1).state = .lowClosing := by decide +kernel
theorem test_gateStop :
    ((after (.gateStop .tc .c1 .lower)
      (with1 (withGate plant { state := .opening, outstanding := some .opn, lastMove := some .opn, timer := some 150000 })
        { state := .lowOpening, mode := .directed })).chamber .c1).state = .halted := by decide +kernel
theorem test_fill :
    (after (.fill .tc .c1 false) (with1 plant { state := .lowShut, mode := .directed })).drive.sent
      = [⟨.sluice (.chamber .c1 .upper), .move 1, false⟩] := by decide +kernel
theorem test_empty :
    ((after (.empty .uc .c2 false) (plant.setChamber .c2 { state := .highShut, mode := .directed })).chamber .c2).state
      = .empty := by decide +kernel
theorem test_sluice_cross :
    answer .tc (after (.sluice .tc .c1 .cross 0) (with1 plant { state := .lowShut, mode := .directed })) = [(.range, [.half 2])] := by
  decide +kernel
theorem test_readChamber :
    (answer .lc (after (.readChamber .lc .c1) (with1 plant { state := .lowShut }))).map (·.2.take 2) = [[.byte 3, .byte 0]] := by
  decide +kernel

/-! ## The cross culvert (chapter 4) -/

-- The manual's gain: 2,280 m² at 1,020 and 1,254 m² at 1,705 come to 1,263.
theorem test_projectedLevel : projectedLevel 2280 1020 1254 1705 = 1263 := by decide

theorem test_wishExpiry :
    ((after (.wishExpiry .c1) { with1 plant { state := .fillWait } with arbiter.wishes := ⟨some ⟨.fill, 150000⟩, none⟩ }).chamber
      .c1).state = .fill := by decide +kernel

/-- The cross phase ENGAGED from chamber 2 to chamber 1, its sluice HELD at 4. -/
def crossing : State :=
  let s := (plant.setBody .c1 (goodBody 1150)).setBody .c2 (goodBody 1470)
  { (with1 s { state := .fillCross }).setChamber .c2 { state := .emptyCross } with
    drive.crossSluice := { state := .held, step := some 4 }
    arbiter := ⟨.engaged, ⟨none, none⟩, some 700000, some ⟨.c1, ⟨some 1020, some 1705⟩, ⟨none, none⟩, none, ⟨false, false⟩⟩⟩ }

theorem test_crossSlow :
    let t := after .crossSlow crossing
    t.arbiter.owner = .ending ∧ t.drive.sent = [⟨.sluice .cross, .move 0, false⟩]
      ∧ t.arbiter.record.map (·.stop) = some ⟨some 1150, some 1470⟩ := by decide +kernel
-- The same phase, halted by chamber 2.
theorem test_halt_cross :
    let t := after (.halt .lc .c2) crossing
    t.arbiter.owner = .ending ∧ (t.chamber .c1).state = .fillCross ∧ (t.chamber .c2).interrupted = some .emptyCross
      ∧ t.arbiter.record.map (·.cause) = some (some (.halt .c2)) := by decide +kernel

/-! ## The vessel register (chapter 5) -/

theorem test_addVessel :
    let t := after (.addVessel .lc ⟨korva 53 53, 4410, 1020, 50, 100, 0, 0, 0⟩) searching
    answer .lc t = [(.ok, [.half 0])] ∧ (t.vessel 0).mark = korva 53 53 := by decide +kernel
theorem test_addVessel_duplicate :
    answer .lc (after (.addVessel .lc ⟨tessel, 1, 500, 50, 100, 0, 0, 0⟩) searching) = [(.duplicate, [.half 9])] := by
  decide +kernel
theorem test_deleteVessel : ((after (.deleteVessel .tc 22) searching).vessel 22).state = .free := by decide +kernel
theorem test_deleteVessel_inUse : answer .tc (after (.deleteVessel .tc 1) harbour) = [(.inUse, [.half 301])] := by decide +kernel

-- The manual's walk, steps 1 to 4.
theorem test_seek : answer .uc (after (.seek .uc seekKorva) searching) = [(.ok, [.half 3, .half 1])] := by decide +kernel
theorem test_seekNext :
    let s1 := after (.seekNext .uc) (after (.seek .uc seekKorva) searching)
    let s2 := after (.seekNext .uc) (after (.release .lc 14) s1)
    answer .uc s1 = [(.ok, [.half 0xFFFF, .half 1])] ∧ answer .uc s2 = [(.ok, [.half 3, .half 2])]
      ∧ answer .uc (after (.seekNext .uc) s2) = [(.ok, [.half 14, .half 2])] := by decide +kernel

-- The manual's vessel through its ceiling, steps 3 to 6.
def ceilingShip : State :=
  let v := ship (korva 49 50) 4410 1000 100 100 100 (some 230)
  { plant.setVessel 17 { v with state := .held .ceiling, ceiling := 150000, total := 166372 } with
    book.lists.down := [{ waiting 230 17 with direction := .down, state := .blocked .held }] }

theorem test_release_ceiling : answer .uc (after (.release .uc 17) ceilingShip) = [(.state, [.byte 1])] := by decide +kernel
theorem test_hold : ((after (.hold .tc 17) ceilingShip).vessel 17).state = .held .station := by decide +kernel
theorem test_settle :
    let t := after (.settle .tc 17 30000) (after (.hold .tc 17) ceilingShip)
    (t.vessel 17).total = 136372 ∧ (t.vessel 17).state = .held .station := by decide +kernel
theorem test_release :
    let t := after (.release .uc 17) (after (.settle .tc 17 30000) (after (.hold .tc 17) ceilingShip))
    (t.vessel 17).state = .active ∧ (t.book.find 230).map (·.state) = some .waiting := by decide +kernel

/-! ## The passage book (chapter 6) -/

-- The manual's formation: four members, three rows, 302 and 306 passed over.
theorem test_scan :
    let c := harbour.scan .c1 378 harbour.book.lists.up {}
    c.members.map (fun m => (m.order, m.row)) = [(301, 1), (304, 2), (305, 2), (308, 3)]
      ∧ c.rows = [⟨800, 114⟩, ⟨850, 113⟩, ⟨150, 60⟩] ∧ c.raised = [302, 306] := by decide +kernel
theorem test_depth : harbour.depth = some 378 := by decide +kernel
theorem test_bind :
    let t := after (.bind .tc .c1 .up) (with1 harbour { state := .lowShut, mode := .directed })
    (t.batch .c1).map (fun b => (b.number, b.reserve)) = some (52, 100)
      ∧ (t.book.find 302).map (·.passOver) = some 2 ∧ (t.book.find 306).map (·.passOver) = some 1 := by decide +kernel
-- With 306 at PASS_LIMIT the scan ends there.
theorem test_scan_anchored :
    let s := harbour.changeOrder 306 (fun o => { o with passOver := 3 })
    (s.scan .c1 378 s.book.lists.up {}).members.map (·.order) = [301, 304, 305] := by decide +kernel
theorem test_enterOrder :
    let t := after (.enterOrder .lc 9 .down true .normal) searching
    (t.vessel 9).order = some 1 ∧ t.journal.frames = [.order (some 1) 9 .entered .lc none] := by decide +kernel
-- A vessel of 1,950 by 100 dm fits neither chamber.
theorem test_enterOrder_oversize :
    let s := searching.setVessel 9 (ship tessel 1 1950 100 100 100 none)
    let t := after (.enterOrder .lc 9 .down true .normal) s
    answer .lc t = [(.oversize, [])] ∧ t.tallies.oversize = ⟨0, 0, 0, 0, 0, 1⟩ := by decide +kernel
theorem test_cancelOrder :
    let t := after (.cancelOrder .lc 308) (carrying .entering .lowOpen)
    (t.batch .c1).map (·.reserve) = some 84 ∧ t.book.find 308 = none := by decide +kernel
theorem test_readBook :
    (answer .uc (after (.readBook .uc .up 1) harbour)).map (·.2.take 5)
      = [[.half 8, .half 8, .half 7, .half 1, .half 0]] := by decide +kernel
theorem test_readBatch : answer .uc (after (.readBatch .uc .c2) harbour) = [(.ok, [.half 0xFFFF])] := by decide +kernel
theorem test_formationTimerExpiry : (after .formationTimerExpiry harbour).book.timer = some 107000 := by decide +kernel

/-! ## Signals (chapter 7) -/

theorem test_flashPhaseChange :
    ((after (.flashPhaseChange .b) plant).generator .b).on = false
      ∧ ((after (.flashPhaseChange .b) plant).generator .b).phaseEnd = 500 := by decide +kernel
theorem test_flash_durations : FlashGen.start 20 67 0 = ⟨true, 335, 335, 165⟩ := by decide

-- The manual's entry signal: RED-A driven without current for 200 ms is FAILED, LAMP_RED is raised and RED-B takes its place.
theorem test_lampFailed :
    let s := plant.derive.setLamp ⟨.c1, .el, .redA⟩ { proven := true, output := .lit, since := some 100000 }
    let t := after (.lampFailed ⟨.c1, .el, .redA⟩) s
    (t.lamp ⟨.c1, .el, .redA⟩).proven = false ∧ t.now = 100200 ∧ t.capture.record.map (·.kind) = some .lampRed
      ∧ (t.lamp ⟨.c1, .el, .redB⟩).output ≠ .dark := by decide +kernel
-- The 200 ms counted up by a phase that ends on that ms: the lamp fails, whichever of the two is taken first.
theorem test_lampFailed_phaseEnd :
    let s := (plant.setGenerator .b ⟨true, 100000, 335, 165⟩).setLamp ⟨.c1, .el, .redA⟩
      { proven := true, output := .flashing .b, since := some 99800 }
    let t := after (.lampFailed ⟨.c1, .el, .redA⟩) (after (.flashPhaseChange .b) s)
    (t.lamp ⟨.c1, .el, .redA⟩).proven = false ∧ t.now = 100000 ∧ t.capture.record.map (·.kind) = some .lampRed := by
  decide +kernel
theorem test_provingInput : ((after (.provingInput ⟨.c1, .eu, .redA⟩ true) plant).lamp ⟨.c1, .eu, .redA⟩).current = true := by
  decide +kernel
theorem test_lampTest : ((after (.lampTest .lc .c1) plant).lamp ⟨.c1, .xu, .green⟩).output = .lit := by decide +kernel
theorem test_lampTestEnd :
    (after (.lampTestEnd .c1) (after (.lampTest .lc .c1) plant)).signals.tests = ⟨none, none⟩ := by decide +kernel
theorem test_entering_go :
    ((carrying .entering .lowOpen).called .c1 .el, (carrying .entering .lowOpen).called .c1 .xu) = (.go, .stop) := by
  decide +kernel

/-! ## Water, dues, accounts, journal and tallies (chapters 8 and 9) -/

theorem test_crossVolume : volume 2280 241 = 5495 := by decide
theorem test_drawnVolume : volume 2280 443 = 10100 := by decide
theorem test_waterCharge : waterCharge 10100 35 = 35350 := by decide
theorem test_shares : apportion 35350 [91200, 48450, 19380] = [20272, 10770, 4308] := by decide
theorem test_shares_41 : apportion 30065 [48000, 24000] = [20043, 10022] := by decide
theorem test_tonnage_unladen : tonnage tariff52 1350 false = 648 := by decide
theorem test_priority_part : percentPart 18648 50 = 9324 := by decide
theorem test_night_start : tariff52.night 1320 = true ∧ tariff52.night 1319 = false := by decide

theorem test_swapTariff : (after (.swapTariff .tc) { plant with standby := tariff52 }).active = tariff52 := by decide +kernel
theorem test_setClock : (after (.setClock .tc 812 83460) plant).time = some ⟨812, 83460⟩ := by decide +kernel
theorem test_siteClockTick :
    (after .siteClockTick { plant with clock := some ⟨⟨65535, 86399⟩, 100500⟩ }).time = some ⟨0, 0⟩ := by decide +kernel

/-- A journal without a subscriber, 4,088 of its 4,096 words taken by FAULT frames. -/
def fullJournal : State :=
  { plant with
    journal :=
      { frames := List.replicate 1022 (.fault .linkLost .store none), subscribers := ⟨none, none, none⟩ } }

theorem test_journal_discards :
    let t := (fullJournal.write (.fault .linkLost .store none)).write (.order none 0 .entered .tc none)
    t.journal.discarded = 1 ∧ t.used = 4094 := by decide +kernel
theorem test_subscribe : (after (.subscribe .uc (some 5000)) plant).subscriber .uc = some ⟨0, 4096⟩ := by decide +kernel
theorem test_unsubscribe : (after (.unsubscribe .tc .tc) plant).subscriber .tc = none := by decide +kernel
theorem test_readJournal :
    (after (.readJournal .tc) { plant with journal.frames := List.replicate 15 (.fault .linkLost .store none) }).journal.frames.length
      = 1 := by decide +kernel
theorem test_readJournalStatus :
    (answer .uc (after (.readJournalStatus .uc) plant)).map (·.2.take 2) = [[.half 0, .half 4096]] := by decide +kernel
theorem test_readTallies :
    (after (.readTallies .uc true) { plant with tallies.oversize := ⟨1, 2, 3, 4, 5, 6⟩ }).tallies = {} := by decide +kernel
theorem test_readSiteAccount :
    answer .uc (after (.readSiteAccount .uc) { plant with site := ⟨5, 6, 7⟩ }) = [(.ok, [.word 5, .word 6, .word 7])] := by
  decide +kernel
theorem test_settleSite : (after (.settleSite .tc) { plant with site := ⟨5, 6, 7⟩ }).site = ⟨0, 0, 0⟩ := by decide +kernel

/-! ## Stations (chapter 10): the manual's take-over and loss -/

def held1 : State := with1 plant { state := .lowShut, mode := .directed }

theorem test_claim :
    let t := after (.claim .lc .c1) held1
    t.holder .c1 = some .lc ∧ t.journal.frames = [.conduct .c1 (some .tc) (some .lc) .takeOver]
      ∧ .conductTaken ∈ (t.station .tc).notices := by decide +kernel
theorem test_claim_refused :
    let t := after (.claim .lc .c1) held1
    answer .tc (after (.claim .tc .c1) t) = [(.noConduct, [.byte 2])]
      ∧ answer .uc (after (.claim .uc .c1) (after (.gateOpen .lc .c1 .lower) t)) = [(.busy, [.byte 2])] := by decide +kernel
theorem test_releaseConduct : (after (.releaseConduct .tc .c1) plant).holder .c1 = none := by decide +kernel
theorem test_linkLost :
    let t := after (.linkLost .tc) held1
    (t.station .tc).link = .lost ∧ (t.chamber .c1).interrupted = some .lowShut ∧ t.holder .c1 = none
      ∧ t.journal.frames = [.conduct .c1 (some .tc) none .lost, .fault .linkLost (.station .tc) none] := by decide +kernel
theorem test_readNotices :
    let s := { plant with stations.uc.notices := [.fault, .clockUnset], stations.uc.line := true, stations.uc.badFrames := 3 }
    answer .uc (after (.readNotices .uc) s) = [(.ok, [.half 513, .half 3])]
      ∧ ((after (.readNotices .uc) s).station .uc).line = false := by decide +kernel
theorem test_setNoticeMask :
    ((after (.setNoticeMask .uc [.clockUnset])
      { plant with stations.uc.notices := [.fault], stations.uc.line := true }).station .uc).line = false := by decide +kernel
theorem test_setAttentionMode :
    ((after (.setAttentionMode .uc .pulse)
      { plant with stations.uc.notices := [.fault], stations.uc.line := true }).station .uc).line = false := by decide +kernel
theorem test_attentionPulseEnd :
    ((after (.attentionPulseEnd .uc)
      { plant with stations.uc.attention := .pulse, stations.uc.line := true, stations.uc.pulse := some 100010 }).station .uc).line
      = false := by decide +kernel
theorem test_readFault : answer .uc (after (.readFault .uc) plant) = [(.ok, [.byte 0, .byte 1, .byte 1])] := by decide +kernel
theorem test_clearFault :
    (after (.clearFault .uc) { plant with capture := ⟨none, true, true⟩ }).capture = ⟨none, false, false⟩ := by decide +kernel

/-! ## Links, windows and the store (chapter 11) -/

-- The check value of this CRC over "123456789", 0x29B1, is common knowledge of the CRC, not the manual's.
-- R57: a chamber in AUTOMATIC refuses its directed steps STATE before a choice out of its set is looked at; in DIRECTED it is RANGE.
theorem test_frame_directed :
    let frames : List (Nat × List Byte) := [(0x39, [1, 2]), (0x3A, [1, 2, 0]), (0x3A, [1, 0, 3]), (0x3B, [1, 2]), (0x3C, [1, 2])]
    let outcomes := fun s : State => frames.map fun f => (judgeFrame .tc f.1 f.2 s).2.map (·.1)
    outcomes (with1 plant { state := .lowShut }) = List.replicate 5 (some .state)
      ∧ outcomes held1 = List.replicate 5 (some .range) := by decide +kernel
theorem test_crc16 : crc16 [0x31, 0x32, 0x33, 0x34, 0x35, 0x36, 0x37, 0x38, 0x39] = 0x29B1 := by decide +kernel
theorem test_requestFrame_bad : ((after (.requestFrame .uc [1, 0x41, 0, 0]) plant).station .uc).badFrames = 1 := by decide +kernel
theorem test_requestFrame_unknown :
    let counted : List Byte := [1, 0x7F]
    answer .uc (after (.requestFrame .uc (counted ++ halfBytes (crc16 counted).toNat)) plant) = [(.unknown, [])] := by
  decide +kernel
theorem test_badFrame : ((after (.badFrame .lc .crc) plant).station .lc).badFrames = 1 := by decide +kernel
theorem test_frameGapTimeout :
    ((after (.frameGapTimeout .uc) { plant with stations.uc.receiver := .receiving }).station .uc).receiver = .hunting := by
  decide +kernel
theorem test_strayLinkByte : ((after (.strayLinkByte .uc 0x5A false) plant).station .uc).receiver = .receiving := by decide +kernel
theorem test_strayLinkByte_framing : ((after (.strayLinkByte .uc 0x5A true) plant).station .uc).receiver = .hunting := by
  decide +kernel
theorem test_replySent :
    let t := after (.replySent .uc) { plant with stations.uc.service := .serving, stations.uc.busy := [0x41, 0x60] }
    (t.station .uc).service = .sendingBusy ∧ (t.station .uc).tx = [⟨0x41, .busy, []⟩, ⟨0x60, .busy, []⟩] := by decide +kernel

/-- The manual's window walk: UC's window on slot 1, DOWN, fields 3 to 5. -/
def walk0 : State :=
  after (.setWindow .uc 0 1 .down 3 5)
    ((plant.setVessel 0 (ship (korva 53 53) 2015 500 50 100 100 none)).setVessel 1 (ship tessel 4410 600 50 100 100 none))

def walk3 : State := after (.readNext .uc (some 1)) (after (.readNext .uc none) walk0)

theorem test_setWindow : (walk0.station .uc).window = ⟨.vessels, 1, .down, 3, 5, 3⟩ := by decide +kernel
theorem test_readNext :
    answer .uc (after (.readNext .uc none) walk0) = [(.ok, [.mark tessel, .half 4410, .half 600])] := by decide +kernel
theorem test_readNext_count :
    answer .uc walk3 = [(.ok, [.mark (korva 53 53)])] ∧ (walk3.station .uc).window = ⟨.vessels, 0, .down, 3, 5, 4⟩ := by
  decide +kernel
theorem test_writeNext_range :
    let t := after (.writeNext .uc none [0x11, 0x3A, 0x10, 0x04]) walk3
    answer .uc t = [(.range, [.half 5])] ∧ (t.station .uc).window.counter = 4 := by decide +kernel
theorem test_writeNext :
    let t := after (.writeNext .uc none [0x11, 0x3A, 0x03, 0xFC]) walk3
    (t.vessel 0).length = 1020 ∧ (t.vessel 0).operator = 4410 ∧ (t.station .uc).window.cursor = 127 := by decide +kernel
theorem test_readAt :
    answer .lc (after (.readAt .lc 0 1 4 5) walk0) = [(.ok, [.half 4410, .half 600])] := by decide +kernel
-- Counts above PASS_LIMIT, as a RESTART can leave them, are lowered by a write of the limit that stands.
theorem test_writeAt_passLimit :
    (after (.writeAt .tc 3 0 26 26 [0, 3]) { harbour with book.lists.up := [waiting 301 1 5, waiting 302 2 1] }).book.lists.up
      = [waiting 301 1 3, waiting 302 2 1] := by decide +kernel

theorem test_writeAt_tariff : answer .lc (after (.writeAt .lc 1 0 7 7 [0, 5]) plant) = [(.notPermitted, [])] := by decide +kernel
theorem test_writeAt_settings :
    let t := after (.writeAt .tc 3 0 10 10 [0, 149]) plant
    t.settings.fastInterval = 100 ∧ answer .tc t = [(.limited, [])] := by decide +kernel

theorem test_storeSettings : ((after (.storeSettings .tc) plant).station .tc).service = .serving := by decide +kernel
theorem test_storeReadbackEnd :
    let t := after (.storeReadbackEnd true) (after (.storeSettings .tc) { plant with standby := tariff52 })
    t.store.stored.map (·.standby) = some tariff52 ∧ answer .tc t = [(.ok, [])] := by decide +kernel
theorem test_restart : answer .uc (after (.restart .uc) plant) = [(.notPermitted, [])] := by decide +kernel
theorem test_restartEvent :
    let t := after (.restartEvent ⟨⟨true, true⟩, ⟨false, true⟩, ⟨true, false⟩⟩) (after (.restart .tc) harbour)
    (t.vessel 1).length = 800 ∧ t.book.orders.length = 8 ∧ (t.station .uc).rate = .silent ∧ t.holder .c1 = none := by
  decide +kernel
theorem test_powerOnReset :
    let t := after (.powerOnReset ⟨⟨true, false⟩, ⟨false, false⟩, ⟨false, false⟩⟩) { harbour with store.stored := none }
    t.book.orders = [] ∧ t.store.defaulted = true ∧ (t.station .uc).rate = .baud57600
      ∧ .settingsDefaulted ∈ (t.station .lc).notices := by decide +kernel

theorem test_step_front : step { plant with pending := [.halt .lc .c1, .roundStart] }
    = exec (.halt .lc .c1) { plant with pending := [.roundStart] } := by rfl

/-! ## Witnesses: for each statement with hypotheses, a state and operands that meet them -/

/-- Every sluice, one by one. -/
theorem mem_allSluices (q : Sluice) : q ∈ allSluices := by
  rcases q with ⟨k, e⟩ | _
  · cases k <;> cases e <;> decide
  · decide

/-- No sluice has a ramp, one by one. -/
theorem ramps_of (s : State) (h : (allSluices.all fun q => decide ((s.sluice q).ramp = none)) = true) (q : Sluice) :
    (s.sluice q).ramp = none :=
  of_decide_eq_true (List.all_eq_true.mp h q (mem_allSluices q))

/-- `State.Quiet`, chamber by chamber and sluice by sluice. -/
theorem quiet_of (s : State)
    (h : s.Calm ∧ ((s.chamber .c1).state = .outOfService ∧ (s.chamber .c1).pendingOrder = none)
      ∧ ((s.chamber .c2).state = .outOfService ∧ (s.chamber .c2).pendingOrder = none)
      ∧ (allSluices.all fun q => decide ((s.sluice q).ramp = none)) = true ∧ s.arbiter.owner = .idle) : s.Quiet := by
  obtain ⟨hc, h1, h2, hr, ho⟩ := h
  refine ⟨hc, ?_, ramps_of s hr, ho⟩
  intro k
  cases k
  · exact h1
  · exact h2

/-- `State.NothingKept`, chamber by chamber, with no ramp anywhere. -/
theorem nothing_of (s : State)
    (h : (s.chamber .c1).pendingOrder = none ∧ (s.chamber .c2).pendingOrder = none
      ∧ (allSluices.all fun q => decide ((s.sluice q).ramp = none)) = true) : s.NothingKept := by
  refine ⟨?_, fun q r hr => by rw [ramps_of s h.2.2 q] at hr; cases hr⟩
  intro k
  cases k
  · exact h.1
  · exact h.2.1

/-- `State.KeptOnlyBy` from `State.NothingKept`. -/
theorem kept_of (s : State) (k : Chamber) (h : s.NothingKept) : s.KeptOnlyBy k := ⟨h.1 _, fun q r _ _ hr => h.2 q r hr⟩

/-- A property of whatever an option holds. -/
theorem all_of {α : Type} (o : Option α) (p : α → Prop) [DecidablePred p] (h : o.all (fun x => decide (p x)) = true) :
    ∀ x, o = some x → p x := by
  rintro x rfl
  exact of_decide_eq_true h

/-- Each member's order is in the book, of the member's slot. -/
theorem found_of (s : State) (l : List Member)
    (h : (l.all fun m => (s.book.find m.order).any fun o => decide (o.slot = m.slot)) = true) :
    ∀ m ∈ l, ∃ o, s.book.find m.order = some o ∧ o.slot = m.slot := by
  intro m hm
  have hx := List.all_eq_true.mp h m hm
  cases hf : s.book.find m.order with
  | none => rw [hf] at hx; cases hx
  | some o => rw [hf] at hx; exact ⟨o, rfl, of_decide_eq_true hx⟩

theorem witness_StepRunsTheFrontCommand :
    ({ plant with pending := [.roundStart, .crossSlow] } : State).pending = .roundStart :: [.crossSlow] ∧ plant.pending = [] :=
  ⟨rfl, rfl⟩

/-- The slots of the search example that are taken. -/
theorem searching_taken : ∀ i, i < 128 → (searching.vessel i).nonFree = true → i ∈ [3, 9, 14, 22, 40] := by decide +kernel

theorem witness_StepKeepsMarksUnique :
    searching.MarksUnique ∧ step searching = .next { searching with now := searching.now + 1 } := by
  refine ⟨?_, rfl⟩
  intro i j hi hj ni nj h
  have a := searching_taken i hi ni
  have b := searching_taken j hj nj
  have d : ∀ x ∈ [3, 9, 14, 22, 40], ∀ y ∈ [3, 9, 14, 22, 40],
      (searching.vessel x).mark = (searching.vessel y).mark → x = y := by decide +kernel
  exact d i a j b h

theorem witness_StepKeepsConductPresent :
    ({ plant with pending := [.claim .uc .c1] } : State).ConductPresent
      ∧ step { plant with pending := [.claim .uc .c1] } = .next (after (.claim .uc .c1) plant) := by
  refine ⟨?_, rfl⟩
  intro k st
  cases k <;> cases st <;> decide +kernel

theorem witness_StepKeepsClockInRange :
    ({ plant with clock := some ⟨⟨65535, 86399⟩, 100500⟩, pending := [.siteClockTick] } : State).ClockInRange
      ∧ ∃ t, step { plant with clock := some ⟨⟨65535, 86399⟩, 100500⟩, pending := [.siteClockTick] } = .next t := by
  refine ⟨?_, _, rfl⟩
  intro t h
  cases h
  decide

theorem witness_StepKeepsSignalsCurrent :
    ({ plant.derive with pending := [.roundStart] } : State).SignalsCurrent
      ∧ ∃ t, step { plant.derive with pending := [.roundStart] } = .next t := by
  refine ⟨?_, _, rfl⟩
  intro k
  cases k <;> decide +kernel

theorem witness_StepKeepsJournalFits :
    ({ leaving52 with pending := [.roundStart] } : State).JournalFits
      ∧ ∃ t, step { leaving52 with pending := [.roundStart] } = .next t := by
  refine ⟨⟨by decide +kernel, ?_⟩, _, rfl⟩
  intro k
  cases k <;> exact all_of _ _ (by decide +kernel)

theorem witness_StepKeepsBookInOrder :
    ({ carrying .entering .lowOpen with pending := [.roundStart] } : State).BookInOrder
      ∧ ∃ t, step { carrying .entering .lowOpen with pending := [.roundStart] } = .next t := by
  refine ⟨?_, _, rfl⟩
  and_intros <;> first | decide +kernel | (intro d; cases d <;> decide +kernel)

theorem witness_StepKeepsCeilingsHeld :
    ({ ceilingShip with pending := [.roundStart] } : State).CeilingsHeld
      ∧ ∃ t, step { ceilingShip with pending := [.roundStart] } = .next t := by
  refine ⟨?_, _, rfl⟩
  intro i hi
  by_cases h : i < 128
  · have all : ∀ i, i < 128 → (ceilingShip.vessel i).state = .active →
        (ceilingShip.vessel i).ceiling = 0 ∨ (ceilingShip.vessel i).total < (ceilingShip.vessel i).ceiling := by decide +kernel
    exact all i h hi
  · left
    have none : ({ ceilingShip with pending := [.roundStart] } : State).vessel i = {} := by
      simp [State.vessel, Vector.getElem?_eq_none (Nat.le_of_not_lt h)]
    rw [none]

theorem witness_PowerOnLoadsTheStore :
    (plant.store.stored = some ⟨{}, {}, {}⟩ ∧ plant.store.storing = none)
      ∧ ({ plant with store.stored := none } : State).store.stored = none
      ∧ ({ plant with store.storing := some ⟨{}, {}, {}⟩ } : State).store.storing.isSome = true := by decide +kernel

theorem witness_RestartKeepsTheRecords :
    (plant.takes .tc ∧ (plant.chamber .c1).state = .outOfService ∧ (plant.chamber .c2).state = .outOfService)
      ∧ (held1.takes .tc ∧ (held1.chamber .c1).state ≠ .outOfService) ∧ (Station.uc ≠ .tc ∧ plant.takes .uc)
      ∧ let s := { harbour with store.restartPending := true }
        s.store.restartPending = true ∧ (s.station .tc).service = .idle ∧ s.store.stored = some ⟨{}, {}, {}⟩ := by
  decide +kernel

theorem witness_RoundsReadTheirGauges :
    (State.reset.levels.poll = none ∧ State.reset.levels.queue = .up :: [.lp, .c1, .c2])
      ∧ ((plant.setBody .lp { goodBody 1018 with roundTimer := some 101000 }).body .lp).roundTimer = some 101000
      ∧ (let p : Poll := ⟨.c1, .a, 100010, false, none⟩
        ({ plant with levels.poll := some p } : State).levels.poll = some p ∧ p.gauge = .a)
      ∧ plant.levels.poll = none := by decide +kernel

/-- The poll that `polledB` leaves outstanding. -/
def pollB : Poll := ⟨.c1, .b, 100010, true, some {}⟩

theorem witness_RoundEndReconcilesAndHandsOn :
    (polledB .notEqual 1706 [17010]).levels.poll = some pollB ∧ pollB.gauge = .b ∧ Body.lp ≠ pollB.body := by decide +kernel

/-- Chamber 1 at gauge B of a round that finds it at 1,800, above its top level of 1,760. -/
def flooding : State := polledB .notEqual 1706 [18000]

/-- The same round finds the pound 49 cm above chamber 1 while the upper gate opens. -/
def surging : State :=
  (polledB .notEqual 1750 [17010]).putGate .c1 .upper
    { state := .opening, outstanding := some .opn, lastMove := some .opn, timer := some 150000 }

theorem witness_RoundEndRaisesLevelFaultsAndGuards_overflow :
    (flooding.levels.poll = some pollB ∧ pollB.gauge = .b ∧ exec .noReply flooding = .next (after .noReply flooding)
        ∧ flooding.Quiet ∧ (∀ k e, (flooding.gate k e).state ≠ .opening) ∧ pollB.body = Chamber.c1.body
        ∧ flooding.drive.overflow.get .c1 = false ∧ (after .noReply flooding).drive.overflow.get .c1 = true
        ∧ flooding.crossPresent = true ∧ (flooding.chamber .c1).state = .outOfService)
      ∧ let s := with1 flooding { state := .lowShut }
        s.levels.poll = some pollB ∧ exec .noReply s = .next (after .noReply s) ∧ s.drive.overflow.get .c1 = false
          ∧ (after .noReply s).drive.overflow.get .c1 = true ∧ (s.chamber .c1).state ≠ .outOfService
          ∧ (s.chamber .c1).state ≠ .halted := by
  refine ⟨⟨?_, ?_, rfl, quiet_of _ ?_, ?_, ?_⟩, ?_, rfl, ?_⟩
    <;> first | decide +kernel | (intro k e; cases k <;> cases e <;> decide +kernel)

theorem witness_RoundEndRaisesLevelFaultsAndGuards_surge :
    (surging.levels.poll = some pollB ∧ exec .noReply surging = .next (after .noReply surging) ∧ surging.Calm ∧ surging.CrossFree
        ∧ pollB.body = Chamber.c1.body ∧ (after .noReply surging).drive.overflow.get .c1 = false
        ∧ (surging.gate .c1 .upper).state = .opening ∧ (surging.gate .c1 .upper).surge = false
        ∧ (surging.gate .c1 (Side.other .upper)).state ≠ .opening
        ∧ ((after .noReply surging).body (Side.pound .upper)).handedLevel = some 1750
        ∧ ((after .noReply surging).body Chamber.c1.body).handedLevel = some 1701
        ∧ 1701 + 2 * surging.settings.eqBand < 1750 ∧ (surging.chamber .c1).state = .outOfService
        ∧ surging.settings.eqSettle ≠ 0)
      ∧ let s := with1 surging { state := .highOpening }
        s.levels.poll = some pollB ∧ exec .noReply s = .next (after .noReply s) ∧ s.Calm ∧ s.CrossFree
          ∧ (after .noReply s).drive.overflow.get .c1 = false ∧ (s.gate .c1 .upper).state = .opening
          ∧ (s.gate .c1 .upper).surge = false ∧ (s.gate .c1 (Side.other .upper)).state ≠ .opening
          ∧ ((after .noReply s).body (Side.pound .upper)).handedLevel = some 1750
          ∧ ((after .noReply s).body Chamber.c1.body).handedLevel = some 1701
          ∧ (s.chamber .c1).state ≠ .outOfService ∧ (s.chamber .c1).state ≠ .halted
          ∧ (s.chamber .c1).state = openingState .upper := by
  refine ⟨⟨by decide +kernel, rfl, by decide +kernel⟩, by decide +kernel, rfl, by decide +kernel⟩

theorem witness_RoundEndRaisesLevelFaultsAndGuards_level :
    let s := polledB .notEqual 1706 [17010]
    let t := after .noReply s
    s.levels.poll = some pollB ∧ exec .noReply s = .next t ∧ s.Quiet ∧ (∀ k e, (s.gate k e).state ≠ .opening)
      ∧ (∀ k, t.drive.overflow.get k = false) ∧ (t.body .c1).state = .single ∧ (s.body .c1).state = .good
      ∧ s.settings.quietSoft = false := by
  refine ⟨by decide +kernel, rfl, quiet_of _ (by decide +kernel), ?_, ?_, by decide +kernel⟩
  · intro k e
    cases k <;> cases e <;> decide +kernel
  · intro k
    cases k <;> decide +kernel

theorem witness_LevelTimersAndForceFastAct_timers :
    (let s := plant.setBody .up { goodBody 1706 with sampling := .fast, hold := some 103000 }
    ((s.body .up).hold = some 103000 ∧ s.levels.forceFast = false ∧ (s.body .up).lastRound = some 99000)
      ∧ ({ s with levels.forceFast := true } : State).levels.forceFast = true)
      ∧ ((plant.setPair .cross (.settling 98000)).pair .cross = .settling 98000 ∧ Pair.across .upper .c1 ≠ .cross)
      ∧ ({ plant with levels.trail := some 101000 } : State).levels.trail = some 101000 := by decide +kernel

theorem witness_LevelTimersAndForceFastAct_fast :
    plant.takes .lc ∧ ({ plant with loaded := ⟨false, false⟩ } : State).bodyPresent .c2 = false ∧ plant.bodyPresent .c2 = true
      ∧ (plant.body .c2).sampling = .primary ∧ (plant.fastCause .c2 = false ∧ (plant.body .c2).hold = none)
      ∧ let s := withSluice (plant.setBody .c1 { goodBody 1018 with sampling := .fast }) { state := .held, step := some 1 }
        s.fastCause .c1 = true ∧ s.takes .lc := by decide +kernel

theorem witness_ReadingsChangeNothing : plant.takes .uc ∧ plant.chamberPresent .c2 = true ∧ 0 < 1 := by decide +kernel

theorem witness_DriveLineExchangesAndDiscards :
    (plant.leftUnknown = true ∧ plant.drive.polls = [])
      ∧ ({ plant with drive.polls := [.sluice .cross] } : State).drive.polls = .sluice .cross :: []
      ∧ plant.drive.polls.head? ≠ some (.gate .c1 .upper)
      ∧ (asked (.sluice .cross) plant).drive.polls.head? ≠ some (.sluice (.chamber .c1 .upper))
      ∧ (let x : Sent := ⟨.sluice .cross, .move 0, false⟩
        let l : List Sent := [⟨.gate .c1 .upper, .opn, true⟩]
        let r : List Sent := [⟨.sluice .cross, .move 1, false⟩]
        ({ plant with drive.sent := l ++ x :: r } : State).drive.sent = l ++ x :: r ∧ x.actuator = .sluice .cross
          ∧ (∀ y ∈ l, y.actuator ≠ .sluice .cross) ∧ x.resent = false) := by decide +kernel

/-- The lower gate of chamber 1 OPENING, and CLOSING. -/
def opening1 : State :=
  withGate plant { state := .opening, outstanding := some .opn, lastMove := some .opn, timer := some 150000 }

def closing1 : State :=
  withGate plant { state := .closing, outstanding := some .cls, lastMove := some .cls, timer := some 150000 }

theorem witness_GateReportsCompleteMovements :
    (let s := asked (.gate .c1 .lower) opening1
    s.Quiet ∧ s.chamberPresent .c1 = true ∧ s.drive.polls.head? = some (.gate .c1 .lower)
      ∧ (s.gate .c1 .lower).outstanding = some .opn ∧ (s.gate .c1 .lower).state ≠ .unknown ∧ GateReport.openReached ≠ .driveFault)
      ∧ let s := asked (.gate .c1 .lower) closing1
        s.Quiet ∧ s.drive.polls.head? = some (.gate .c1 .lower) ∧ (s.gate .c1 .lower).outstanding = some .cls
          ∧ (s.gate .c1 .lower).state ≠ .unknown ∧ GateReport.leftOpen ≠ .driveFault := by
  refine ⟨⟨quiet_of _ (by decide +kernel), ?_⟩, quiet_of _ (by decide +kernel), ?_⟩ <;> decide +kernel

/-- Chamber 1 in a state, DIRECTED, its lower gate as given and polled for a report. -/
def reporting (c : ChamberState) (g : Gate) : State :=
  asked (.gate .c1 .lower) (withGate (with1 plant { state := c, mode := .directed }) g)

/-- What every clause of the gate reports asks of the state. -/
theorem reporting_base (c : ChamberState) (g : Gate) :
    let s := reporting c g
    s.Calm ∧ s.CrossFree ∧ s.NothingKept ∧ s.KeptOnlyBy .c1 ∧ s.chamberPresent .c1 = true
      ∧ s.drive.polls.head? = some (.gate .c1 .lower) ∧ s.gate .c1 .lower = g
      ∧ s.chamber .c1 = { state := c, mode := .directed } :=
  have h : (reporting c g).NothingKept := nothing_of _ ⟨rfl, rfl, rfl⟩
  ⟨⟨rfl, rfl⟩, ⟨rfl, rfl, rfl⟩, h, kept_of _ _ h, rfl, rfl, rfl, rfl⟩

theorem witness_GateReportsInService :
    (let g := opening1.gate .c1 .lower
    (reporting .lowOpening g).gate .c1 .lower = g ∧ g.outstanding = some .opn ∧ g.state ≠ .unknown ∧ g.timer = some 150000
      ∧ ((reporting .lowOpening g).chamber .c1).mode = .directed
      ∧ ((reporting .lowOpening g).chamber .c1).state = openingState .lower
      ∧ ((reporting .lowOpening g).chamber .c1).state ≠ .outOfService ∧ ((reporting .lowOpening g).chamber .c1).state ≠ .halted)
      ∧ (let g := closing1.gate .c1 .lower
        g.outstanding = some .cls ∧ g.state ≠ .unknown ∧ ((reporting .lowClosing g).chamber .c1).state = closingState .lower)
      ∧ (let s := reporting .lowShut (gateAt .closed)
        (s.gate .c1 .lower).outstanding = none ∧ (s.gate .c1 .lower).state ≠ .opened ∧ (s.gate .c1 .lower).state = .closed
          ∧ (s.gate .c1 .lower).state ≠ .unknown ∧ (s.gate .c1 .lower).state ≠ .stalled
          ∧ (s.chamber .c1).state ≠ .outOfService ∧ (s.chamber .c1).state ≠ .halted)
      ∧ let s := reporting .lowShut { state := .stalled, lastMove := some .cls }
        (s.gate .c1 .lower).outstanding = none ∧ (s.gate .c1 .lower).state = .stalled
          ∧ (s.chamber .c1).state ≠ openingState .lower ∧ (s.chamber .c1).state ≠ closingState .lower := by decide +kernel

theorem witness_GateReportsInService_batch :
    let s := asked (.gate .c1 .lower) (withGate (carrying .bound .lowOpening) (opening1.gate .c1 .lower))
    s.Calm ∧ s.CrossFree ∧ s.NothingKept ∧ s.KeptOnlyBy .c1 ∧ s.chamberPresent .c1 = true
      ∧ s.drive.polls.head? = some (.gate .c1 .lower) ∧ (s.gate .c1 .lower).outstanding = some .opn
      ∧ (s.gate .c1 .lower).state ≠ .unknown ∧ (s.chamber .c1).mode = .directed ∧ (s.chamber .c1).state = openingState .lower
      ∧ s.batch .c1 = some (batch52 .bound) ∧ (batch52 .bound).direction.entryEnd = .lower := by
  have h : (asked (.gate .c1 .lower) (withGate (carrying .bound .lowOpening) (opening1.gate .c1 .lower))).NothingKept :=
    nothing_of _ (by decide +kernel)
  refine ⟨by decide +kernel, by decide +kernel, h, kept_of _ _ h, ?_⟩
  decide +kernel

/-- The upper sluice of chamber 1 MOVING from step 1 to step 2, and to step 0 after it. -/
def moving1 : State := withSluice plant { state := .moving, step := some 1, target := some (.step 2), timer := some 120000 }

def reversed1 : State :=
  withSluice plant { state := .moving, step := some 1, target := some (.step 0), superseded := some 2, timer := some 120000 }

/-- The cross sluice MOVING to step 1. -/
def crossMoving : State := plant.putSluice .cross { state := .moving, step := some 0, target := some (.step 1), timer := some 120000 }

theorem witness_MovementTimersStallTheirActuator :
    (opening1.Quiet ∧ (opening1.gate .c1 .lower).timer = some 150000)
      ∧ (moving1.Quiet ∧ (moving1.sluice (.chamber .c1 .upper)).timer = some 120000)
      ∧ crossMoving.Quiet ∧ (crossMoving.sluice .cross).timer = some 120000 := by
  refine ⟨⟨quiet_of _ ?_, ?_⟩, ⟨quiet_of _ ?_, ?_⟩, quiet_of _ ?_, ?_⟩ <;> decide +kernel

/-- The same sluice in a chamber that fills. -/
def filling1 : State := with1 moving1 { state := .fill, mode := .directed }

theorem filling1_kept : filling1.KeptOnlyBy .c1 := kept_of _ _ (nothing_of _ (by decide +kernel))

theorem witness_MovementTimersStallTheirActuator_service :
    filling1.Calm ∧ filling1.CrossFree ∧ filling1.KeptOnlyBy .c1 ∧ (filling1.chamber .c1).state ≠ .outOfService
      ∧ (filling1.chamber .c1).state ≠ .halted ∧ (filling1.sluice (.chamber .c1 .upper)).timer = some 120000
      ∧ ∀ e, (filling1.gate .c1 e).state.moving = false := by
  refine ⟨by decide +kernel, by decide +kernel, filling1_kept, ?_⟩
  and_intros <;> first | decide +kernel | (intro e; cases e <;> decide +kernel)

theorem witness_SluiceReportsCompleteMovements :
    (let s := asked (.sluice (.chamber .c1 .upper)) moving1
    s.Quiet ∧ s.sluicePresent (.chamber .c1 .upper) = true ∧ 2 ≤ 8
      ∧ s.drive.polls.head? = some (.sluice (.chamber .c1 .upper)) ∧ (s.sluice (.chamber .c1 .upper)).state = .moving
      ∧ (s.sluice (.chamber .c1 .upper)).target = some (.step 2))
      ∧ (let s := asked (.sluice (.chamber .c1 .upper)) reversed1
        s.Quiet ∧ s.drive.polls.head? = some (.sluice (.chamber .c1 .upper))
          ∧ (s.sluice (.chamber .c1 .upper)).state = .moving ∧ (s.sluice (.chamber .c1 .upper)).target ≠ some (.step 2)
          ∧ (s.sluice (.chamber .c1 .upper)).target ≠ some .stop ∧ (s.sluice (.chamber .c1 .upper)).superseded = some 2)
      ∧ let s := asked (.sluice (.chamber .c1 .upper)) plant
        s.Quiet ∧ s.drive.polls.head? = some (.sluice (.chamber .c1 .upper)) ∧ 0 ≤ 8
          ∧ (s.sluice (.chamber .c1 .upper)).state = .shut ∧ (s.sluice (.chamber .c1 .upper)).step = some 0 := by
  refine ⟨⟨quiet_of _ (by decide +kernel), ?_⟩, ⟨quiet_of _ (by decide +kernel), ?_⟩, quiet_of _ (by decide +kernel), ?_⟩
    <;> decide +kernel

theorem witness_SluiceReportsCompleteMovements_service :
    (let s := asked (.sluice (.chamber .c1 .upper)) filling1
    let r := s.sluice (.chamber .c1 .upper)
    s.Calm ∧ s.CrossFree ∧ s.KeptOnlyBy .c1 ∧ s.chamberPresent .c1 = true ∧ 8 ≤ 8
      ∧ s.drive.polls.head? = some (.sluice (.chamber .c1 .upper)) ∧ (s.chamber .c1).state ≠ .outOfService
      ∧ (s.chamber .c1).state ≠ .halted ∧ r.state = .moving ∧ r.target ≠ some (.step 8) ∧ r.target ≠ some .stop
      ∧ r.superseded ≠ some 8)
      ∧ let s := asked (.sluice (.chamber .c1 .upper)) held1
        let r := s.sluice (.chamber .c1 .upper)
        s.Calm ∧ s.CrossFree ∧ s.KeptOnlyBy .c1 ∧ s.drive.polls.head? = some (.sluice (.chamber .c1 .upper))
          ∧ (s.chamber .c1).state ≠ .outOfService ∧ (s.chamber .c1).state ≠ .halted ∧ r.state = .shut ∧ r.step ≠ some 1 := by
  refine ⟨⟨by decide +kernel, by decide +kernel, kept_of _ _ (nothing_of _ (by decide +kernel)), ?_⟩, by decide +kernel,
    by decide +kernel, kept_of _ _ (nothing_of _ (by decide +kernel)), ?_⟩ <;> decide +kernel

theorem witness_SluiceReportsCompleteMovements_stop :
    let s := asked (.sluice (.chamber .c1 .upper))
      (withSluice plant { state := .moving, step := some 1, target := some .stop, timer := some 120000 })
    s.Quiet ∧ s.sluicePresent (.chamber .c1 .upper) = true ∧ 8 ≤ 8
      ∧ s.drive.polls.head? = some (.sluice (.chamber .c1 .upper)) ∧ (s.sluice (.chamber .c1 .upper)).state = .moving
      ∧ (s.sluice (.chamber .c1 .upper)).target = some .stop := by
  refine ⟨quiet_of _ (by decide +kernel), ?_⟩
  decide +kernel

theorem witness_StatusAnswersSetTheActuator :
    let s := State.reset
    (s.Quiet ∧ s.query (.gate .c1 .upper) = some ⟨.gate .c1 .upper, false⟩ ∧ Actuator.gate .c1 .lower ≠ .gate .c1 .upper
        ∧ (s.query (.gate .c1 .lower)).isSome = true)
      ∧ s.query (.sluice .cross) = some ⟨.sluice .cross, false⟩ ∧ Actuator.gate .c1 .lower ≠ .sluice .cross ∧ 8 ≤ 8 := by
  refine ⟨⟨quiet_of _ (by decide +kernel), ?_⟩, ?_⟩ <;> decide +kernel

theorem witness_StatusAnswersSetTheActuator_fault :
    let second : List Query := [⟨.gate .c1 .lower, false⟩, ⟨.sluice .cross, true⟩]
    let s := { State.reset with drive.queries := second }
    s.Quiet ∧ s.query (.sluice .cross) = some ⟨.sluice .cross, true⟩ ∧ Actuator.gate .c1 .lower ≠ .sluice .cross
      ∧ (s.query (.gate .c1 .lower)).isSome = true := by
  refine ⟨quiet_of _ (by decide +kernel), by decide +kernel⟩

theorem witness_StatusAnswersSetTheActuator_last :
    let s := { plant.putSluice .cross { state := .unknown } with drive.queries := [⟨.sluice .cross, true⟩] }
    let at0 := s.putSluice .cross shutSluice
    let at8 := s.putSluice .cross { state := .moving, step := some 8, target := some (.step 0), timer := some 130000 }
    (s.Quiet ∧ s.query (.sluice .cross) = some ⟨.sluice .cross, true⟩ ∧ s.actuatorPresent (.sluice .cross) = true
        ∧ s.unknownActuator (.sluice .cross) = true ∧ (∀ y ∈ s.drive.queries, y.actuator = .sluice .cross))
      ∧ (∀ b, b ≠ .sluice .cross → s.actuatorPresent b = true → s.unknownActuator b = false)
      ∧ s.drive.polls = [] ∧ s.crossPresent = true ∧ (at0.sluice .cross).state = .shut ∧ (at8.sluice .cross).state ≠ .shut := by
  refine ⟨⟨quiet_of _ (by decide +kernel), by decide +kernel⟩, ?_, by decide +kernel⟩
  intro b
  cases b with
  | gate k e => cases k <;> cases e <;> decide +kernel
  | sluice q =>
    cases q with
    | chamber k e => cases k <;> cases e <;> decide +kernel
    | cross => decide +kernel

/-- Chamber 1 in service with the cross sluice moving. -/
def crossSetOff (s : State) (n : Nat) : State :=
  s.putSluice .cross { state := .moving, step := some 4, target := some (.step n), timer := some 120000 }

/-- A state whose one order on the drive line has been sent again. -/
def resending (a : Actuator) (o : DriveOrder) (s : State) : State := { s with drive.sent := [⟨a, o, true⟩] }

/-- What every clause of a second failed echo asks. -/
abbrev Fails (s : State) (a : Actuator) (o : DriveOrder) : Prop :=
  s.drive.sent = [] ++ ⟨a, o, true⟩ :: [] ∧ s.Calm

theorem witness_DriveLineExchangesAndDiscards_idle :
    (let s := resending (.gate .c1 .lower) .stop (withGate plant { state := .stalled, lastMove := some .opn })
    Fails s (.gate .c1 .lower) .stop ∧ (s.gate .c1 .lower).state = .stalled ∧ s.NothingKept)
      ∧ let s := resending (.sluice (.chamber .c1 .upper)) .stop (withSluice plant { state := .fault, step := some 3 })
        Fails s (.sluice (.chamber .c1 .upper)) .stop ∧ (s.sluice (.chamber .c1 .upper)).state = .fault ∧ s.NothingKept := by
  refine ⟨⟨by decide +kernel, by decide +kernel, nothing_of _ ?_⟩, by decide +kernel, by decide +kernel, nothing_of _ ?_⟩
    <;> decide +kernel

theorem witness_DriveLineExchangesAndDiscards_gate :
    (let s := resending (.gate .c1 .lower) .opn opening1
    Fails s (.gate .c1 .lower) .opn ∧ (s.gate .c1 .lower).state = .opening ∧ (s.chamber .c1).state = .outOfService ∧ s.NothingKept)
      ∧ let s := resending (.gate .c1 .lower) .opn (with1 opening1 { state := .lowOpening })
        Fails s (.gate .c1 .lower) .opn ∧ (s.gate .c1 .lower).state = .opening
          ∧ (s.chamber .c1).state ≠ .outOfService ∧ (s.chamber .c1).state ≠ .halted ∧ s.CrossFree ∧ s.KeptOnlyBy .c1
          ∧ (s.gate .c1 (Side.other .lower)).state.moving = false := by
  refine ⟨⟨?_, ?_, ?_, nothing_of _ ?_⟩, ?_, ?_, ?_, ?_, ?_, kept_of _ _ (nothing_of _ ?_), ?_⟩ <;> decide +kernel

theorem witness_DriveLineExchangesAndDiscards_sluice :
    let a := Actuator.sluice (.chamber .c1 .upper)
    (let s := resending a (.move 2) moving1
    Fails s a (.move 2) ∧ (s.sluice (.chamber .c1 .upper)).state = .moving ∧ (s.chamber .c1).state = .outOfService ∧ s.NothingKept)
      ∧ (let s := resending a (.move 2) filling1
        Fails s a (.move 2) ∧ (s.sluice (.chamber .c1 .upper)).state = .moving
          ∧ (s.chamber .c1).state ≠ .outOfService ∧ (s.chamber .c1).state ≠ .halted ∧ s.CrossFree ∧ s.KeptOnlyBy .c1
          ∧ ∀ i, (s.gate .c1 i).state.moving = false)
      ∧ let s := resending (.sluice .cross) (.move 1) (with1 crossMoving { state := .lowShut })
        Fails s (.sluice .cross) (.move 1) ∧ (s.sluice .cross).state = .moving ∧ s.NothingKept ∧ s.CrossFree
          ∧ s.arbiter.timer = none ∧ ∀ k e, (s.gate k e).state.moving = false := by
  refine ⟨⟨?_, ?_, ?_, nothing_of _ ?_⟩, ⟨?_, ?_, ?_, ?_, ?_, kept_of _ _ (nothing_of _ ?_), ?_⟩, ?_, ?_, nothing_of _ ?_, ?_, ?_, ?_⟩
    <;> first | decide +kernel | (intro i; cases i <;> decide +kernel) | (intro k e; cases k <;> cases e <;> decide +kernel)

theorem witness_CrossSluiceFaultsHaltTheChambers :
    (let s := crossSetOff held1 5
    s.Calm ∧ s.NothingKept ∧ s.arbiter.wishes = ⟨none, none⟩ ∧ (s.sluice .cross).timer = some 120000
      ∧ s.arbiter.owner = .idle ∧ s.arbiter.record = none ∧ s.arbiter.timer = none)
      ∧ (let s := asked (.sluice .cross) held1
        s.Calm ∧ s.NothingKept ∧ s.arbiter.wishes = ⟨none, none⟩ ∧ s.crossPresent = true
          ∧ s.drive.polls.head? = some (.sluice .cross) ∧ (s.sluice .cross).state = .shut ∧ (s.sluice .cross).step ≠ some 8) := by
  refine ⟨⟨by decide +kernel, nothing_of _ (by decide +kernel), by decide +kernel⟩, by decide +kernel,
    nothing_of _ (by decide +kernel), by decide +kernel⟩

theorem witness_CrossSluiceFaultsHaltTheChambers_phase :
    let r : CrossRec := ⟨.c1, ⟨some 1020, some 1705⟩, ⟨none, none⟩, none, ⟨false, false⟩⟩
    let s := asked (.sluice .cross) (crossSetOff crossing 5)
    (s.Calm ∧ s.NothingKept ∧ s.arbiter.wishes = ⟨none, none⟩ ∧ (s.sluice .cross).timer = some 120000
        ∧ s.arbiter.owner = .engaged ∧ s.arbiter.record = some r ∧ s.crossPresent = true
        ∧ s.drive.polls.head? = some (.sluice .cross) ∧ (s.sluice .cross).state = .moving
        ∧ (s.sluice .cross).target ≠ some (.step 0) ∧ (s.sluice .cross).target ≠ some .stop
        ∧ (s.sluice .cross).superseded ≠ some 0)
      ∧ (∀ k, (s.chamber k).state = .fillCross ∨ (s.chamber k).state = .emptyCross)
      ∧ let s := { s with arbiter := { s.arbiter with owner := .ending, timer := none } }
        s.Calm ∧ s.NothingKept ∧ s.arbiter.owner = .ending ∧ s.arbiter.record = some r ∧ s.arbiter.timer = none
          ∧ (s.sluice .cross).timer = some 120000 ∧ (s.sluice .cross).target ≠ some (.step 8) := by
  refine ⟨⟨by decide +kernel, nothing_of _ (by decide +kernel), by decide +kernel⟩, ?_, by decide +kernel,
    nothing_of _ (by decide +kernel), by decide +kernel⟩
  intro k
  cases k <;> decide +kernel

theorem witness_InterlockAppliesItsClauses :
    ((State.reset.gate .c1 .lower).state = .unknown ∧ (plant.gate .c1 .lower).state ≠ .unknown)
      ∧ ((State.reset.sluice (.chamber .c1 .upper)).state = .unknown ∧ (plant.sluice (.chamber .c1 .upper)).state ≠ .unknown)
      ∧ (State.reset.sluice .cross).state = .unknown ∧ (plant.sluice .cross).state ≠ .unknown := by decide +kernel

theorem witness_OrdersSentKeepTheThreeLaws :
    (plant.openGate .c1 .lower).2 = .sent ∧ (0 < 1 ∧ (plant.moveSluice (.chamber .c1 .upper) 1).2 = .sent)
      ∧ ({ plant with arbiter.owner := .engaged }.moveSluice .cross 1).2 = .sent := by decide +kernel

theorem witness_RampsOrderTheirSteps :
    let s := ramping 1407 4
    let q := Sluice.chamber .c1 .upper
    let r : Ramp := ⟨.sequencer .c1, 8, 5, some 92000, false, .interval⟩
    s.agenda = [] ∧ s.book.deferred = ⟨false, false⟩ ∧ (s.sluice q).ramp = some r ∧ r.waiting = .interval
      ∧ r.lastOrder = some 92000 ∧ (s.sluice q).state = .held ∧ (s.sluice q).step = some 4 ∧ 4 < r.next ∧ r.next ≤ r.endStep
      ∧ s.sidesUsable q = true ∧ r.next ≤ s.headLimit q ∧ s.judge (.sluice q) (.move r.next) = none := by decide +kernel

/-- Chamber 1 filling with its lower gate still CLOSING: step 5 of the ramp waits, refused by `c`. -/
def refused5 (c : Clause) (g : Gate) : State :=
  let r : Ramp := ⟨.sequencer .c1, 8, 5, some 92000, false, .retry c⟩
  asked (.gate .c1 .lower) (withGate ((ramping 1407 4).setRamp (.chamber .c1 .upper) (some r)) g)

/-- In it no gate order is kept, and no other sluice has a ramp. -/
theorem refused5_alone (c : Clause) (g : Gate) :
    (∀ k, ((refused5 c g).chamber k).pendingOrder = none)
      ∧ ∀ y z, y ≠ .chamber .c1 .upper → ((refused5 c g).sluice y).ramp = some z → ∀ d, z.waiting ≠ .retry d := by
  refine ⟨fun k => by cases k <;> rfl, fun y z hy hz => ?_⟩
  have none : ((refused5 c g).sluice y).ramp = none := by
    rcases y with ⟨k, e⟩ | _
    · cases k <;> cases e <;> first | exact absurd rfl hy | rfl
    · rfl
  rw [none] at hz
  cases hz

/-- The same with the sluice SHUT, the first step of its ramp refused by I2. -/
def refused1 : State :=
  let g : Gate := { state := .closing, outstanding := some .cls, lastMove := some .cls, timer := some 120000 }
  asked (.gate .c1 .lower)
    (with1 (withGate (withSluice plant { shutSluice with ramp := some ⟨.sequencer .c1, 8, 1, none, true, .retry .i2⟩ }) g)
      { state := .fill, phase := some ⟨90000, 900000⟩ })

theorem witness_RampsOrderTheirSteps_first :
    let q := Sluice.chamber .c1 .upper
    let s := refused1
    let r : Ramp := ⟨.sequencer .c1, 8, 1, none, true, .retry .i2⟩
    (∀ k, (s.chamber k).pendingOrder = none)
      ∧ (∀ y z, y ≠ q → (s.sluice y).ramp = some z → ∀ d, z.waiting ≠ .retry d)
      ∧ s.Calm ∧ s.drive.polls.head? = some (.gate .c1 .lower) ∧ s.chamberPresent .c1 = true
      ∧ (s.gate .c1 .lower).state = .closing ∧ (s.gate .c1 .lower).outstanding = some .cls
      ∧ (s.chamber .c1).state ≠ closingState .lower ∧ (s.sluice q).ramp = some r ∧ r.lastOrder = none
      ∧ (s.sluice q).state = .shut ∧ (s.sluice q).step = some 0 ∧ 0 < r.next ∧ r.next ≤ r.endStep ∧ s.sidesUsable q = true
      ∧ r.next ≤ s.headLimit q ∧ s.judge (.sluice q) (.move r.next) = some .i2
      ∧ (s.putGate .c1 .lower { state := .closed }).judge (.sluice q) (.move r.next) = none := by
  refine ⟨fun k => by cases k <;> rfl, fun y z hy hz => ?_, by decide +kernel⟩
  have none : (refused1.sluice y).ramp = none := by
    rcases y with ⟨k, e⟩ | _
    · cases k <;> cases e <;> first | exact absurd rfl hy | rfl
    · rfl
  rw [none] at hz
  cases hz

theorem witness_RampsOrderTheirSteps_kept :
    let q := Sluice.chamber .c1 .upper
    let s := refused5 .i2 { state := .closing, outstanding := some .cls, lastMove := some .cls, timer := some 120000 }
    let r : Ramp := ⟨.sequencer .c1, 8, 5, some 92000, false, .retry .i2⟩
    ((∀ k, (s.chamber k).pendingOrder = none) ∧ ∀ y z, y ≠ q → (s.sluice y).ramp = some z → ∀ d, z.waiting ≠ .retry d)
      ∧ (s.Calm ∧ s.drive.polls.head? = some (.gate .c1 .lower) ∧ s.chamberPresent .c1 = true
        ∧ (s.gate .c1 .lower).state = .closing ∧ (s.gate .c1 .lower).outstanding = some .cls
        ∧ (s.chamber .c1).state ≠ closingState .lower)
      ∧ ((s.sluice q).ramp = some r ∧ r.lastOrder = some 92000 ∧ 92000 + seconds s.settings.stepInterval ≤ s.now
        ∧ (s.sluice q).state = .held ∧ (s.sluice q).step = some 4 ∧ 4 < r.next ∧ r.next ≤ r.endStep ∧ s.sidesUsable q = true
        ∧ r.next ≤ s.headLimit q ∧ (s.putGate .c1 .lower { state := .closed }).judge (.sluice q) (.move r.next) = none)
      ∧ (let u := refused5 .i4 (gateAt .closed)
        (∀ y z c, (u.sluice y).ramp = some z → z.waiting = .retry c → c = .i4)
          ∧ u.Calm ∧ u.chamberPresent .c1 = true ∧ u.drive.polls.head? = some (.gate .c1 .lower)
          ∧ (u.gate .c1 .lower).state = .closed ∧ (u.gate .c1 .lower).outstanding = none
          ∧ (u.sluice q).ramp = some { r with waiting := .retry .i4 }) := by
  refine ⟨refused5_alone _ _, by decide +kernel, by decide +kernel, fun y z c hz hc => ?_, by decide +kernel⟩
  by_cases hy : y = .chamber .c1 .upper
  · subst hy
    cases hz
    cases hc
    rfl
  · exact absurd hc ((refused5_alone _ _).2 y z hy hz c)

theorem witness_JournalTakesAndFreesFrames_writing :
    let f : Frame := .fault .linkLost .store none
    let full := { plant with journal.frames := List.replicate 1024 f }
    (plant.anySubscriber = true ∧ f.words ≤ plant.availableWords)
      ∧ (plant.subscriber .tc = some ⟨0, 2048⟩ ∧ 0 ≤ plant.journal.frames.length)
      ∧ (full.anySubscriber = true ∧ full.availableWords < f.words)
      ∧ fullJournal.anySubscriber = false ∧ fullJournal.reserved + f.words ≤ 4096 := by decide +kernel

/-- Chamber 1 at the upper level. -/
def high1 : State := plant.setBody .c1 (goodBody 1706)

theorem witness_ServiceOnInspectsTheChamber_on :
    (plant.takes .tc ∧ plant.holder .c1 = some .tc ∧ plant.chamberPresent .c1 = true ∧ plant.store.defaulted = false
        ∧ (plant.chamber .c1).state = .outOfService ∧ plant.Calm ∧ plant.batch .c1 = none ∧ plant.book.lists = ⟨[], []⟩
        ∧ plant.signals.tests.get .c1 = none)
      ∧ (∀ e, (plant.sluice (.chamber .c1 e)).state = .shut) ∧ (plant.crossPresent = true → (plant.sluice .cross).state = .shut)
      ∧ (plant.gate .c1 .upper).state = .closed ∧ (plant.gate .c1 .lower).state = .closed ∧ plant.equalBodies .lp .c1 = true := by
  and_intros <;> first | decide +kernel | (intro e; cases e <;> decide +kernel)

theorem witness_ServiceOnInspectsTheChamber_ends :
    let s := withGate plant (gateAt .opened)
    ((s.gate .c1 .upper).state = .closed ∧ (s.gate .c1 .lower).state = .opened ∧ s.equalBodies .lp .c1 = true)
    ∧ (let s := high1.putGate .c1 .upper (gateAt .opened)
      (s.gate .c1 .upper).state = .opened ∧ (s.gate .c1 .lower).state = .closed ∧ s.equalBodies .up .c1 = true)
    ∧ (high1.gate .c1 .upper).state = .closed ∧ (high1.gate .c1 .lower).state = .closed ∧ high1.equalBodies .lp .c1 = false
      ∧ high1.equalBodies .up .c1 = true := by decide +kernel

theorem witness_ServiceOnInspectsTheChamber_refused :
    (let s := { plant with store.defaulted := true }
    s.takes .tc ∧ s.holder .c1 = some .tc ∧ s.chamberPresent .c1 = true ∧ s.store.defaulted = true)
    ∧ (held1.takes .tc ∧ held1.holder .c1 = some .tc ∧ (held1.chamber .c1).state ≠ .outOfService)
    ∧ let s := (withGate plant (gateAt .opened)).putGate .c1 .upper (gateAt .opened)
      s.takes .tc ∧ s.holder .c1 = some .tc ∧ s.store.defaulted = false ∧ (s.chamber .c1).state = .outOfService
        ∧ (s.gate .c1 .upper).state = .opened ∧ (s.gate .c1 .lower).state = .opened := by decide +kernel

theorem witness_ServiceOnInspectsTheChamber_between :
    let s := (plant.setBody .c1 (goodBody 1400)).setPair (.across .lower .c1) .notEqual
    s.takes .tc ∧ s.holder .c1 = some .tc ∧ s.store.defaulted = false ∧ (s.chamber .c1).state = .outOfService
      ∧ (s.gate .c1 .upper).state = .closed ∧ (s.gate .c1 .lower).state = .closed ∧ s.equalBodies .lp .c1 = false
      ∧ s.equalBodies .up .c1 = false ∧ s.usableLevel .up = some 1706 ∧ s.usableLevel .lp = some 1018
      ∧ s.usableLevel .c1 = some 1400 ∧ (s.chamber .c1).mode = .automatic ∧ s.Calm
      ∧ s.pair (.across .lower .c1) ≠ .equalised ∧ (s.sluice (.chamber .c1 .lower)).step = some 0
      ∧ 0 < s.headLimit (.chamber .c1 .lower) ∧ s.judge (.sluice (.chamber .c1 .lower)) (.move 1) = none
      ∧ ((with1 s { mode := .directed }).chamber .c1).mode = .directed := by decide +kernel

theorem witness_ServiceOnInspectsTheChamber_stray :
    let s := withGate (withSluice plant { state := .held, step := some 3 }) { state := .stalled, lastMove := some .opn }
    s.takes .tc ∧ s.holder .c1 = some .tc ∧ s.chamberPresent .c1 = true ∧ s.store.defaulted = false
      ∧ (s.chamber .c1).state = .outOfService ∧ (s.gate .c1 .lower).state = .stalled
      ∧ (s.sluice (.chamber .c1 .upper)).state = .held ∧ s.Calm := by decide +kernel

theorem witness_ServiceOffLeavesAndUnbinds :
    (held1.takes .tc ∧ held1.holder .c1 = some .tc ∧ held1.chamberPresent .c1 = true
        ∧ (held1.chamber .c1).state ≠ .outOfService ∧ held1.Calm ∧ held1.CrossFree ∧ held1.batch .c1 = none
        ∧ (held1.chamber .c1).water = none)
      ∧ (∀ e, (held1.gate .c1 e).state ≠ .opening ∧ (held1.gate .c1 e).state ≠ .closing)
      ∧ ∀ e, (held1.sluice (.chamber .c1 e)).state = .shut ∧ (held1.sluice (.chamber .c1 e)).step = some 0
        ∧ (held1.sluice (.chamber .c1 e)).ramp = none := by
  refine ⟨by decide +kernel, ?_, ?_⟩ <;> (intro e; cases e <;> decide +kernel)

theorem witness_ServiceOffLeavesAndUnbinds_batch :
    let s := carrying .bound .lowShut
    (s.takes .tc ∧ s.holder .c1 = some .tc ∧ s.chamberPresent .c1 = true ∧ (s.chamber .c1).state ≠ .outOfService ∧ s.Calm
        ∧ s.CrossFree ∧ (s.chamber .c1).water = none ∧ s.batch .c1 = some (batch52 .bound) ∧ (batch52 .bound).fill = none
        ∧ s.available (Chamber.other .c1) = false)
      ∧ (∀ e, (s.gate .c1 e).state ≠ .opening ∧ (s.gate .c1 e).state ≠ .closing)
      ∧ (∀ e, (s.sluice (.chamber .c1 e)).state = .shut ∧ (s.sluice (.chamber .c1 e)).step = some 0
        ∧ (s.sluice (.chamber .c1 e)).ramp = none)
      ∧ (∀ m ∈ (batch52 .bound).members, ∃ o, s.book.find m.order = some o ∧ o.slot = m.slot)
      ∧ ∀ o ∈ s.book.orders, ∀ m ∈ (batch52 .bound).members, o.number = m.order → o.slot = m.slot := by
  refine ⟨by decide +kernel, ?_, ?_, found_of _ _ (by decide +kernel), by decide +kernel⟩ <;>
    (intro e; cases e <;> decide +kernel)

theorem witness_ServiceOffLeavesAndUnbinds_cross :
    let r : CrossRec := ⟨.c1, ⟨some 1020, some 1705⟩, ⟨none, none⟩, none, ⟨false, false⟩⟩
    (crossing.takes .tc ∧ crossing.holder .c1 = some .tc ∧ crossing.chamberPresent .c1 = true
        ∧ (crossing.chamber .c1).state ≠ .outOfService ∧ crossing.Calm ∧ crossing.batch .c1 = none
        ∧ crossing.arbiter.owner = .engaged ∧ crossing.arbiter.record = some r ∧ r.delivered.get .c1 = false
        ∧ crossing.arbiter.wishes = ⟨none, none⟩ ∧ (crossing.sluice .cross).state = .held
        ∧ (crossing.sluice .cross).step = some (3 + 1))
      ∧ ((crossSetOff crossing 8).sluice .cross).state = .moving
      ∧ ((crossSetOff crossing 8).sluice .cross).target = some (.step (7 + 1)) := by decide +kernel

theorem witness_ServiceOffLeavesAndUnbinds_refused :
    (plant.takes .tc ∧ plant.holder .c1 = some .tc ∧ plant.chamberPresent .c1 = true ∧ (plant.chamber .c1).state = .outOfService)
    ∧ let s := carrying .entering .lowOpen
      s.takes .tc ∧ s.holder .c1 = some .tc ∧ s.chamberPresent .c1 = true ∧ (s.chamber .c1).state ≠ .outOfService
        ∧ s.batch .c1 = some (batch52 .entering) ∧ (batch52 .entering).state ≠ .bound := by decide +kernel

/-- Chamber 1 halted in its lower shut state. -/
def halted1 : State :=
  let c : Sequencer := { state := .halted, mode := .directed, interrupted := some .lowShut, haltCause := some .request }
  with1 plant c

theorem witness_ModeAndResume :
    (held1.takes .tc ∧ held1.holder .c1 = some .tc ∧ held1.chamberPresent .c1 = true ∧ held1.Calm ∧ held1.batch .c1 = none
        ∧ held1.book.lists = ⟨[], []⟩ ∧ (held1.chamber .c1).mode = .directed ∧ (held1.chamber .c1).mode ≠ .automatic
        ∧ (held1.chamber .c1).state ≠ .halted)
      ∧ halted1.takes .tc ∧ halted1.holder .c1 = some .tc ∧ halted1.chamberPresent .c1 = true
      ∧ (halted1.chamber .c1).state = .halted ∧ (halted1.chamber .c1).interrupted = some .lowShut
      ∧ ChamberState.lowShut.rest.isSome = true ∧ halted1.Calm ∧ halted1.batch .c1 = none ∧ halted1.book.lists = ⟨[], []⟩ := by
  decide +kernel

/-- What each row of R41's table asks of a DIRECTED chamber with batch 52. -/
abbrev Held52 (s : State) (x : BatchState) : Prop :=
  s.takes .tc ∧ s.holder .c1 = some .tc ∧ s.chamberPresent .c1 = true ∧ s.Calm ∧ (s.chamber .c1).mode = .directed
    ∧ s.batch .c1 = some (batch52 x)

theorem witness_ModeAndResume_directed :
    let s := with1 (carrying .bound .lowShut) { state := .lowShut, pendingOrder := some (.lower, .i1) }
    s.takes .tc ∧ s.holder .c1 = some .tc ∧ s.chamberPresent .c1 = true ∧ s.Calm ∧ (s.chamber .c1).mode = .automatic
      ∧ s.batch .c1 = some (batch52 .bound) := by decide +kernel

theorem witness_ModeAndResume_open :
    (Held52 (carrying .entering .lowOpen) .entering ∧ ((carrying .entering .lowOpen).chamber .c1).state = openState .lower)
      ∧ (Held52 (carrying .bound .lowOpen) .bound ∧ (batch52 .bound).direction.entryEnd = .lower
        ∧ ((carrying .bound .lowOpen).chamber .c1).state = openState .lower)
      ∧ (Held52 (carrying .secured .highOpen) .secured ∧ (batch52 .secured).direction.exitEnd = .upper
        ∧ ((carrying .secured .highOpen).chamber .c1).state = openState .upper)
      ∧ let s := withGate (carrying .secured .lowOpen) (gateAt .opened)
        Held52 s .secured ∧ (batch52 .secured).direction.exitEnd = Side.other .lower ∧ (s.chamber .c1).state = openState .lower
          ∧ (s.gate .c1 .lower).state = .opened := by decide +kernel

theorem witness_ModeAndResume_shut :
    (Held52 (carrying .leaving .lowShut) .leaving ∧ ((carrying .leaving .lowShut).chamber .c1).state = shutState .lower)
      ∧ (let s := carrying .bound .lowShut
        Held52 s .bound ∧ (s.chamber .c1).state = shutState .lower ∧ (s.gate .c1 .lower).state ≠ .opening
          ∧ (s.gate .c1 .lower).state ≠ .opened ∧ s.judge (.gate .c1 .lower) .opn = none)
      ∧ (let s := carrying .secured .highShut
        Held52 s .secured ∧ (s.chamber .c1).state = shutState .upper ∧ (s.gate .c1 .upper).state ≠ .opening
          ∧ (s.gate .c1 .upper).state ≠ .opened ∧ s.judge (.gate .c1 .upper) .opn = some .i1)
      ∧ let s := { carrying .secured .lowShut with loaded := ⟨true, false⟩ }
        Held52 s .secured ∧ (s.chamber .c1).state = shutState .lower ∧ s.crossPresent = false
          ∧ s.pair (.across (WaterKind.side .fill) .c1) ≠ .equalised
          ∧ (s.sluice (.chamber .c1 (WaterKind.side .fill))).state = .shut
          ∧ (s.sluice (.chamber .c1 (WaterKind.side .fill))).step = some 0
          ∧ 0 < s.headLimit (.chamber .c1 (WaterKind.side .fill))
          ∧ s.judge (.sluice (.chamber .c1 (WaterKind.side .fill))) (.move 1) = none := by decide +kernel

theorem witness_ModeAndResume_declined :
    let declines := fun s : State =>
      Held52 s .secured ∧ (s.chamber .c1).state = shutState .lower ∧ s.crossPresent = true
        ∧ s.pair (.across (WaterKind.side .fill) .c1) ≠ .equalised ∧ (s.sluice (.chamber .c1 .upper)).state = .shut
        ∧ (s.sluice (.chamber .c1 .upper)).step = some 0 ∧ 0 < s.headLimit (.chamber .c1 .upper)
        ∧ s.judge (.sluice (.chamber .c1 .upper)) (.move 1) = none
    (declines (carrying .secured .lowShut) ∧ ((carrying .secured .lowShut).chamber .c2).state = .outOfService)
      ∧ let s := { (carrying .secured .lowShut).setChamber .c2 { state := .lowShut } with settings.crossWait := 0 }
        declines s ∧ s.settings.crossWait = 0 ∧ s.wish .c2 = none := by decide +kernel

/-- Chamber 1 halted in `c`, with the lower gate as given. -/
def haltedAt (c : ChamberState) (m : Mode) (g : GateState) : State :=
  with1 (withGate plant (gateAt g)) { state := .halted, mode := m, interrupted := some c, haltCause := some .request }

/-- What every clause of RESUME asks. -/
abbrev Resuming (s : State) (c : ChamberState) : Prop :=
  s.takes .tc ∧ s.holder .c1 = some .tc ∧ s.chamberPresent .c1 = true ∧ (s.chamber .c1).state = .halted
    ∧ (s.chamber .c1).interrupted = some c ∧ s.Calm

theorem witness_ResumeContinuesTheInterruptedStep_gate :
    (Resuming (haltedAt .lowClosing .automatic .closing) (closingState .lower)
        ∧ Resuming (haltedAt .lowClosing .directed .closed) (closingState .lower)
        ∧ Resuming (haltedAt .lowClosing .automatic .stalled) (closingState .lower))
      ∧ (let s := haltedAt .lowOpening .directed .opened
        Resuming s (openingState .lower) ∧ s.pair (.across .lower .c1) = .equalised ∧ (s.gate .c1 .lower).state = .opened
          ∧ (s.chamber .c1).mode = .directed ∧ s.batch .c1 = none)
      ∧ (let s := haltedAt .lowOpening .automatic .stopped
        Resuming s (openingState .lower) ∧ s.pair (.across .lower .c1) = .equalised ∧ (s.gate .c1 .lower).state ≠ .opening
          ∧ (s.gate .c1 .lower).state ≠ .opened ∧ s.judge (.gate .c1 .lower) .opn = none)
      ∧ let s := withSluice (haltedAt .lowOpening .directed .stopped) { state := .held, step := some 1 }
        Resuming s (openingState .lower) ∧ s.pair (.across .lower .c1) = .equalised
          ∧ s.judge (.gate .c1 .lower) .opn = some .i1 := by
  refine ⟨?_, ?_, ?_, ?_⟩ <;> decide +kernel

theorem witness_ResumeContinuesTheInterruptedStep_water :
    let rests := fun s : State =>
      (s.sluice (.chamber .c1 .upper)).state = .shut ∧ (s.sluice (.chamber .c1 .upper)).step = some 0
        ∧ 0 < s.headLimit (.chamber .c1 .upper) ∧ s.pair (.across .upper .c1) ≠ .equalised
    (Resuming (haltedAt .highOpening .directed .closed) (openingState .upper)
        ∧ (let s := haltedAt .highOpening .automatic .closed
          Resuming s (openingState .upper) ∧ rests s ∧ s.judge (.sluice (.chamber .c1 .upper)) (.move 1) = none))
      ∧ (let s := haltedAt .fillWait .directed .closed
        Resuming s (WaterKind.wait .fill) ∧ rests s ∧ s.judge (.sluice (.chamber .c1 .upper)) (.move 1) = none)
      ∧ (Resuming (haltedAt .fillCross .directed .closed) (WaterKind.cross .fill) ∧ rests (haltedAt .fillCross .directed .closed))
      ∧ (let s := haltedAt .fill .directed .stopped
        Resuming s (WaterKind.phase .fill) ∧ rests s ∧ s.judge (.sluice (.chamber .c1 .upper)) (.move 1) = some .i2)
      ∧ let s := haltedAt .fill .automatic .stopped
        Resuming s (WaterKind.phase .fill) ∧ rests s ∧ s.judge (.sluice (.chamber .c1 .upper)) (.move 1) = some .i2 := by
  refine ⟨?_, ?_, ?_, ?_, ?_⟩ <;> decide +kernel

theorem witness_TimersSetTheirFlags :
    let s := with1 plant { state := .fill, phase := some ⟨90000, 900000⟩ }
    (s.Calm ∧ (s.chamber .c1).phase = some ⟨90000, 900000⟩ ∧ (s.chamber .c1).slowRaised = false)
    ∧ (let s := carrying .leaving .highOpen
      s.Calm ∧ (s.chamber .c1).entry = some 120000 ∧ (s.chamber .c1).leave = some ⟨110000, 130000⟩
        ∧ (s.chamber .c1).clearOut = false)
    ∧ harbour.Calm ∧ harbour.book.timer = some 102000 ∧ ∀ c, harbour.available c = false := by
  and_intros <;> first | decide +kernel | (intro c; cases c <;> decide +kernel)

/-- The harbour with chamber 1 available, its lower gate OPEN, and `n` frames of 4 words in the journal. -/
def ready (n : Nat) : State :=
  let s := with1 (withGate harbour (gateAt .opened)) { state := .lowOpen }
  { s with journal.frames := List.replicate n (.fault .linkLost .store none) }

/-- The same with every order bound DOWN, at a given time. -/
def turning (now : Nat) : State :=
  { ready 0 with
    now := now
    book.lists := ⟨[], harbour.book.lists.up.map (fun o => { o with direction := .down })⟩ }

/-- What the formation clauses ask of a state. -/
abbrev Forming (s : State) : Prop :=
  s.Calm ∧ s.book.timer = some 102000 ∧ s.available .c1 = true ∧ s.available (Chamber.other .c1) = false
    ∧ (s.chamber .c1).state = openState .lower ∧ s.depth = some 378 ∧ ∀ o ∈ s.book.orders, o.entered ≤ s.now

theorem witness_TimersSetTheirFlags_formation :
    (let s := ready 0
    Forming s ∧ (s.scan .c1 378 (s.book.lists.get .up) {}).members ≠ [] ∧ s.anySubscriber = true
      ∧ 16 * (s.scan .c1 378 (s.book.lists.get .up) {}).members.length + 36 ≤ s.availableWords)
      ∧ let s := ready 1000
        Forming s ∧ (s.scan .c1 378 (s.book.lists.get .up) {}).members ≠ [] ∧ s.anySubscriber = true
          ∧ s.availableWords < 16 * (s.scan .c1 378 (s.book.lists.get .up) {}).members.length + 36 := by decide +kernel

theorem witness_TimersSetTheirFlags_turn :
    let oldest := { waiting 301 1 with direction := .down }
    (let s := turning 100000
    Forming s ∧ (s.scan .c1 378 (s.book.lists.get .up) {}).members = [] ∧ oldest ∈ s.book.lists.get .down
      ∧ oldest.state = .waiting
      ∧ (∀ y ∈ s.book.lists.get .down, y.state = .waiting → y ≠ oldest → oldest.sequence < y.sequence)
      ∧ max s.now 102000 < oldest.entered + seconds s.settings.turnWait)
      ∧ let s := turning 350000
        Forming s ∧ (s.scan .c1 378 (s.book.lists.get .up) {}).members = []
          ∧ oldest.entered + seconds s.settings.turnWait ≤ max s.now 102000
          ∧ (s.scan .c1 378 (s.book.lists.get .down) {}).members ≠ [] ∧ s.anySubscriber = true
          ∧ 16 * (s.scan .c1 378 (s.book.lists.get .down) {}).members.length + 36 ≤ s.availableWords
          ∧ (s.gate .c1 .lower).state = .opened := by decide +kernel

theorem witness_HaltsShutTheChamber :
    let s := with1 opening1 { state := .lowOpening, mode := .directed }
    (s.takes .tc ∧ s.chamberPresent .c1 = true ∧ s.Calm ∧ s.CrossFree ∧ (s.chamber .c1).state ≠ .outOfService
        ∧ (s.chamber .c1).state ≠ .halted ∧ s.holder .c1 = some .tc ∧ (s.chamber .c1).mode = .directed
        ∧ (s.gate .c1 .lower).state = .opening)
    ∧ (let s := with1 plant { state := .fill, phase := some ⟨90000, 900000⟩, slowRaised := true }
      s.Calm ∧ s.CrossFree ∧ (s.chamber .c1).phase = some ⟨90000, 900000⟩ ∧ (s.chamber .c1).state ≠ .outOfService
        ∧ (s.chamber .c1).state ≠ .halted)
    ∧ (plant.takes .lc ∧ plant.chamberPresent .c1 = true ∧ (plant.chamber .c1).state = .outOfService)
    ∧ halted1.takes .lc ∧ (halted1.chamber .c1).state = .halted := by decide +kernel

/-- Chamber 1 DIRECTED at its lower shut state while its pair is not EQUALISED. -/
def unequal1 : State := held1.setPair (.across .lower .c1) .notEqual

/-- Chamber 1 DIRECTED with its lower gate OPEN, and the same with a batch ENTERING there. -/
def open1 : State := with1 (withGate plant (gateAt .opened)) { state := .lowOpen, mode := .directed }

def kept1 : State := withGate (carrying .entering .lowOpen) (gateAt .opened)

theorem witness_DirectedGatesMove :
    (held1.takes .tc ∧ held1.holder .c1 = some .tc ∧ held1.chamberPresent .c1 = true ∧ (held1.chamber .c1).mode = .directed
        ∧ held1.Calm ∧ (held1.chamber .c1).state = shutState .lower ∧ (held1.gate .c1 .lower).state ≠ .opening
        ∧ (held1.gate .c1 .lower).state ≠ .opened ∧ held1.judge (.gate .c1 .lower) .opn = none)
      ∧ (unequal1.takes .tc ∧ (unequal1.chamber .c1).state = shutState .lower ∧ (unequal1.chamber .c1).mode = .directed
        ∧ (unequal1.gate .c1 .lower).state ≠ .opening
        ∧ (unequal1.gate .c1 .lower).state ≠ .opened ∧ unequal1.judge (.gate .c1 .lower) .opn = some .i1)
      ∧ (open1.takes .tc ∧ (open1.chamber .c1).state = openState .lower ∧ (open1.chamber .c1).mode = .directed
        ∧ open1.gateKept .c1 .lower = false ∧ (open1.gate .c1 .lower).state = .opened)
      ∧ kept1.takes .tc ∧ kept1.holder .c1 = some .tc ∧ (kept1.chamber .c1).mode = .directed ∧ kept1.Calm
      ∧ (kept1.chamber .c1).state = openState .lower ∧ kept1.gateKept .c1 .lower = true := by decide +kernel

theorem witness_PhasesBeginAndEnd_fill :
    held1.Calm ∧ held1.pair (.across (WaterKind.side .fill) .c1) ≠ .equalised
      ∧ (held1.sluice (.chamber .c1 (WaterKind.side .fill))).state = .shut
      ∧ (held1.sluice (.chamber .c1 (WaterKind.side .fill))).step = some 0
      ∧ 0 < held1.headLimit (.chamber .c1 (WaterKind.side .fill))
      ∧ held1.judge (.sluice (.chamber .c1 (WaterKind.side .fill))) (.move 1) = none
      ∧ held1.takes .tc ∧ held1.holder .c1 = some .tc ∧ held1.chamberPresent .c1 = true ∧ (held1.chamber .c1).mode = .directed
      ∧ (held1.chamber .c1).state = (WaterKind.other .fill).ends := by decide +kernel

theorem witness_PhasesBeginAndEnd_empty :
    let s := (plant.setChamber .c2 { state := .highShut, mode := .directed })
    s.Calm ∧ s.pair (.across (WaterKind.side .empty) .c2) ≠ .equalised
      ∧ (s.sluice (.chamber .c2 (WaterKind.side .empty))).state = .shut
      ∧ (s.sluice (.chamber .c2 (WaterKind.side .empty))).step = some 0
      ∧ 0 < s.headLimit (.chamber .c2 (WaterKind.side .empty))
      ∧ s.judge (.sluice (.chamber .c2 (WaterKind.side .empty))) (.move 1) = none
      ∧ s.takes .uc ∧ s.holder .c2 = some .uc ∧ s.chamberPresent .c2 = true ∧ (s.chamber .c2).mode = .directed
      ∧ (s.chamber .c2).state = (WaterKind.other .empty).ends := by decide +kernel

theorem witness_PhasesBeginAndEnd_wish :
    let s := { with1 plant { state := .fillWait } with arbiter.wishes := ⟨some ⟨.fill, 150000⟩, none⟩ }
    s.Calm ∧ s.pair (.across (WaterKind.side .fill) .c1) ≠ .equalised
      ∧ (s.sluice (.chamber .c1 (WaterKind.side .fill))).state = .shut
      ∧ (s.sluice (.chamber .c1 (WaterKind.side .fill))).step = some 0
      ∧ 0 < s.headLimit (.chamber .c1 (WaterKind.side .fill))
      ∧ s.judge (.sluice (.chamber .c1 (WaterKind.side .fill))) (.move 1) = none
      ∧ s.wish .c1 = some ⟨.fill, 150000⟩ ∧ (⟨.fill, 150000⟩ : Wish).kind = .fill := by decide +kernel

/-- Chamber 1 filling, DIRECTED, with its water record, the upper sluice as given and polled for a report. -/
def ending1 (q : SluiceRec) (phase : Option PhaseTimer) : State :=
  let c : Sequencer := { state := .fill, mode := .directed, water := some ⟨.fill, none, some 1018, false, none⟩, phase := phase }
  asked (.sluice (.chamber .c1 .upper)) (with1 (withSluice plant q) c)

theorem witness_PhasesBeginAndEnd_settled :
    (let s := (ending1 { state := .held, step := some 8 } (some ⟨90000, 900000⟩)).setPair (.across .upper .c1) (.settling 98000)
    s.Calm ∧ s.NothingKept ∧ (s.chamber .c1).state = WaterKind.fill.phase ∧ s.pair (.across .upper .c1) = .settling 98000
      ∧ (s.chamber .c1).phase = some ⟨90000, 900000⟩ ∧ (s.sluice (.chamber .c1 .upper)).state = .held
      ∧ (s.sluice (.chamber .c1 .upper)).step ≠ some 0)
      ∧ let s := (ending1 shutSluice (some ⟨90000, 900000⟩)).setPair (.across .upper .c1) (.settling 98000)
        s.Calm ∧ s.NothingKept ∧ (s.chamber .c1).state = WaterKind.fill.phase ∧ s.pair (.across .upper .c1) = .settling 98000
          ∧ (s.chamber .c1).phase = some ⟨90000, 900000⟩ ∧ (s.sluice (.chamber .c1 .upper)).state = .shut
          ∧ (s.sluice (.chamber .c1 .upper)).step = some 0 ∧ (s.chamber .c1).mode = .directed ∧ s.batch .c1 = none := by
  refine ⟨⟨by decide +kernel, nothing_of _ (by decide +kernel), ?_⟩, by decide +kernel, nothing_of _ (by decide +kernel), ?_⟩
    <;> decide +kernel

/-- Chamber 1 filling, its sluice SHUT, at gauge B of a round that finds it level with the pound, EQ_SETTLE being 0. -/
def level1 : State :=
  let c : Sequencer :=
    { state := .fill, mode := .directed, phase := some ⟨90000, 900000⟩, water := some ⟨.fill, none, some 1018, false, none⟩ }
  with1 { polledB .notEqual 1706 [17010] with settings.eqSettle := 0 } c

theorem witness_PhasesBeginAndEnd_round :
    let t := after .noReply level1
    level1.levels.poll = some pollB ∧ pollB.gauge = .b ∧ exec .noReply level1 = .next t ∧ level1.Calm ∧ level1.CrossFree
      ∧ level1.settings.eqSettle = 0 ∧ (level1.chamber .c1).state = WaterKind.fill.phase ∧ (level1.chamber .c1).phase ≠ none
      ∧ (level1.chamber .c1).mode = .directed ∧ level1.batch .c1 = none
      ∧ (level1.chamber .c1).water = some ⟨.fill, none, some 1018, false, none⟩
      ∧ (level1.sluice (.chamber .c1 .upper)).state = .shut ∧ (level1.sluice (.chamber .c1 .upper)).step = some 0
      ∧ pollB.body = Chamber.c1.body ∧ level1.pair (.across .upper .c1) = .notEqual ∧ t.pair (.across .upper .c1) = .equalised
      ∧ (∀ e, (level1.gate .c1 e).state ≠ .opening) ∧ (level1.chamber (Chamber.other .c1)).phase = none
      ∧ (level1.body .c1).handedLevel = some 1700 ∧ (t.body .c1).handedLevel = some 1701
      ∧ 1701 ≤ (level1.settings.chamber.get .c1).topLevel := by
  and_intros <;> first | decide +kernel | rfl | (intro e; cases e <;> decide +kernel)

theorem witness_PhasesBeginAndEnd_report :
    let s := ending1 { state := .moving, step := some 1, target := some (.step 0), timer := some 120000 } none
    s.Calm ∧ s.NothingKept ∧ (s.chamber .c1).state = WaterKind.fill.phase ∧ (s.chamber .c1).phase = none
      ∧ s.drive.polls.head? = some (.sluice (.chamber .c1 .upper)) ∧ s.chamberPresent .c1 = true
      ∧ (s.sluice (.chamber .c1 .upper)).state = .moving ∧ (s.sluice (.chamber .c1 .upper)).target = some (.step 0)
      ∧ (s.sluice (.chamber .c1 .upper)).ramp = none ∧ (s.chamber .c1).mode = .directed ∧ s.batch .c1 = none := by
  refine ⟨by decide +kernel, nothing_of _ (by decide +kernel), ?_⟩
  decide +kernel

theorem witness_RampsOrderTheirSteps_directed :
    let s := with1 (withSluice (plant.setBody .c1 (goodBody 1020)) { state := .held, step := some 2 })
      { state := .fill, mode := .directed }
    (Side.upper = .upper ∧ SluiceChoice.upper = .upper) ∧ s.takes .tc ∧ s.holder .c1 = some .tc ∧ s.chamberPresent .c1 = true
      ∧ (s.chamber .c1).mode = .directed ∧ (s.chamber .c1).state ≠ .outOfService ∧ (s.chamber .c1).state ≠ .halted ∧ s.Calm
      ∧ 8 < 9 ∧ (s.sluice (.chamber .c1 .upper)).state = .held ∧ (s.sluice (.chamber .c1 .upper)).step ≠ some 0
      ∧ (s.chamber .c1).state = (kindAt .upper).phase ∧ (s.sluice (.chamber .c1 .upper)).step = some 2 ∧ 2 < 8 ∧ 8 ≤ 8
      ∧ 2 < s.headLimit (.chamber .c1 .upper) ∧ s.headLimit (.chamber .c1 .upper) < 8
      ∧ s.judge (.sluice (.chamber .c1 .upper)) (.move 3) = none := by decide +kernel

/-- Chamber 1 DIRECTED at its lower shut state, chamber 2 waiting to empty since its own offer. -/
def offering : State :=
  let s := held1.setChamber .c2 { state := .emptyWait }
  { s with
    levels.pairs := ⟨⟨.notEqual, .notEqual⟩, ⟨.notEqual, .notEqual⟩⟩
    arbiter.wishes := ⟨none, some ⟨.empty, 150000⟩⟩ }

theorem witness_CrossPhasesBeginAndEnd_offer :
    let s := held1.setChamber .c2 { state := .lowShut }
    s.Calm ∧ s.takes .tc ∧ s.holder .c1 = some .tc ∧ s.chamberPresent .c1 = true ∧ (s.chamber .c1).mode = .directed
      ∧ (s.chamber .c1).state = (WaterKind.other .fill).ends ∧ s.crossPresent = true
      ∧ (s.chamber (Chamber.other .c1)).state ≠ .outOfService ∧ (s.chamber (Chamber.other .c1)).state ≠ .halted
      ∧ s.arbiter.owner = .idle ∧ (s.sluice .cross).state = .shut ∧ (s.body .c1).handedState.usable = true
      ∧ (s.sluice (.chamber .c1 .upper)).ramp = none ∧ s.wish (Chamber.other .c1) = none ∧ s.settings.crossWait ≠ 0 := by
  decide +kernel

theorem witness_ServiceOffLeavesAndUnbinds_water :
    (let s := with1 opening1
        { state := .fill, mode := .directed, phase := some ⟨90000, 900000⟩, water := some ⟨.fill, none, some 1010, false, none⟩ }
    s.takes .tc ∧ s.holder .c1 = some .tc ∧ s.chamberPresent .c1 = true ∧ (s.chamber .c1).state ≠ .outOfService ∧ s.Calm
      ∧ s.batch .c1 = none ∧ s.arbiter.owner ≠ .engaged ∧ s.wish .c2 = none ∧ (s.gate .c1 .lower).state = .opening)
      ∧ let s := with1 offering { state := .emptyWait, water := some ⟨.empty, none, some 1018, false, none⟩ }
        s.takes .tc ∧ s.holder .c1 = some .tc ∧ (s.chamber .c1).state ≠ .outOfService ∧ s.Calm ∧ s.batch .c1 = none
          ∧ s.arbiter.owner ≠ .engaged ∧ s.wish .c2 = some ⟨.empty, 150000⟩
          ∧ s.pair (.across (WaterKind.side .empty) .c2) ≠ .equalised ∧ (s.sluice (.chamber .c2 .lower)).state = .shut
          ∧ (s.sluice (.chamber .c2 .lower)).step = some 0 ∧ 0 < s.headLimit (.chamber .c2 .lower)
          ∧ s.judge (.sluice (.chamber .c2 .lower)) (.move 1) = none := by decide +kernel

theorem witness_CrossPhasesBeginAndEnd_mode :
    let offers := fun s : State =>
      Held52 s .secured ∧ (batch52 .secured).direction.exitEnd = WaterKind.side .fill
        ∧ (s.chamber .c1).state = (WaterKind.other .fill).ends ∧ s.crossPresent = true
        ∧ (s.chamber .c2).state ≠ .outOfService ∧ (s.chamber .c2).state ≠ .halted ∧ s.arbiter.owner = .idle
        ∧ (s.sluice .cross).state = .shut ∧ (s.body .c1).handedState.usable = true
        ∧ (s.sluice (.chamber .c1 .upper)).ramp = none
    (let s := (carrying .secured .lowShut).setChamber .c2 { state := .lowShut }
    offers s ∧ s.wish .c2 = none ∧ s.settings.crossWait ≠ 0)
      ∧ let s := { (carrying .secured .lowShut).setChamber .c2 { state := .emptyWait } with
          levels.pairs := ⟨⟨.notEqual, .notEqual⟩, ⟨.notEqual, .notEqual⟩⟩
          arbiter.wishes := ⟨none, some ⟨.empty, 150000⟩⟩ }
        offers s ∧ s.wish .c2 = some ⟨.empty, 150000⟩ ∧ (s.body .c1).handedLevel = some 1018
          ∧ (s.body .c2).handedLevel = some 1705 ∧ 1018 + s.settings.crossMinGain ≤ projectedLevel 2280 1018 1254 1705 := by
  decide +kernel

theorem witness_CrossPhasesBeginAndEnd_match :
    (offering.Calm ∧ offering.takes .tc ∧ offering.holder .c1 = some .tc ∧ offering.chamberPresent .c1 = true
        ∧ (offering.chamber .c1).mode = .directed ∧ (offering.chamber .c1).state = (WaterKind.other .fill).ends
        ∧ offering.crossPresent = true ∧ (offering.chamber .c2).state ≠ .outOfService ∧ (offering.chamber .c2).state ≠ .halted
        ∧ offering.arbiter.owner = .idle ∧ (offering.sluice .cross).state = .shut
        ∧ (offering.body .c1).handedState.usable = true ∧ (offering.sluice (.chamber .c1 .upper)).ramp = none
        ∧ offering.wish .c2 = some ⟨.empty, 150000⟩ ∧ (offering.body .c1).handedLevel = some 1018
        ∧ (offering.body .c2).handedLevel = some 1705 ∧ (offering.body .c2).handedState.usable = true
        ∧ 1018 + offering.settings.crossMinGain ≤ projectedLevel 2280 1018 1254 1705 ∧ offering.pair .cross ≠ .equalised
        ∧ (offering.sluice .cross).step = some 0 ∧ 0 < offering.headLimit .cross)
      ∧ (∀ k e, (offering.gate k e).state = .closed) ∧ (∀ k e, (offering.sluice (.chamber k e)).state = .shut)
      ∧ let s := { offering with settings.crossMinGain := 300 }
        projectedLevel 2280 1018 1254 1705 < 1018 + s.settings.crossMinGain
          ∧ s.pair (.across (WaterKind.side .fill) .c1) ≠ .equalised
          ∧ s.pair (.across (WaterKind.side (WaterKind.other .fill)) .c2) ≠ .equalised
          ∧ (s.sluice (.chamber .c1 .upper)).state = .shut ∧ (s.sluice (.chamber .c1 .upper)).step = some 0
          ∧ 0 < s.headLimit (.chamber .c1 .upper) ∧ s.judge (.sluice (.chamber .c1 .upper)) (.move 1) = none := by
  refine ⟨by decide +kernel, ?_, ?_, by decide +kernel⟩ <;> (intro k e; cases k <;> cases e <;> decide +kernel)

theorem witness_CrossPhasesBeginAndEnd_end :
    let r : CrossRec := ⟨.c1, ⟨some 1020, some 1705⟩, ⟨none, none⟩, none, ⟨false, false⟩⟩
    (crossing.Calm ∧ crossing.arbiter.owner = .engaged ∧ crossing.arbiter.timer = some 700000 ∧ crossing.arbiter.record = some r
        ∧ (crossing.sluice .cross).state = .held ∧ (crossing.sluice .cross).step = some (3 + 1))
      ∧ (let s := crossing.putSluice .cross { state := .moving, step := some 4, target := some (.step 5), timer := some 120000 }
        s.Calm ∧ s.arbiter.owner = .engaged ∧ s.arbiter.record = some r ∧ (s.sluice .cross).state = .moving
          ∧ (s.sluice .cross).target = some (.step (4 + 1)))
      ∧ (let s := crossing.setPair .cross (.settling 98000)
        s.Calm ∧ s.arbiter.owner = .engaged ∧ s.arbiter.record = some r ∧ (s.sluice .cross).state = .held
          ∧ (s.sluice .cross).step = some (3 + 1) ∧ s.crossPresent = true ∧ s.pair .cross = .settling 98000)
      ∧ (crossing.takes .lc ∧ crossing.chamberPresent .c2 = true ∧ crossing.arbiter.wishes = ⟨none, none⟩
        ∧ r.delivered.get .c2 = false ∧ (crossing.chamber .c2).state = .emptyCross)
      ∧ (∀ e, (crossing.sluice (.chamber .c2 e)).state = .shut ∧ (crossing.sluice (.chamber .c2 e)).step = some 0
        ∧ (crossing.sluice (.chamber .c2 e)).ramp = none)
      ∧ ∀ e, (crossing.gate .c2 e).state ≠ .opening ∧ (crossing.gate .c2 e).state ≠ .closing := by
  and_intros <;> first | decide +kernel | (intro e; cases e <;> decide +kernel)

/-- The same phase at its start, the first step of its ramp refused, the cross sluice still SHUT. -/
def crossRefused : State :=
  let s := crossing.putSluice .cross { shutSluice with ramp := some ⟨.arbiter, 8, 1, none, true, .retry .i3⟩ }
  { (with1 s { s.chamber .c1 with water := some ⟨.fill, none, some 1020, false, none⟩ }) with
    levels.pairs := ⟨⟨.notEqual, .notEqual⟩, ⟨.notEqual, .notEqual⟩⟩ }

-- R72, R70, R18: chamber 2's halt ends the phase, and its sluice being SHUT chamber 1 leaves it for FILL in the same event.
theorem test_halt_crossShut :
    let t := after (.halt .lc .c2) crossRefused
    t.arbiter.owner = .idle ∧ (t.chamber .c1).state = .fill ∧ (t.chamber .c2).interrupted = some .emptyCross
      ∧ (t.chamber .c1).water.map (·.crossEnd) = some (some 1150) := by decide +kernel

-- R72: with both chambers DIRECTED by the station lost, chamber 1's halt sends chamber 2 on to EMPTY, where its own halt finds it.
theorem test_linkLost_crossShut :
    let s := { (with1 crossRefused { crossRefused.chamber .c1 with mode := .directed }).setChamber .c2
      { crossRefused.chamber .c2 with mode := .directed } with conduct := ⟨some .tc, some .tc⟩ }
    let t := after (.linkLost .tc) s
    (t.chamber .c1).interrupted = some .fillCross ∧ (t.chamber .c2).interrupted = some .empty := by decide +kernel

theorem witness_CrossPhasesBeginAndEnd_shut :
    let s := crossRefused
    let q := Sluice.chamber .c1 .upper
    (s.Calm ∧ s.takes .lc ∧ s.chamberPresent .c2 = true ∧ s.arbiter.owner = .engaged
        ∧ s.arbiter.record = some ⟨.c1, ⟨some 1020, some 1705⟩, ⟨none, none⟩, none, ⟨false, false⟩⟩
        ∧ s.arbiter.wishes = ⟨none, none⟩ ∧ (s.sluice .cross).state = .shut ∧ (s.sluice .cross).step = some 0
        ∧ (s.chamber .c1).state = .fillCross ∧ (s.chamber .c2).state = .emptyCross)
      ∧ (∀ e, (s.sluice (.chamber .c2 e)).state = .shut ∧ (s.sluice (.chamber .c2 e)).step = some 0
        ∧ (s.sluice (.chamber .c2 e)).ramp = none)
      ∧ (∀ e, (s.gate .c2 e).state ≠ .opening ∧ (s.gate .c2 e).state ≠ .closing)
      ∧ s.pair (.across (WaterKind.side .fill) .c1) ≠ .equalised ∧ (s.sluice q).state = .shut ∧ (s.sluice q).step = some 0
      ∧ 0 < s.headLimit q ∧ s.judge (.sluice q) (.move 1) = none := by
  and_intros <;> first | decide +kernel | (intro e; cases e <;> decide +kernel)

theorem witness_ServiceOffLeavesAndUnbinds_shut :
    let s := crossRefused
    let q := Sluice.chamber .c2 .lower
    s.takes .tc ∧ s.holder .c1 = some .tc ∧ s.chamberPresent .c1 = true ∧ (s.chamber .c1).state ≠ .outOfService ∧ s.Calm
      ∧ s.batch .c1 = none ∧ s.arbiter.owner = .engaged ∧ (s.chamber .c2).state = WaterKind.empty.cross
      ∧ s.pair (.across (WaterKind.side .empty) .c2) ≠ .equalised ∧ (s.sluice q).state = .shut ∧ (s.sluice q).step = some 0
      ∧ 0 < s.headLimit q ∧ s.judge (.sluice q) (.move 1) = none := by
  decide +kernel

theorem witness_CrossPhasesBeginAndEnd_equalised :
    let s := offering.setPair .cross .equalised
    let kindOf := fun c => if c = Chamber.c1 then WaterKind.fill else .empty
    (1018 + s.settings.crossMinGain ≤ projectedLevel 2280 1018 1254 1705 ∧ s.pair .cross = .equalised
        ∧ (s.sluice .cross).step = some 0)
      ∧ ∀ c, let q := Sluice.chamber c (kindOf c).side
        s.pair (.across (kindOf c).side c) ≠ .equalised ∧ (s.sluice q).state = .shut ∧ (s.sluice q).step = some 0
          ∧ 0 < s.headLimit q ∧ s.judge (.sluice q) (.move 1) = none := by
  refine ⟨by decide +kernel, fun c => ?_⟩
  cases c <;> decide +kernel

/-- The same phase at its end, the cross sluice on its way to 0. -/
def crossEnding : State :=
  let s := crossing.putSluice .cross { state := .moving, step := some 4, target := some (.step 0), timer := some 120000 }
  { asked (.sluice .cross) s with
    levels.pairs := ⟨⟨.notEqual, .notEqual⟩, ⟨.notEqual, .notEqual⟩⟩
    arbiter := ⟨.ending, ⟨none, none⟩, none, some ⟨.c1, ⟨some 1020, some 1705⟩, ⟨some 1150, some 1470⟩, some .limit, ⟨false, false⟩⟩⟩ }

theorem witness_CrossPhasesBeginAndEnd_delivery :
    (crossEnding.Calm ∧ crossEnding.NothingKept ∧ crossEnding.crossPresent = true ∧ crossEnding.arbiter.owner = .ending
        ∧ crossEnding.arbiter.record
          = some ⟨.c1, ⟨some 1020, some 1705⟩, ⟨some 1150, some 1470⟩, some .limit, ⟨false, false⟩⟩
        ∧ crossEnding.drive.polls.head? = some (.sluice .cross) ∧ (crossEnding.sluice .cross).state = .moving
        ∧ (crossEnding.sluice .cross).target = some (.step 0) ∧ (crossEnding.sluice .cross).ramp = none)
      ∧ ∀ k, crossEnding.pair (.across (if k = Chamber.c1 then WaterKind.fill else .empty).side k) ≠ .equalised := by
  refine ⟨⟨by decide +kernel, nothing_of _ (by decide +kernel), ?_⟩, ?_⟩
  · decide +kernel
  · intro k
    cases k <;> decide +kernel

theorem witness_EnterOrderJoinsTheBook :
    (searching.takes .lc ∧ 9 < 128 ∧ searching.book.orders.length < 32 ∧ (searching.vessel 9).state ≠ .free
        ∧ (searching.vessel 9).order = none ∧ searching.fits (searching.vessel 9) = true ∧ searching.Calm)
      ∧ (∀ k, searching.available k = false)
      ∧ let s := searching.setVessel 127 (ship tessel 1 1950 100 100 100 none)
        s.takes .lc ∧ 127 < 128 ∧ s.book.orders.length < 32 ∧ (s.vessel 127).state ≠ .free ∧ (s.vessel 127).order = none
          ∧ s.fits (s.vessel 127) = false := by
  refine ⟨by decide +kernel, ?_, by decide +kernel⟩
  intro k
  cases k <;> decide +kernel

theorem witness_EnterOrderJoinsTheBook_sorted :
    harbour.book.lists.up.Pairwise (fun x y => x.before y = true) ∧ ∀ x ∈ harbour.book.lists.up, x.sequence < 309 := by
  decide +kernel

theorem witness_CancelOrderLeavesTheBook :
    let o := { waiting 307 7 with state := .blocked .held }
    (harbour.takes .lc ∧ harbour.book.find o.number = some o ∧ o.slot < 128 ∧ o.state.isBound = false ∧ harbour.Calm)
    ∧ let s := carrying .secured .highShut
      let o := { waiting 301 1 with state := .bound 52 }
      s.takes .lc ∧ s.book.find o.number = some o ∧ o.slot < 128 ∧ o.state = .bound (batch52 .secured).number
        ∧ s.batch .c1 = some (batch52 .secured) ∧ s.batch (Chamber.other .c1) = none ∧ (batch52 .secured).state = .secured := by
  decide +kernel

theorem witness_CancelOrderLeavesTheBook_noOrder : harbour.takes .lc ∧ harbour.book.find 999 = none := by decide +kernel

theorem witness_CancelOrderLeavesTheBook_member :
    let o := { waiting 301 1 with state := .bound 52 }
    let m := memberOf (waiting 301 1) (harbour.vessel 1) 1
    (let s := carrying .entering .lowOpen
    let b := batch52 .entering
    s.takes .lc ∧ s.book.find o.number = some o ∧ o.slot < 128 ∧ o.state = .bound b.number ∧ s.batch .c1 = some b
      ∧ s.batch (Chamber.other .c1) = none ∧ b.state = .entering ∧ s.Calm ∧ m ∈ b.members ∧ m.order = o.number
      ∧ (∀ x ∈ b.members, x.order = o.number → x = m) ∧ b.members.filter (fun x => decide (x.order ≠ o.number)) ≠ [])
      ∧ let s := single .entering .lowOpen
        let b := { batch52 .entering with members := [m], rows := [⟨800, 114⟩], reserve := 52 }
        s.takes .lc ∧ s.book.find o.number = some o ∧ s.batch .c1 = some b ∧ s.batch (Chamber.other .c1) = none
          ∧ b.state = .entering ∧ s.Calm ∧ (∀ x ∈ b.members, x.order = o.number → x = m)
          ∧ b.members.filter (fun x => decide (x.order ≠ o.number)) = [] ∧ b.fill = none ∧ (s.chamber .c1).mode = .directed := by
  decide +kernel

theorem witness_EveryScanFitsItsChamber : (harbour.scan .c1 378 harbour.book.lists.up {}).rows ≠ [] := by decide +kernel

theorem witness_BindMakesTheBatch :
    let s := with1 harbour { state := .lowShut, mode := .directed }
    let c := s.scan .c1 378 (s.book.lists.get .up) {}
    s.takes .tc ∧ s.holder .c1 = some .tc ∧ s.chamberPresent .c1 = true ∧ (s.chamber .c1).mode = .directed
      ∧ (s.chamber .c1).state = shutState .lower ∧ s.Calm ∧ s.batch .c1 = none ∧ s.depth = some 378 ∧ s.anySubscriber = true
      ∧ c.members ≠ [] ∧ 16 * c.members.length + 36 ≤ s.availableWords := by decide +kernel

/-- A journal without a batch's reserve fits when its frames do. -/
theorem fits_of (s : State) (h : s.used + s.reserved ≤ 4096 ∧ s.batch .c1 = none ∧ s.batch .c2 = none) : s.JournalFits := by
  refine ⟨h.1, ?_⟩
  intro k b hb
  cases k
  · rw [h.2.1] at hb
    cases hb
  · rw [h.2.2] at hb
    cases hb

theorem witness_BindMakesTheBatch_deferred :
    let scan := fun s : State => (s.scan .c1 378 (s.book.lists.get .up) {}).members
    let waits := fun n : Nat => { ready n with book.deferred := ⟨true, false⟩ }
    let s := waits 1010
    let t := after (.readJournal .tc) s
    (s.takes .tc ∧ s.agenda = [] ∧ s.book.deferred = (⟨false, false⟩ : PerChamber Bool).set .c1 true ∧ s.available .c1 = true
        ∧ (s.chamber .c1).state = openState .lower ∧ s.depth = some 378 ∧ exec (.readJournal .tc) s = .next t
        ∧ t.anySubscriber = true ∧ scan s ≠ [] ∧ t.used < s.used ∧ 16 * (scan s).length + 36 + t.used + s.reserved ≤ 4096)
      ∧ s.JournalFits
      ∧ let s := waits 1022
        let t := after (.readJournal .tc) s
        s.takes .tc ∧ s.available .c1 = true ∧ exec (.readJournal .tc) s = .next t ∧ t.anySubscriber = true
          ∧ t.used < s.used ∧ 4096 < 16 * (scan s).length + 36 + t.used + s.reserved ∧ s.JournalFits := by
  refine ⟨⟨?_, ?_, ?_, ?_, ?_, ?_, rfl, ?_⟩, fits_of _ ?_, ?_, ?_, rfl, ?_, ?_, ?_, fits_of _ ?_⟩ <;> decide +kernel

/-- A binding deferred, UC at `n` of 1,010 frames and TC at none: what TC's UNSUBSCRIBE frees is up to UC. -/
def deferring (n : Nat) : State :=
  { ready 1010 with book.deferred := ⟨true, false⟩, journal.subscribers := ⟨some ⟨n, 2048⟩, none, some ⟨0, 2048⟩⟩ }

-- The words left make the batch's 100 fit exactly, and one frame more does not.
theorem witness_BindMakesTheBatch_freed :
    let frees := fun n : Nat =>
      let t := after (.unsubscribe .tc .tc) (deferring n)
      (deferring n).takes .tc ∧ (deferring n).agenda = []
        ∧ (deferring n).book.deferred = (⟨false, false⟩ : PerChamber Bool).set .c1 true ∧ (deferring n).available .c1 = true
        ∧ exec (.unsubscribe .tc .tc) (deferring n) = .next t ∧ t.anySubscriber = true ∧ t.used < (deferring n).used
    let words := fun n : Nat => 16 * ((deferring n).scan .c1 378 ((deferring n).book.lists.get .up) {}).members.length + 36
      + (after (.unsubscribe .tc .tc) (deferring n)).used + (deferring n).reserved
    ((deferring 11).JournalFits ∧ frees 11 ∧ words 11 = 4096) ∧ (deferring 10).JournalFits ∧ frees 10 ∧ words 10 = 4100 := by
  refine ⟨⟨fits_of _ ?_, ⟨?_, ?_, ?_, ?_, rfl, ?_⟩, ?_⟩, fits_of _ ?_, ⟨?_, ?_, ?_, ?_, rfl, ?_⟩, ?_⟩ <;> decide +kernel

theorem witness_ConfirmInSecuresTheBatch :
    let s := carrying .entering .lowOpen
    let b := batch52 .entering
    (s.takes .tc ∧ s.holder .c1 = some .tc ∧ s.chamberPresent .c1 = true ∧ (s.chamber .c1).mode = .directed
        ∧ (s.chamber .c1).state = openState b.direction.entryEnd ∧ s.Calm ∧ s.batch .c1 = some b ∧ b.state = .entering
        ∧ b.members ≠ [] ∧ b.fill = none ∧ s.time = none)
    ∧ let s := { held1 with conduct := ⟨none, none⟩ }
      s.takes .lc ∧ s.holder .c1 = none ∧ s.chamberPresent .c1 = true ∧ s.batch .c1 = none := by decide +kernel

theorem witness_ConfirmInSecuresTheBatch_set :
    let s := carrying .entering .lowOpen
    let b := batch52 .entering
    ((∃ n ∈ [301, 302], ∀ m ∈ b.members, m.order ≠ n) ∧ s.available (Chamber.other .c1) = false
        ∧ (b.members.map (·.order)).Nodup)
      ∧ (∀ n ∈ [301, 304, 305], ∃ m ∈ b.members, m.order = n)
      ∧ (∀ m ∈ b.members, s.book.find m.order ≠ none ∧ ∀ o ∈ s.book.orders, o.number = m.order → o.slot = m.slot)
      ∧ s.anySubscriber = true ∧ 6 * 1 ≤ s.availableWords
      ∧ b.members.filter (fun m => decide (m.order ∈ [301, 304, 305])) ≠ []
      ∧ b.members.filter (fun m => decide (m.order ∈ ([] : List Nat))) = [] := by decide +kernel

theorem witness_ConfirmClearSettlesTheMember :
    let s := single .leaving .highOpen
    let m := memberOf (waiting 301 1) (harbour.vessel 1) 1
    let o := { waiting 301 1 with state := .bound 52 }
    let b := { batch52 .leaving with members := [m], rows := [⟨800, 114⟩], reserve := 52 }
    s.takes .tc ∧ s.holder .c1 = some .tc ∧ s.chamberPresent .c1 = true ∧ (s.chamber .c1).mode = .directed ∧ s.Calm
      ∧ s.batch .c1 = some b ∧ b.state = .leaving ∧ b.members = [m] ∧ m.slot < 128 ∧ s.book.find m.order = some o
      ∧ o.slot = m.slot ∧ o.state = .bound b.number ∧ (s.vessel m.slot).order = some m.order
      ∧ (s.vessel m.slot).state = .active := by decide +kernel

/-- The harbour with batch 52 in chamber 1, which ends a fill or an empty. -/
def drawing (x : BatchState) (kind : WaterKind) (b : Option Nat) : State :=
  let s := (carrying x .fill).setChamber .c1
    { state := kind.phase, mode := .directed, water := some ⟨kind, b, some 1018, true, some 1261⟩ }
  let s := s.putSluice (.chamber .c1 kind.side) { state := .moving, step := some 1, target := some (.step 0), timer := some 120000 }
  asked (.sluice (.chamber .c1 kind.side)) (s.setBody .c1 (goodBody 1704))

theorem witness_FillsAreChargedAndShared :
    (let s := drawing .secured .fill (some 52)
    s.Calm ∧ s.NothingKept ∧ s.chamberPresent .c1 = true ∧ (s.chamber .c1).state = WaterKind.fill.phase
      ∧ (s.chamber .c1).phase = none ∧ (s.chamber .c1).mode = .directed
      ∧ (s.chamber .c1).water = some ⟨.fill, some 52, some 1018, true, some 1261⟩
      ∧ s.drive.polls.head? = some (.sluice (.chamber .c1 .upper)) ∧ (s.sluice (.chamber .c1 .upper)).state = .moving
      ∧ (s.sluice (.chamber .c1 .upper)).target = some (.step 0) ∧ (s.sluice (.chamber .c1 .upper)).ramp = none
      ∧ s.batch .c1 = some (batch52 .secured) ∧ (batch52 .secured).number = 52 ∧ (batch52 .secured).fill = none)
      ∧ (let s := drawing .bound .empty (some 52)
        s.Calm ∧ s.NothingKept ∧ (s.chamber .c1).state = WaterKind.empty.phase
          ∧ (s.chamber .c1).water = some ⟨.empty, some 52, some 1018, true, some 1261⟩
          ∧ s.drive.polls.head? = some (.sluice (.chamber .c1 .lower)) ∧ (s.sluice (.chamber .c1 .lower)).state = .moving
          ∧ s.batch .c1 = some (batch52 .bound) ∧ (batch52 .bound).number = 52 ∧ (batch52 .bound).empty = none)
      ∧ (let s := (drawing .bound .empty none).setBatch .c1 none
        s.Calm ∧ s.NothingKept ∧ (s.chamber .c1).state = WaterKind.empty.phase
          ∧ (s.chamber .c1).water = some ⟨.empty, none, some 1018, true, some 1261⟩
          ∧ s.drive.polls.head? = some (.sluice (.chamber .c1 .lower)) ∧ (s.sluice (.chamber .c1 .lower)).state = .moving
          ∧ s.batch .c1 = none)
      ∧ (let s := (carrying .entering .lowOpen).setBatch .c1 (some (filled52 .entering))
        s.Calm ∧ s.takes .tc ∧ s.holder .c1 = some .tc ∧ s.chamberPresent .c1 = true ∧ (s.chamber .c1).mode = .directed
          ∧ s.batch .c1 = some (filled52 .entering) ∧ (filled52 .entering).members ≠ []
          ∧ (s.chamber .c1).state = openState (filled52 .entering).direction.entryEnd)
      ∧ let s := (carrying .secured .halted).setBatch .c1 (some (filled52 .secured))
        s.Calm ∧ s.takes .tc ∧ s.holder .c1 = some .tc ∧ (s.chamber .c1).mode = .directed
          ∧ s.batch .c1 = some (filled52 .secured) ∧ (filled52 .secured).members ≠ [] ∧ (s.chamber .c1).state = .halted := by
  refine ⟨⟨by decide +kernel, nothing_of _ (by decide +kernel), ?_⟩, ⟨by decide +kernel, nothing_of _ (by decide +kernel), ?_⟩,
    ⟨by decide +kernel, nothing_of _ (by decide +kernel), ?_⟩, ?_, ?_⟩ <;> decide +kernel

theorem witness_AbandonBatchCancelsItsOrders :
    let s := carrying .secured .halted
    (s.takes .tc ∧ s.holder .c1 = some .tc ∧ s.chamberPresent .c1 = true ∧ s.Calm ∧ (s.chamber .c1).state = .halted
        ∧ s.batch .c1 = some (batch52 .secured) ∧ (batch52 .secured).fill = none)
    ∧ (halted1.takes .tc ∧ halted1.holder .c1 = some .tc ∧ halted1.chamberPresent .c1 = true ∧ halted1.batch .c1 = none)
    ∧ let s := carrying .secured .highShut
      s.takes .tc ∧ s.holder .c1 = some .tc ∧ (s.chamber .c1).state ≠ .halted := by decide +kernel

/-- Arguments at the ends of their ranges. -/
def widest : VesselArgs := ⟨korva 53 53, 65535, 4000, 300, 600, 20000, 1, 4000000000⟩

theorem witness_RegisterAddsDeletesAndFinds_add :
    searching.takes .uc ∧ markOk widest.mark = true ∧ widest.operator ≤ 65535 ∧ (50 ≤ widest.length ∧ widest.length ≤ 4000)
      ∧ (20 ≤ widest.beam ∧ widest.beam ≤ 300) ∧ (30 ≤ widest.draught ∧ widest.draught ≤ 600) ∧ widest.deadweight ≤ 20000
      ∧ widest.exempt ≤ 1 ∧ widest.ceiling ≤ 4000000000 ∧ 0 < 128
      ∧ (∀ j, j < 128 → (searching.vessel j).state ≠ .free → (searching.vessel j).mark ≠ widest.mark)
      ∧ (searching.vessel 0).state = .free ∧ ∀ j, j < 0 → (searching.vessel j).state ≠ .free := by decide +kernel

theorem witness_RegisterAddsDeletesAndFinds_duplicate :
    let m := (searching.vessel 9).mark
    markOk m = true ∧ 9 < 128 ∧ (searching.vessel 9).state ≠ .free
      ∧ ∀ j, j < 9 → (searching.vessel j).state ≠ .free → (searching.vessel j).mark ≠ m := by decide +kernel

/-- A register with a vessel in every slot. -/
def fullRegister : State := { plant with vessels := Vector.replicate 128 (ship tessel 1 500 50 100 100 none) }

theorem witness_RegisterAddsDeletesAndFinds_full :
    fullRegister.takes .uc ∧ ∀ j, j < 128 → (fullRegister.vessel j).state ≠ .free ∧ (fullRegister.vessel j).mark ≠ widest.mark := by
  decide +kernel

theorem witness_RegisterAddsDeletesAndFinds_rest :
    ((searching.vessel 22).state ≠ .free ∧ (searching.vessel 22).order = none)
      ∧ ((harbour.vessel 1).state ≠ .free ∧ (harbour.vessel 1).order = some 301)
      ∧ (let s := after (.seek .uc seekKorva) searching
        s.takes .uc ∧ (s.station .uc).context = some ⟨seekKorva, some 3⟩)
      ∧ (searching.station .uc).context = none := by decide +kernel

/-- A mark may hold this character. -/
abbrev MarkCharacter (x : Byte) : Prop := 65 ≤ x.toNat ∧ x.toNat ≤ 90 ∨ 48 ≤ x.toNat ∧ x.toNat ≤ 57 ∨ x.toNat = 32

theorem witness_RegisterAddsDeletesAndFinds_keys :
    (¬∃ (n : Nat) (x : Byte), seekKorva.care[n]? = some true ∧ seekKorva.key[n]? = some x ∧ ¬MarkCharacter x)
      ∧ ∃ (n : Nat) (x : Byte), [true][n]? = some true ∧ [0x6B#8][n]? = some x ∧ ¬MarkCharacter x := by
  refine ⟨?_, 0, 0x6B#8, by decide⟩
  rintro ⟨n, x, hc, hk, hx⟩
  have key : ∀ y ∈ seekKorva.key, MarkCharacter y := by decide
  exact hx (key x (List.mem_of_getElem? hk))

theorem witness_HoldsBlockAndReleasesReturn :
    (harbour.takes .uc ∧ 1 < 128 ∧ harbour.Calm ∧ (harbour.vessel 1).state = .active)
      ∧ ((harbour.vessel 7).state = .held .station ∧ (harbour.vessel 7).ceiling = 0)
      ∧ (∀ k, harbour.available k = false)
      ∧ (let s := after (.hold .tc 17) ceilingShip
        s.takes .uc ∧ s.Calm ∧ (s.vessel 17).state = .held .station ∧ (s.vessel 17).ceiling ≠ 0
          ∧ (s.vessel 17).ceiling ≤ (s.vessel 17).total)
      ∧ (let s := ceilingShip.setVessel 17 { ceilingShip.vessel 17 with order := none }
        s.takes .tc ∧ s.Calm ∧ 4000000000 ≤ 4000000000 ∧ (s.vessel 17).state = .held .ceiling ∧ (s.vessel 17).order = none
          ∧ (s.vessel 17).total - 4000000000 < (s.vessel 17).ceiling)
      ∧ Station.uc ≠ .tc := by
  and_intros <;> first | decide +kernel | (intro k; cases k <;> decide +kernel)

theorem witness_HoldsBlockAndReleasesReturn_refused :
    plant.takes .uc ∧ 127 < 128 ∧ plant.Calm ∧ (plant.vessel 127).state = .free ∧ 128 ≤ 128
      ∧ ceilingShip.takes .uc ∧ ceilingShip.Calm ∧ (ceilingShip.vessel 17).state = .held .ceiling := by decide +kernel

theorem witness_RegisterAddsDeletesAndFinds_delete :
    searching.takes .tc ∧ 128 ≤ 128 ∧ 127 < 128 ∧ (searching.vessel 127).state = .free := by decide +kernel

theorem witness_WindowsReadAndMove :
    plant.takes .uc
      ∧ (collectionOf 0 = some .vessels ∧ 127 ≤ Collection.vessels.lastIndex ∧ 0 < 15 ∧ 15 ≤ 15
        ∧ 15 ≤ Collection.vessels.fieldCount 127)
      ∧ (collectionOf 3 = some .settings ∧ 10 ≤ Collection.settings.lastIndex) ∧ 3 < 4
      ∧ let w := (plant.station .uc).window
        0 < 14 ∧ 14 ≤ w.collection.fieldCount w.cursor ∧ w.counter + 14 ≤ min w.last (w.collection.fieldCount w.cursor) := by
  decide +kernel

theorem witness_WritesAreBroughtIntoRange :
    let data : List Byte := [0xFF, 0xFF, 0xFF, 0xFF]
    let s := { plant with stations.tc.window := ⟨.tariffStandby, 0, .up, 1, 13, 6⟩ }
    (plant.takes .tc ∧ plant.Calm ∧ 1 ≤ 1 ∧ 1 ≤ 13 ∧ data.length = 4 ∧ (data.take 2).length = 2 ∧ (data.take 1).length = 1)
      ∧ (s.takes .tc ∧ s.Calm ∧ (s.station .tc).window.collection = .tariffStandby ∧ (s.station .tc).window.counter = 6
        ∧ 6 < (s.station .tc).window.last ∧ (s.station .tc).window.last ≤ 13)
      ∧ (data.take 3).length ≠ 4 ∧ Station.uc ≠ .tc ∧ plant.takes .uc := by decide +kernel

theorem witness_WritesAreBroughtIntoRange_vessel :
    let mark := korva 53 53
    (searching.takes .uc ∧ (∀ k, searching.available k = false) ∧ mark.length = 8 ∧ markOk mark = true)
      ∧ ((searching.vessel 0).state = .free ∧ (searching.vessel 22).state ≠ .free)
      ∧ (¬(50 ≤ bytesNat [0, 49] ∧ bytesNat [0, 49] ≤ 4000) ∧ 20 ≤ bytesNat [0, 20] ∧ bytesNat [0, 20] ≤ 300)
      ∧ ((searching.vessel 9).mark = tessel ∧ (searching.vessel 9).state ≠ .free ∧ markOk tessel = true
        ∧ ∀ m, m < 9 → m ≠ 22 → (searching.vessel m).state ≠ .free → (searching.vessel m).mark ≠ tessel)
      ∧ (searching.Calm ∧ ∀ j, j < 128 → j ≠ 22 → (searching.vessel j).state ≠ .free → (searching.vessel j).mark ≠ mark)
      ∧ (let w : Window := ⟨.vessels, 22, .up, 1, 15, 10⟩
        let s := { searching with stations.uc.window := w }
        s.takes .uc ∧ (s.station .uc).window = w ∧ w.collection = .vessels ∧ w.cursor = 22 ∧ 10 < w.last ∧ w.last ≤ 15)
      ∧ (let s := searching.setVessel 22 { ship tessel 1 500 50 100 100 none with total := 200 }
        (s.vessel 22).state = .active ∧ bytesNat [0, 0, 0, 200] ≠ 0 ∧ bytesNat [0, 0, 0, 200] ≤ (s.vessel 22).total) := by
  and_intros <;> first | decide +kernel | (intro k; cases k <;> decide +kernel)

theorem witness_SettingsWritesTakeEffect :
    (plant.takes .tc ∧ plant.Calm ∧ settingKept 0 16 (bytesNat [9]) = some 8 ∧ [9].length = settingBytes 0 16
        ∧ settingKept 10 1 (bytesNat [0xFE, 0x0B]) = some 0xFE0C ∧ ([0xFE, 0x0B] : List Byte).length = settingBytes 10 1
        ∧ settingKept 0 31 (bytesNat [0, 1]) = some 10 ∧ settingKept 0 26 (bytesNat [0, 8]) = some 7)
      ∧ ([0] : List Byte).length ≠ settingBytes 0 26 ∧ (plant.takes .uc ∧ Station.uc ≠ .tc)
      ∧ let s := plant.setPair .cross (.settling 98000)
        s.takes .tc ∧ s.Calm ∧ settingKept 0 6 (bytesNat [0, 2]) = some 2 ∧ s.NothingKept
          ∧ (∀ k, (s.chamber k).phase = none) ∧ s.arbiter.owner ≠ .engaged ∧ s.pair .cross = .settling 98000
          ∧ 98000 + seconds 2 ≤ s.now := by
  refine ⟨?_, ?_, ?_, ?_, ?_, ?_, nothing_of _ ?_, ?_, ?_⟩
    <;> first | decide +kernel | (intro k; cases k <;> decide +kernel)

theorem witness_SettingsWritesTakeEffect_room :
    harbour.takes .tc ∧ harbour.Calm ∧ settingKept 2 2 (bytesNat [0, 40]) = some 40 ∧ harbour.chamberPresent .c2 = true
      ∧ 2 = chamberRecord .c2 ∧ 40 ≠ (harbour.settings.chamber.get .c2).usableWidth ∧ harbour.BookInOrder
      ∧ ∀ k, harbour.available k = false := by
  and_intros <;> first | decide +kernel | (intro k; cases k <;> decide +kernel)

theorem witness_LampsAreProvedAndTested :
    (plant.chamberPresent .c1 = true ∧ ((plant.generator .a).on = true)
        ∧ ({ plant with loaded := ⟨false, true⟩ } : State).chamberPresent .c2 = false)
      ∧ (let s := plant.setLamp ⟨.c1, .el, .redA⟩ { proven := true, output := .lit, since := some 100000 }
        s.Calm ∧ s.chamberPresent .c1 = true ∧ (s.lamp ⟨.c1, .el, .redA⟩).since = some 100000
          ∧ (s.lamp ⟨.c1, .el, .redA⟩).proven = true ∧ s.signals.tests.get .c1 = none
          ∧ s.lights (s.lamp ⟨.c1, .el, .redA⟩).output = true)
      ∧ (let s := plant.setLamp ⟨.c1, .el, .redA⟩ { proven := true, output := .flashing .b, count := 200 }
        (s.lamp ⟨.c1, .el, .redA⟩).since = none ∧ 200 ≤ (s.lamp ⟨.c1, .el, .redA⟩).count
          ∧ (s.lamp ⟨.c1, .el, .redA⟩).proven = true ∧ s.Calm)
      ∧ (plant.takes .lc ∧ plant.Calm ∧ (plant.chamber .c1).state = .outOfService)
      ∧ (held1.takes .lc ∧ (held1.chamber .c1).state ≠ .outOfService)
      ∧ (let s := after (.lampTest .lc .c1) plant
        s.Calm ∧ s.signals.tests.get .c1 = some 105000)
      ∧ ({ plant with signals.genA := ⟨false, 100500, 500, 500⟩ }.generator .a).on = false := by decide +kernel

/-- Chamber 1's lower gate OPEN for batch 52, its signals derived. -/
def entering52 : State := (withGate (carrying .entering .lowOpen) (gateAt .opened)).derive

theorem witness_GoIsShownOnlyWhenSafe :
    entering52.SignalsCurrent
      ∧ ((entering52.signals.aspects.get .c1).get .el).shown = .go ∧ entering52.signals.tests.get .c1 = none
      ∧ (entering52.derive.lamp ⟨.c1, .el, .green⟩).output ≠ .dark
      ∧ ((entering52.signals.aspects.get .c1).get .xu).shown = .stop := by
  and_intros <;> first | decide +kernel | (intro k; cases k <;> decide +kernel)

theorem witness_TariffSwapsAndClockTicks :
    plant.takes .tc ∧ 65535 ≤ 65535 ∧ 86399 ≤ 86399 ∧ 65535 < 65536 ∧ 86399 < 86400 ∧ (Station.lc ≠ .tc ∧ plant.takes .lc)
      ∧ ({ plant with clock := some ⟨⟨65535, 86399⟩, 100500⟩ } : State).clock = some ⟨⟨65535, 86399⟩, 100500⟩ := by decide +kernel

theorem witness_JournalTakesAndFreesFrames_reading :
    let s := { plant with journal.frames := List.replicate 15 (.fault .linkLost .store none), journal.subscribers.uc := some ⟨3, 100⟩ }
    s.takes .tc ∧ s.Calm ∧ s.takes .lc ∧ s.subscriber .lc = none ∧ s.subscriber .tc = some ⟨0, 2048⟩
      ∧ s.subscriber .uc = some ⟨3, 100⟩ ∧ s.takes .uc := by decide +kernel

theorem witness_TalliesAndSiteAreReadAndCleared : plant.takes .lc ∧ plant.takes .tc ∧ plant.takes .uc ∧ Station.uc ≠ .tc := by
  decide +kernel

theorem witness_SharesAddUpAndDuesAreCapped :
    0 < [91200, 48450, 19380].sum ∧ ([91200, 48450, 19380] : List Nat)[2]? = some 19380 := by decide

/-- READ NOTICES as a frame, and one of a code that names no request. -/
def frameOf (code : Byte) : List Byte := [1, code] ++ halfBytes (crc16 [1, code]).toNat

theorem witness_LinkFramesAreTakenOrCounted :
    (255 < 256 ∧ (List.replicate 249 (0 : Byte)).length ≤ 249)
      ∧ ((plant.station .uc).rate ≠ .silent ∧ (plant.station .uc).service = .idle ∧ (plant.station .uc).receiver = .hunting)
      ∧ goodFrame (frameOf 0x60) = some (0x60, []) ∧ (requestOf .uc [] 0x60).isSome = true
      ∧ goodFrame (frameOf 0x7F) = some (0x7F, []) ∧ requestOf .uc [] 0x7F = none ∧ goodFrame [1, 0x60, 0, 0] = none
      ∧ (let s := { plant with stations.uc.service := .serving, stations.uc.busy := List.replicate 8 0x60 }
        (s.station .uc).service ≠ .idle ∧ (s.station .uc).rate ≠ .silent ∧ Station.uc ≠ .tc)
      ∧ ({ plant with stations.uc.rate := .silent }.station .uc).rate = .silent := by
  and_intros <;> decide +kernel

theorem witness_ConductIsClaimedReleasedAndLost :
    (plant.takes .uc ∧ plant.takes .tc ∧ plant.Calm ∧ plant.chamberPresent .c1 = true ∧ plant.holder .c1 = some .tc
        ∧ plant.holder .c2 = some .uc ∧ plant.holder .c2 ≠ some .lc ∧ Station.uc ≠ .lc ∧ plant.takes .lc
        ∧ plant.chamberMoving .c2 = false)
      ∧ (let s := { plant with conduct := ⟨none, none⟩ }
        s.takes .uc ∧ s.Calm ∧ s.holder .c1 = none)
      ∧ (let s := { opening1 with conduct := ⟨some .uc, none⟩ }
        s.takes .lc ∧ s.Calm ∧ s.holder .c1 = some .uc ∧ s.chamberMoving .c1 = true)
      ∧ ((plant.station .tc).link = .present ∧ (plant.station .tc).silence = some 104000)
      ∧ ∀ k, plant.holder k = some .tc → (plant.chamber k).mode = .automatic := by
  and_intros <;> first | decide +kernel | (intro k; cases k <;> decide +kernel)

theorem witness_ConductIsClaimedReleasedAndLost_refused :
    (let s := { plant with loaded := ⟨false, false⟩ }
    s.takes .uc ∧ s.chamberPresent .c2 = false)
      ∧ (plant.takes .lc ∧ plant.chamberPresent .c2 = true ∧ plant.holder .c2 = some .uc ∧ Station.uc ≠ .lc ∧ Station.lc ≠ .tc
        ∧ Station.tc ≠ .lc)
      ∧ let s := { plant with conduct := ⟨none, none⟩ }
        s.takes .lc ∧ s.chamberPresent .c1 = true ∧ s.holder .c1 = none := by decide +kernel

theorem witness_ConductIsClaimedReleasedAndLost_directed :
    held1.Calm ∧ (held1.station .tc).link = .present ∧ (held1.station .tc).silence = some 104000 ∧ held1.CrossFree
      ∧ held1.holder .c1 = some .tc ∧ (held1.chamber .c1).mode = .directed ∧ (held1.chamber .c1).state.live = true
      ∧ held1.holder .c2 ≠ some .tc := by decide +kernel

theorem witness_NoticesDriveTheAttentionLine :
    plant.takes .uc ∧ (plant.station .uc).attention = .level
      ∧ (let s := { plant with stations.uc.attention := .pulse, stations.uc.pulse := some 100010 }
        s.takes .uc ∧ (s.station .uc).attention = .pulse ∧ (s.station .uc).pulse = some 100010) := by decide +kernel

theorem witness_NoticesDriveTheAttentionLine_raised :
    let s := { carrying .entering .lowOpen with
      stations.lc.attention := .pulse, stations.lc.notices := [.entryOverdue], stations.tc.attention := .pulse
      stations.tc.enabled := [.fault] }
    s.Calm ∧ (s.chamber .c1).entry = some 120000 ∧ (s.chamber .c1).leave.map (·.expiry) = some 130000
      ∧ (.entryOverdue ∉ (s.station .uc).notices ∧ (s.station .uc).attention = .level)
      ∧ (.entryOverdue ∈ (s.station .lc).notices ∧ .leaveOverdue ∉ (s.station .lc).notices ∧ (s.station .lc).attention = .pulse
        ∧ .leaveOverdue ∈ (s.station .lc).enabled)
      ∧ .leaveOverdue ∉ (s.station .tc).notices ∧ (s.station .tc).attention = .pulse ∧ .leaveOverdue ∉ (s.station .tc).enabled := by
  decide +kernel

theorem witness_StoreKeepsTheSettings :
    (plant.takes .tc ∧ ∀ k, (plant.chamber k).state = .outOfService ∨ (plant.chamber k).state.rest.isSome = true)
      ∧ (let s := with1 plant { state := .fill }
        s.takes .tc ∧ (s.chamber .c1).state ≠ .outOfService ∧ (s.chamber .c1).state.rest = none)
      ∧ (Station.lc ≠ .tc ∧ plant.takes .lc)
      ∧ ({ plant with store.storing := some ⟨{}, {}, {}⟩ } : State).store.storing = some ⟨{}, {}, {}⟩
      ∧ plant.settings.quietSoft = false := by
  and_intros <;> first | decide +kernel | (intro k; cases k <;> decide +kernel)

end Sys2Proof.Tests
end

section
/-! SUPPORT. The interlock (R28, R29): what each position test and each clause says of the state, the verdict on each order that
can be refused, and the proof that the clauses are applied as R29 gives them. -/

namespace Sys2Proof

theorem Chamber.forall_iff {p : Chamber → Prop} : (∀ k, p k) ↔ p .c1 ∧ p .c2 :=
  ⟨fun h => ⟨h .c1, h .c2⟩, fun ⟨h1, h2⟩ k => by cases k <;> assumption⟩

theorem Side.forall_iff {p : Side → Prop} : (∀ e, p e) ↔ p .upper ∧ p .lower :=
  ⟨fun h => ⟨h .upper, h .lower⟩, fun ⟨hu, hl⟩ e => by cases e <;> assumption⟩

end Sys2Proof

namespace Sys2Proof.Machine

/-! ## The position tests -/

@[simp] theorem State.gateClosed_iff (s : State) (k : Chamber) (e : Side) :
    s.gateClosed k e = true ↔ (s.gate k e).state = .closed := decide_eq_true_iff

@[simp] theorem State.gatesClosed_iff (s : State) (k : Chamber) :
    s.gatesClosed k = true ↔ ∀ e, (s.gate k e).state = .closed := by
  rw [Side.forall_iff, State.gatesClosed, Bool.and_eq_true, s.gateClosed_iff, s.gateClosed_iff]

@[simp] theorem State.sluiceShut_iff (s : State) (q : Sluice) : s.sluiceShut q = true ↔ (s.sluice q).state = .shut :=
  decide_eq_true_iff

@[simp] theorem State.crossShut_iff (s : State) :
    s.crossShut = true ↔ (s.crossPresent = true → (s.sluice .cross).state = .shut) := by
  cases h : s.crossPresent <;> simp [State.crossShut, h]

@[simp] theorem State.pairEqualised_iff (s : State) (p : Pair) : s.pairEqualised p = true ↔ s.pair p = .equalised :=
  decide_eq_true_iff

theorem State.usableLevel_eq_some_iff (s : State) (b : Body) (h : Nat) :
    s.usableLevel b = some h ↔ (s.body b).handedLevel = some h ∧ (s.body b).handedState.usable = true := by
  rw [State.usableLevel, State.usable, State.level, Option.ite_none_right_eq_some, and_comm]

/-! ## The clauses (R29), with the UNKNOWN forms of R19 and R27 -/

theorem State.clause1_iff (s : State) (k : Chamber) (e : Side) :
    s.clause1 k e = true ↔ (s.gate k e).state ≠ .unknown
      ∧ (s.gate k e.other).state = .closed ∧ (∀ i, (s.sluice (.chamber k i)).state = .shut)
      ∧ (s.crossPresent = true → (s.sluice .cross).state = .shut) ∧ s.pair (.across e k) = .equalised := by
  simp [State.clause1, Side.forall_iff, and_assoc]

theorem State.clause2_iff (s : State) (k : Chamber) (e : Side) :
    s.clause2 k e = true ↔ (s.sluice (.chamber k e)).state ≠ .unknown
      ∧ (∀ i, (s.gate k i).state = .closed) ∧ (s.sluice (.chamber k e.other)).state = .shut
      ∧ (s.crossPresent = true → (s.sluice .cross).state = .shut)
      ∧ (e = .upper → (s.body k.body).handedState.usable = true) := by
  cases e <;> simp [State.clause2, State.usable, and_assoc]

theorem State.clause3_iff (s : State) :
    s.clause3 = true ↔ (s.sluice .cross).state ≠ .unknown
      ∧ (∀ k e, (s.gate k e).state = .closed) ∧ (∀ k e, (s.sluice (.chamber k e)).state = .shut)
      ∧ s.arbiter.owner = .engaged := by
  simp [State.clause3, State.sluice, Chamber.forall_iff, Side.forall_iff, and_assoc]

theorem State.clause4_iff (s : State) (k : Chamber) :
    s.clause4 k = true ↔ ∃ h, (s.body k.body).handedLevel = some h ∧ (s.body k.body).handedState.usable = true
      ∧ h + s.settings.eqBand < (s.settings.chamber.get k).topLevel := by
  have test : s.clause4 k = true ↔
      ∃ h, s.usableLevel k.body = some h ∧ h + s.settings.eqBand < (s.settings.chamber.get k).topLevel := by
    unfold State.clause4
    cases s.usableLevel k.body <;> simp
  simp only [test, s.usableLevel_eq_some_iff, and_assoc]

/-! ## The verdicts -/

theorem State.judge_gateOpen (s : State) (k : Chamber) (e : Side) :
    s.judge (.gate k e) .opn = if s.clause1 k e then none else some .i1 := rfl

/-- An upper sluice must pass I4 besides I2, a lower one I2 alone. -/
theorem State.judge_chamberMove (s : State) (k : Chamber) (e : Side) (n : Nat) :
    s.judge (.sluice (.chamber k e)) (.move (n + 1)) =
      if s.clause2 k e then (if e = .upper → s.clause4 k then none else some .i4) else some .i2 := by
  cases e
  · simp [State.judge]
  · simp [State.judge]

theorem State.judge_crossMove (s : State) (n : Nat) :
    s.judge (.sluice .cross) (.move (n + 1)) = if s.clause3 then none else some .i3 := rfl

/-- I5 passes every CLOSE, STOP and MOVE to 0. -/
theorem State.judge_harmless (s : State) (a : Actuator) :
    s.judge a .cls = none ∧ s.judge a .stop = none ∧ s.judge a (.move 0) = none := by
  rcases a with ⟨k, e⟩ | ⟨k, e⟩ | _
  · exact ⟨rfl, rfl, rfl⟩
  · cases e <;> exact ⟨rfl, rfl, rfl⟩
  · exact ⟨rfl, rfl, rfl⟩

/-- Settles O25: each verdict is an `if` over its clauses, and of an actuator that is not UNKNOWN each clause is exactly the
conditions R29 lists. -/
theorem interlockAppliesItsClauses : Obligations.InterlockAppliesItsClauses := by
  intro s
  refine ⟨fun k e => ?gate, fun k e n => ?chamberSluice, fun n => ?crossSluice, s.judge_harmless⟩
  case gate =>
    intro passes1
    rw [s.judge_gateOpen]
    refine ⟨fun unknown => ?_, fun known => ?_⟩
    · simp [s.clause1_iff, unknown]
    · have clause : s.clause1 k e = true ↔ passes1 := (s.clause1_iff k e).trans (and_iff_right known)
      rw [← clause]
      cases s.clause1 k e <;> simp
  case chamberSluice =>
    intro passes2 passes4 verdict
    have hv : verdict = _ := s.judge_chamberMove k e n
    rw [hv]
    refine ⟨fun unknown => ?_, fun known => ?_⟩
    · simp [s.clause2_iff, unknown]
    · have clause : s.clause2 k e = true ↔ passes2 := (s.clause2_iff k e).trans (and_iff_right known)
      have level : (e = .upper → s.clause4 k = true) ↔ passes4 := imp_congr_right fun _ => s.clause4_iff k
      rw [← clause, ← level]
      cases s.clause2 k e
      · simp
      · by_cases below : e = .upper → s.clause4 k = true <;> simp [below]
  case crossSluice =>
    intro passes3 verdict
    have hv : verdict = _ := s.judge_crossMove n
    rw [hv]
    refine ⟨fun unknown => ?_, fun known => ?_⟩
    · simp [s.clause3_iff, unknown]
    · have clause : s.clause3 = true ↔ passes3 := s.clause3_iff.trans (and_iff_right known)
      rw [← clause]
      cases s.clause3 <;> simp

end Sys2Proof.Machine
end

section
/-! SUPPORT. The sharing of a charge and a member's dues (R138, R141, R142): the places of the members by remainder run from 0
without a gap, so exactly as many members get one cent more as the floor shares leave cents over. -/

namespace Sys2Proof.Machine

/-! ## Lists with their positions, and counts -/

theorem zipIdx_nodup {α : Type} (l : List α) : l.zipIdx.Nodup :=
  List.Nodup.of_map Prod.snd (by simp [List.nodup_range'])

theorem map_zipIdx_fst {α β : Type} (f : α → β) (l : List α) : l.zipIdx.map (fun p => f p.1) = l.map f := by
  conv_rhs => rw [← List.zipIdx_map_fst 0 l, List.map_map, Function.comp_def]

theorem sum_map_ite_one {α : Type} (p : α → Prop) [DecidablePred p] (l : List α) :
    (l.map fun x => if p x then 1 else 0).sum = l.countP p := by
  induction l with
  | nil => rfl
  | cons x l ih => simp [List.countP_cons, ih, Nat.add_comm]

theorem sum_le_mul_countP_pos {l : List Nat} {bound : Nat} (le : ∀ x ∈ l, x ≤ bound) :
    l.sum ≤ bound * l.countP (0 < ·) := by
  induction l with
  | nil => simp
  | cons x l ih =>
    obtain ⟨hx, hl⟩ := List.forall_mem_cons.mp le
    have tail := ih hl
    rcases Nat.eq_zero_or_pos x with rfl | pos
    · simpa using tail
    · simp only [List.sum_cons, List.countP_cons, pos, decide_true, if_true, Nat.mul_add, Nat.mul_one]
      omega

/-! ## Places in a strict order -/

section
variable {α : Type} [LinearOrder α]

theorem countP_place_lt_of_sorted {l : List α} (sorted : l.Pairwise (· < ·)) (n : Nat) :
    l.countP (fun x => l.countP (· < x) < n) = min n l.length := by
  induction l generalizing n with
  | nil => simp
  | cons a l ih =>
    obtain ⟨least, sorted⟩ := List.pairwise_cons.mp sorted
    cases n with
    | zero => simp
    | succ n =>
      have head : l.countP (· < a) = 0 := by simpa [List.countP_eq_zero] using fun x hx => (least x hx).le
      have tail : l.countP (fun x => (a :: l).countP (· < x) < n + 1) = l.countP (fun x => l.countP (· < x) < n) :=
        List.countP_congr fun x hx => by simp [least x hx]
      rw [List.countP_cons, tail, ih sorted]
      simp [head]

/-- In a list without repeats, the numbers of elements below each element are 0, 1, 2 and so on. -/
theorem countP_place_lt {l : List α} (nodup : l.Nodup) (n : Nat) :
    l.countP (fun x => l.countP (· < x) < n) = min n l.length := by
  have perm := List.perm_insertionSort (· ≤ ·) l
  have sorted : (l.insertionSort (· ≤ ·)).Pairwise (· < ·) :=
    (List.sortedLE_insertionSort.sortedLT_of_nodup (perm.nodup_iff.mpr nodup)).pairwise
  rw [← perm.length_eq, ← countP_place_lt_of_sorted sorted n, ← perm.countP_eq]
  simp only [perm.countP_eq]

end

/-! ## The order of R138 -/

/-- R138: a remainder and a position, ordered as the members get the cents left over: larger remainders first, then lower
positions. -/
def shareKey (p : Nat × Nat) : ℕᵒᵈ ×ₗ Nat := toLex (OrderDual.toDual p.1, p.2)

theorem shareKey_injective : Function.Injective shareKey := fun p q h => by simpa [shareKey, Prod.ext_iff] using h

theorem shareKey_lt_iff (p q : Nat × Nat) : shareKey q < shareKey p ↔ p.1 < q.1 ∨ (p.1 = q.1 ∧ q.2 < p.2) := by
  simp [shareKey, Prod.Lex.toLex_lt_toLex, eq_comm]

theorem sharesAhead_eq_countP (rems : List Nat) (i r : Nat) :
    sharesAhead rems i r = (rems.zipIdx.map shareKey).countP (· < shareKey (r, i)) := by
  simp [sharesAhead, List.countP_eq_length_filter, shareKey_lt_iff, List.filter_map, Function.comp_def, eq_comm]

/-- Exactly `n` members have fewer than `n` ahead of them, when there are that many. -/
theorem countP_sharesAhead_lt (rems : List Nat) (n : Nat) :
    rems.zipIdx.countP (fun p => sharesAhead rems p.2 p.1 < n) = min n rems.length := by
  have places := countP_place_lt ((zipIdx_nodup rems).map shareKey_injective) n
  simpa [List.countP_map, Function.comp_def, sharesAhead_eq_countP] using places

/-- Every member with a remainder is ahead of one without. -/
theorem countP_pos_le_sharesAhead_zero (rems : List Nat) (i : Nat) :
    rems.countP (0 < ·) ≤ sharesAhead rems i 0 := by
  calc rems.countP (0 < ·)
    _ = rems.zipIdx.countP (fun p => 0 < p.1) := by
      conv_lhs => rw [← List.zipIdx_map_fst 0 rems, List.countP_map, Function.comp_def]
    _ ≤ rems.zipIdx.countP (fun p => 0 < p.1 ∨ (p.1 = 0 ∧ p.2 < i)) :=
      List.countP_mono_left fun p _ hp => by simpa using .inl (of_decide_eq_true hp)
    _ = sharesAhead rems i 0 := List.countP_eq_length_filter ..

/-! ## The leftover of the floor shares -/

/-- R138: the cents the floor shares leave over. -/
def leftover (charge : Nat) (ws : List Nat) : Nat := charge - (ws.map (floorShare charge ws.sum)).sum

theorem sum_floorShare_add_sum_shareRemainder (charge total : Nat) (ws : List Nat) :
    total * (ws.map (floorShare charge total)).sum + (ws.map (shareRemainder charge total)).sum = charge * ws.sum := by
  induction ws with
  | nil => rfl
  | cons w ws ih =>
    have part : total * floorShare charge total w + shareRemainder charge total w = charge * w := Nat.div_add_mod ..
    simp only [List.map_cons, List.sum_cons, Nat.mul_add]
    omega

theorem sum_floorShare_add_leftover {charge : Nat} {ws : List Nat} (pos : 0 < ws.sum) :
    (ws.map (floorShare charge ws.sum)).sum + leftover charge ws = charge := by
  have parts := sum_floorShare_add_sum_shareRemainder charge ws.sum ws
  have le : (ws.map (floorShare charge ws.sum)).sum ≤ charge := by
    refine Nat.le_of_mul_le_mul_left ?_ pos
    rw [Nat.mul_comm _ charge]
    omega
  exact Nat.add_sub_cancel' le

theorem sum_shareRemainder {charge : Nat} {ws : List Nat} (pos : 0 < ws.sum) :
    (ws.map (shareRemainder charge ws.sum)).sum = ws.sum * leftover charge ws := by
  have parts := sum_floorShare_add_sum_shareRemainder charge ws.sum ws
  have whole := congrArg (ws.sum * ·) (sum_floorShare_add_leftover (charge := charge) pos)
  simp only [Nat.mul_add, Nat.mul_comm _ charge] at whole
  omega

/-- A remainder is less than the total weight, so at least as many members have one as there are cents left over. -/
theorem leftover_le_countP_pos {charge : Nat} {ws : List Nat} (pos : 0 < ws.sum) :
    leftover charge ws ≤ (ws.map (shareRemainder charge ws.sum)).countP (0 < ·) := by
  refine Nat.le_of_mul_le_mul_left (sum_shareRemainder pos ▸ sum_le_mul_countP_pos fun r hr => ?_) pos
  obtain ⟨w, -, rfl⟩ := List.mem_map.mp hr
  exact (Nat.mod_lt _ pos).le

/-! ## The shares -/

theorem apportion_eq (charge : Nat) (ws : List Nat) :
    apportion charge ws = ws.zipIdx.map fun p => floorShare charge ws.sum p.1
      + if sharesAhead (ws.map (shareRemainder charge ws.sum)) p.2 (shareRemainder charge ws.sum p.1) < leftover charge ws
        then 1 else 0 := rfl

theorem length_apportion (charge : Nat) (ws : List Nat) : (apportion charge ws).length = ws.length := by simp [apportion_eq]

theorem getElem?_apportion {charge i w : Nat} {ws : List Nat} (hw : ws[i]? = some w) :
    (apportion charge ws)[i]? = some (floorShare charge ws.sum w
      + if sharesAhead (ws.map (shareRemainder charge ws.sum)) i (shareRemainder charge ws.sum w) < leftover charge ws
        then 1 else 0) := by
  simp [apportion_eq, hw]

/-- The cents given out are as many as are left over. -/
theorem countP_sharesAhead_lt_leftover {charge : Nat} {ws : List Nat} (pos : 0 < ws.sum) :
    ws.zipIdx.countP (fun p => sharesAhead (ws.map (shareRemainder charge ws.sum)) p.2 (shareRemainder charge ws.sum p.1)
      < leftover charge ws) = leftover charge ws := by
  have places := countP_sharesAhead_lt (ws.map (shareRemainder charge ws.sum)) (leftover charge ws)
  have enough := (leftover_le_countP_pos (charge := charge) pos).trans List.countP_le_length
  rw [min_eq_left enough, List.zipIdx_map, List.countP_map] at places
  exact places

theorem sum_apportion {charge : Nat} {ws : List Nat} (pos : 0 < ws.sum) : (apportion charge ws).sum = charge := by
  rw [apportion_eq, List.sum_map_add, map_zipIdx_fst (floorShare charge ws.sum) ws, sum_map_ite_one,
    countP_sharesAhead_lt_leftover pos, sum_floorShare_add_leftover pos]

/-- Only a member with a remainder gets a cent left over. -/
theorem shareRemainder_ne_zero_of_sharesAhead_lt {charge i w : Nat} {ws : List Nat} (pos : 0 < ws.sum)
    (raised : sharesAhead (ws.map (shareRemainder charge ws.sum)) i (shareRemainder charge ws.sum w) < leftover charge ws) :
    shareRemainder charge ws.sum w ≠ 0 := fun zero =>
  absurd raised <| Nat.not_lt.mpr <| calc
    leftover charge ws ≤ _ := leftover_le_countP_pos pos
    _ ≤ _ := zero ▸ countP_pos_le_sharesAhead_zero _ i

/-! ## Dues -/

theorem nightPart_getD (t : Tariff) (night : Option Bool) (sub : Nat) :
    nightPart t (night.getD false) sub = if night = some true then (sub * t.nightPct + 50) / 100 else 0 := by
  rcases night with _ | _ | _ <;> rfl

theorem priorityPart_eq_ite (t : Tariff) (c : OrderClass) (sub : Nat) :
    priorityPart t c sub = if c = .priority then (sub * t.priorityPct + 50) / 100 else 0 := by
  cases c <;> rfl

theorem Batch.capped_iff (b : Batch) (m : Member) :
    b.capped m = true ↔ m.exempt = false ∧ Config.duesCap < b.rawDues m := by
  simp [Batch.capped]

/-- Settles O56: exactly as many members are raised above their floor share as there are cents left over, and only members with a
remainder; the ticket's parts add up to the raw dues, which the cap then bounds. -/
theorem sharesAddUpAndDuesAreCapped : Obligations.SharesAddUpAndDuesAreCapped := by
  refine ⟨fun charge ws pos => ⟨length_apportion charge ws, sum_apportion pos, fun i w hw => ?share⟩, fun s k b m => ?dues⟩
  case share =>
    refine ⟨_, getElem?_apportion hw, ?_⟩
    split_ifs with raised
    · exact .inr ⟨rfl, shareRemainder_ne_zero_of_sharesAhead_lt pos raised⟩
    · exact .inl rfl
  case dues =>
    intro sub night priority share x
    have hnight : nightPart b.tariff (b.night.getD false) (m.sub b.tariff) = night := nightPart_getD ..
    have hpriority : priorityPart b.tariff m.priority (m.sub b.tariff) = priority := priorityPart_eq_ite ..
    have raw : b.rawDues m = sub + night + priority + share := by rw [Batch.rawDues, hnight, hpriority]; rfl
    refine ⟨hnight, hpriority, rfl, rfl, rfl, ?_, ?_⟩
    · rw [← raw]; rfl
    · rw [← raw]; exact b.capped_iff m

end Sys2Proof.Machine
end

section
/-! SUPPORT. The notice sets and the attention lines (R169 to R171, R174): what a station's record becomes by a notice raised at
it and by LEVEL driving, how a request that only edits its sender's record is answered, and how a chamber's overdue timer raises
its notice at every station. -/

namespace Sys2Proof

theorem NoticeKind.mem_all (n : NoticeKind) : n ∈ NoticeKind.all := by cases n <;> decide

end Sys2Proof

namespace Sys2Proof.Machine

/-! ## The line in LEVEL mode (R171) -/

theorem StationRec.showsNotice_eq (r : StationRec) : r.showsNotice = r.notices.any (fun n => decide (n ∈ r.enabled)) :=
  congrArg r.notices.any (funext fun n => List.contains_eq_mem n r.enabled)

theorem StationRec.driveLevel_of_level {r : StationRec} (level : r.attention = .level) :
    r.driveLevel = { r with line := r.showsNotice } := by
  simp [StationRec.driveLevel, level]

theorem StationRec.driveLevel_of_pulse {r : StationRec} (pulse : r.attention = .pulse) : r.driveLevel = r := by
  simp [StationRec.driveLevel, pulse]

/-! ## A notice raised at a station (R169) -/

theorem mem_insertNotice {set : List NoticeKind} {n m : NoticeKind} : m ∈ insertNotice set n ↔ m = n ∨ m ∈ set := by
  simp [insertNotice, NoticeKind.mem_all]

theorem StationRec.raise_of_mem {r : StationRec} {n : NoticeKind} (old : n ∈ r.notices) (now : Nat) : r.raise now n = r := by
  simp [StationRec.raise, old]

theorem StationRec.raise_of_level {r : StationRec} {n : NoticeKind} (new : n ∉ r.notices) (level : r.attention = .level)
    (now : Nat) :
    r.raise now n =
      { r with
        notices := insertNotice r.notices n
        line := (insertNotice r.notices n).any (fun m => decide (m ∈ r.enabled)) } := by
  simp [StationRec.raise, new, level, StationRec.driveLevel_of_level, StationRec.showsNotice_eq]

theorem StationRec.raise_of_pulse_enabled {r : StationRec} {n : NoticeKind} (new : n ∉ r.notices)
    (pulse : r.attention = .pulse) (enabled : n ∈ r.enabled) (now : Nat) :
    r.raise now n =
      { r with notices := insertNotice r.notices n, line := true, pulse := some (now + Config.pulseMs) } := by
  simp [StationRec.raise, new, pulse, enabled]

theorem StationRec.raise_of_pulse_masked {r : StationRec} {n : NoticeKind} (new : n ∉ r.notices)
    (pulse : r.attention = .pulse) (masked : n ∉ r.enabled) (now : Nat) :
    r.raise now n = { r with notices := insertNotice r.notices n } := by
  simp [StationRec.raise, new, pulse, masked]

/-- R170: a MASKED kind joins the set as an ENABLED one does. -/
theorem StationRec.raise_notices_of_not_mem {r : StationRec} {n : NoticeKind} (new : n ∉ r.notices) (now : Nat) :
    (r.raise now n).notices = insertNotice r.notices n := by
  cases mode : r.attention with
  | level => rw [r.raise_of_level new mode]
  | pulse =>
    by_cases enabled : n ∈ r.enabled
    · rw [r.raise_of_pulse_enabled new mode enabled]
    · rw [r.raise_of_pulse_masked new mode enabled]

theorem StationRec.mem_notices_raise {r : StationRec} {n m : NoticeKind} {now : Nat} :
    m ∈ (r.raise now n).notices ↔ m = n ∨ m ∈ r.notices := by
  by_cases old : n ∈ r.notices
  · rw [r.raise_of_mem old, or_iff_right_of_imp (fun same => same ▸ old)]
  · rw [r.raise_notices_of_not_mem old, mem_insertNotice]

/-! ## A notice raised at every station -/

@[simp] theorem State.raiseAll_now (s : State) (n : NoticeKind) : (s.raiseAll n).now = s.now := rfl

@[simp] theorem State.raiseAll_agenda (s : State) (n : NoticeKind) : (s.raiseAll n).agenda = s.agenda := rfl

@[simp] theorem State.raiseAll_station (s : State) (n : NoticeKind) (st : Station) :
    (s.raiseAll n).station st = (s.station st).raise s.now n := by cases st <;> rfl

@[simp] theorem State.settled_now (s : State) : s.settled.now = s.now := rfl

@[simp] theorem State.settled_station (s : State) (st : Station) : s.settled.station st = s.station st := rfl

/-- R47, R49: a chamber's entry or leave timer runs out. Up to the notice nothing of a station has changed, and after it the
event has no consequence that could. -/
theorem exec_overdue_stations {s : State} {k : Chamber} {c : Instr} {n : NoticeKind} {x : Nat} (calm : s.Calm)
    (due : c = .entryOverdue k ∧ n = .entryOverdue ∧ (s.chamber k).entry = some x
      ∨ c = .leaveOverdue k ∧ n = .leaveOverdue ∧ (s.chamber k).leave.map (·.expiry) = some x) :
    ∃ t, exec c s = .next t ∧ t.now = max s.now x ∧ ∀ st, t.station st = (s.station st).raise (max s.now x) n := by
  have raised (u : Sequencer) :
      let t := (((s.reach x).setChamber k u).raiseAll n).finish
      t.now = max s.now x ∧ ∀ st, t.station st = (s.station st).raise (max s.now x) n := by
    simp [State.finish_nil, calm.1]
  rcases due with ⟨rfl, rfl, entry⟩ | ⟨rfl, rfl, leave⟩
  case inl =>
    refine ⟨_, ?_, raised { s.chamber k with entry := none, entryOverdue := true }⟩
    show execEntryOverdue k s = _
    rw [execEntryOverdue, entry]
  case inr =>
    obtain ⟨timer, running, rfl⟩ := Option.map_eq_some_iff.mp leave
    refine ⟨_, ?_, raised { s.chamber k with leave := none, clearOut := true, leaveOverdue := true }⟩
    show execLeaveOverdue k s = _
    rw [execLeaveOverdue, running]

/-! ## Requests that edit their sender's record -/

theorem State.setStation_self (s : State) (st : Station) : s.setStation st (s.station st) = s := by
  simp [State.setStation, State.station]

/-- R163, R178: a station's record once a valid frame of its was taken. -/
def StationRec.heard (r : StationRec) (silence : Nat) : StationRec :=
  { r with link := .present, silence := some silence, receiver := .hunting }

theorem State.validFrame_eq (s : State) (st : Station) :
    s.validFrame st = s.setStation st ((s.station st).heard (s.now + seconds s.settings.silenceLimit)) := rfl

theorem StationRec.driveLevel_heard (r : StationRec) (silence : Nat) :
    (r.heard silence).driveLevel = r.driveLevel.heard silence := by
  cases mode : r.attention <;> simp [StationRec.driveLevel, StationRec.heard, StationRec.showsNotice, mode]

@[simp] theorem StationRec.driveLevel_service (r : StationRec) : r.driveLevel.service = r.service :=
  congrArg (·.service) r.driveLevel_core

theorem StationRec.setAttention_same {r : StationRec} {m : AttentionMode} (same : r.attention = m) : r.setAttention m = r :=
  if_pos same

theorem StationRec.setAttention_level {r : StationRec} (pulse : r.attention = .pulse) :
    r.setAttention .level = { r with attention := .level, pulse := none, line := r.showsNotice } := by
  simp [StationRec.setAttention, pulse, StationRec.driveLevel, StationRec.showsNotice]

theorem StationRec.setAttention_pulse {r : StationRec} (level : r.attention = .level) :
    r.setAttention .pulse = { r with attention := .pulse, line := false } := by
  simp [StationRec.setAttention, level]

theorem StationRec.setAttention_heard (r : StationRec) (m : AttentionMode) (silence : Nat) :
    (r.heard silence).setAttention m = (r.setAttention m).heard silence := by
  by_cases same : r.attention = m
  · rw [r.setAttention_same same]
    exact StationRec.setAttention_same same
  · cases m with
    | level =>
      simpa [StationRec.setAttention, StationRec.heard, same] using
        StationRec.driveLevel_heard { r with attention := .level, pulse := none } silence
    | pulse => simp [StationRec.setAttention, StationRec.heard, same]

@[simp] theorem StationRec.setAttention_service (r : StationRec) (m : AttentionMode) :
    (r.setAttention m).service = r.service := by
  by_cases same : r.attention = m
  · rw [r.setAttention_same same]
  · cases m <;> simp [StationRec.setAttention, same]

/-- A request whose whole effect, apart from what its frame writes first, is to make of `s` the state `t`. -/
theorem State.exchange_validFrame {s t : State} {st : Station} {code : Nat} {judge : State → Judged} {o : ReplyOutcome}
    {l : List WireField} (takes : s.takes st) (idle : (t.station st).service = .idle)
    (judged : judge (s.validFrame st) = (t.validFrame st, some (o, l))) :
    s.exchange st code judge = .next (t.answered st code o l) := by
  rw [State.exchange_takes takes judged]
  simp only [State.validFrame, State.answered, State.setStation_setStation, State.setStation_station, if_true, ← idle]

/-- A request that edits its sender's record, apart from what its frame writes, and answers fields of it. -/
theorem State.exchange_edit {s : State} {st : Station} {code : Nat} {judge : State → Judged} {o : ReplyOutcome}
    {edit : StationRec → StationRec} {fields : StationRec → List WireField} (takes : s.takes st)
    (judged : ∀ u, judge u = (u.setStation st (edit (u.station st)), some (o, fields (u.station st))))
    (service : ∀ r, (edit r).service = r.service)
    (edit_heard : ∀ r silence, edit (r.heard silence) = (edit r).heard silence)
    (fields_heard : ∀ r silence, fields (r.heard silence) = fields r) :
    s.exchange st code judge =
      .next ((s.setStation st (edit (s.station st))).answered st code o (fields (s.station st))) := by
  apply State.exchange_validFrame takes
  · simpa [service] using takes.2
  · simp [judged, State.validFrame_eq, edit_heard, fields_heard]

theorem exec_readNotices {s : State} {st : Station} (takes : s.takes st) :
    exec (.readNotices st) s = .next
      ((s.setStation st ({ s.station st with notices := [] } : StationRec).driveLevel).answered st 0x60 .ok
        [.half (noticeBits (s.station st).notices), .half (s.station st).badFrames]) :=
  State.exchange_edit (edit := fun r => ({ r with notices := [] } : StationRec).driveLevel)
    (fields := fun r => [.half (noticeBits r.notices), .half r.badFrames]) takes (fun _ => rfl)
    (fun _ => StationRec.driveLevel_service _) (fun r => StationRec.driveLevel_heard { r with notices := [] }) (fun _ _ => rfl)

theorem exec_setNoticeMask {s : State} {st : Station} (takes : s.takes st) (l : List NoticeKind) :
    exec (.setNoticeMask st l) s = .next
      ((s.setStation st ({ s.station st with enabled := NoticeKind.all.filter l.contains } : StationRec).driveLevel).answered st
        0x61 .ok []) :=
  State.exchange_edit (edit := fun r => ({ r with enabled := NoticeKind.all.filter l.contains } : StationRec).driveLevel)
    (fields := fun _ => []) takes (fun _ => rfl)
    (fun _ => StationRec.driveLevel_service _)
    (fun r => StationRec.driveLevel_heard { r with enabled := NoticeKind.all.filter l.contains }) (fun _ _ => rfl)

theorem exec_setAttentionMode {s : State} {st : Station} (takes : s.takes st) (m : AttentionMode) :
    exec (.setAttentionMode st m) s = .next
      ((s.setStation st ((s.station st).setAttention m)).answered st 0x62 .ok []) :=
  State.exchange_edit (edit := (·.setAttention m)) (fields := fun _ => []) takes (fun _ => rfl)
    (·.setAttention_service m) (·.setAttention_heard m) (fun _ _ => rfl)

theorem exec_clearFault {s : State} {st : Station} (takes : s.takes st) :
    exec (.clearFault st) s = .next ({ s with capture := {} }.answered st 0x64 .ok []) :=
  State.exchange_validFrame takes takes.2 rfl

/-- Settles O59: each request edits its sender's record and drives the line from it; a timer that runs out raises its notice at
every station's record as it stood, by the equations of `StationRec.raise`. -/
theorem noticesDriveTheAttentionLine : Obligations.NoticesDriveTheAttentionLine := by
  refine ⟨fun s st takes => ⟨?read, fun l => ?mask, fun m same => ?same, fun level => ?toPulse, fun pulse => ?toLevel,
    exec_clearFault takes⟩, fun s k c n x calm due => ?raised, fun s st x running => ?pulseEnd⟩
  case read =>
    rw [exec_readNotices takes]
    cases mode : (s.station st).attention with
    | level => simp [StationRec.driveLevel_of_level, StationRec.showsNotice_eq, mode]
    | pulse => simp [StationRec.driveLevel_of_pulse, mode]
  case mask =>
    refine ⟨NoticeKind.all.filter l.contains, fun n => by simp [NoticeKind.mem_all], ?_⟩
    rw [exec_setNoticeMask takes]
    cases mode : (s.station st).attention with
    | level => simp [StationRec.driveLevel_of_level, StationRec.showsNotice_eq, NoticeKind.mem_all, mode]
    | pulse => simp [StationRec.driveLevel_of_pulse, mode]
  case same => rw [exec_setAttentionMode takes, StationRec.setAttention_same same, State.setStation_self]
  case toPulse => rw [exec_setAttentionMode takes, StationRec.setAttention_pulse level]
  case toLevel => rw [exec_setAttentionMode takes, StationRec.setAttention_level pulse]; rfl
  case raised =>
    obtain ⟨t, ht, now, stations⟩ := exec_overdue_stations calm due
    refine ⟨t, ht, now, fun st => ?_⟩
    rw [stations]
    refine ⟨StationRec.raise_core .., fun m => StationRec.mem_notices_raise, fun old => StationRec.raise_of_mem old _,
      fun new level => ?_, fun new pulse enabled => ?_, fun new pulse masked => ?_⟩
    · rw [StationRec.raise_of_level new level]
      exact ⟨rfl, rfl⟩
    · rw [StationRec.raise_of_pulse_enabled new pulse enabled]
      exact ⟨rfl, rfl⟩
    · rw [StationRec.raise_of_pulse_masked new pulse masked]
      exact ⟨rfl, rfl⟩
  case pulseEnd =>
    show execAttentionPulseEnd st s = _
    rw [execAttentionPulseEnd, running]
    rfl

end Sys2Proof.Machine
end

section
/-! SUPPORT. What a command can do, said once: what a request comes to (R177 to R181), whether it came as a row of the table or as
the bytes of a frame, and the rule by which a property that the ports, the requests and the events keep is kept by every command. -/

namespace Sys2Proof

/-- The command is an event of the part's own: no station's request, in a row of its own or in the bytes of a frame. -/
def Instr.isEvent : Instr → Bool
  | .powerOnReset _ | .restartEvent _ | .roundStart | .roundTimerExpiry _ | .gaugeReply .. | .noReply | .gaugeStrayBytes _
  | .holdTimerExpiry _ | .settleExpiry _ | .trailTimerExpiry | .drivePollCycle | .gateReport .. | .sluiceReport ..
  | .driveAnswerTimeout | .orderEcho _ | .echoTimeout _ | .driveStrayBytes _ | .statusAnswer .. | .statusTimeout _
  | .gateMovementTimeout .. | .sluiceMovementTimeout _ | .rampIntervalExpiry _ | .fillSlow _ | .equaliseTimeout _
  | .entryOverdue _ | .clearOut _ | .leaveOverdue _ | .wishExpiry _ | .crossSlow | .formationTimerExpiry | .flashPhaseChange _
  | .provingInput .. | .lampFailed _ | .lampTestEnd _ | .siteClockTick | .badFrame .. | .frameGapTimeout _ | .strayLinkByte ..
  | .replySent _ | .linkLost _ | .attentionPulseEnd _ | .storeReadbackEnd _ | .noneAnswer => true
  | _ => false

end Sys2Proof

namespace Sys2Proof.Machine

/-! ## What a request comes to -/

/-- What a request of station `st` can come to in state `s`: a refusal that changes nothing, or what the rule of one of the requests
gives. -/
inductive Requested (st : Station) (s : State) : Judged → Prop
  | refused (a : Answer) : Requested st s (s, some a)
  | swapTariff : Requested st s (judgeSwapTariff st s)
  | setClock (day second : Nat) : Requested st s (judgeSetClock st day second s)
  | settle (slot amount : Nat) : Requested st s (judgeSettle st slot amount s)
  | readSiteAccount : Requested st s (judgeReadSiteAccount st s)
  | settleSite : Requested st s (judgeSettleSite st s)
  | subscribe (watermark : Option Nat) : Requested st s (judgeSubscribe st watermark s)
  | unsubscribe (who : Station) : Requested st s (judgeUnsubscribe st who s)
  | readJournal : Requested st s (judgeReadJournal st s)
  | readJournalStatus : Requested st s (judgeReadJournalStatus st s)
  | readTallies (clear : Bool) : Requested st s (judgeReadTallies st clear s)
  | lampTest (k : Chamber) : Requested st s (judgeLampTest st k s)
  | enterOrder (slot : Nat) (d : Direction) (laden : Bool) (c : OrderClass) :
      Requested st s (judgeEnterOrder st slot d laden c s)
  | cancelOrder (n : Nat) : Requested st s (judgeCancelOrder st n s)
  | confirmIn (k : Chamber) (present : Option (List Nat)) : Requested st s (judgeConfirmIn st k present s)
  | confirmClear (k : Chamber) : Requested st s (judgeConfirmClear st k s)
  | abandonBatch (k : Chamber) : Requested st s (judgeAbandonBatch st k s)
  | bind (k : Chamber) (d : Direction) : Requested st s (judgeBind st k d s)
  | readBook (d : Direction) (pos : Nat) : Requested st s (judgeReadBook st d pos s)
  | readBatch (k : Chamber) : Requested st s (judgeReadBatch st k s)
  | serviceOn (k : Chamber) : Requested st s (judgeServiceOn st k s)
  | serviceOff (k : Chamber) : Requested st s (judgeServiceOff st k s)
  | setMode (k : Chamber) (m : Mode) : Requested st s (judgeSetMode st k m s)
  | halt (k : Chamber) : Requested st s (judgeHalt st k s)
  | resume (k : Chamber) : Requested st s (judgeResume st k s)
  | gateOpen (k : Chamber) (e : Side) : Requested st s (judgeGateOpen st k e s)
  | gateClose (k : Chamber) (e : Side) : Requested st s (judgeGateClose st k e s)
  | gateStop (k : Chamber) (e : Side) : Requested st s (judgeGateStop st k e s)
  | fill (k : Chamber) (cross : Bool) : Requested st s (judgeFill st k cross s)
  | empty (k : Chamber) (cross : Bool) : Requested st s (judgeEmpty st k cross s)
  | sluice (k : Chamber) (which : SluiceChoice) (step : Nat) : Requested st s (judgeSluice st k which step s)
  | readChamber (k : Chamber) : Requested st s (judgeReadChamber st k s)
  | claim (k : Chamber) : Requested st s (judgeClaim st k s)
  | releaseConduct (k : Chamber) : Requested st s (judgeReleaseConduct st k s)
  | readNotices : Requested st s (judgeReadNotices st s)
  | setNoticeMask (enabled : List NoticeKind) : Requested st s (judgeSetNoticeMask st enabled s)
  | setAttentionMode (m : AttentionMode) : Requested st s (judgeSetAttentionMode st m s)
  | readFault : Requested st s (judgeReadFault st s)
  | clearFault : Requested st s (judgeClearFault st s)
  | addVessel (v : VesselArgs) : Requested st s (judgeAddVessel st v s)
  | deleteVessel (slot : Nat) : Requested st s (judgeDeleteVessel st slot s)
  | seek (q : SeekArgs) : Requested st s (judgeSeek st q s)
  | seekNext : Requested st s (judgeSeekNext st s)
  | hold (slot : Nat) : Requested st s (judgeHold st slot s)
  | release (slot : Nat) : Requested st s (judgeRelease st slot s)
  | forceFast (on : Bool) : Requested st s (judgeForceFast st on s)
  | readLevels : Requested st s (judgeReadLevels st s)
  | setWindow (collection cursor : Nat) (move : WindowStep) (first last : Nat) :
      Requested st s (judgeSetWindow st collection cursor move first last s)
  | readNext (count : Option Nat) : Requested st s (judgeReadNext st count s)
  | writeNext (count : Option Nat) (data : List Byte) : Requested st s (judgeWriteNext st count data s)
  | readAt (collection i first last : Nat) : Requested st s (judgeReadAt st collection i first last s)
  | writeAt (collection i first last : Nat) (data : List Byte) : Requested st s (judgeWriteAt st collection i first last data s)
  | restart : Requested st s (judgeRestart st s)
  | storeSettings : Requested st s (judgeStoreSettings st s)

/-- A judge whose every judgement is what a request of station `st` can come to. -/
def Judge.Asked (st : Station) (j : Judge) : Prop := ∀ s, Requested st s (j s)

theorem Judge.Asked.malformed (st : Station) : Judge.Asked st malformed := fun _ => .refused _

theorem Judge.Asked.outOfRange (st : Station) (n : Nat) : Judge.Asked st fun s => s.outOfRange n := fun _ => .refused _

theorem State.judged_refused {s : State} {st : Station} (p : Permission) {a : Answer} :
    Requested st s (s.judged st p fun u => (u, some a)) := by
  unfold State.judged
  split <;> exact .refused _

theorem Judge.Asked.outOfSet (st : Station) (p : Permission) (n : Nat) : Judge.Asked st (outOfSet st p n) :=
  fun _ => State.judged_refused p

theorem Judge.Asked.outOfDirected (st : Station) (k : Chamber) (n : Nat) : Judge.Asked st (outOfDirected st k n) := by
  intro s
  unfold Machine.outOfDirected State.directed State.judged
  split
  · exact .refused _
  · dsimp only
    split <;> exact .refused _

theorem Judge.Asked.choose {st : Station} {l : List Judge} {x : Nat} {bad : Judge} (all : ∀ j ∈ l, Judge.Asked st j)
    (hbad : Judge.Asked st bad) : Judge.Asked st (choose l x bad) := by
  unfold Machine.choose
  rw [List.getD_eq_getElem?_getD]
  cases h : l[x]? with
  | none => exact hbad
  | some j => exact all j (List.mem_of_getElem? h)

theorem Judge.Asked.withChamber {st : Station} {f : Chamber → Judge} (x : Nat) (all : ∀ k, Judge.Asked st (f k)) :
    Judge.Asked st (withChamber x f) := by
  unfold Machine.withChamber
  split
  · exact all _
  · split
    · exact all _
    · exact .outOfRange st 1

theorem Judge.Asked.bare {st : Station} {j : Judge} (args : List Byte) (h : Judge.Asked st j) : Judge.Asked st (bare args j) := by
  unfold Machine.bare
  split
  · exact h
  · exact .malformed st

theorem Judge.Asked.one {st : Station} {f : Nat → Judge} (w : Nat) (args : List Byte) (all : ∀ n, Judge.Asked st (f n)) :
    Judge.Asked st (one w args f) := by
  unfold Machine.one
  split
  · exact all _
  · exact .malformed st

theorem Judge.Asked.chamberOnly {st : Station} {f : Chamber → Judge} (args : List Byte) (all : ∀ k, Judge.Asked st (f k)) :
    Judge.Asked st (chamberOnly args f) := .one 1 args fun a => .withChamber a all

theorem Judge.Asked.chamberAnd {st : Station} {f : Chamber → Nat → Judge} (args : List Byte)
    (all : ∀ k n, Judge.Asked st (f k n)) : Judge.Asked st (chamberAnd args f) := by
  unfold Machine.chamberAnd
  split
  · exact .withChamber _ fun k => all k _
  · exact .malformed st

/-! ## The requests by their codes -/

theorem frameWindows_asked {st : Station} {args : List Byte} {code : Nat} {j : Judge}
    (h : frameWindows st args code = some j) : j.Asked st := by
  unfold frameWindows at h
  split at h <;> try contradiction
  all_goals injection h with h; subst h
  case h_1 =>
    unfold frameSetWindow
    split
    · exact .choose (by simp only [List.forall_mem_cons]; exact ⟨fun _ => .setWindow .., fun _ => .setWindow .., fun _ => .setWindow .., by simp⟩) (.outOfSet _ _ _)
    · exact .malformed st
  case h_2 =>
    unfold frameReadNext
    split
    · exact fun _ => .readNext _
    · exact .one 2 args fun _ _ => .readNext _
  case h_3 =>
    intro s
    unfold frameWriteNext
    dsimp only
    (repeat' split)
    · exact .writeNext ..
    · exact .refused _
    · exact .writeNext ..
  case h_4 =>
    unfold frameReadAt
    split
    · exact fun _ => .readAt ..
    · exact .malformed st
  case h_5 =>
    unfold frameWriteAt
    split
    · exact fun _ => .writeAt ..
    · exact .malformed st

theorem frameVessels_asked {st : Station} {args : List Byte} {code : Nat} {j : Judge}
    (h : frameVessels st args code = some j) : j.Asked st := by
  unfold frameVessels at h
  split at h <;> try contradiction
  all_goals injection h with h; subst h
  case h_1 =>
    unfold frameAddVessel
    split
    · exact fun _ => .addVessel _
    · exact .malformed st
  case h_2 => exact .one 2 args fun _ _ => .deleteVessel _
  case h_3 =>
    unfold frameSeek
    dsimp only
    (repeat' split)
    all_goals first | exact .outOfSet _ _ _ | exact .malformed st | exact fun _ => .seek _
  case h_4 => exact .bare args fun _ => .seekNext
  case h_5 => exact .one 2 args fun _ _ => .hold _
  case h_6 => exact .one 2 args fun _ _ => .release _
  case h_7 =>
    unfold frameSettle
    split
    · exact fun _ => .settle ..
    · exact .malformed st

theorem frameOrders_asked {st : Station} {args : List Byte} {code : Nat} {j : Judge}
    (h : frameOrders st args code = some j) : j.Asked st := by
  unfold frameOrders at h
  split at h <;> try contradiction
  all_goals injection h with h; subst h
  case h_1 =>
    unfold frameEnterOrder
    (repeat' split)
    all_goals first | exact .outOfSet _ _ _ | exact .malformed st | exact fun _ => .enterOrder ..
  case h_2 => exact .one 2 args fun _ _ => .cancelOrder _
  case h_3 =>
    unfold frameReadBook
    (repeat' split)
    all_goals first | exact .outOfSet _ _ _ | exact .malformed st | exact fun _ => .readBook ..
  case h_4 => exact .chamberOnly args fun _ _ => .readBatch _

theorem frameChambers_asked {st : Station} {args : List Byte} {code : Nat} {j : Judge}
    (h : frameChambers st args code = some j) : j.Asked st := by
  unfold frameChambers at h
  split at h <;> try contradiction
  all_goals injection h with h; subst h
  case h_1 => exact .chamberOnly args fun _ _ => .claim _
  case h_2 => exact .chamberOnly args fun _ _ => .releaseConduct _
  case h_3 => exact .chamberAnd args fun k m => .choose (by simp [Judge.Asked, Requested.setMode]) (.outOfSet _ _ _)
  case h_4 =>
    exact .chamberAnd args fun k m => .choose (by simp [Judge.Asked, Requested.serviceOn, Requested.serviceOff]) (.outOfSet _ _ _)
  case h_5 => exact .chamberOnly args fun _ _ => .halt _
  case h_6 => exact .chamberOnly args fun _ _ => .resume _
  case h_7 => exact .chamberOnly args fun _ _ => .abandonBatch _
  case h_8 =>
    unfold frameConfirmIn
    split
    · exact .withChamber _ fun _ _ => .confirmIn ..
    · split
      · exact .withChamber _ fun _ _ => .confirmIn ..
      · exact .malformed st
    · exact .malformed st
  case h_9 => exact .chamberOnly args fun _ _ => .confirmClear _
  case h_10 => exact .chamberAnd args fun k m => .choose (by simp [Judge.Asked, Requested.bind]) (.outOfDirected _ _ _)
  case h_11 =>
    unfold frameGate
    split
    · refine .withChamber _ fun k => ?_
      split
      · exact .outOfDirected _ _ _
      · exact .choose (by simp [Judge.Asked, Requested.gateOpen, Requested.gateClose, Requested.gateStop]) (.outOfDirected _ _ _)
    · exact .malformed st
  case h_12 => exact .chamberAnd args fun k m => .choose (by simp [Judge.Asked, Requested.fill]) (.outOfDirected _ _ _)
  case h_13 => exact .chamberAnd args fun k m => .choose (by simp [Judge.Asked, Requested.empty]) (.outOfDirected _ _ _)
  case h_14 =>
    unfold frameSluice
    split
    · exact .withChamber _ fun _ _ => .sluice ..
    · exact .malformed st

theorem frameReads_asked {st : Station} {args : List Byte} {code : Nat} {j : Judge}
    (h : frameReads st args code = some j) : j.Asked st := by
  unfold frameReads at h
  split at h <;> try contradiction
  all_goals injection h with h; subst h
  case h_1 => exact .chamberOnly args fun _ _ => .readChamber _
  case h_2 => exact .bare args fun _ => .readLevels
  case h_3 => exact .one 1 args fun x => .choose (by simp [Judge.Asked, Requested.forceFast]) (.outOfSet _ _ _)
  case h_4 => exact .chamberOnly args fun _ _ => .lampTest _

theorem frameAccounts_asked {st : Station} {args : List Byte} {code : Nat} {j : Judge}
    (h : frameAccounts st args code = some j) : j.Asked st := by
  unfold frameAccounts at h
  split at h <;> try contradiction
  all_goals injection h with h; subst h
  case h_1 => exact .bare args fun _ => .swapTariff
  case h_2 =>
    unfold frameSetClock
    split
    · exact fun _ => .setClock ..
    · exact .malformed st
  case h_3 =>
    unfold frameSubscribe
    split
    · exact fun _ => .subscribe _
    · exact .one 2 args fun _ _ => .subscribe _
  case h_4 =>
    unfold frameUnsubscribe
    refine .one 1 args fun x => ?_
    (repeat' split)
    all_goals first | exact .outOfSet _ _ _ | exact fun _ => .unsubscribe _
  case h_5 => exact .bare args fun _ => .readJournal
  case h_6 => exact .bare args fun _ => .readJournalStatus
  case h_7 => exact .one 1 args fun x => .choose (by simp [Judge.Asked, Requested.readTallies]) (.outOfSet _ _ _)
  case h_8 => exact .bare args fun _ => .readSiteAccount
  case h_9 => exact .bare args fun _ => .settleSite

theorem frameNotices_asked {st : Station} {args : List Byte} {code : Nat} {j : Judge}
    (h : frameNotices st args code = some j) : j.Asked st := by
  unfold frameNotices at h
  split at h <;> try contradiction
  all_goals injection h with h; subst h
  case h_1 => exact .bare args fun _ => .readNotices
  case h_2 => exact .one 2 args fun _ _ => .setNoticeMask _
  case h_3 => exact .one 1 args fun x => .choose (by simp [Judge.Asked, Requested.setAttentionMode]) (.outOfSet _ _ _)
  case h_4 => exact .bare args fun _ => .readFault
  case h_5 => exact .bare args fun _ => .clearFault

theorem frameStore_asked {st : Station} {args : List Byte} {code : Nat} {j : Judge}
    (h : frameStore st args code = some j) : j.Asked st := by
  unfold frameStore at h
  split at h <;> try contradiction
  all_goals injection h with h; subst h
  case h_1 => exact .bare args fun _ => .storeSettings
  case h_2 => exact .bare args fun _ => .restart

/-- R180, R181: whatever code and arguments a good frame carries, it is judged as one of the requests or refused. -/
theorem judgeFrame_asked (st : Station) (code : Nat) (args : List Byte) : (judgeFrame st code args).Asked st := by
  unfold judgeFrame
  cases h : requestOf st args code with
  | none => exact fun _ => .refused _
  | some j =>
    obtain ⟨x, hx, rfl⟩ := List.exists_of_findSome?_eq_some h
    simp only [List.mem_cons, List.not_mem_nil, or_false] at hx
    rcases hx with e | e | e | e | e | e | e | e
    · exact frameWindows_asked e.symm
    · exact frameVessels_asked e.symm
    · exact frameOrders_asked e.symm
    · exact frameChambers_asked e.symm
    · exact frameReads_asked e.symm
    · exact frameAccounts_asked e.symm
    · exact frameNotices_asked e.symm
    · exact frameStore_asked e.symm

/-! ## What every command keeps -/

/-- A request frame at a port: a property that a port's own changes and the request's judgement keep is kept. -/
theorem State.portTake_keeps {P : State → Prop} {st : Station} {judge : Judge} (asked : judge.Asked st)
    (port : ∀ s st r, r.link = (s.station st).link ∨ r.link = .present → P s → P (s.setStation st r))
    (request : ∀ s x, (s.station st).link = .present → Requested st s x → P s → P x.1) {s : State} (code : Nat) (after : Service)
    (hs : P s) : P (s.portTake st code after judge) := by
  have heard : P (s.validFrame st) := port _ _ _ (.inr rfl) hs
  unfold State.portTake
  split
  · exact hs
  · dsimp only
    split
    · have hj := request _ _ (by simp) (asked (s.validFrame st)) heard
      unfold State.serve
      split
      · next e =>
        rw [e] at hj
        exact port _ _ _ (.inl rfl) (port _ _ _ (.inl rfl) hj)
      · next e =>
        rw [e] at hj
        exact port _ _ _ (.inl rfl) hj
    · exact port _ _ _ (.inl (by simp)) heard

theorem exchange_next {s t : State} {st : Station} {code : Nat} {judge : Judge}
    (h : s.exchange st code judge = .next t) : s.portTake st code .idle judge = t := by
  injection h

/-- A property that a port's own changes, every request and every event keep is kept by every command. -/
theorem exec_keeps {P : State → Prop}
    (port : ∀ s st r, r.link = (s.station st).link ∨ r.link = .present → P s → P (s.setStation st r))
    (request : ∀ st s x, (s.station st).link = .present → Requested st s x → P s → P x.1)
    (event : ∀ c s t, c.isEvent = true → exec c s = .next t → P s → P t)
    {c : Instr} {s t : State} (h : exec c s = .next t) (hs : P s) : P t := by
  have taken {st : Station} {code : Nat} {judge : Judge} (asked : judge.Asked st) (h : s.exchange st code judge = .next t) :
      P t := by
    rw [← exchange_next h]
    exact State.portTake_keeps asked port (request st) code .idle hs
  by_cases hc : c.isEvent = true
  · exact event c s t hc h hs
  cases c <;> first | exact absurd rfl hc | skip
  case requestFrame st bytes =>
    replace h : execRequestFrame st bytes s = .next t := h
    unfold execRequestFrame at h
    split at h
    · split at h <;> injection h with h <;> subst h
      · exact hs
      · exact State.portTake_keeps (judgeFrame_asked _ _ _) port (request st) _ _ (port _ _ _ (.inl rfl) hs)
    · injection h with h
      subst h
      unfold State.badFrame
      split
      · exact hs
      · exact port _ _ _ (.inl rfl) hs
  case swapTariff => exact taken (fun _ => .swapTariff) h
  case setClock => exact taken (fun _ => .setClock ..) h
  case settle => exact taken (fun _ => .settle ..) h
  case readSiteAccount => exact taken (fun _ => .readSiteAccount) h
  case settleSite => exact taken (fun _ => .settleSite) h
  case subscribe => exact taken (fun _ => .subscribe ..) h
  case unsubscribe => exact taken (fun _ => .unsubscribe ..) h
  case readJournal => exact taken (fun _ => .readJournal) h
  case readJournalStatus => exact taken (fun _ => .readJournalStatus) h
  case readTallies => exact taken (fun _ => .readTallies ..) h
  case lampTest => exact taken (fun _ => .lampTest ..) h
  case enterOrder => exact taken (fun _ => .enterOrder ..) h
  case cancelOrder => exact taken (fun _ => .cancelOrder ..) h
  case confirmIn => exact taken (fun _ => .confirmIn ..) h
  case confirmClear => exact taken (fun _ => .confirmClear ..) h
  case abandonBatch => exact taken (fun _ => .abandonBatch ..) h
  case bind => exact taken (fun _ => .bind ..) h
  case readBook => exact taken (fun _ => .readBook ..) h
  case readBatch => exact taken (fun _ => .readBatch ..) h
  case serviceOn => exact taken (fun _ => .serviceOn ..) h
  case serviceOff => exact taken (fun _ => .serviceOff ..) h
  case setMode => exact taken (fun _ => .setMode ..) h
  case halt => exact taken (fun _ => .halt ..) h
  case resume => exact taken (fun _ => .resume ..) h
  case gateOpen => exact taken (fun _ => .gateOpen ..) h
  case gateClose => exact taken (fun _ => .gateClose ..) h
  case gateStop => exact taken (fun _ => .gateStop ..) h
  case fill => exact taken (fun _ => .fill ..) h
  case empty => exact taken (fun _ => .empty ..) h
  case sluice => exact taken (fun _ => .sluice ..) h
  case readChamber => exact taken (fun _ => .readChamber ..) h
  case claim => exact taken (fun _ => .claim ..) h
  case releaseConduct => exact taken (fun _ => .releaseConduct ..) h
  case readNotices => exact taken (fun _ => .readNotices) h
  case setNoticeMask => exact taken (fun _ => .setNoticeMask ..) h
  case setAttentionMode => exact taken (fun _ => .setAttentionMode ..) h
  case readFault => exact taken (fun _ => .readFault) h
  case clearFault => exact taken (fun _ => .clearFault) h
  case addVessel => exact taken (fun _ => .addVessel ..) h
  case deleteVessel => exact taken (fun _ => .deleteVessel ..) h
  case seek => exact taken (fun _ => .seek ..) h
  case seekNext => exact taken (fun _ => .seekNext) h
  case hold => exact taken (fun _ => .hold ..) h
  case release => exact taken (fun _ => .release ..) h
  case forceFast => exact taken (fun _ => .forceFast ..) h
  case readLevels => exact taken (fun _ => .readLevels) h
  case setWindow => exact taken (fun _ => .setWindow ..) h
  case readNext => exact taken (fun _ => .readNext ..) h
  case writeNext => exact taken (fun _ => .writeNext ..) h
  case readAt => exact taken (fun _ => .readAt ..) h
  case writeAt => exact taken (fun _ => .writeAt ..) h
  case restart => exact taken (fun _ => .restart) h
  case storeSettings => exact taken (fun _ => .storeSettings) h

end Sys2Proof.Machine
end

section
/-! SUPPORT. The three invariants on what they read of the state, and the queue: each command keeps the marks unique (R80), the
conductors PRESENT (R165), the clock in its ranges (R133) and the commands that wait. -/

namespace Sys2Proof.Machine

/-! ## The invariants on what they read -/

def Held.MarksUnique (x : Held) : Prop :=
  ∀ (i j : Nat) (hi : i < 128) (hj : j < 128), (x.marks[i]).1 = true → (x.marks[j]).1 = true →
    (x.marks[i]).2 = (x.marks[j]).2 → i = j

def Held.ConductPresent (x : Held) : Prop := ∀ k st, x.conduct.get k = some st → x.links.get st = .present

def Held.ClockInRange (x : Held) : Prop := ∀ c, x.clock = some c → c.time.day ≤ 65535 ∧ c.time.second ≤ 86399

/-- One reading of the state follows from another by commands: the queue is the same and each invariant is kept. -/
structure Held.Keeps (x y : Held) : Prop where
  pending : y.pending = x.pending
  marks : x.MarksUnique → y.MarksUnique
  conduct : x.ConductPresent → y.ConductPresent
  clock : x.ClockInRange → y.ClockInRange

theorem Held.Keeps.of_eq {x y : Held} (h : y = x) : x.Keeps y := by
  subst h
  exact ⟨rfl, id, id, id⟩

theorem Held.Keeps.trans {x y z : Held} (h : x.Keeps y) (g : y.Keeps z) : x.Keeps z :=
  ⟨g.pending.trans h.pending, g.marks ∘ h.marks, g.conduct ∘ h.conduct, g.clock ∘ h.clock⟩

/-- A slot may be made FREE, or given a mark that no other non-FREE slot has. -/
theorem Held.Keeps.setMark (x : Held) (i : Nat) (v : Bool × List Byte)
    (h : v.1 = true → ∀ (j : Nat) (hj : j < 128), j ≠ i → (x.marks[j]).1 = true → (x.marks[j]).2 ≠ v.2) :
    x.Keeps { x with marks := x.marks.setIfInBounds i v } := by
  refine ⟨rfl, fun unique a b ha hb => ?_, id, id⟩
  simp only [Vector.getElem_setIfInBounds]
  split <;> split
  · next e1 e2 => exact fun _ _ _ => e1.symm.trans e2
  · next e1 e2 => exact fun hv hb' e => absurd e.symm (h hv b hb (Ne.symm e2) hb')
  · next e1 e2 => exact fun ha' hv e => absurd e (h hv a ha (Ne.symm e1) ha')
  · exact unique a b ha hb

theorem Held.Keeps.setHolder (x : Held) (k : Chamber) (o : Option Station) (h : ∀ st, o = some st → x.links.get st = .present) :
    x.Keeps { x with conduct := x.conduct.set k o } := by
  refine ⟨rfl, id, fun present k' st hk => ?_, id⟩
  replace hk : (x.conduct.set k o).get k' = some st := hk
  rw [PerChamber.get_set] at hk
  split at hk
  · exact h st hk
  · exact present k' st hk

theorem Held.Keeps.setClock (x : Held) (c : Clock) (h : x.ClockInRange → c.time.day ≤ 65535 ∧ c.time.second ≤ 86399) :
    x.Keeps { x with clock := some c } :=
  ⟨rfl, id, id, fun hx d hd => by
    have e : c = d := Option.some.inj hd
    exact e ▸ h hx⟩

/-! ## The operations that write what the invariants read -/

theorem State.setVessel_held_eq (s : State) (i : Nat) (v : Vessel) :
    (s.setVessel i v).held = { s.held with marks := s.held.marks.setIfInBounds i v.key } := by
  simp only [State.held, State.setVessel]
  congr 1
  refine Vector.ext fun j hj => ?_
  simp only [Vector.getElem_map, Vector.getElem_setIfInBounds]
  split <;> rfl

theorem State.held_marks (s : State) (i : Nat) (hi : i < 128) : s.held.marks[i] = ((s.vessel i).nonFree, (s.vessel i).mark) := by
  simp [State.held, Vessel.key, State.vessel, hi]

theorem State.held_links (s : State) (st : Station) : s.held.links.get st = (s.station st).link := by cases st <;> rfl

theorem mem_allSlots {i : Nat} : i ∈ allSlots ↔ i < 128 := List.mem_range

/-- R80: no other non-FREE slot holds the mark. -/
theorem State.markHolder_eq_none_iff (s : State) (m : List Byte) (but : Option Nat) :
    s.markHolder m but = none ↔ ∀ i, i < 128 → some i ≠ but → (s.vessel i).nonFree = true → (s.vessel i).mark ≠ m := by
  simp [State.markHolder, List.find?_eq_none, mem_allSlots]

/-- R80: a slot may be given a mark that no other non-FREE slot holds. -/
theorem State.setVessel_keeps (s : State) (i : Nat) (v : Vessel) (but : Option Nat) (others : ∀ j, j ≠ i → some j ≠ but)
    (free : s.markHolder v.mark but = none) : s.held.Keeps (s.setVessel i v).held := by
  rw [State.setVessel_held_eq]
  refine .setMark _ _ _ fun _ j hj hne => ?_
  rw [s.held_marks j hj]
  exact (s.markHolder_eq_none_iff _ _).mp free j hj (others j hne)

@[simp] theorem State.changeHolder_held (s : State) (k : Chamber) (o : Option Station) (c : ConductCause) :
    (s.changeHolder k o c).held = { s.held with conduct := s.held.conduct.set k o } := by
  rw [State.changeHolder, State.write_held]
  rfl

/-- R165: conduct may go to nobody, or to a PRESENT station. -/
theorem State.changeHolder_keeps (s : State) (k : Chamber) (o : Option Station) (c : ConductCause)
    (h : ∀ st, o = some st → (s.station st).link = .present) : s.held.Keeps (s.changeHolder k o c).held := by
  rw [s.changeHolder_held]
  exact .setHolder _ _ _ fun st e => (s.held_links st).trans (h st e)

/-! ## Requests -/

/-- A request that passes its permission keeps what its own rule keeps. -/
theorem State.judged_keeps (s : State) (st : Station) (p : Permission) (own : State → Judged)
    (h : s.held.Keeps (own s).1.held) : s.held.Keeps (s.judged st p own).1.held := by
  unfold State.judged
  split
  · exact .of_eq rfl
  · exact h

theorem judgeSetClock_keeps (st : Station) (day second : Nat) (s : State) :
    s.held.Keeps (judgeSetClock st day second s).1.held := by
  apply State.judged_keeps
  split
  · exact .of_eq rfl
  · split
    · exact .of_eq rfl
    · exact .setClock _ _ fun _ => by dsimp only; omega

theorem State.takeOver_keeps (s : State) (k : Chamber) (old st : Station) (present : (s.station st).link = .present) :
    s.held.Keeps (s.takeOver k old st).1.held := by
  rw [State.takeOver, State.done_fst, State.finish_held, State.raiseAt_held]
  exact s.changeHolder_keeps _ _ _ fun _ e => Option.some.inj e ▸ present

theorem judgeClaim_keeps (st : Station) (k : Chamber) (s : State) (present : (s.station st).link = .present) :
    s.held.Keeps (judgeClaim st k s).1.held := by
  apply State.judged_keeps
  split
  · rw [State.done_fst, State.finish_held]
    exact s.changeHolder_keeps _ _ _ fun _ e => Option.some.inj e ▸ present
  · next old _ =>
    have taken := s.takeOver_keeps k old st present
    (repeat' split) <;> first | exact taken | exact .of_eq rfl

theorem judgeReleaseConduct_keeps (st : Station) (k : Chamber) (s : State) :
    s.held.Keeps (judgeReleaseConduct st k s).1.held := by
  apply State.judged_keeps
  split
  · rw [State.done_fst, State.finish_held]
    exact s.changeHolder_keeps _ _ _ fun _ e => by simp at e
  · exact .of_eq rfl

theorem judgeAddVessel_keeps (st : Station) (v : VesselArgs) (s : State) :
    s.held.Keeps (judgeAddVessel st v s).1.held := by
  apply State.judged_keeps
  split
  · exact .of_eq rfl
  · split
    · exact .of_eq rfl
    · next free =>
      split
      · exact s.setVessel_keeps _ (addedVessel v) none (by simp) free
      · exact .of_eq rfl

theorem judgeDeleteVessel_keeps (st : Station) (slot : Nat) (s : State) :
    s.held.Keeps (judgeDeleteVessel st slot s).1.held := by
  apply State.judged_keeps
  unfold State.withVessel
  split
  · exact .of_eq rfl
  split
  · exact .of_eq rfl
  dsimp only
  split
  · exact .of_eq rfl
  rw [State.setVessel_held_eq]
  exact .setMark _ _ _ fun h => by simp [Vessel.key, Vessel.nonFree] at h

/-! ## Writes through the window -/

theorem Vessel.put_state (v : Vessel) (p : Given) : (v.put p).state = v.state := by
  unfold Vessel.put
  split <;> rfl

theorem Vessel.put_mark (v : Vessel) (p : Given) (h : p.1 ≠ 3) : (v.put p).mark = v.mark := by
  unfold Vessel.put
  split <;> first | rfl | exact absurd ‹_› h

theorem Vessel.foldl_put_state (vs : List Given) (v : Vessel) : (vs.foldl Vessel.put v).state = v.state := by
  induction vs generalizing v with
  | nil => rfl
  | cons p ps ih => rw [List.foldl_cons, ih, Vessel.put_state]

/-- R80: a write whose range leaves the mark out keeps it. -/
theorem Vessel.foldl_put_mark (vs : List Given) (v : Vessel) (h : vs.any (fun p => decide (p.1 = 3)) = false) :
    (vs.foldl Vessel.put v).mark = v.mark := by
  induction vs generalizing v with
  | nil => rfl
  | cons p ps ih =>
    simp only [List.any_cons, Bool.or_eq_false_iff, decide_eq_false_iff_not] at h
    rw [List.foldl_cons, ih _ h.2, Vessel.put_mark _ _ h.1]

theorem State.writeVessel_keeps (s : State) (i : Nat) (vs : List Given) : s.held.Keeps (s.writeVessel i vs).1.held := by
  unfold State.writeVessel
  split
  · exact .of_eq rfl
  split
  · exact .of_eq rfl
  split
  · exact .of_eq rfl
  · next clash =>
    rw [State.vesselWritten_held]
    unfold State.markClash at clash
    split at clash
    · exact s.setVessel_keeps i _ (some i) (by simp) clash
    · next hm =>
      refine .of_eq (s.setVessel_held i _ ?_)
      simp only [Vessel.key, Vessel.nonFree, Vessel.foldl_put_state, Vessel.foldl_put_mark vs _ (Bool.eq_false_iff.mpr hm)]

theorem State.writeSettings_held (s : State) (i : Nat) (vs : List Given) : (s.writeSettings i vs).1.held = s.held := by
  rw [State.writeSettings, State.settingsWritten_held]
  rfl

theorem State.writeRecord_keeps (s : State) (c : Collection) (i : Nat) (vs : List Given) :
    s.held.Keeps (s.writeRecord c i vs).1.held := by
  cases c with
  | vessels => exact s.writeVessel_keeps i vs
  | tariffStandby => exact .of_eq rfl
  | tariffActive => exact .of_eq rfl
  | settings => exact .of_eq (s.writeSettings_held i vs)

theorem Written.judged_keeps {s : State} {x : Written} {moved : State → State} (h : s.held.Keeps x.1.held)
    (hm : ∀ t, (moved t).held = t.held) : s.held.Keeps (Written.judged x moved).1.held := by
  unfold Written.judged
  split
  · rw [State.finish_held, hm]
    exact h
  · exact h

theorem judgeWriteNext_keeps (st : Station) (count : Option Nat) (data : List Byte) (s : State) :
    s.held.Keeps (judgeWriteNext st count data s).1.held := by
  unfold judgeWriteNext
  dsimp only
  split
  · exact .of_eq rfl
  · apply State.judged_keeps
    split
    · exact .of_eq rfl
    · exact Written.judged_keeps (s.writeRecord_keeps _ _ _) fun t => t.setWindowOf_held _ _

theorem judgeWriteAt_keeps (st : Station) (c i first last : Nat) (data : List Byte) (s : State) :
    s.held.Keeps (judgeWriteAt st c i first last data s).1.held := by
  unfold judgeWriteAt
  split
  · exact s.judged_keeps _ _ _ (.of_eq rfl)
  · split
    · exact .of_eq rfl
    · apply State.judged_keeps
      split
      · exact .of_eq rfl
      · exact Written.judged_keeps (s.writeRecord_keeps _ _ _) fun _ => rfl
      · exact .of_eq rfl

/-- Whatever a request comes to keeps the invariants. -/
theorem Requested.keeps {st : Station} {s : State} {x : Judged} (h : Requested st s x)
    (present : (s.station st).link = .present) : s.held.Keeps x.1.held := by
  cases h
  case setClock => exact judgeSetClock_keeps ..
  case claim => exact judgeClaim_keeps _ _ _ present
  case releaseConduct => exact judgeReleaseConduct_keeps ..
  case addVessel => exact judgeAddVessel_keeps ..
  case deleteVessel => exact judgeDeleteVessel_keeps ..
  case writeNext => exact judgeWriteNext_keeps ..
  case writeAt => exact judgeWriteAt_keeps ..
  all_goals exact .of_eq (by simp)

/-! ## Events -/

theorem execSiteClockTick_keeps {s t : State} (h : execSiteClockTick s = .next t) : s.held.Keeps t.held := by
  unfold execSiteClockTick at h
  split at h <;> injection h with h <;> subst h
  · next c hc =>
    refine .setClock s.held _ fun hx => ?_
    have hd := hx c hc
    unfold TimeOfDay.succ
    dsimp only
    split
    · dsimp only; omega
    · split <;> dsimp only <;> omega
  · exact .of_eq rfl

@[simp] theorem State.lostHalt_held (s old : State) (st : Station) (k : Chamber) : (s.lostHalt old st k).held = s.held := by
  unfold State.lostHalt
  split <;> simp

theorem State.loseConduct_conduct (s : State) (st : Station) (k k' : Chamber) :
    (s.loseConduct st k).held.conduct.get k' =
      if k' = k ∧ s.held.conduct.get k = some st then none else s.held.conduct.get k' := by
  have e : s.holder k = s.held.conduct.get k := rfl
  unfold State.loseConduct
  split
  · next h =>
    rw [State.changeHolder_held]
    simp [e ▸ h]
  · next h => simp [e ▸ h]

theorem State.loseConduct_rest (s : State) (st : Station) (k : Chamber) :
    (s.loseConduct st k).held = { s.held with conduct := (s.loseConduct st k).held.conduct } := by
  unfold State.loseConduct
  split
  · rw [State.changeHolder_held]
  · rfl

/-- R164: a station that is lost gives up its conduct with its link. -/
theorem State.loseLink_keeps (s : State) (st : Station) : s.held.Keeps (s.loseLink st).held := by
  have e : (s.loseLink st).held =
      (((s.setStation st { s.station st with link := .lost, silence := none }).loseConduct st .c1).loseConduct st .c2).held := by
    simp [State.loseLink]
  rw [e, State.loseConduct_rest, State.loseConduct_rest]
  refine ⟨rfl, id, fun present k st' hk => ?_, id⟩
  simp only [State.loseConduct_conduct] at hk
  have links : (s.setStation st { s.station st with link := .lost, silence := none }).held.links.get st' =
      if st' = st then .lost else s.held.links.get st' := by
    cases st <;> cases st' <;> rfl
  have conduct : ∀ k, (s.setStation st { s.station st with link := .lost, silence := none }).held.conduct.get k =
      s.held.conduct.get k := fun _ => rfl
  simp only [conduct] at hk
  have hs : s.held.conduct.get k = some st' ∧ st' ≠ st := by
    have lost : s.held.conduct.get k ≠ some st := by
      intro e
      cases k <;> simp [e] at hk
    have kept : s.held.conduct.get k = some st' := by
      cases k <;> simpa [lost] using hk
    exact ⟨kept, fun e => lost (e ▸ kept)⟩
  show (State.setStation s st _).held.links.get st' = _
  rw [links, if_neg hs.2]
  exact present k st' hs.1

theorem execLinkLost_keeps {st : Station} {s t : State} (h : execLinkLost st s = .next t) : s.held.Keeps t.held := by
  unfold execLinkLost at h
  split at h <;> injection h with h <;> subst h
  · exact State.loseLink_keeps (s.reach _) st
  · exact .of_eq rfl

/-- R186: power-on leaves no vessel, no link, no conduct and no clock. -/
theorem State.powerOn_keeps (s : State) (x : PerStation Straps) : s.held.Keeps (s.powerOn x).held := by
  have e : (s.powerOn x).held =
      { State.reset.held with pending := s.pending } := by
    rw [State.powerOn, State.afterLoad_held]
    rfl
  rw [e]
  refine ⟨rfl, fun _ i j hi hj h => ?_, fun _ k st hk => ?_, fun _ c hc => ?_⟩
  · have : (State.reset.held.marks[i]).1 = true := h
    rw [State.held_marks _ i hi] at this
    simp [State.reset, State.vessel, hi, Vessel.nonFree] at this
  · cases k <;> contradiction
  · contradiction

theorem execRestartEvent_keeps {x : PerStation Straps} {s t : State} (h : execRestartEvent x s = .next t) :
    s.held.Keeps t.held := by
  unfold execRestartEvent at h
  split at h <;> injection h with h <;> subst h
  · have e : (s.restarted x).held = { s.held with links := ⟨.absent, .absent, .absent⟩, conduct := ⟨none, none⟩ } := by
      simp only [State.restarted, State.finish_held, State.afterLoad_held, State.derive_held, State.rejudgeAll_held]
      rfl
    rw [e]
    refine ⟨rfl, id, fun _ k st hk => ?_, id⟩
    cases k <;> contradiction
  · exact .of_eq rfl

/-- Every event keeps the invariants. -/
theorem exec_event_keeps {c : Instr} {s t : State} (hc : c.isEvent = true) (h : exec c s = .next t) : s.held.Keeps t.held := by
  cases c <;> first | exact absurd hc Bool.false_ne_true | skip
  case powerOnReset =>
    injection h with h
    subst h
    exact s.powerOn_keeps _
  case restartEvent => exact execRestartEvent_keeps h
  case roundStart => exact .of_eq (execRoundStart_held _ _ h)
  case roundTimerExpiry => exact .of_eq (execRoundTimerExpiry_held _ _ _ h)
  case gaugeReply => exact .of_eq (execGaugeReply_held _ _ _ _ _ _ h)
  case noReply => exact .of_eq (execNoReply_held _ _ h)
  case gaugeStrayBytes bytes => exact .of_eq (execGaugeStrayBytes_held bytes _ _ h)
  case holdTimerExpiry => exact .of_eq (execHoldTimerExpiry_held _ _ _ h)
  case settleExpiry => exact .of_eq (execSettleExpiry_held _ _ _ h)
  case trailTimerExpiry => exact .of_eq (execTrailTimerExpiry_held _ _ h)
  case drivePollCycle => exact .of_eq (execDrivePollCycle_held _ _ h)
  case gateReport => exact .of_eq (execGateReport_held _ _ _ _ _ h)
  case sluiceReport => exact .of_eq (execSluiceReport_held _ _ _ _ h)
  case driveAnswerTimeout => exact .of_eq (execDriveAnswerTimeout_held _ _ h)
  case orderEcho => exact .of_eq (execOrderEcho_held _ _ _ h)
  case echoTimeout => exact .of_eq (execEchoTimeout_held _ _ _ h)
  case driveStrayBytes bytes => exact .of_eq (execDriveStrayBytes_held bytes _ _ h)
  case statusAnswer => exact .of_eq (execStatusAnswer_held _ _ _ _ h)
  case statusTimeout => exact .of_eq (execStatusTimeout_held _ _ _ h)
  case gateMovementTimeout => exact .of_eq (execGateMovementTimeout_held _ _ _ _ h)
  case sluiceMovementTimeout => exact .of_eq (execSluiceMovementTimeout_held _ _ _ h)
  case rampIntervalExpiry => exact .of_eq (execRampIntervalExpiry_held _ _ _ h)
  case fillSlow => exact .of_eq (execFillSlow_held _ _ _ h)
  case equaliseTimeout => exact .of_eq (execEqualiseTimeout_held _ _ _ h)
  case entryOverdue => exact .of_eq (execEntryOverdue_held _ _ _ h)
  case clearOut => exact .of_eq (execClearOut_held _ _ _ h)
  case leaveOverdue => exact .of_eq (execLeaveOverdue_held _ _ _ h)
  case wishExpiry => exact .of_eq (execWishExpiry_held _ _ _ h)
  case crossSlow => exact .of_eq (execCrossSlow_held _ _ h)
  case formationTimerExpiry => exact .of_eq (execFormationTimerExpiry_held _ _ h)
  case flashPhaseChange => exact .of_eq (execFlashPhaseChange_held _ _ _ h)
  case provingInput => exact .of_eq (execProvingInput_held _ _ _ _ h)
  case lampFailed => exact .of_eq (execLampFailed_held _ _ _ h)
  case lampTestEnd => exact .of_eq (execLampTestEnd_held _ _ _ h)
  case siteClockTick => exact execSiteClockTick_keeps h
  case badFrame cause => exact .of_eq (execBadFrame_held _ cause _ _ h)
  case frameGapTimeout => exact .of_eq (execFrameGapTimeout_held _ _ _ h)
  case strayLinkByte => exact .of_eq (execStrayLinkByte_held _ _ _ _ _ h)
  case replySent => exact .of_eq (execReplySent_held _ _ _ h)
  case linkLost => exact execLinkLost_keeps h
  case attentionPulseEnd => exact .of_eq (execAttentionPulseEnd_held _ _ _ h)
  case storeReadbackEnd => exact .of_eq (execStoreReadbackEnd_held _ _ _ h)
  case noneAnswer => exact .of_eq (execNoneAnswer_held _ _ h)

/-- Every command keeps the invariants. -/
theorem exec_held_keeps {c : Instr} {s t : State} (h : exec c s = .next t) : s.held.Keeps t.held := by
  refine exec_keeps (P := fun u => s.held.Keeps u.held) (fun u st r hr hu => hu.trans ?_)
    (fun st u x present hx hu => hu.trans (hx.keeps present)) (fun c u t hc h hu => hu.trans (exec_event_keeps hc h)) h (.of_eq rfl)
  rcases hr with hr | hr
  · exact .of_eq (u.setStation_held st r hr)
  · have e : (u.setStation st r).held = { u.held with links := u.held.links.set st .present } := by
      cases st <;> simp only [State.held, State.setStation, PerStation.set, hr]
    rw [e]
    refine ⟨rfl, id, fun present k st' hk => ?_, id⟩
    show (u.held.links.set st .present).get st' = _
    rw [PerStation.get_set]
    split
    · rfl
    · exact present k st' hk

/-! ## The obligations -/

/-- Every command ends in a next state. -/
theorem exec_completes (c : Instr) (s : State) : ∃ t, exec c s = .next t := by
  cases c <;> first | exact ⟨_, rfl⟩ | skip
  all_goals simp only [exec, execRestartEvent, execRoundTimerExpiry, execGaugeReply, execNoReply, execHoldTimerExpiry,
    execSettleExpiry, execTrailTimerExpiry, execDrivePollCycle, execGateReport, execSluiceReport, execOrderEcho,
    execEchoTimeout, execStatusAnswer, execStatusTimeout, execGateMovementTimeout, execSluiceMovementTimeout,
    execRampIntervalExpiry, execFillSlow, execEqualiseTimeout, execEntryOverdue, execClearOut, execLeaveOverdue,
    execWishExpiry, execCrossSlow, execFormationTimerExpiry, execProvingInput, execLampFailed, execLampTestEnd,
    execSiteClockTick, execRequestFrame, execStrayLinkByte, execReplySent, execLinkLost, execAttentionPulseEnd,
    execStoreReadbackEnd]
  all_goals (repeat' split) <;> exact ⟨_, rfl⟩

/-- Settles O2: no command has another outcome, and what the invariants read, the queue with it, is kept by each. -/
theorem everyCommandCompletes : Obligations.EveryCommandCompletes := by
  intro c s
  obtain ⟨t, h⟩ := exec_completes c s
  exact ⟨t, h, (exec_held_keeps h).pending⟩

/-- A step takes the command at the front, or lets 1 ms pass. -/
theorem step_cases {s t : State} (h : step s = .next t) :
    s.pending = [] ∧ t = { s with now := s.now + 1 }
      ∨ ∃ c rest, s.pending = c :: rest ∧ exec c { s with pending := rest } = .next t := by
  unfold step at h
  split at h
  · next hp =>
    injection h with h
    exact .inl ⟨hp, h.symm⟩
  · next c rest hp => exact .inr ⟨c, rest, hp, h⟩

theorem step_keeps_held {s t : State} (h : step s = .next t) : { s.held with pending := t.pending }.Keeps t.held := by
  rcases step_cases h with ⟨hp, rfl⟩ | ⟨c, rest, _, h⟩
  · exact .of_eq rfl
  · have k := exec_held_keeps h
    exact ⟨rfl, k.marks, k.conduct, k.clock⟩

/-- Settles O1. -/
theorem stepRunsTheFrontCommand : Obligations.StepRunsTheFrontCommand := by
  refine ⟨fun c rest s h => ?_, fun s h => ?_⟩
  · rw [step, h]
  · rw [step, h]

/-- Settles O5: the marks are changed by ADD VESSEL, DELETE VESSEL and a write of the record alone, and a mark is given only where
the duplicate test finds no holder. -/
theorem stepKeepsMarksUnique : Obligations.StepKeepsMarksUnique := fun s t hs h =>
  t.marksUnique_iff.mpr ((step_keeps_held h).marks (s.marksUnique_iff.mp hs))

/-- Settles O6: a request comes from a station its frame has just made PRESENT, and a lost station gives up its conduct. -/
theorem stepKeepsConductPresent : Obligations.StepKeepsConductPresent := fun s t hs h =>
  t.conductPresent_iff.mpr ((step_keeps_held h).conduct (s.conductPresent_iff.mp hs))

theorem State.clockInRange_held (s : State) : s.ClockInRange ↔ s.held.ClockInRange := by
  rw [s.clockInRange_iff]
  simp [Held.ClockInRange]

/-- Settles O7: SET CLOCK checks its arguments, and the tick wraps at both ends. -/
theorem stepKeepsClockInRange : Obligations.StepKeepsClockInRange := fun s t hs h =>
  t.clockInRange_held.mpr ((step_keeps_held h).clock (s.clockInRange_held.mp hs))

end Sys2Proof.Machine
end

section
/-! SUPPORT. The frames of the shared operations: one equation for each that names the blocks of the state it may change. Every
other field of the state it leaves is read off it. -/

namespace Sys2Proof.Machine

/-! ## Notices and the journal -/

theorem State.raiseAt_frame (s : State) (st : Station) (n : NoticeKind) :
    s.raiseAt st n = { s with stations := (s.raiseAt st n).stations } := rfl

theorem State.raiseAll_frame (s : State) (n : NoticeKind) : s.raiseAll n = { s with stations := (s.raiseAll n).stations } := rfl

theorem State.watermarkAt_frame (s : State) (st : Station) (x y : Nat) :
    s.watermarkAt st x y = { s with stations := (s.watermarkAt st x y).stations } := by
  unfold State.watermarkAt
  (repeat' split) <;> rfl

theorem State.watermarks_frame (s old : State) : s.watermarks old = { s with stations := (s.watermarks old).stations } := by
  unfold State.watermarks
  rw [State.watermarkAt_frame, State.watermarkAt_frame, State.watermarkAt_frame]

/-- R151: a frame appended is the last one retained; the watermark tests touch the notices alone. -/
theorem State.append_frame (s : State) (f : Frame) :
    s.append f = { s with journal.frames := s.journal.frames ++ [f], stations := (s.append f).stations } :=
  State.watermarks_frame _ s

theorem State.write_frame (s : State) (f : Frame) :
    s.write f = { s with journal := (s.write f).journal, stations := (s.write f).stations } := by
  unfold State.write
  split
  · split
    · rw [State.append_frame]
    · rfl
  · rw [State.append_frame]
    rfl

theorem State.raiseFault_frame (s : State) (f : FaultKind) (x : Subject) :
    s.raiseFault f x = { s with
      journal := (s.raiseFault f x).journal, stations := (s.raiseFault f x).stations, capture := (s.raiseFault f x).capture } := by
  unfold State.raiseFault
  dsimp only
  split
  · rw [State.write_frame]
  · rw [State.raiseAll_frame, State.write_frame]

/-! ## The cascade's list -/

/-- Only the list of consequences and the count of free choices differ. -/
def AgendaOnly (s t : State) : Prop := t = { s with agenda := t.agenda, choices := t.choices }

theorem AgendaOnly.trans {s t u : State} (h : AgendaOnly s t) (g : AgendaOnly t u) : AgendaOnly s u := by
  unfold AgendaOnly at *
  rw [g, h]

theorem State.push_agendaOnly (s : State) (t : Task) : AgendaOnly s (s.push t) := by
  unfold State.push
  split <;> rfl

theorem State.pushForms_agendaOnly (s : State) (x y : Bool) : AgendaOnly s (s.pushForms x y) := by
  have counted : AgendaOnly s { s with choices := s.choices + 1 } := rfl
  unfold State.pushForms
  dsimp only
  (repeat' split)
  · exact counted.trans ((State.push_agendaOnly _ _).trans (State.push_agendaOnly _ _))
  · exact counted.trans ((State.push_agendaOnly _ _).trans (State.push_agendaOnly _ _))
  · exact s.push_agendaOnly _
  · exact s.push_agendaOnly _
  · rfl

theorem State.noteFreed_agendaOnly (s old : State) : AgendaOnly s (s.noteFreed old) := by
  unfold State.noteFreed
  split
  · exact s.pushForms_agendaOnly _ _
  · rfl

/-! ## Actuators -/

/-- Only the drive controller and the bodies' sampling differ. -/
def PlantOnly (s t : State) : Prop := t = { s with drive := t.drive, levels := t.levels }

theorem PlantOnly.refl (s : State) : PlantOnly s s := rfl

theorem PlantOnly.trans {s t u : State} (h : PlantOnly s t) (g : PlantOnly t u) : PlantOnly s u := by
  unfold PlantOnly at *
  rw [g, h]

theorem PlantOnly.drive (s : State) (x : Drive) : PlantOnly s { s with drive := x } := rfl

theorem PlantOnly.of_sampling {s t : State} (h : SamplingOnly s t) : PlantOnly s t := by
  have e := h.rest
  unfold PlantOnly
  rw [e]

theorem State.putGate_plant (s : State) (k : Chamber) (e : Side) (g : Gate) : PlantOnly s (s.putGate k e g) := rfl

theorem State.putSluice_plant (s : State) (q : Sluice) (r : SluiceRec) : PlantOnly s (s.putSluice q r) := by cases q <;> rfl

theorem State.setGate_plant (s : State) (k : Chamber) (e : Side) (g : Gate) : PlantOnly s (s.setGate k e g) :=
  .trans (s.putGate_plant k e _) (.of_sampling (State.noteFast_sampling _ _))

theorem State.setSluice_plant (s : State) (q : Sluice) (r : SluiceRec) : PlantOnly s (s.setSluice q r) :=
  .trans (s.putSluice_plant q r) (.of_sampling (State.noteFast_sampling _ _))

theorem State.send_plant (s : State) (a : Actuator) (o : DriveOrder) : PlantOnly s (s.send a o) := rfl

theorem State.startGate_plant (s : State) (k : Chamber) (e : Side) (m : GateMove) : PlantOnly s (s.startGate k e m) := by
  cases m <;> exact .trans (s.send_plant _ _) (State.setGate_plant _ _ _ _)

theorem State.openGate_plant (s : State) (k : Chamber) (e : Side) : PlantOnly s (s.openGate k e).1 := by
  unfold State.openGate
  (repeat' split) <;> first | exact .refl s | exact s.startGate_plant k e .opn

theorem State.closeGate_plant (s : State) (k : Chamber) (e : Side) : PlantOnly s (s.closeGate k e).1 := by
  unfold State.closeGate
  split
  · exact .refl s
  · exact .refl s
  · exact s.send_plant _ _
  · exact s.startGate_plant k e .cls

theorem State.sendMove_plant (s : State) (q : Sluice) (n : Nat) : PlantOnly s (s.sendMove q n) :=
  .trans (s.send_plant _ _) (State.setSluice_plant _ _ _)

theorem State.endRamp_plant (s : State) (q : Sluice) : PlantOnly s (s.endRamp q) := s.putSluice_plant q _

theorem State.setRamp_plant (s : State) (q : Sluice) (r : Option Ramp) : PlantOnly s (s.setRamp q r) := s.putSluice_plant q _

theorem State.moveSluice_plant (s : State) (q : Sluice) (n : Nat) : PlantOnly s (s.moveSluice q n).1 := by
  unfold State.moveSluice
  dsimp only
  (repeat' split) <;> first | exact .refl s | exact s.sendMove_plant q n

theorem State.orderSluice_plant (s : State) (q : Sluice) (n : Nat) : PlantOnly s (s.orderSluice q n).1 := by
  unfold State.orderSluice
  have h := s.moveSluice_plant q n
  split
  · exact .refl s
  · next e =>
    rw [e] at h
    exact h.trans (State.endRamp_plant _ q)

theorem State.shutSluice_plant (s : State) (q : Sluice) : PlantOnly s (s.shutSluice q) := s.orderSluice_plant q 0

theorem State.forceShut_plant (s : State) (q : Sluice) : PlantOnly s (s.forceShut q) :=
  .trans (s.sendMove_plant q 0) (State.endRamp_plant _ q)

theorem State.stopSluice_plant (s : State) (q : Sluice) : PlantOnly s (s.stopSluice q) := by
  unfold State.stopSluice
  dsimp only
  split
  · exact .trans (s.send_plant _ _) (State.setSluice_plant _ _ _)
  · exact .trans (s.send_plant _ _) (State.endRamp_plant _ _)
  · exact .trans (s.send_plant _ _) (State.endRamp_plant _ _)
  · exact .refl s

theorem State.rampOrder_plant (s : State) (q : Sluice) (r : Ramp) : PlantOnly s (s.rampOrder q r) := by
  unfold State.rampOrder
  have h := s.moveSluice_plant q r.next
  split
  · exact s.setRamp_plant q _
  · next e =>
    rw [e] at h
    exact h.trans (State.setRamp_plant _ q _)

theorem State.rampDecide_plant (s : State) (q : Sluice) (r : Ramp) : PlantOnly s (s.rampDecide q r) := by
  unfold State.rampDecide
  (repeat' split) <;> first | exact s.setRamp_plant q _ | exact s.rampOrder_plant q r

theorem State.startRamp_plant (s : State) (q : Sluice) (who : Requester) (n : Nat) : PlantOnly s (s.startRamp q who n) := by
  unfold State.startRamp
  dsimp only
  (repeat' split) <;> first | exact s.setRamp_plant q _ | exact s.rampDecide_plant q _

theorem State.rampReached_plant (s : State) (q : Sluice) (n : Nat) : PlantOnly s (s.rampReached q n) := by
  unfold State.rampReached
  (repeat' split) <;> first | exact .refl s | exact s.rampDecide_plant q _

theorem State.rampLevel_plant (s : State) (b : Body) (q : Sluice) : PlantOnly s (s.rampLevel b q) := by
  unfold State.rampLevel
  (repeat' split) <;> first | exact .refl s | exact s.rampDecide_plant q _

theorem State.rampRetry_plant (s : State) (h : Handed) (q : Sluice) : PlantOnly s (s.rampRetry h q) := by
  rcases s.rampRetry_cases h q with e | ⟨r, c, _, _, _, _, e⟩ <;> rw [e]
  · exact .refl s
  · exact s.rampDecide_plant q _

theorem PlantOnly.foldl {α : Type} {f : State → α → State} (h : ∀ t x, PlantOnly t (f t x)) (l : List α) (s : State) :
    PlantOnly s (l.foldl f s) := by
  induction l generalizing s with
  | nil => exact .refl s
  | cons x xs ih => exact .trans (h s x) (ih _)

theorem State.rampRetries_plant (s : State) (h : Handed) : PlantOnly s (s.rampRetries h) :=
  .foldl (fun t q => t.rampRetry_plant h q) _ s

end Sys2Proof.Machine
end

section
/-! SUPPORT. The signals stay current (R118 to R120): an event with consequences ends with the derivation of the signals, and every
other command leaves alone all that the aspects follow from. -/

namespace Sys2Proof.Machine

/-! ## What the aspects follow from -/

/-- What the aspects follow from stays, and the aspects with it. -/
structure SameSight (s t : State) : Prop where
  loaded : t.loaded = s.loaded
  state : ∀ k, (t.chamber k).state = (s.chamber k).state
  overdue : ∀ k, (t.chamber k).entryOverdue = (s.chamber k).entryOverdue
  clearOut : ∀ k, (t.chamber k).clearOut = (s.chamber k).clearOut
  batch : ∀ k, t.batch k = s.batch k
  gate : ∀ k e, (t.gate k e).state = (s.gate k e).state
  proven : ∀ l, (t.lamp l).proven = (s.lamp l).proven
  aspects : t.signals.aspects = s.signals.aspects

theorem shownAspect_congr (c : Aspect) (g : Signal) (x : GateState) {l l' : PerLamp Lamp}
    (h : ∀ n, (l'.get n).proven = (l.get n).proven) : shownAspect c g x l' = shownAspect c g x l := by
  have ha : l'.redA.proven = l.redA.proven := h .redA
  have hb : l'.redB.proven = l.redB.proven := h .redB
  have hg : l'.green.proven = l.green.proven := h .green
  simp [shownAspect, ha, hb, hg]

theorem SameSight.called {s t : State} (h : SameSight s t) (k : Chamber) (g : Signal) : t.called k g = s.called k g := by
  have hp : t.chamberPresent k = s.chamberPresent k := by
    cases k
    · rfl
    · exact congrArg Loaded.two h.loaded
  simp only [State.called, hp, h.state, h.batch, h.overdue, h.clearOut]

theorem SameSight.newAspects {s t : State} (h : SameSight s t) (k : Chamber) : t.newAspects k = s.newAspects k := by
  have a : ∀ g, t.aspectsOf k g = s.aspectsOf k g := fun g => by
    simp only [State.aspectsOf, h.called, h.gate]
    rw [shownAspect_congr _ _ _ (l := (s.signals.lamps.get k).get g) (l' := (t.signals.lamps.get k).get g) fun n => h.proven ⟨k, g, n⟩]
  simp only [State.newAspects, a]

theorem SameSight.current {s t : State} (h : SameSight s t) (hs : s.SignalsCurrent) : t.SignalsCurrent := fun k => by
  rw [h.aspects, h.newAspects]
  exact hs k

/-- The lamps and the chambers apart, the aspects follow from what these four fields hold. -/
theorem SameSight.of_eq {s t : State} (loaded : t.loaded = s.loaded) (chambers : t.chambers = s.chambers)
    (batches : t.book.batches = s.book.batches) (gates : t.drive.gates = s.drive.gates) (signals : t.signals = s.signals) :
    SameSight s t := by
  constructor
  · exact loaded
  · exact fun k => by rw [State.chamber, chambers]; rfl
  · exact fun k => by rw [State.chamber, chambers]; rfl
  · exact fun k => by rw [State.chamber, chambers]; rfl
  · exact fun k => by rw [State.batch, batches]; rfl
  · exact fun k e => by rw [State.gate, gates]; rfl
  · exact fun l => by rw [State.lamp, signals]; rfl
  · rw [signals]

theorem SameSight.refl (s : State) : SameSight s s := .of_eq rfl rfl rfl rfl rfl

theorem SameSight.trans {s t u : State} (h : SameSight s t) (g : SameSight t u) : SameSight s u where
  loaded := g.loaded.trans h.loaded
  state k := (g.state k).trans (h.state k)
  overdue k := (g.overdue k).trans (h.overdue k)
  clearOut k := (g.clearOut k).trans (h.clearOut k)
  batch k := (g.batch k).trans (h.batch k)
  gate k e := (g.gate k e).trans (h.gate k e)
  proven l := (g.proven l).trans (h.proven l)
  aspects := g.aspects.trans h.aspects

/-! ## The derivation -/

theorem State.deriveChamber_current (s : State) (k : Chamber) :
    (s.deriveChamber k).signals.aspects.get k = (s.deriveChamber k).newAspects k := by
  have e : (s.deriveChamber k).newAspects k = s.newAspects k := by
    simp only [State.newAspects, State.deriveChamber_aspectsOf]
  rw [e, State.deriveChamber_eq, PerChamber.get_set, if_pos rfl]

/-- The derivation leaves the signals current. -/
theorem State.derive_current (s : State) : s.derive.SignalsCurrent := by
  intro k
  cases k
  · rw [State.derive, ← State.deriveChamber_comm]
    exact State.deriveChamber_current _ .c1
  · exact State.deriveChamber_current _ .c2

/-- Every event that ends with its consequences leaves the signals current. -/
theorem State.finish_current (s : State) : s.finish.SignalsCurrent :=
  SameSight.current (s := (settle cascadeFuel s.derive).derive) (.of_eq rfl rfl rfl rfl rfl) (State.derive_current _)

/-! ## Operations outside the aspects -/

theorem State.setStation_sight (s : State) (st : Station) (r : StationRec) : SameSight s (s.setStation st r) :=
  .of_eq rfl rfl rfl rfl rfl

theorem State.raiseAll_sight (s : State) (n : NoticeKind) : SameSight s (s.raiseAll n) := .of_eq rfl rfl rfl rfl rfl

theorem State.watermarkAt_sight (s : State) (st : Station) (x y : Nat) : SameSight s (s.watermarkAt st x y) := by
  rw [State.watermarkAt_frame]
  exact .of_eq rfl rfl rfl rfl rfl

theorem State.write_sight (s : State) (f : Frame) : SameSight s (s.write f) := by
  rw [State.write_frame]
  exact .of_eq rfl rfl rfl rfl rfl

theorem State.raiseFault_sight (s : State) (f : FaultKind) (x : Subject) : SameSight s (s.raiseFault f x) := by
  rw [State.raiseFault_frame]
  exact .of_eq rfl rfl rfl rfl rfl

theorem SamplingOnly.sight {s t : State} (h : SamplingOnly s t) : SameSight s t := by
  rw [h.rest]
  exact .of_eq rfl rfl rfl rfl rfl

/-- A chamber's record may change in all but its state and the two flags that the aspects read. -/
theorem State.setChamber_sight (s : State) (k : Chamber) (c : Sequencer) (state : c.state = (s.chamber k).state)
    (overdue : c.entryOverdue = (s.chamber k).entryOverdue) (clearOut : c.clearOut = (s.chamber k).clearOut) :
    SameSight s (s.setChamber k c) where
  loaded := rfl
  state k' := by cases k <;> cases k' <;> first | exact state | rfl
  overdue k' := by cases k <;> cases k' <;> first | exact overdue | rfl
  clearOut k' := by cases k <;> cases k' <;> first | exact clearOut | rfl
  batch _ := rfl
  gate _ _ := rfl
  proven _ := rfl
  aspects := rfl

/-- A lamp may be replaced by one that is PROVEN as it was. -/
theorem State.setLamp_sight (s : State) (l : LampId) (x : Lamp) (h : x.proven = (s.lamp l).proven) : SameSight s (s.setLamp l x) where
  loaded := rfl
  state _ := rfl
  overdue _ := rfl
  clearOut _ := rfl
  batch _ := rfl
  gate _ _ := rfl
  proven l' := by
    rw [State.setLamp_lamp]
    split
    · next e => rw [e, h]
    · rfl
  aspects := rfl

/-- The lamps of a chamber may be changed by what leaves them PROVEN as they were. -/
theorem State.mapChamberLamps_sight (s : State) (k : Chamber) (f : Lamp → Lamp) (h : ∀ l, (f l).proven = l.proven) :
    SameSight s (s.mapChamberLamps k f) where
  loaded := rfl
  state _ := rfl
  overdue _ := rfl
  clearOut _ := rfl
  batch _ := rfl
  gate _ _ := rfl
  proven l := by
    obtain ⟨k', g, n⟩ := l
    cases k <;> cases k' <;> first | rfl | (cases g <;> cases n <;> exact h _)
  aspects := rfl

@[simp] theorem Lamp.flash_proven (l : Lamp) (g : Generator) (now : Nat) (lit tested : Bool) :
    (l.flash g now lit tested).proven = l.proven := by
  unfold Lamp.flash
  split <;> simp

theorem State.setGenerator_sight (s : State) (g : Generator) (x : FlashGen) : SameSight s (s.setGenerator g x) := by
  cases g <;> exact ⟨rfl, fun _ => rfl, fun _ => rfl, fun _ => rfl, fun _ => rfl, fun _ _ => rfl, fun _ => rfl, rfl⟩


/-! ## Requests -/

/-- What a request or an event leaves: all that the aspects follow from stands as before, or its consequences were carried out. -/
def Sighted (s t : State) : Prop := SameSight s t ∨ ∃ u : State, t = u.finish

theorem Sighted.same (s : State) : Sighted s s := .inl (.refl s)

theorem Sighted.finish (s u : State) : Sighted s u.finish := .inr ⟨u, rfl⟩

theorem Sighted.done (s u : State) (o : ReplyOutcome) (l : List WireField) : Sighted s (u.done o l).1 := .inr ⟨u, rfl⟩

theorem Sighted.current {s t : State} (h : Sighted s t) (hs : s.SignalsCurrent) : t.SignalsCurrent := by
  rcases h with h | ⟨u, rfl⟩
  · exact h.current hs
  · exact u.finish_current

theorem State.judged_sighted (s : State) (st : Station) (p : Permission) (own : State → Judged) (h : Sighted s (own s).1) :
    Sighted s (s.judged st p own).1 := by
  unfold State.judged
  split
  · exact .same s
  · exact h

/-- R57: a directed request, whatever its own rule leaves. -/
theorem State.directed_sighted (s : State) (st : Station) (k : Chamber) (own : State → Judged) (h : Sighted s (own s).1) :
    Sighted s (s.directed st k own).1 := by
  refine s.judged_sighted st _ _ ?_
  split
  · exact h
  · exact .same s

theorem State.withVessel_sighted (s : State) (slot : Nat) (own : Vessel → Judged) (h : Sighted s (own (s.vessel slot)).1) :
    Sighted s (s.withVessel slot own).1 := by
  unfold State.withVessel
  split
  · exact .same s
  · split
    · exact .same s
    · exact h

theorem State.phaseReply_sighted (s t : State) (k : Chamber) (kind : WaterKind) (o : ReplyOutcome) :
    Sighted s (t.phaseReply k kind o).1 := by
  unfold State.phaseReply
  split <;> exact .inr ⟨_, rfl⟩

theorem State.directSluice_sighted (s : State) (st : Station) (k : Chamber) (e : Side) (step : Nat) :
    Sighted s (s.directSluice st k e step).1 := by
  unfold State.directSluice State.sluiceWithin
  dsimp only
  (repeat' split) <;> first | with_reducible exact .done s _ _ _ | exact .same s | exact State.phaseReply_sighted ..

theorem State.directPhase_sighted (s : State) (k : Chamber) (kind : WaterKind) (cross : Bool) :
    Sighted s (s.directPhase k kind cross).1 := by
  unfold State.directPhase
  dsimp only
  split
  · exact State.phaseReply_sighted ..
  · exact .same s

theorem State.resumeAs_sighted (s : State) (k : Chamber) (c : ChamberState) : Sighted s (s.resumeAs k c).1 := by
  unfold State.resumeAs State.resumePhase
  dsimp only
  (repeat' split) <;> first | with_reducible exact .done s _ _ _ | exact .same s

theorem judgeForceFast_sighted (st : Station) (on : Bool) (s : State) : Sighted s (judgeForceFast st on s).1 := by
  refine s.judged_sighted st _ _ (.inl ?_)
  have relax : ∀ (u : State) (b : Body), SamplingOnly u (u.relaxBody b) := fun u b => by
    unfold State.relaxBody
    split
    · exact u.becomePrimary_sampling b
    · exact .refl u
  have each : ∀ (l : List Body) (u : State), SamplingOnly u (l.foldl (if on then State.becomeFast else State.relaxBody) u) := by
    intro l
    induction l with
    | nil => exact fun u => .refl u
    | cons b bs ih =>
      intro u
      refine .trans ?_ (ih _)
      cases on
      · exact relax u b
      · exact u.becomeFast_sampling b
  exact .trans (t := s.setForceFast on) (.of_eq rfl rfl rfl rfl rfl) (each _ _).sight

theorem State.writeVessel_sighted (s : State) (i : Nat) (vs : List Given) (h : (s.writeVessel i vs).2.1.accepted = false) :
    (s.writeVessel i vs).1 = s := by
  unfold State.writeVessel at h ⊢
  (repeat' split) <;> first | rfl | simp_all [ReplyOutcome.accepted]

/-- A write that is not accepted changes nothing. -/
theorem State.writeRecord_refused (s : State) (c : Collection) (i : Nat) (vs : List Given)
    (h : (s.writeRecord c i vs).2.1.accepted = false) : (s.writeRecord c i vs).1 = s := by
  have brought : ∀ x, (broughtIn x).accepted = true := fun x => by cases x <;> rfl
  cases c with
  | vessels => exact s.writeVessel_sighted i vs h
  | tariffStandby => exact absurd h (by simp [State.writeRecord, State.writeStandby, brought])
  | tariffActive => rfl
  | settings => exact absurd h (by simp [State.writeRecord, State.writeSettings, brought])

theorem Written.judged_sighted (s : State) (c : Collection) (i : Nat) (vs : List Given) (moved : State → State) :
    Sighted s (Written.judged (s.writeRecord c i vs) moved).1 := by
  unfold Written.judged
  split
  · exact .finish s _
  · next h =>
    rw [s.writeRecord_refused c i vs (Bool.eq_false_iff.mpr h)]
    exact .same s

/-- R114: a scan that takes nobody changes nothing. -/
theorem State.formFrom_nothing (s : State) (k : Chamber) (d : Direction) (h : (s.formFrom k d).2 = .nothing) :
    s.formFrom k d = (s, .nothing) := by
  unfold State.formFrom State.bindScan at h ⊢
  dsimp only at h ⊢
  (repeat' split at h) <;> first | contradiction | simp_all

/-- Whatever a request comes to, its consequences were carried out or the aspects were out of its reach. -/
theorem Requested.sighted {st : Station} {s : State} {x : Judged} (h : Requested st s x) : Sighted s x.1 := by
  cases h with
  | refused => exact .same s
  | forceFast on => exact judgeForceFast_sighted st on s
  | writeNext count data =>
    unfold judgeWriteNext
    dsimp only
    split
    · exact .same s
    · refine s.judged_sighted st _ _ ?_
      split
      · exact .same s
      · exact Written.judged_sighted ..
  | writeAt c i first last data =>
    unfold judgeWriteAt
    split
    · exact s.judged_sighted st _ _ (.same s)
    · split
      · exact .same s
      · refine s.judged_sighted st _ _ ?_
        split
        · exact .same s
        · exact Written.judged_sighted ..
        · exact .same s
  | swapTariff | settleSite | clearFault | readSiteAccount | readJournalStatus | readChamber | readFault
  | readLevels | readNotices | setNoticeMask | setAttentionMode =>
    exact s.judged_sighted st _ _ (.inl (.of_eq rfl rfl rfl rfl rfl))
  | readTallies clear =>
    refine s.judged_sighted st _ _ (.inl ?_)
    cases clear <;> exact .of_eq rfl rfl rfl rfl rfl
  | subscribe w =>
    refine s.judged_sighted st _ _ (.inl ?_)
    cases w <;> exact .trans (t := s.setSubscriber st _) (.of_eq rfl rfl rfl rfl rfl) (State.watermarkAt_sight _ _ _ _)
  | confirmIn =>
    refine s.judged_sighted st _ _ ?_
    dsimp only
    (repeat' split) <;> first | with_reducible exact .done s _ _ _ | exact .same s
  | unsubscribe => exact s.judged_sighted st _ _ (.done s _ _ _)
  | claim k =>
    refine s.judged_sighted st _ _ ?_
    unfold State.takeOver
    (repeat' split) <;> first | with_reducible exact .done s _ _ _ | exact .same s
  | hold slot =>
    refine s.judged_sighted st _ _ (s.withVessel_sighted slot _ ?_)
    split
    · exact .done s _ _ _
    · exact .inl (.of_eq rfl rfl rfl rfl rfl)
    · exact .same s
  | release slot =>
    refine s.judged_sighted st _ _ (s.withVessel_sighted slot _ ?_)
    split
    · split
      · exact .inl (.of_eq rfl rfl rfl rfl rfl)
      · exact .done s _ _ _
    · exact .same s
    · exact .same s
  | deleteVessel slot =>
    refine s.judged_sighted st _ _ (s.withVessel_sighted slot _ ?_)
    split
    · exact .same s
    · exact .inl (.of_eq rfl rfl rfl rfl rfl)
  | enterOrder slot d laden c =>
    refine s.judged_sighted st _ _ ?_
    have oversize : ∀ x f, SameSight s (State.write { s with tallies.oversize := x } f) := fun x f =>
      .trans (t := { s with tallies.oversize := x }) (.of_eq rfl rfl rfl rfl rfl) (State.write_sight _ _)
    dsimp only
    (repeat' split) <;> first | with_reducible exact .done s _ _ _ | exact .inl (oversize _ _) | exact .same s
  | gateOpen k e =>
    refine s.directed_sighted st k _ ?_
    unfold State.directOpen
    dsimp only
    (repeat' split) <;> first | with_reducible exact .done s _ _ _ | exact .same s
  | gateClose k e =>
    refine s.directed_sighted st k _ ?_
    unfold State.directClose
    dsimp only
    (repeat' split) <;> first | with_reducible exact .done s _ _ _ | exact .same s
  | gateStop k e =>
    refine s.directed_sighted st k _ ?_
    split
    · exact .done s _ _ _
    · exact .same s
  | sluice k which step =>
    refine s.directed_sighted st k _ ?_
    (repeat' split) <;> first | exact .same s | exact s.directSluice_sighted ..
  | bind k d =>
    refine s.directed_sighted st k _ ?_
    split
    · exact .same s
    · have nothing := s.formFrom_nothing k d
      split
      · exact .same s
      · next e => rw [nothing (by rw [e])] at e; exact (Prod.mk.inj e).1 ▸ .same s
      · exact .done s _ _ _
      · exact .done s _ _ _
  | fill k cross => exact s.directed_sighted st k _ (s.directPhase_sighted k .fill cross)
  | empty k cross => exact s.directed_sighted st k _ (s.directPhase_sighted k .empty cross)
  | resume k =>
    refine s.judged_sighted st _ _ ?_
    split
    · exact s.resumeAs_sighted k _
    · exact .same s
  | readBook =>
    refine s.judged_sighted st _ _ ?_
    dsimp only
    split <;> exact .same s
  | serviceOn | setMode | halt | addVessel | setWindow =>
    refine s.judged_sighted st _ _ ?_
    (repeat' split) <;> first | with_reducible exact .done s _ _ _ | exact .same s | exact .inl (.of_eq rfl rfl rfl rfl rfl)
  | readNext =>
    refine s.judged_sighted st _ _ ?_
    dsimp only
    split
    · exact .same s
    · exact .inl (.of_eq rfl rfl rfl rfl rfl)
  | _ =>
    refine s.judged_sighted st _ _ ?_
    (repeat' split) <;> first | with_reducible exact .done s _ _ _ | exact .same s | exact .inl (.of_eq rfl rfl rfl rfl rfl)

/-! ## Events -/

theorem State.startRound_sight (s : State) : SameSight s s.startRound := by
  unfold State.startRound
  split
  · exact .of_eq rfl rfl rfl rfl rfl
  · exact .refl s

/-- R1, R2: the reading of gauge A waits for gauge B's; that of gauge B ends the round. -/
theorem State.closePoll_sighted (s : State) (p : Poll) (st : GaugeStatus) (raw : Nat) : Sighted s (s.closePoll p st raw) := by
  unfold State.closePoll
  dsimp only
  split
  · exact .inl (.of_eq rfl rfl rfl rfl rfl)
  · exact .finish s _

theorem State.noStatus_sighted (s : State) (a : Actuator) (q : Query) : Sighted s (s.noStatus a q) := by
  unfold State.noStatus State.closeQuery State.driveEvent
  dsimp only
  split <;> exact .finish s _

theorem State.afterLoad_sight (s : State) : SameSight s s.afterLoad := by
  unfold State.afterLoad
  split
  · exact (s.raiseFault_sight _ _).trans (State.raiseAll_sight _ _)
  · exact .refl s

theorem execProvingInput_sight {l : LampId} {x : Bool} {s t : State} (h : execProvingInput l x s = .next t) : SameSight s t := by
  unfold execProvingInput at h
  dsimp only at h
  split at h <;> injection h with h <;> subst h
  · exact s.setLamp_sight l _ (Lamp.recount_proven _ _ _ _)
  · exact s.setLamp_sight l _ rfl

theorem State.readback_sight (s : State) (i : StoreImage) (matched : Bool) : SameSight s (s.readback i matched) := by
  have failed : ∀ x : Store, SameSight s (State.raiseFault { s with store := x } .settingsLost .store) := fun x =>
    .trans (t := { s with store := x }) (.of_eq rfl rfl rfl rfl rfl) (State.raiseFault_sight _ _ _)
  unfold State.readback State.reply
  split
  · exact .of_eq rfl rfl rfl rfl rfl
  · exact (failed _).trans (State.setStation_sight _ _ _)

/-- Every event but power-on ends with its consequences or leaves alone all that the aspects follow from. -/
theorem exec_event_sighted {c : Instr} {s t : State} (hc : c.isEvent = true) (hp : ∀ x, c ≠ .powerOnReset x)
    (h : exec c s = .next t) : Sighted s t := by
  cases c <;> first | exact absurd hc Bool.false_ne_true | skip
  case powerOnReset x => exact absurd rfl (hp x)
  case provingInput => exact .inl (execProvingInput_sight h)
  case roundStart =>
    injection h with h
    exact h ▸ .inl s.startRound_sight
  case flashPhaseChange g =>
    injection h with h
    subst h
    refine .inl (.trans (t := (s.reach (s.generator g).phaseEnd).setGenerator g _) ?_
      ((State.mapChamberLamps_sight _ .c1 _ fun l => l.flash_proven ..).trans
        (State.mapChamberLamps_sight _ .c2 _ fun l => l.flash_proven ..)))
    exact .trans (t := s.reach (s.generator g).phaseEnd) (.of_eq rfl rfl rfl rfl rfl) (State.setGenerator_sight _ _ _)
  case roundTimerExpiry b =>
    simp only [exec, execRoundTimerExpiry] at h
    split at h <;> injection h with h <;> subst h
    · exact .inl (.trans (t := (s.reach _).setBody b _) (.of_eq rfl rfl rfl rfl rfl) (State.enqueue_sampling _ b).sight)
    · exact .same s
  case holdTimerExpiry b =>
    simp only [exec, execHoldTimerExpiry] at h
    split at h <;> injection h with h <;> subst h
    · exact .inl (.trans (t := s.reach _) (.of_eq rfl rfl rfl rfl rfl) (State.holdOut_sampling _ b).sight)
    · exact .same s
  case gaugeReply =>
    simp only [exec, execGaugeReply] at h
    split at h <;> injection h with h <;> subst h
    · exact s.closePoll_sighted _ _ _
    · exact .same s
  case noReply =>
    simp only [exec, execNoReply] at h
    split at h <;> injection h with h <;> subst h
    · rcases (s.reach _).closePoll_sighted _ _ _ with g | g
      · exact .inl (.trans (t := s.reach _) (.of_eq rfl rfl rfl rfl rfl) g)
      · exact .inr g
    · exact .same s
  case trailTimerExpiry =>
    simp only [exec, execTrailTimerExpiry] at h
    split at h <;> injection h with h <;> subst h
    · exact .inl (.trans (t := { s.reach _ with levels.trail := _ }) (.of_eq rfl rfl rfl rfl rfl) (State.write_sight _ _))
    · exact .same s
  case statusAnswer =>
    simp only [exec, execStatusAnswer] at h
    (repeat' split at h) <;> injection h with h <;> subst h
    · exact .finish s _
    · exact s.noStatus_sighted _ _
    · exact .same s
  case statusTimeout =>
    simp only [exec, execStatusTimeout] at h
    split at h <;> injection h with h <;> subst h
    · exact s.noStatus_sighted _ _
    · exact .same s
  case fillSlow k =>
    simp only [exec, execFillSlow] at h
    (repeat' split at h) <;> injection h with h <;> subst h
    · exact .same s
    · have raised : ∀ n, SameSight s (((s.reach n).raiseFault .fillSlow (.chamber k)).raiseAll .fillSlow) := fun n =>
        .trans (t := s.reach n) (.of_eq rfl rfl rfl rfl rfl) ((State.raiseFault_sight _ _ _).trans (State.raiseAll_sight _ _))
      exact .inl ((raised _).trans (State.setChamber_sight _ k _ rfl rfl rfl))
    · exact .same s
  case storeReadbackEnd =>
    simp only [exec, execStoreReadbackEnd] at h
    split at h <;> injection h with h <;> subst h
    · exact .inl (s.readback_sight _ _)
    · exact .same s
  case linkLost =>
    simp only [exec, execLinkLost] at h
    split at h <;> injection h with h <;> subst h
    · exact .finish s _
    · exact .same s
  case badFrame | frameGapTimeout =>
    injection h with h
    subst h
    unfold State.badFrame
    split
    · exact .same s
    · exact .inl (s.setStation_sight _ _)
  all_goals
    simp only [exec, execRestartEvent, execGaugeStrayBytes, execSettleExpiry, execDrivePollCycle, execGateReport, execSluiceReport,
      execDriveAnswerTimeout, execOrderEcho, execEchoTimeout, execDriveStrayBytes, execGateMovementTimeout,
      execSluiceMovementTimeout, execRampIntervalExpiry, execEqualiseTimeout, execEntryOverdue, execClearOut, execLeaveOverdue,
      execWishExpiry, execCrossSlow, execFormationTimerExpiry, execLampFailed, execLampTestEnd, execSiteClockTick,
      execStrayLinkByte, execReplySent, execAttentionPulseEnd, execNoneAnswer] at h
    (repeat' split at h) <;> injection h with h <;> subst h
    all_goals first
      | with_reducible exact .finish s _
      | exact .same s
      | exact .inl (.of_eq rfl rfl rfl rfl rfl)
      | exact .inr ⟨_, rfl⟩

theorem State.powerOn_current (s : State) (x : PerStation Straps) : (s.powerOn x).SignalsCurrent :=
  (State.afterLoad_sight _).current (State.derive_current _)

/-- Every event keeps the signals current. -/
theorem exec_event_current {c : Instr} {s t : State} (hc : c.isEvent = true) (h : exec c s = .next t) (hs : s.SignalsCurrent) :
    t.SignalsCurrent := by
  by_cases hp : ∃ x, c = .powerOnReset x
  · obtain ⟨x, rfl⟩ := hp
    injection h with h
    exact h ▸ s.powerOn_current _
  · exact (exec_event_sighted hc (fun x e => hp ⟨x, e⟩) h).current hs

/-! ## The obligation -/

/-- Every command keeps the signals current. -/
theorem exec_current {c : Instr} {s t : State} (h : exec c s = .next t) (hs : s.SignalsCurrent) : t.SignalsCurrent :=
  exec_keeps (P := State.SignalsCurrent) (fun u st r _ hu => (u.setStation_sight st r).current hu)
    (fun _ _ _ _ hx hu => hx.sighted.current hu) (fun _ _ _ hc h hu => exec_event_current hc h hu) h hs

/-- Settles O52: the queue and the passing of 1 ms are outside the aspects, and each command keeps the signals current. -/
theorem stepKeepsSignalsCurrent : Obligations.StepKeepsSignalsCurrent := by
  intro s t hs h
  obtain ⟨_, rfl⟩ | ⟨c, rest, _, hx⟩ := step_cases h
  · exact SameSight.current (s := s) (.of_eq rfl rfl rfl rfl rfl) hs
  · exact exec_current hx (SameSight.current (s := s) (.of_eq rfl rfl rfl rfl rfl) hs)

end Sys2Proof.Machine
end

section
/-! SUPPORT. The journal's words, the passage book and the ceilings of the vessels, kept together: what leaves them alone, what a frame
written does to them, and that no consequence of an event breaks them (R89, R94, R95, R154). -/

namespace Sys2Proof.Machine

/-! ## The three invariants together -/

/-- R154: the frames stored and the words reserved fit the journal, and no batch holds more words than one of 8 members asks for. -/
def State.Room (s : State) : Prop := s.used + s.reserved ≤ 4096 ∧ ∀ k b, s.batch k = some b → b.reserve ≤ 164

/-- R104: the reserve of a batch covers what it may still need, and only a batch not yet SECURED can be without members. -/
def Batch.Covered (b : Batch) : Prop := b.owed ≤ b.reserve ∧ (b.members = [] → b.state = .bound ∨ b.state = .entering)

theorem State.journalFits_iff (s : State) : s.JournalFits ↔ s.Room ∧ ∀ k b, s.batch k = some b → b.Covered := by
  constructor
  · rintro ⟨words, batches⟩
    exact ⟨⟨words, fun k b h => (batches k b h).2.1⟩, fun k b h => ⟨(batches k b h).1, (batches k b h).2.2⟩⟩
  · rintro ⟨⟨words, reserves⟩, covered⟩
    exact ⟨words, fun k b h => ⟨(covered k b h).1, reserves k b h, (covered k b h).2⟩⟩

/-- Each of the three invariants that held in `s` holds in `t`. -/
structure KeepsBooks (s t : State) : Prop where
  journal : s.JournalFits → t.JournalFits
  book : s.BookInOrder → t.BookInOrder
  ceilings : s.CeilingsHeld → t.CeilingsHeld

theorem KeepsBooks.refl (s : State) : KeepsBooks s s := ⟨id, id, id⟩

theorem KeepsBooks.trans {s t u : State} (h : KeepsBooks s t) (g : KeepsBooks t u) : KeepsBooks s u :=
  ⟨g.journal ∘ h.journal, g.book ∘ h.book, g.ceilings ∘ h.ceilings⟩

theorem KeepsBooks.foldl {α : Type} {f : State → α → State} (h : ∀ t x, KeepsBooks t (f t x)) (l : List α) (s : State) :
    KeepsBooks s (l.foldl f s) := by
  induction l generalizing s with
  | nil => exact .refl s
  | cons x xs ih => exact .trans (h s x) (ih _)

/-! ## What leaves them alone -/

/-- What the order of the book is read from in an order: its number, its slot, its class, its entry sequence and its entry. -/
def Order.key (o : Order) : Nat × Nat × OrderClass × Nat × Nat := (o.number, o.slot, o.cls, o.sequence, o.entered)

/-- The keys of the orders and the register stay, and time does not run back. -/
structure OrdersAlone (s t : State) : Prop where
  up : t.book.lists.up.map Order.key = s.book.lists.up.map Order.key
  down : t.book.lists.down.map Order.key = s.book.lists.down.map Order.key
  entrySequence : t.book.entrySequence = s.book.entrySequence
  vessels : t.vessels = s.vessels
  now : s.now ≤ t.now

/-- The batches and the frames stay as well. -/
structure BooksAlone (s t : State) : Prop extends OrdersAlone s t where
  batches : t.book.batches = s.book.batches
  frames : t.journal.frames = s.journal.frames

theorem OrdersAlone.refl (s : State) : OrdersAlone s s := ⟨rfl, rfl, rfl, rfl, Nat.le_refl _⟩

theorem OrdersAlone.trans {s t u : State} (h : OrdersAlone s t) (g : OrdersAlone t u) : OrdersAlone s u :=
  ⟨g.up.trans h.up, g.down.trans h.down, g.entrySequence.trans h.entrySequence, g.vessels.trans h.vessels, h.now.trans g.now⟩

theorem OrdersAlone.of_eq {s t : State} (lists : t.book.lists = s.book.lists)
    (entrySequence : t.book.entrySequence = s.book.entrySequence) (vessels : t.vessels = s.vessels) (now : t.now = s.now) :
    OrdersAlone s t :=
  ⟨by rw [lists], by rw [lists], entrySequence, vessels, now ▸ Nat.le_refl _⟩

theorem OrdersAlone.foldl {α : Type} {f : State → α → State} (h : ∀ t x, OrdersAlone t (f t x)) (l : List α) (s : State) :
    OrdersAlone s (l.foldl f s) := by
  induction l generalizing s with
  | nil => exact .refl s
  | cons x xs ih => exact .trans (h s x) (ih _)

theorem BooksAlone.refl (s : State) : BooksAlone s s := ⟨.refl s, rfl, rfl⟩

theorem BooksAlone.trans {s t u : State} (h : BooksAlone s t) (g : BooksAlone t u) : BooksAlone s u :=
  ⟨h.toOrdersAlone.trans g.toOrdersAlone, g.batches.trans h.batches, g.frames.trans h.frames⟩

theorem BooksAlone.of_eq {s t : State} (book : t.book = s.book) (frames : t.journal.frames = s.journal.frames)
    (vessels : t.vessels = s.vessels) (now : t.now = s.now) : BooksAlone s t :=
  ⟨.of_eq (by rw [book]) (by rw [book]) vessels now, by rw [book], frames⟩

theorem BooksAlone.of_plant {s t : State} (h : PlantOnly s t) : BooksAlone s t := by
  rw [h]
  exact .of_eq rfl rfl rfl rfl

theorem BooksAlone.of_agenda {s t : State} (h : AgendaOnly s t) : BooksAlone s t := by
  rw [h]
  exact .of_eq rfl rfl rfl rfl

theorem BooksAlone.foldl {α : Type} {f : State → α → State} (h : ∀ t x, BooksAlone t (f t x)) (l : List α) (s : State) :
    BooksAlone s (l.foldl f s) := by
  induction l generalizing s with
  | nil => exact .refl s
  | cons x xs ih => exact .trans (h s x) (ih _)

theorem BooksAlone.batch {s t : State} (h : BooksAlone s t) (k : Chamber) : t.batch k = s.batch k := by rw [State.batch, h.batches]; rfl

theorem OrdersAlone.vessel {s t : State} (h : OrdersAlone s t) (i : Nat) : t.vessel i = s.vessel i := by rw [State.vessel, h.vessels]; rfl

theorem BooksAlone.used {s t : State} (h : BooksAlone s t) : t.used = s.used := by rw [State.used, h.frames]; rfl

theorem BooksAlone.reserved {s t : State} (h : BooksAlone s t) : t.reserved = s.reserved := by
  simp only [State.reserved, State.reserveOf, h.batch]

theorem BooksAlone.room {s t : State} (h : BooksAlone s t) (hs : s.Room) : t.Room := by
  refine ⟨?_, fun k b => ?_⟩
  · rw [h.used, h.reserved]
    exact hs.1
  · rw [h.batch]
    exact hs.2 k b

/-- The order of the book, read from the keys of its orders. -/
theorem State.bookInOrder_iff (s : State) : s.BookInOrder ↔
    let ks := s.book.lists.up.map Order.key ++ s.book.lists.down.map Order.key
    ks.length ≤ 32 ∧ (ks.map (·.1)).Nodup ∧ (ks.map (·.2.1)).Nodup
      ∧ (∀ x ∈ ks, (s.vessel x.2.1).state ≠ .free ∧ (s.vessel x.2.1).order = some x.1 ∧ x.2.2.2.1 ≤ s.book.entrySequence
        ∧ x.2.2.2.2 ≤ s.now)
      ∧ ∀ d, (s.book.lists.get d).Pairwise (fun x y => x.before y = true) := by
  simp only [State.BookInOrder, Book.orders, ← List.map_append, List.map_map, List.length_map, List.forall_mem_map]
  rfl

theorem Order.before_congr {x y x' y' : Order} (hx : x'.key = x.key) (hy : y'.key = y.key) : x'.before y' = x.before y := by
  simp only [Order.key, Prod.mk.injEq] at hx hy
  simp only [Order.before, hx, hy]

/-- A list whose orders have the same keys stands in its order as well. -/
theorem pairwise_before_of_keys : ∀ {l l' : List Order}, l'.map Order.key = l.map Order.key →
    l.Pairwise (fun x y => x.before y = true) → l'.Pairwise (fun x y => x.before y = true) := by
  intro l
  induction l with
  | nil =>
    intro l' e _
    simp_all
  | cons x xs ih =>
    intro l' e h
    cases l' with
    | nil => exact .nil
    | cons y ys =>
      simp only [List.map_cons, List.cons.injEq] at e
      obtain ⟨hx, hxs⟩ := List.pairwise_cons.1 h
      refine List.pairwise_cons.2 ⟨fun z hz => ?_, ih e.2 hxs⟩
      obtain ⟨w, hw, hk⟩ := List.mem_map.1 (e.2 ▸ List.mem_map_of_mem (f := Order.key) hz)
      rw [Order.before_congr e.1 hk.symm]
      exact hx w hw

theorem OrdersAlone.bookInOrder {s t : State} (h : OrdersAlone s t) (hs : s.BookInOrder) : t.BookInOrder := by
  rw [State.bookInOrder_iff] at hs ⊢
  obtain ⟨count, numbers, slots, each, lists⟩ := hs
  simp only [h.up, h.down, h.vessel, h.entrySequence]
  refine ⟨count, numbers, slots, fun x hx => ?_, fun d => ?_⟩
  · obtain ⟨free, order, sequence, entered⟩ := each x hx
    exact ⟨free, order, sequence, entered.trans h.now⟩
  · cases d
    · exact pairwise_before_of_keys h.up (lists .up)
    · exact pairwise_before_of_keys h.down (lists .down)

theorem OrdersAlone.ceilings {s t : State} (h : OrdersAlone s t) (hs : s.CeilingsHeld) : t.CeilingsHeld := by
  intro i
  rw [h.vessel]
  exact hs i

theorem BooksAlone.keeps {s t : State} (h : BooksAlone s t) : KeepsBooks s t where
  journal hs := by
    rw [State.journalFits_iff] at hs ⊢
    exact ⟨h.room hs.1, fun k b => h.batch k ▸ hs.2 k b⟩
  book := h.bookInOrder
  ceilings := h.ceilings

theorem OrdersAlone.keeps {s t : State} (h : OrdersAlone s t) (journal : s.JournalFits → t.JournalFits) : KeepsBooks s t :=
  ⟨journal, h.bookInOrder, h.ceilings⟩

theorem KeepsBooks.of_eq {s t : State} (book : t.book = s.book) (frames : t.journal.frames = s.journal.frames)
    (vessels : t.vessels = s.vessels) (now : t.now = s.now) : KeepsBooks s t := (BooksAlone.of_eq book frames vessels now).keeps

theorem State.reach_alone (s : State) (n : Nat) : BooksAlone s (s.reach n) :=
  ⟨⟨rfl, rfl, rfl, rfl, Nat.le_max_left _ _⟩, rfl, rfl⟩

/-! ## Frames written -/

theorem Frame.words_le (f : Frame) : f.words ≤ 16 := by cases f <;> simp [Frame.words]

/-- R156: what a discard leaves is within the room, or nothing. -/
theorem discardTo_words (room : Nat) (fs : List Frame) : framesWords (discardTo room fs).1 ≤ room := by
  induction fs with
  | nil => exact Nat.zero_le _
  | cons f fs ih =>
    unfold discardTo
    split
    · assumption
    · exact ih

theorem State.Room.reserved_le {s : State} (h : s.Room) : s.reserved ≤ 328 := by
  have each : ∀ k, s.reserveOf k ≤ 164 := fun k => by
    unfold State.reserveOf
    cases hb : s.batch k with
    | none => exact Nat.zero_le _
    | some b => exact h.2 k b hb
  have h1 := each .c1
  have h2 := each .c2
  unfold State.reserved
  omega

/-- Frames apart, the journal's invariant reads the batches alone. -/
theorem State.Room.of_frames {s t : State} (batches : t.book.batches = s.book.batches) (h : s.Room)
    (words : t.used + s.reserved ≤ 4096) : t.Room := by
  have batch : ∀ k, t.batch k = s.batch k := fun k => by rw [State.batch, batches]; rfl
  refine ⟨?_, fun k b => by rw [batch]; exact h.2 k b⟩
  have e : t.reserved = s.reserved := by simp only [State.reserved, State.reserveOf, batch]
  rw [e]
  exact words

theorem State.discardFor_used (s : State) (n : Nat) : (s.discardFor n).used ≤ 4096 - s.reserved - n := discardTo_words _ _

theorem State.append_used (s : State) (f : Frame) : (s.append f).used = s.used + f.words := by
  rw [State.append_frame]
  simp [State.used, framesWords]

theorem State.write_room (s : State) (f : Frame) (h : s.Room) : (s.write f).Room := by
  have hf := f.words_le
  have hr := h.reserved_le
  have words : (s.write f).used + s.reserved ≤ 4096 := by
    unfold State.write
    split
    · split
      · next hw =>
        rw [State.append_used]
        simp only [State.availableWords, Config.journalWords] at hw
        have := h.1
        omega
      · exact h.1
    · rw [State.append_used]
      have := s.discardFor_used f.words
      omega
  refine .of_frames ?_ h words
  rw [State.write_frame]

theorem State.write_orders (s : State) (f : Frame) : OrdersAlone s (s.write f) := by
  rw [State.write_frame]
  exact .of_eq rfl rfl rfl rfl

/-- A frame written on top of the others touches no batch, no order and no vessel, and fits. -/
theorem State.write_keeps (s : State) (f : Frame) : KeepsBooks s (s.write f) := by
  refine (s.write_orders f).keeps fun hs => ?_
  rw [State.journalFits_iff] at hs ⊢
  refine ⟨s.write_room f hs.1, ?_⟩
  rw [State.write_frame]
  exact hs.2

theorem State.raiseAll_alone (s : State) (n : NoticeKind) : BooksAlone s (s.raiseAll n) := .of_eq rfl rfl rfl rfl

theorem State.raiseFault_keeps (s : State) (f : FaultKind) (x : Subject) : KeepsBooks s (s.raiseFault f x) := by
  refine (s.write_keeps (.fault f x s.time)).trans ?_
  unfold State.raiseFault
  generalize s.write (.fault f x s.time) = t
  dsimp only
  split
  · exact .refl t
  · exact .trans (t := { t with capture := t.capture.offer (s.captured f x) }) (.of_eq rfl rfl rfl rfl)
      (State.raiseAll_alone _ _).keeps

theorem State.moveFrame_keeps (s : State) (a : Actuator) (o : MoveOutcome) : KeepsBooks s (s.moveFrame a o) := s.write_keeps _

theorem State.orderFrame_keeps (s : State) (n : Option Nat) (i : Nat) (e : OrderEvent) (st : Station) :
    KeepsBooks s (s.orderFrame n i e st) := s.write_keeps _

theorem State.push_alone (s : State) (t : Task) : BooksAlone s (s.push t) := .of_agenda (s.push_agendaOnly t)

theorem State.setChamber_alone (s : State) (k : Chamber) (c : Sequencer) : BooksAlone s (s.setChamber k c) := .of_eq rfl rfl rfl rfl

end Sys2Proof.Machine
end

section
/-! SUPPORT. The batches' reserves and the consequences of an event: water records closed, batches bound, entering and leaving, phases,
halts, faults, and the cascade itself keep the journal, the book and the ceilings (R41 to R52, R65 to R74, R104, R154). -/

namespace Sys2Proof.Machine

/-! ## A batch replaced -/

theorem framesWords_snoc (fs : List Frame) (f : Frame) : framesWords (fs ++ [f]) = framesWords fs + f.words := by
  simp [framesWords]

/-- With chamber k's batch replaced, the words reserved change by the difference of the two reserves. -/
theorem State.reserved_replaced {s t : State} {k : Chamber} {b b' : Batch} (hb : s.batch k = some b)
    (batch : ∀ k', t.batch k' = if k' = k then some b' else s.batch k') : t.reserved + b.reserve = s.reserved + b'.reserve := by
  cases k <;> simp [State.reserved, State.reserveOf, batch, hb] <;> omega

/-- Chamber k's batch may be replaced by one of a smaller reserve: what it loses, the frames may gain. -/
theorem State.Room.of_batch {s t : State} {k : Chamber} {b b' : Batch} (hb : s.batch k = some b)
    (batch : ∀ k', t.batch k' = if k' = k then some b' else s.batch k') (words : t.used + b'.reserve ≤ s.used + b.reserve)
    (reserve : b'.reserve ≤ b.reserve) (h : s.Room) : t.Room := by
  obtain ⟨fits, reserves⟩ := h
  have hr := State.reserved_replaced hb batch
  refine ⟨by omega, fun k' x hx => ?_⟩
  rw [batch] at hx
  split at hx
  · cases hx
    exact reserve.trans (reserves k b hb)
  · exact reserves k' x hx

/-- Chamber k's batch may be replaced by one that needs no more words: what its reserve loses, the frames may gain. -/
theorem KeepsBooks.of_batch {s t : State} {k : Chamber} {b b' : Batch} (orders : OrdersAlone s t) (hb : s.batch k = some b)
    (batch : ∀ k', t.batch k' = if k' = k then some b' else s.batch k')
    (words : b.Covered → t.used + b'.reserve ≤ s.used + b.reserve) (reserve : b'.reserve ≤ b.reserve)
    (covered : b.Covered → b'.Covered) : KeepsBooks s t := by
  refine orders.keeps fun hs => ?_
  rw [State.journalFits_iff] at hs ⊢
  obtain ⟨room, all⟩ := hs
  refine ⟨room.of_batch hb batch (words (all k b hb)) reserve, fun k' x hx => ?_⟩
  rw [batch] at hx
  split at hx
  · cases hx
    exact covered (all k b hb)
  · exact all k' x hx

/-- A chamber left without a batch gives its reserve back. -/
theorem State.Room.of_removed {s t : State} {k : Chamber} (batch : ∀ k', t.batch k' = if k' = k then none else s.batch k')
    (frames : t.journal.frames = s.journal.frames) (hs : s.Room) : t.Room := by
  have hu : t.used = s.used := by rw [State.used, frames]; rfl
  have hr : t.reserved ≤ s.reserved := by cases k <;> simp [State.reserved, State.reserveOf, batch]
  have fits := hs.1
  refine ⟨by omega, fun k' x hx => ?_⟩
  rw [batch] at hx
  split at hx
  · contradiction
  · exact hs.2 k' x hx

theorem KeepsBooks.of_removed {s t : State} {k : Chamber} (orders : OrdersAlone s t)
    (batch : ∀ k', t.batch k' = if k' = k then none else s.batch k') (frames : t.journal.frames = s.journal.frames) :
    KeepsBooks s t := by
  refine orders.keeps fun hs => ?_
  rw [State.journalFits_iff] at hs ⊢
  refine ⟨hs.1.of_removed batch frames, fun k' x hx => ?_⟩
  rw [batch] at hx
  split at hx
  · contradiction
  · exact hs.2 k' x hx

/-! ## Water records closed (R44, R137) -/

theorem shareMembers_length (charge : Nat) (ms : List Member) : (shareMembers charge ms).length = ms.length := by
  simp [shareMembers, length_apportion]

theorem State.setBatch_batch_self (s : State) (k : Chamber) (b : Option Batch) : (s.setBatch k b).batch k = b := by simp

/-- R156: a frame of the batch draws its words from the reserve. -/
theorem State.writeReserved_eq {s : State} {k : Chamber} {b : Batch} (hb : s.batch k = some b) (f : Frame) :
    s.writeReserved k f = { s with
      book.batches := s.book.batches.set k (some { b with reserve := b.reserve - f.words })
      journal.frames := s.journal.frames ++ [f]
      stations := (s.writeReserved k f).stations } := by
  unfold State.writeReserved
  rw [hb]
  dsimp only
  rw [State.append_frame]
  rfl

/-- The batch a closed record leaves: the record stands in it, and a fill's shares in its members. -/
def Batch.closedWith (b : Batch) (kind : WaterKind) (r : ClosedRec) : Batch :=
  match kind with
  | .fill =>
    { b with
      members := shareMembers r.charge b.members
      fill := some { r with sharers := (shareMembers r.charge b.members).map (·.order) }
      reserve := b.reserve - 12 }
  | .empty => { b with empty := some r, reserve := b.reserve - 12 }

/-- R44, R137: a record closed for a batch: one WATER frame is written, its words drawn from the reserve. -/
theorem State.takeForBatch_eq {s : State} {k : Chamber} {b : Batch} (w : WaterRec) (stop : Option Nat) (hb : s.batch k = some b) :
    ∃ x : WaterFrame, s.takeForBatch k w b stop = { s with
      book.batches := s.book.batches.set k (some
        (b.closedWith w.kind (closeRec w (s.settings.chamber.get k).wetArea b.tariff.waterRate stop)))
      journal.frames := s.journal.frames ++ [.water x]
      stations := (s.takeForBatch k w b stop).stations
      site := (s.takeForBatch k w b stop).site } := by
  unfold State.takeForBatch Batch.closedWith
  dsimp only
  generalize closeRec w (s.settings.chamber.get k).wetArea b.tariff.waterRate stop = r
  cases w.kind with
  | fill =>
    dsimp only
    rw [State.writeReserved_eq (b := { b with members := shareMembers r.charge b.members }) (State.setBatch_batch_self ..)]
    refine ⟨?_, ?_⟩
    rotate_left
    · simp only [State.postSite, State.setBatch, State.batch, PerChamber.get_set, PerChamber.set_set, if_true, Option.map_some]
      rfl
  | empty =>
    dsimp only
    rw [State.writeReserved_eq hb]
    refine ⟨?_, ?_⟩
    rotate_left
    · simp only [State.setBatch, State.batch, PerChamber.get_set, PerChamber.set_set, if_true, Option.map_some]
      rfl

theorem Batch.closedWith_owed {b : Batch} {kind : WaterKind} (r : ClosedRec) (fresh : b.closed kind = none) :
    (b.closedWith kind r).owed + 12 = b.owed := by
  cases kind <;> simp only [Batch.closed] at fresh <;>
    simp only [Batch.owed, Batch.closedWith, fresh, shareMembers_length, reduceCtorEq, if_true, if_false] <;> grind

theorem Batch.closedWith_members_nil {b : Batch} {kind : WaterKind} {r : ClosedRec} (h : (b.closedWith kind r).members = []) :
    b.members = [] := by
  cases kind with
  | fill => exact List.eq_nil_of_length_eq_zero ((shareMembers_length r.charge _).symm.trans (congrArg List.length h))
  | empty => exact h

theorem Batch.closedWith_rest (b : Batch) (kind : WaterKind) (r : ClosedRec) :
    (b.closedWith kind r).state = b.state ∧ (b.closedWith kind r).reserve = b.reserve - 12 := by
  cases kind <;> exact ⟨rfl, rfl⟩

/-- R44: the record's 12 words leave the reserve, which then owes no frame for it any more. -/
theorem State.takeForBatch_keeps {s : State} {k : Chamber} {b : Batch} (w : WaterRec) (stop : Option Nat) (hb : s.batch k = some b)
    (fresh : b.closed w.kind = none) : KeepsBooks s (s.takeForBatch k w b stop) := by
  obtain ⟨x, e⟩ := State.takeForBatch_eq w stop hb
  generalize closeRec w (s.settings.chamber.get k).wetArea b.tariff.waterRate stop = r at e
  have owed := Batch.closedWith_owed r fresh
  obtain ⟨state, reserve⟩ := b.closedWith_rest w.kind r
  rw [e]
  refine .of_batch (k := k) (.of_eq rfl rfl rfl rfl) hb (fun k' => PerChamber.get_set ..) (fun c => ?_) (by omega) fun c => ?_
  · have := c.1
    simp only [State.used, framesWords_snoc, Frame.words]
    omega
  · refine ⟨by have := c.1; omega, fun h => ?_⟩
    rw [state]
    exact c.2 (Batch.closedWith_members_nil h)

theorem State.postSite_alone (s : State) (x y z : Nat) : BooksAlone s (s.postSite x y z) := .of_eq rfl rfl rfl rfl

theorem State.takeForSite_keeps (s : State) (k : Chamber) (w : WaterRec) (stop : Option Nat) :
    KeepsBooks s (s.takeForSite k w stop) := by
  unfold State.takeForSite
  dsimp only
  split
  · exact (s.write_keeps _).trans (State.postSite_alone _ _ _ _).keeps
  · exact s.write_keeps _

theorem State.closeWater_keeps (s : State) (k : Chamber) (x : Bool) : KeepsBooks s (s.closeWater k x) := by
  unfold State.closeWater
  dsimp only
  split
  · exact .refl s
  · next w hw =>
    refine (s.setChamber_alone k { s.chamber k with water := none }).keeps.trans ?_
    split
    · next b h =>
      have hr : s.recordBatch k w = some b := by
        split at h
        · exact h
        · contradiction
      unfold State.recordBatch at hr
      split at hr
      · next b' hb =>
        split at hr
        · next fresh =>
          cases hr
          exact State.takeForBatch_keeps w _ hb fresh.2
        · contradiction
      · contradiction
    · exact State.takeForSite_keeps _ _ _ _

/-! ## Fills, empties and the cross arbiter (R45, R65 to R72) -/

theorem State.setChamberState_alone (s : State) (k : Chamber) (x : ChamberState) : BooksAlone s (s.setChamberState k x) :=
  s.setChamber_alone k _

theorem State.openWater_alone (s : State) (k : Chamber) (kind : WaterKind) : BooksAlone s (s.openWater k kind) :=
  s.setChamber_alone k _

theorem State.setWish_alone (s : State) (k : Chamber) (w : Option Wish) : BooksAlone s (s.setWish k w) := .of_eq rfl rfl rfl rfl

theorem State.shutSluice_alone (s : State) (q : Sluice) : BooksAlone s (s.shutSluice q) := .of_plant (s.shutSluice_plant q)

theorem State.startRamp_alone (s : State) (q : Sluice) (r : Requester) (n : Nat) : BooksAlone s (s.startRamp q r n) :=
  .of_plant (s.startRamp_plant q r n)

theorem State.phaseDone_keeps (s : State) (k : Chamber) (kind : WaterKind) : KeepsBooks s (s.phaseDone k kind) := by
  unfold State.phaseDone
  dsimp only
  split
  · exact (s.closeWater_keeps k true).trans ((State.setChamberState_alone _ k _).trans (State.push_alone _ _)).keeps
  · exact .refl s

theorem State.endPhase_keeps (s : State) (k : Chamber) (kind : WaterKind) : KeepsBooks s (s.endPhase k kind) :=
  ((s.setChamber_alone k _).trans (State.shutSluice_alone _ _)).keeps.trans (State.phaseDone_keeps _ k kind)

theorem State.enterPhase_keeps (s : State) (k : Chamber) (kind : WaterKind) : KeepsBooks s (s.enterPhase k kind) := by
  have begun : BooksAlone s (s.beginPhase k kind) := s.setChamber_alone k _
  refine begun.keeps.trans ?_
  unfold State.enterPhase
  dsimp only
  split
  · exact State.endPhase_keeps _ k kind
  · exact (State.startRamp_alone _ _ _ _).keeps

theorem State.proceedAlone_keeps (s : State) (k : Chamber) : KeepsBooks s (s.proceedAlone k) := by
  unfold State.proceedAlone
  split
  · exact (s.setWish_alone k none).keeps.trans (State.enterPhase_keeps _ k _)
  · exact .refl s

theorem State.endCross_alone (s : State) (cause : CrossEnd) : BooksAlone s (s.endCross cause) :=
  .trans (t := { s with arbiter.record := _, arbiter.timer := none }) (.of_eq rfl rfl rfl rfl)
    ((State.shutSluice_alone _ .cross).trans (.of_eq rfl rfl rfl rfl))

theorem State.deliver_alone (s : State) (k : Chamber) : BooksAlone s (s.deliver k) := by
  unfold State.deliver
  (repeat' split) <;> exact .of_eq rfl rfl rfl rfl

theorem State.deliverEnd_keeps (s : State) (k : Chamber) (kind : WaterKind) : KeepsBooks s (s.deliverEnd k kind) := by
  unfold State.deliverEnd
  dsimp only
  (repeat' split)
  · exact .refl s
  · exact (s.deliver_alone k).keeps.trans (State.enterPhase_keeps _ k kind)
  · exact (s.deliver_alone k).keeps
  · exact .refl s

theorem State.crossDone_keeps (s : State) : KeepsBooks s s.crossDone := by
  unfold State.crossDone
  dsimp only
  (repeat' split)
  · exact ((s.deliverEnd_keeps _ _).trans (State.deliverEnd_keeps _ _ _)).trans (.of_eq rfl rfl rfl rfl)
  · exact .of_eq rfl rfl rfl rfl
  · exact .refl s

theorem State.closeCross_keeps (s : State) (cause : CrossEnd) : KeepsBooks s (s.closeCross cause) :=
  (s.endCross_alone cause).keeps.trans (State.crossDone_keeps _)

/-- R68: the part just after a pairing, its cross record open and its phase timer running. -/
def State.paired (s : State) (f : Chamber) (hf he : Nat) : State :=
  let t := { s with
    arbiter.wishes := ⟨none, none⟩
    arbiter.record := some
      { filling := f, start := perChamber f (some hf) (some he), stop := ⟨none, none⟩, cause := none, delivered := ⟨false, false⟩ } }
  let t := (t.setChamberState f .fillCross).setChamberState f.other .emptyCross
  { t with arbiter.owner := .engaged, arbiter.timer := some (t.now + seconds t.settings.crossLimit) }

theorem State.engage_eq (s : State) (f : Chamber) (hf he : Nat) :
    s.engage f hf he =
      if (s.paired f hf he).pairEqualised .cross then (s.paired f hf he).closeCross .equalised
      else (s.paired f hf he).startRamp .cross .arbiter 8 := rfl

theorem State.engage_keeps (s : State) (f : Chamber) (hf he : Nat) : KeepsBooks s (s.engage f hf he) := by
  have paired : BooksAlone s (s.paired f hf he) := .of_eq rfl rfl rfl rfl
  rw [State.engage_eq]
  split
  · exact paired.keeps.trans (State.closeCross_keeps _ _)
  · exact paired.keeps.trans (State.startRamp_alone _ _ _ _).keeps

theorem State.offer_keeps (s : State) (k : Chamber) (kind : WaterKind) : KeepsBooks s (s.offer k kind) := by
  unfold State.offer
  dsimp only
  (repeat' split)
  · exact s.enterPhase_keeps k _
  · exact s.engage_keeps _ _ _
  · exact s.engage_keeps _ _ _
  · exact (s.proceedAlone_keeps _).trans (State.enterPhase_keeps _ k kind)
  · exact s.enterPhase_keeps k kind
  · exact ((s.setWish_alone k _).trans (State.setChamberState_alone _ k _)).keeps

theorem State.quitCross_keeps (s : State) (k : Chamber) (cause : CrossEnd) : KeepsBooks s (s.quitCross k cause) :=
  ((s.endCross_alone cause).trans (State.deliver_alone _ k)).keeps.trans (State.crossDone_keeps _)

theorem State.leaveCross_keeps (s : State) (k : Chamber) (cause : CrossEnd) : KeepsBooks s (s.leaveCross k cause) := by
  have left := (s.setWish_alone k none).keeps.trans (State.proceedAlone_keeps _ k.other)
  unfold State.leaveCross
  dsimp only
  split
  · exact left.trans (State.quitCross_keeps _ k cause)
  · exact left.trans (State.deliver_alone _ k).keeps

end Sys2Proof.Machine
end

section
/-! SUPPORT. Orders re-judged, batches bound, and the cascade: no consequence of an event breaks the journal, the book or the ceilings
(R41 to R52, R73, R90, R98 to R105). -/

namespace Sys2Proof.Machine

/-! ## Orders changed in what their keys leave out -/

theorem State.pushAvailable_alone (s : State) : BooksAlone s s.pushAvailable := .of_agenda (s.pushForms_agendaOnly _ _)

theorem State.noteFreed_alone (s old : State) : BooksAlone s (s.noteFreed old) := .of_agenda (s.noteFreed_agendaOnly old)

theorem changeIn_keys {n : Nat} {f : Order → Order} (h : ∀ o, (f o).key = o.key) (l : List Order) :
    (changeIn n f l).map Order.key = l.map Order.key := by
  rw [changeIn, List.map_map]
  refine List.map_congr_left fun o _ => ?_
  dsimp only [Function.comp_apply]
  split
  · exact h o
  · rfl

/-- An order may be changed in its state and its pass-over count. -/
theorem State.changeOrder_alone (s : State) (n : Nat) (f : Order → Order) (h : ∀ o, (f o).key = o.key) :
    BooksAlone s (s.changeOrder n f) :=
  ⟨⟨changeIn_keys h _, changeIn_keys h _, rfl, rfl, Nat.le_refl _⟩, rfl, rfl⟩

theorem State.rejudge_alone (s : State) (slot : Nat) : BooksAlone s (s.rejudge slot) := by
  have changed : ∀ n x, BooksAlone s (s.changeOrder n fun y => { y with state := x }) :=
    fun n x => s.changeOrder_alone n _ fun _ => rfl
  unfold State.rejudge
  dsimp only
  split
  · split
    · exact .refl s
    · split
      · exact (changed _ _).trans (State.pushAvailable_alone _)
      · exact changed _ _
  · exact .refl s

theorem State.rejudgeAll_alone (s : State) : BooksAlone s s.rejudgeAll := .foldl (fun t (o : Order) => t.rejudge_alone o.slot) _ s

theorem State.returnOrder_alone (s : State) (o : Order) : BooksAlone s (s.returnOrder o) := s.changeOrder_alone _ _ fun _ => rfl

theorem State.raiseCounts_alone (s : State) (c : Scan) : BooksAlone s (s.raiseCounts c) :=
  .foldl (f := fun t n => t.changeOrder n
    fun o => { o with passOver := max o.passOver (min s.settings.passLimit (o.passOver + 1)) })
    (fun t n => t.changeOrder_alone n _ fun _ => rfl) _ s

/-! ## Binding (R100 to R105) -/

/-- R100: a scan takes at most 8 members. -/
theorem State.scan_length (s : State) (k : Chamber) (depth : Int) (l : List Order) (c : Scan) (h : c.members.length ≤ 8) :
    (s.scan k depth l c).members.length ≤ 8 := by
  induction l generalizing c with
  | nil => exact h
  | cons o os ih =>
    unfold State.scan
    dsimp only
    (repeat' split)
    · exact h
    · exact ih c h
    · next full _ _ _ _ _ =>
      refine ih _ ?_
      simp only [Config.batchSize] at full
      simp only [List.length_append, List.length_singleton]
      omega
    · exact ih _ h
    · exact h

/-- R155: a reserve granted leaves room for it, and nothing else changes but the oldest frames. -/
theorem State.askReserve_room {s t : State} {n : Nat} (hn : n ≤ 164) (h : s.askReserve n = some t) :
    OrdersAlone s t ∧ t.book = s.book ∧ (s.Room → t.used + t.reserved + n ≤ 4096) := by
  unfold State.askReserve at h
  split at h
  · split at h
    · next hw =>
      cases h
      simp only [State.availableWords, Config.journalWords] at hw
      exact ⟨.refl s, rfl, fun hs => by have := hs.1; omega⟩
    · contradiction
  · cases h
    refine ⟨.of_eq rfl rfl rfl rfl, rfl, fun hs => ?_⟩
    have hu := s.discardFor_used n
    have hr := hs.reserved_le
    have e : (s.discardFor n).reserved = s.reserved := rfl
    omega

/-- R105: the batch bound stands in its chamber, the other one stays, and of the orders only their states change. -/
theorem State.bindBatch_facts (s : State) (k : Chamber) (d : Direction) (c : Scan) :
    OrdersAlone s (s.bindBatch k d c)
      ∧ (∀ k', (s.bindBatch k d c).batch k' = if k' = k then some (s.newBatch k d c) else s.batch k')
      ∧ (s.bindBatch k d c).journal.frames = s.journal.frames := by
  have marked : ∀ t : State, BooksAlone t (c.members.foldl
      (fun u m => u.changeOrder m.order fun o => { o with state := .bound (s.newBatch k d c).number }) t) :=
    fun t => .foldl
      (f := fun u (m : Member) => u.changeOrder m.order fun o => { o with state := .bound (s.newBatch k d c).number })
      (fun u m => u.changeOrder_alone m.order _ fun _ => rfl) _ t
  let t := s.setBatch k (some (s.newBatch k d c))
  let u := c.members.foldl
    (fun u m => u.changeOrder m.order fun o => { o with state := .bound (s.newBatch k d c).number }) t
  let v : State := { u with
    book.nextBatch := succNumber (s.newBatch k d c).number, book.deferred := u.book.deferred.set k false }
  have hv : BooksAlone t (s.bindBatch k d c) :=
    (marked t).trans (.trans (t := v) ⟨⟨rfl, rfl, rfl, rfl, Nat.le_refl _⟩, rfl, rfl⟩
      ((v.raiseAll_alone .batchBound).trans (State.push_alone _ _)))
  refine ⟨.trans (t := t) (.of_eq rfl rfl rfl rfl) hv.toOrdersAlone, fun k' => ?_, hv.frames⟩
  rw [hv.batch, State.setBatch_batch]

theorem State.newBatch_covered (s : State) (k : Chamber) (d : Direction) (c : Scan) : (s.newBatch k d c).Covered := by
  refine ⟨?_, fun _ => .inl rfl⟩
  simp [Batch.owed, State.newBatch, reserveFor]

theorem State.bindScan_keeps (s : State) (k : Chamber) (d : Direction) (c : Scan) (small : c.members.length ≤ 8) :
    KeepsBooks s (s.bindScan k d c).1 := by
  have counts := s.raiseCounts_alone c
  unfold State.bindScan
  split
  · next t h =>
    have size : reserveFor c.members.length ≤ 164 := by unfold reserveFor; omega
    obtain ⟨asked, book, room⟩ := State.askReserve_room size h
    obtain ⟨bound, batch, frames⟩ := t.bindBatch_facts k d c
    have batchT : ∀ k', t.batch k' = s.batch k' := fun k' => by rw [State.batch, book]; exact counts.batch k'
    refine (counts.toOrdersAlone.trans (asked.trans bound)).keeps fun hs => ?_
    rw [State.journalFits_iff] at hs ⊢
    obtain ⟨hroom, all⟩ := hs
    have fits := room (counts.room hroom)
    have used : (t.bindBatch k d c).used = t.used := by rw [State.used, frames]; rfl
    have reserve : (t.newBatch k d c).reserve = reserveFor c.members.length := rfl
    have reserved : (t.bindBatch k d c).reserved ≤ t.reserved + reserveFor c.members.length := by
      cases k <;> (simp [State.reserved, State.reserveOf, batch, reserve]; try omega)
    refine ⟨⟨by omega, fun k' x hx => ?_⟩, fun k' x hx => ?_⟩ <;> rw [batch] at hx <;> split at hx
    · cases hx
      exact size
    · exact hroom.2 k' x (batchT k' ▸ hx)
    · cases hx
      exact t.newBatch_covered k d c
    · exact all k' x (batchT k' ▸ hx)
  · dsimp only
    split
    · refine BooksAlone.keeps ?_
      exact ⟨.of_eq rfl rfl rfl rfl, rfl, rfl⟩
    · exact (s.raiseAll_alone _).keeps

theorem State.scanList_length (s : State) (k : Chamber) (depth : Int) (d : Direction) :
    (s.scanList k depth d).members.length ≤ 8 := s.scan_length k depth _ _ (Nat.zero_le _)

theorem State.form_keeps (s : State) (k : Chamber) : KeepsBooks s (s.form k) := by
  unfold State.form
  dsimp only
  (repeat' split) <;> first | exact .refl s | exact s.bindScan_keeps _ _ _ (s.scanList_length ..)

theorem State.formFrom_keeps (s : State) (k : Chamber) (d : Direction) : KeepsBooks s (s.formFrom k d).1 := by
  unfold State.formFrom
  dsimp only
  (repeat' split) <;> first | exact .refl s | exact s.bindScan_keeps _ _ _ (s.scanList_length ..)

/-! ## The rest-state table (R41, R42, R47, R49) -/

theorem State.becomeEntering_keeps {s : State} {k : Chamber} {b : Batch} (hb : s.batch k = some b) (state : b.state = .bound) :
    KeepsBooks s (s.becomeEntering k b) := by
  refine .of_batch (b' := { b with state := .entering }) (.of_eq rfl rfl rfl rfl) hb (fun k' => s.setBatch_batch k _ k')
    (fun _ => Nat.le_refl _) (Nat.le_refl _) fun c => ⟨?_, fun _ => .inr rfl⟩
  have := c.1
  simpa [Batch.owed, state] using this

theorem State.becomeLeaving_keeps {s : State} {k : Chamber} {b : Batch} (hb : s.batch k = some b) (state : b.state = .secured) :
    KeepsBooks s (s.becomeLeaving k b) := by
  refine .of_batch (b' := { b with state := .leaving }) (.of_eq rfl rfl rfl rfl) hb (fun k' => s.setBatch_batch k _ k')
    (fun _ => Nat.le_refl _) (Nat.le_refl _) fun c => ⟨?_, fun h => ?_⟩
  · have := c.1
    simpa [Batch.owed, state] using this
  · have := c.2 h
    simp [state] at this

theorem State.noteComplete_alone (s : State) (k : Chamber) (e : Side) (r : OrderResult) : BooksAlone s (s.noteComplete k e r) := by
  cases r <;> first | exact .refl s | exact s.push_alone _

theorem State.sequenceClose_alone (s : State) (k : Chamber) (e : Side) : BooksAlone s (s.sequenceClose k e) :=
  (BooksAlone.of_plant (s.closeGate_plant k e)).trans ((State.setChamberState_alone _ k _).trans (State.noteComplete_alone _ k e _))

theorem State.openGate_alone {s t : State} {k : Chamber} {e : Side} {r : OrderResult} (h : s.openGate k e = (t, r)) :
    BooksAlone s t := by
  have := s.openGate_plant k e
  rw [h] at this
  exact .of_plant this

theorem State.sequenceOpen_alone (s : State) (k : Chamber) (e : Side) : BooksAlone s (s.sequenceOpen k e) := by
  unfold State.sequenceOpen
  split
  · next h => exact (State.openGate_alone h).trans (State.setChamber_alone _ k _)
  · next h =>
    exact (State.openGate_alone h).trans ((State.setChamberState_alone _ k _).trans (State.noteComplete_alone _ k e _))

theorem State.dropPending_alone (s : State) (k : Chamber) : BooksAlone s (s.dropPending k) := s.setChamber_alone k _

theorem State.sequencePhase_keeps (s : State) (k : Chamber) (kind : WaterKind) : KeepsBooks s (s.sequencePhase k kind) :=
  (s.openWater_alone k kind).keeps.trans (State.offer_keeps _ k kind)

/-- R41: the table gives a batch change only to a BOUND batch, which enters, and to a SECURED one, which leaves. -/
theorem restTable_change (e : Side) (isOpen : Bool) (b : Batch) :
    (restTable e isOpen b = .entering → b.state = .bound) ∧ (restTable e isOpen b = .leaving → b.state = .secured) := by
  unfold restTable
  (repeat' split) <;> simp_all

theorem State.restStep_keeps (s : State) (k : Chamber) : KeepsBooks s (s.restStep k) := by
  unfold State.restStep
  split
  · exact .refl s
  · next e isOpen _ =>
    split
    · next b hb =>
      have change := restTable_change e isOpen b
      unfold State.takeRest
      split
      · next h => exact State.becomeEntering_keeps hb (change.1 h)
      · next h => exact State.becomeLeaving_keeps hb (change.2 h)
      · exact (s.dropPending_alone k).keeps
      · split
        · exact (s.sequenceClose_alone k e).keeps
        · exact (s.dropPending_alone k).keeps
      · split
        · exact (s.sequenceOpen_alone k e).keeps
        · exact (s.dropPending_alone k).keeps
      · split
        · exact s.sequencePhase_keeps k _
        · exact (s.dropPending_alone k).keeps
    · split
      · exact ((s.dropPending_alone k).trans (State.push_alone _ _)).keeps
      · exact (s.dropPending_alone k).keeps

theorem State.gateDone_alone (s : State) (k : Chamber) (e : Side) : BooksAlone s (s.gateDone k e) := by
  unfold State.gateDone
  (repeat' split)
  · exact (s.setChamberState_alone k _).trans (State.push_alone _ _)
  · exact (s.setChamberState_alone k _).trans (State.push_alone _ _)
  · exact .refl s

/-! ## Halts (R50, R51, R73) -/

theorem State.stopGate_keeps (s : State) (k : Chamber) (e : Side) : KeepsBooks s (s.stopGate k e) := by
  have stopped : ∀ g, KeepsBooks s (((s.send (.gate k e) .stop).setGate k e g).moveFrame (.gate k e) .stopped) := fun g =>
    (BooksAlone.of_plant ((s.send_plant _ _).trans (State.setGate_plant _ k e g))).keeps.trans (State.moveFrame_keeps _ _ _)
  unfold State.stopGate
  dsimp only
  split
  · exact stopped _
  · exact stopped _
  · exact (BooksAlone.of_plant (s.send_plant _ _)).keeps
  · exact (BooksAlone.of_plant (s.send_plant _ _)).keeps
  · exact .refl s

theorem State.stopMoving_keeps (s : State) (k : Chamber) (e : Side) : KeepsBooks s (s.stopMoving k e) := by
  unfold State.stopMoving
  split
  · exact s.stopGate_keeps k e
  · exact .refl s

theorem State.shutBoth_alone (s : State) (k : Chamber) : BooksAlone s (s.shutBoth k) :=
  (s.shutSluice_alone _).trans (State.shutSluice_alone _ _)

theorem State.haltChamber_keeps (s : State) (k : Chamber) (why : HaltCause) (spare : Option Side) (cause : CrossEnd) :
    KeepsBooks s (s.haltChamber k why spare cause) := by
  have stop : ∀ (t : State) (e : Side), KeepsBooks t (if spare = some e then t else t.stopMoving k e) := fun t e => by
    split
    · exact .refl t
    · exact t.stopMoving_keeps k e
  have began := ((s.setChamber_alone k { s.chamber k with interrupted := some (s.chamber k).state, haltCause := some why }).trans
    (State.shutBoth_alone _ k)).keeps
  refine began.trans ?_
  exact (stop _ .upper).trans ((stop _ .lower).trans ((State.leaveCross_keeps _ k cause).trans (State.setChamber_alone _ k _).keeps))

theorem State.faultHalt_keeps (s : State) (k : Chamber) (f : FaultKind) (spare : Option Side) :
    KeepsBooks s (s.faultHalt k f spare) := by
  unfold State.faultHalt
  split
  · exact s.haltChamber_keeps k _ _ _
  · exact .refl s

theorem State.crossHalt_keeps (s : State) (k : Chamber) (f : FaultKind) : KeepsBooks s (s.crossHalt k f) := by
  unfold State.crossHalt
  split
  · exact s.haltChamber_keeps k _ _ _
  · exact .refl s

/-- R73, R74: the arbiter orders the cross sluice to 0 and is ENDING. -/
theorem State.orderCrossShut_alone (s : State) :
    BooksAlone s ({ s.shutSluice .cross with arbiter.owner := .ending }.push .crossShut) :=
  (s.shutSluice_alone .cross).trans (.trans (t := { s.shutSluice .cross with arbiter.owner := .ending })
    (.of_eq rfl rfl rfl rfl) (State.push_alone _ _))

theorem State.crossFault_keeps (s : State) (f : FaultKind) : KeepsBooks s (s.crossFault f) := by
  have halted := (s.crossHalt_keeps .c1 f).trans (State.crossHalt_keeps _ .c2 f)
  unfold State.crossFault
  dsimp only
  split
  · exact halted
  · exact halted.trans (State.orderCrossShut_alone _).keeps

theorem State.sluiceFault_keeps (s : State) (q : Sluice) (f : FaultKind) : KeepsBooks s (s.sluiceFault q f) := by
  cases q with
  | chamber k e => exact s.faultHalt_keeps k f none
  | cross => exact s.crossFault_keeps f

theorem State.crossStartup_keeps (s : State) : KeepsBooks s s.crossStartup := by
  unfold State.crossStartup
  split
  · exact s.orderCrossShut_alone.keeps
  · exact .refl s

/-! ## Retries and the cascade (R12, R30, R118) -/

theorem State.retryPending_keeps (s : State) (h : Handed) (k : Chamber) : KeepsBooks s (s.retryPending h k) := by
  unfold State.retryPending
  (repeat' split)
  · exact (s.sequenceOpen_alone k _).keeps
  · exact s.restStep_keeps k
  · exact .refl s
  · exact .refl s

theorem State.retries_keeps (s : State) (h : Handed) : KeepsBooks s (s.retries h) :=
  (BooksAlone.of_plant (s.rampRetries_plant h)).keeps.trans
    ((State.retryPending_keeps _ h .c1).trans (State.retryPending_keeps _ h .c2))

theorem State.equalised_keeps (s : State) (p : Pair) : KeepsBooks s (s.equalised p) := by
  unfold State.equalised
  (repeat' split) <;> first | exact .refl s | exact s.endPhase_keeps _ _ | exact s.closeCross_keeps _

theorem State.runTask_keeps (s : State) (t : Task) : KeepsBooks s (s.runTask t) := by
  cases t with
  | rest k => exact s.restStep_keeps k
  | gateDone k e => exact (s.gateDone_alone k e).keeps
  | phaseDone k => exact (s.phaseDone_keeps k .fill).trans (State.phaseDone_keeps _ k .empty)
  | crossShut => exact s.crossDone_keeps
  | form k => exact s.form_keeps k

theorem State.derive_alone (s : State) : BooksAlone s s.derive := .of_eq rfl rfl rfl rfl

theorem settle_keeps (n : Nat) (s : State) : KeepsBooks s (settle n s) := by
  induction n generalizing s with
  | zero => exact .refl s
  | succ n ih =>
    unfold settle
    split
    · exact .refl s
    · next t ts _ =>
      have drop : KeepsBooks s { s with agenda := ts } := .of_eq rfl rfl rfl rfl
      exact drop.trans ((State.runTask_keeps _ t).trans ((State.derive_alone _).keeps.trans (ih _)))

theorem State.tellEqualised_keeps (s : State) (p : Pair) : KeepsBooks s (s.tellEqualised p) :=
  (s.equalised_keeps p).trans (settle_keeps _ _)

theorem State.clearDeferred_alone (s : State) : BooksAlone s s.clearDeferred := ⟨.of_eq rfl rfl rfl rfl, rfl, rfl⟩

/-- The end of an event breaks none of the three. -/
theorem State.finish_keeps (s : State) : KeepsBooks s s.finish :=
  s.derive_alone.keeps.trans ((settle_keeps _ _).trans ((State.derive_alone _).trans (State.clearDeferred_alone _)).keeps)

end Sys2Proof.Machine
end

section
/-! SUPPORT. The events keep the journal, the book and the ceilings: rounds and guards, drive reports, faults and timers (R1 to R13, R17
to R27, R34, R35, R46 to R49). -/

namespace Sys2Proof.Machine

theorem State.finishes {s t : State} (h : KeepsBooks s t) : KeepsBooks s t.finish := h.trans t.finish_keeps

theorem State.reach_keeps (s : State) (n : Nat) : KeepsBooks s (s.reach n) := (s.reach_alone n).keeps

theorem KeepsBooks.of_plant {s t : State} (h : PlantOnly s t) : KeepsBooks s t := (BooksAlone.of_plant h).keeps

/-! ## Rounds, guards and the level monitor's timers -/

theorem State.setBody_plant (s : State) (b : Body) (r : BodyRec) : PlantOnly s (s.setBody b r) := rfl

theorem State.setPair_plant (s : State) (p : Pair) (x : PairState) : PlantOnly s (s.setPair p x) := by cases p <;> rfl

theorem State.setOverflow_plant (s : State) (k : Chamber) (x : Bool) : PlantOnly s (s.setOverflow k x) := rfl

theorem State.dropQuery_plant (s : State) (a : Actuator) : PlantOnly s (s.dropQuery a) := rfl

theorem State.levelFault_keeps (s : State) (b : Body) (old : LevelState) (x : Bool) : KeepsBooks s (s.levelFault b old x) := by
  unfold State.levelFault
  (repeat' split) <;> first | with_reducible exact .refl s | exact s.raiseFault_keeps _ _

theorem State.testPair_keeps (s : State) (p : Pair) : KeepsBooks s (s.testPair p) := by
  unfold State.testPair
  (repeat' split)
  · exact (KeepsBooks.of_plant (s.setPair_plant p _)).trans (State.tellEqualised_keeps _ p)
  · exact .of_plant (s.setPair_plant p _)
  · exact .refl s
  · exact .of_plant (s.setPair_plant p _)
  · exact .refl s

theorem State.lateStart_alone (s : State) (k : Chamber) : BooksAlone s (s.lateStart k) := by
  unfold State.lateStart
  dsimp only
  (repeat' split) <;> first | with_reducible exact .refl s | exact s.setChamber_alone k _

theorem State.handOver_alone (s : State) (b : Body) : BooksAlone s (s.handOver b) := by
  have handed := BooksAlone.of_plant
    (s.setBody_plant b { s.body b with handedLevel := (s.body b).level, handedState := (s.body b).state })
  unfold State.handOver
  dsimp only
  split
  · exact handed.trans (State.lateStart_alone _ _)
  · exact handed

theorem State.overflowGuard_keeps (s : State) (k : Chamber) : KeepsBooks s (s.overflowGuard k) := by
  have shut : ∀ t : State, PlantOnly t (if t.crossPresent then t.forceShut .cross else t) := fun t => by
    split
    · exact t.forceShut_plant _
    · exact .refl t
  unfold State.overflowGuard
  dsimp only
  split
  · split
    · exact .refl s
    · exact (KeepsBooks.of_plant ((s.forceShut_plant _).trans (shut _))).trans ((State.raiseFault_keeps _ _ _).trans
        ((KeepsBooks.of_plant (State.setOverflow_plant _ k true)).trans (State.faultHalt_keeps _ k _ _)))
  · split
    · exact .of_plant rfl
    · exact .refl s

theorem State.surgeGuard_keeps (s : State) (g : Chamber × Side) : KeepsBooks s (s.surgeGuard g) := by
  unfold State.surgeGuard
  split
  · exact (KeepsBooks.of_plant ((s.putGate_plant _ _ _).trans (State.closeGate_plant _ _ _))).trans
      ((State.raiseFault_keeps _ _ _).trans (State.faultHalt_keeps _ _ _ _))
  · exact .refl s

theorem State.readers_keeps (s : State) (b : Body) : KeepsBooks s (s.readers b) := by
  have ramps : KeepsBooks s (allSluices.foldl (fun u q => u.rampLevel b q) s) :=
    .of_plant (.foldl (fun u q => u.rampLevel_plant b q) _ s)
  have overflow : ∀ t : State, KeepsBooks t (match b.chamber with | some k => t.overflowGuard k | none => t) := fun t => by
    split
    · exact t.overflowGuard_keeps _
    · exact .refl t
  have surge : ∀ t : State, KeepsBooks t (b.surgeGates.foldl State.surgeGuard t) := fun t => .foldl State.surgeGuard_keeps _ t
  exact ramps.trans ((overflow _).trans ((surge _).trans (State.retries_keeps _ _)))

theorem State.roundEnd_keeps (s : State) (b : Body) (x y : Bool) : KeepsBooks s (s.roundEnd b x y) := by
  unfold State.roundEnd
  dsimp only
  exact (KeepsBooks.of_plant (s.setBody_plant b _)).trans ((State.levelFault_keeps _ _ _ _).trans
    ((KeepsBooks.foldl State.testPair_keeps b.pairs _).trans ((State.handOver_alone _ b).keeps.trans (State.readers_keeps _ b))))

theorem State.closePoll_keeps (s : State) (p : Poll) (st : GaugeStatus) (raw : Nat) : KeepsBooks s (s.closePoll p st raw) := by
  have read : PlantOnly s (s.recordReading p.body p.gauge st raw) := rfl
  unfold State.closePoll
  dsimp only
  split
  · exact .of_plant (read.trans rfl)
  · exact (KeepsBooks.of_plant (t := (s.recordReading p.body p.gauge st raw).setPoll none) (read.trans rfl)).trans
      (State.finishes (State.roundEnd_keeps _ _ _ _))

theorem State.startRound_keeps (s : State) : KeepsBooks s s.startRound := by
  unfold State.startRound
  split
  · exact .of_plant rfl
  · exact .refl s

theorem State.pairSettled_keeps (s : State) (p : Pair) : KeepsBooks s (s.pairSettled p) :=
  (KeepsBooks.of_plant (s.setPair_plant p _)).trans ((State.tellEqualised_keeps _ p).trans (State.retries_keeps _ _))

/-! ## The drive line -/

theorem State.driveEvent_keeps (s : State) (a : Actuator) : KeepsBooks s (s.driveEvent a) := State.finishes (s.retries_keeps _)

theorem State.stallGate_keeps (s : State) (k : Chamber) (e : Side) : KeepsBooks s (s.stallGate k e) :=
  (KeepsBooks.of_plant ((s.setGate_plant k e _).trans (State.send_plant _ _ _))).trans
    ((State.moveFrame_keeps _ _ _).trans (State.raiseFault_keeps _ _ _))

theorem State.stallSluice_keeps (s : State) (q : Sluice) : KeepsBooks s (s.stallSluice q) :=
  (KeepsBooks.of_plant ((s.setSluice_plant q _).trans (State.stopSluice_plant _ q))).trans
    ((State.moveFrame_keeps _ _ _).trans (State.raiseFault_keeps _ _ _))

theorem State.gateReaches_keeps (s : State) (k : Chamber) (e : Side) (x : GateState) : KeepsBooks s (s.gateReaches k e x) :=
  (KeepsBooks.of_plant (s.setGate_plant k e _)).trans ((State.moveFrame_keeps _ _ _).trans (State.push_alone _ _).keeps)

theorem State.unexpectedReach_keeps (s : State) (k : Chamber) (e : Side) (x : GateState) :
    KeepsBooks s (s.unexpectedReach k e x) :=
  (KeepsBooks.of_plant (s.setGate_plant k e _)).trans ((State.raiseFault_keeps _ _ _).trans ((State.moveFrame_keeps _ _ _).trans
    ((State.push_alone _ _).keeps.trans (State.faultHalt_keeps _ k _ _))))

theorem State.unexpectedLeft_keeps (s : State) (k : Chamber) (e : Side) : KeepsBooks s (s.unexpectedLeft k e) :=
  (KeepsBooks.of_plant ((s.setGate_plant k e _).trans (State.send_plant _ _ _))).trans ((State.raiseFault_keeps _ _ _).trans
    ((State.moveFrame_keeps _ _ _).trans (State.faultHalt_keeps _ k _ _)))

theorem State.gateDriveFault_keeps (s : State) (k : Chamber) (e : Side) : KeepsBooks s (s.gateDriveFault k e) := by
  unfold State.gateDriveFault
  split
  · exact .refl s
  · exact (s.stallGate_keeps k e).trans (State.faultHalt_keeps _ k _ _)

theorem State.idleReport_keeps (s : State) (k : Chamber) (e : Side) (r : GateReport) : KeepsBooks s (s.idleReport k e r) := by
  have reach := s.unexpectedReach_keeps k e
  have left := s.unexpectedLeft_keeps k e
  have reached := s.gateReaches_keeps k e
  have late : ∀ (c : Prop) [Decidable c] (t : State), KeepsBooks s t → KeepsBooks s (if c then s else t) := fun c _ t h => by
    split
    · exact .refl s
    · exact h
  unfold State.idleReport
  dsimp only
  split <;> with_reducible first
    | exact .refl s
    | exact reach _
    | exact left
    | exact reached _
    | exact late _ _ left
    | (split <;> first | exact reached _ | exact reach _)

theorem State.applyGateReport_keeps (s : State) (k : Chamber) (e : Side) (r : GateReport) :
    KeepsBooks s (s.applyGateReport k e r) := by
  unfold State.applyGateReport
  dsimp only
  (repeat' split) <;> first
    | with_reducible exact .refl s
    | exact s.gateDriveFault_keeps k e
    | exact s.gateReaches_keeps k e _
    | exact s.idleReport_keeps k e r

theorem State.noteSluice_alone (s : State) (q : Sluice) : BooksAlone s (s.noteSluice q) := by
  cases q <;> exact s.push_alone _

theorem State.applySluiceReport_keeps (s : State) (q : Sluice) (n : Nat) : KeepsBooks s (s.applySluiceReport q n) := by
  have reaches : KeepsBooks s (s.sluiceReaches q n) :=
    (KeepsBooks.of_plant (s.setSluice_plant q _)).trans ((State.moveFrame_keeps _ _ _).trans
      ((KeepsBooks.of_plant (State.rampReached_plant _ q n)).trans (State.noteSluice_alone _ q).keeps))
  have position : KeepsBooks s (s.sluicePosition q n) :=
    (KeepsBooks.of_plant (s.setSluice_plant q _)).trans ((State.raiseFault_keeps _ _ _).trans ((State.moveFrame_keeps _ _ _).trans
      (State.sluiceFault_keeps _ q _)))
  unfold State.applySluiceReport
  dsimp only
  (repeat' split) <;> first | with_reducible exact .refl s | exact reaches | exact position | exact .of_plant (s.setSluice_plant q _)

theorem State.statusFault_keeps (s : State) (a : Actuator) (n : Option Nat) : KeepsBooks s (s.statusFault a n) := by
  cases a with
  | gate k e =>
    exact (KeepsBooks.of_plant (s.setGate_plant k e _)).trans ((State.raiseFault_keeps _ _ _).trans (State.faultHalt_keeps _ k _ _))
  | sluice q =>
    exact (KeepsBooks.of_plant (s.setSluice_plant q _)).trans ((State.raiseFault_keeps _ _ _).trans (State.sluiceFault_keeps _ q _))

theorem State.statusOf_keeps {s t : State} {a : Actuator} {x : StatusAnswer} (h : s.statusOf a x = some t) : KeepsBooks s t := by
  have gate : ∀ k e g, KeepsBooks s (s.setGate k e g) := fun k e g => .of_plant (s.setGate_plant k e g)
  have sluice : ∀ q r, KeepsBooks s (s.setSluice q r) := fun q r => .of_plant (s.setSluice_plant q r)
  unfold State.statusOf at h
  (repeat' split at h) <;> (try contradiction) <;> injection h with h <;> subst h <;> first
    | with_reducible exact gate _ _ _
    | with_reducible exact sluice _ _
    | with_reducible exact s.statusFault_keeps _ _

theorem State.closeQuery_keeps (s : State) (a : Actuator) : KeepsBooks s (s.closeQuery a) := by
  have noted : KeepsBooks s ((s.dropQuery a).noteFast s) :=
    .of_plant ((s.dropQuery_plant a).trans (.of_sampling (State.noteFast_sampling _ _)))
  unfold State.closeQuery
  dsimp only
  split
  · exact noted.trans ((State.crossStartup_keeps _).trans (State.driveEvent_keeps _ a))
  · exact noted.trans (State.driveEvent_keeps _ a)

theorem State.noStatus_keeps (s : State) (a : Actuator) (q : Query) : KeepsBooks s (s.noStatus a q) := by
  unfold State.noStatus
  split
  · exact (s.statusFault_keeps a none).trans (State.closeQuery_keeps _ a)
  · exact State.finishes (.of_plant rfl)

theorem State.echoFailed_keeps (s : State) (a : Actuator) : KeepsBooks s (s.echoFailed a) := by
  unfold State.echoFailed
  (repeat' split)
  · exact s.applyGateReport_keeps _ _ _
  · exact .refl s
  · exact .refl s
  · exact (s.stallSluice_keeps _).trans (State.sluiceFault_keeps _ _ _)

end Sys2Proof.Machine
end

section
/-! SUPPORT. The register and the book: vessels held, released and posted to, orders entered and removed, members that leave their batch,
and batches that leave their chamber, each by what it does to the journal, the book and the ceilings (R88 to R97, R104 to R113). -/

namespace Sys2Proof.Machine

/-! ## A slot replaced -/

theorem State.vessel_beyond (s : State) {i : Nat} (h : ¬ i < 128) : s.vessel i = {} := by
  simp [State.vessel, h]

theorem Vessel.overCeiling_eq_false_iff (v : Vessel) : v.overCeiling = false ↔ v.ceiling = 0 ∨ v.total < v.ceiling := by
  simp only [Vessel.overCeiling, Bool.and_eq_false_iff, decide_eq_false_iff_not]
  omega

/-- The slots other than `i` that are ACTIVE stand below their ceilings. -/
def State.CeilingsHeldBut (s : State) (i : Nat) : Prop := ∀ j, j ≠ i → (s.vessel j).state = .active → (s.vessel j).overCeiling = false

theorem State.ceilingsHeld_iff (s : State) : s.CeilingsHeld ↔ ∀ j, (s.vessel j).state = .active → (s.vessel j).overCeiling = false := by
  simp only [State.CeilingsHeld, Vessel.overCeiling_eq_false_iff]

theorem State.CeilingsHeld.but {s : State} (h : s.CeilingsHeld) (i : Nat) : s.CeilingsHeldBut i :=
  fun j _ => s.ceilingsHeld_iff.1 h j

/-- The other slots stay as they are when slot `i` is replaced. -/
theorem State.CeilingsHeldBut.setVessel {s : State} {i : Nat} (h : s.CeilingsHeldBut i) (v : Vessel) :
    (s.setVessel i v).CeilingsHeldBut i := by
  intro j hj
  rw [State.setVessel_vessel, if_neg (fun c => hj c.1)]
  exact h j hj

theorem State.CeilingsHeldBut.all {s : State} {i : Nat} (h : s.CeilingsHeldBut i)
    (hi : (s.vessel i).state = .active → (s.vessel i).overCeiling = false) : s.CeilingsHeld := by
  rw [State.ceilingsHeld_iff]
  intro j
  by_cases hj : j = i
  · exact hj ▸ hi
  · exact h j hj

theorem State.CeilingsHeldBut.replace {s : State} {i : Nat} (h : s.CeilingsHeldBut i) (v : Vessel)
    (hv : v.state = .active → v.overCeiling = false) : (s.setVessel i v).CeilingsHeld := by
  refine (h.setVessel v).all ?_
  rw [State.setVessel_vessel]
  split
  · exact hv
  · next c =>
    rw [s.vessel_beyond (fun hi => c ⟨rfl, hi⟩)]
    nofun

theorem State.setVessel_journalFits (s : State) (i : Nat) (v : Vessel) (h : s.JournalFits) : (s.setVessel i v).JournalFits := h

/-- A slot that keeps its order and does not become FREE keeps the book in order. -/
theorem State.setVessel_bookInOrder (s : State) (i : Nat) (v : Vessel) (free : v.state = .free → (s.vessel i).state = .free)
    (order : v.order = (s.vessel i).order) (h : s.BookInOrder) : (s.setVessel i v).BookInOrder := by
  obtain ⟨count, numbers, slots, each, lists⟩ := h
  refine ⟨count, numbers, slots, fun o ho => ?_, lists⟩
  obtain ⟨hf, hn, rest⟩ := each o ho
  rw [State.setVessel_vessel]
  split
  · next c => exact ⟨fun e => hf (c.1 ▸ free e), by rw [order, ← c.1]; exact hn, rest⟩
  · exact ⟨hf, hn, rest⟩

/-- A slot that no order of the book names may hold any vessel. -/
theorem State.setVessel_bookInOrder_unnamed (s : State) (i : Nat) (v : Vessel) (h : s.BookInOrder)
    (unnamed : (s.vessel i).state = .free ∨ (s.vessel i).order = none) : (s.setVessel i v).BookInOrder := by
  obtain ⟨count, numbers, slots, each, lists⟩ := h
  refine ⟨count, numbers, slots, fun o ho => ?_, lists⟩
  obtain ⟨hf, hn, rest⟩ := each o ho
  have other : o.slot ≠ i := fun e => by
    subst e
    rcases unnamed with u | u
    · exact hf u
    · rw [u] at hn
      contradiction
  rw [State.setVessel_vessel, if_neg fun c => other c.1]
  exact ⟨hf, hn, rest⟩

/-! ## Holds (R87 to R89) -/

theorem State.holdVessel_book (s : State) (i : Nat) (c : HoldCause) (h : s.BookInOrder) : (s.holdVessel i c).BookInOrder :=
  ((State.raiseAll_alone _ _).trans (State.rejudge_alone _ i)).bookInOrder (s.setVessel_bookInOrder i _ nofun rfl h)

theorem State.holdVessel_ceilings (s : State) (i : Nat) (c : HoldCause) (h : s.CeilingsHeldBut i) :
    (s.holdVessel i c).CeilingsHeld :=
  ((State.raiseAll_alone _ _).trans (State.rejudge_alone _ i)).ceilings (h.replace _ nofun)

theorem State.holdVessel_journal (s : State) (i : Nat) (c : HoldCause) : BooksAlone (s.setVessel i
    { s.vessel i with state := .held c }) (s.holdVessel i c) := (State.raiseAll_alone _ _).trans (State.rejudge_alone _ i)

theorem State.holdVessel_keeps (s : State) (i : Nat) (c : HoldCause) : KeepsBooks s (s.holdVessel i c) where
  journal h := (s.holdVessel_journal i c).keeps.journal (s.setVessel_journalFits i _ h)
  book := s.holdVessel_book i c
  ceilings h := s.holdVessel_ceilings i c (h.but i)

theorem State.activate_alone (s : State) (i : Nat) :
    BooksAlone (s.setVessel i { s.vessel i with state := .active }) (s.activate i) := State.rejudge_alone _ i

theorem State.activate_keeps (s : State) (i : Nat) (h : (s.vessel i).overCeiling = false) : KeepsBooks s (s.activate i) where
  journal hs := (s.activate_alone i).keeps.journal (s.setVessel_journalFits i _ hs)
  book hs := (s.activate_alone i).bookInOrder (s.setVessel_bookInOrder i _ nofun rfl hs)
  ceilings hs := (s.activate_alone i).ceilings ((hs.but i).replace _ fun _ => h)

/-- R89: what re-evaluating a ceiling hold comes to. -/
theorem State.reevaluate_cases (s : State) (i : Nat) :
    s.reevaluate i = s ∧ ((s.vessel i).state = .active → (s.vessel i).overCeiling = false)
      ∨ s.reevaluate i = s.holdVessel i .ceiling ∨ s.reevaluate i = s.activate i ∧ (s.vessel i).overCeiling = false := by
  unfold State.reevaluate
  dsimp only
  split
  · split
    · exact .inr (.inl rfl)
    · next h => exact .inl ⟨rfl, fun _ => Bool.eq_false_iff.2 h⟩
  · next e =>
    split
    · exact .inl ⟨rfl, fun a => by rw [e] at a; contradiction⟩
    · next h => exact .inr (.inr ⟨rfl, Bool.eq_false_iff.2 h⟩)
  · next e _ => exact .inl ⟨rfl, fun a => absurd a e⟩

/-- R89: a slot re-evaluated stands below its ceiling or is HELD. -/
theorem State.reevaluate_ceilings (s : State) (i : Nat) (h : s.CeilingsHeldBut i) : (s.reevaluate i).CeilingsHeld := by
  rcases s.reevaluate_cases i with ⟨e, hi⟩ | e | ⟨e, hi⟩ <;> rw [e]
  · exact h.all hi
  · exact s.holdVessel_ceilings i _ h
  · exact (s.activate_alone i).ceilings (h.replace _ fun _ => hi)

theorem State.reevaluate_keeps (s : State) (i : Nat) : KeepsBooks s (s.reevaluate i) := by
  rcases s.reevaluate_cases i with ⟨e, _⟩ | e | ⟨e, hi⟩ <;> rw [e]
  · exact .refl s
  · exact s.holdVessel_keeps i _
  · exact s.activate_keeps i hi

/-- A slot's record replaced, its order kept, and its ceiling re-evaluated. -/
theorem State.setVessel_reevaluate_keeps (s : State) (i : Nat) (v : Vessel) (free : v.state = .free → (s.vessel i).state = .free)
    (order : v.order = (s.vessel i).order) : KeepsBooks s ((s.setVessel i v).reevaluate i) where
  journal h := (State.reevaluate_keeps _ i).journal (s.setVessel_journalFits i v h)
  book h := (State.reevaluate_keeps _ i).book (s.setVessel_bookInOrder i v free order h)
  ceilings h := State.reevaluate_ceilings _ i ((h.but i).setVessel v)

/-- A slot's record replaced, its order kept, in what no ceiling reads. -/
theorem State.setVessel_keeps_books (s : State) (i : Nat) (v : Vessel) (free : v.state = .free → (s.vessel i).state = .free)
    (order : v.order = (s.vessel i).order) (ceiling : s.CeilingsHeld → v.state = .active → v.overCeiling = false) :
    KeepsBooks s (s.setVessel i v) where
  journal h := h
  book := s.setVessel_bookInOrder i v free order
  ceilings h := (h.but i).replace v (ceiling h)

/-! ## Orders entered and removed (R92, R94, R95) -/

theorem Book.mem_orders {b : Book} {o : Order} : o ∈ b.orders ↔ ∃ d, o ∈ b.lists.get d := by
  simp only [Book.orders, List.mem_append]
  constructor
  · rintro (h | h)
    · exact ⟨.up, h⟩
    · exact ⟨.down, h⟩
  · rintro ⟨_ | _, h⟩
    · exact .inl h
    · exact .inr h

theorem Book.mem_of_find {b : Book} {n : Nat} {o : Order} (h : b.find n = some o) : o ∈ b.orders ∧ o.number = n :=
  ⟨List.mem_of_find?_eq_some h, by simpa using List.find?_some h⟩

/-- R92: of the book only the removed order's number is gone. -/
theorem State.removeOrder_book (s : State) (o : Order) :
    (s.removeOrder o).book.lists = ⟨s.book.lists.up.filter (fun x => decide (x.number ≠ o.number)),
        s.book.lists.down.filter (fun x => decide (x.number ≠ o.number))⟩
      ∧ (s.removeOrder o).book.entrySequence = s.book.entrySequence ∧ (s.removeOrder o).book.batches = s.book.batches := by
  unfold State.removeOrder
  dsimp only
  split <;> exact ⟨rfl, rfl, rfl⟩

theorem State.removeOrder_orders (s : State) (o : Order) :
    (s.removeOrder o).book.orders = s.book.orders.filter (fun x => decide (x.number ≠ o.number)) := by
  rw [Book.orders, (s.removeOrder_book o).1, Book.orders, List.filter_append]

theorem State.removeOrder_vessels (s : State) (o : Order) :
    (s.removeOrder o).vessels = (s.setVessel o.slot { s.vessel o.slot with order := none }).vessels := rfl

theorem State.removeOrder_bookInOrder (s : State) (o : Order) (ho : o ∈ s.book.orders) (h : s.BookInOrder) :
    (s.removeOrder o).BookInOrder := by
  obtain ⟨count, numbers, slots, each, lists⟩ := h
  have sub := List.filter_sublist (l := s.book.orders) (p := fun x => decide (x.number ≠ o.number))
  unfold State.BookInOrder
  rw [s.removeOrder_orders o, (s.removeOrder_book o).2.1]
  refine ⟨sub.length_le.trans count, numbers.sublist (sub.map _), slots.sublist (sub.map _), fun x hx => ?_, fun d => ?_⟩
  · obtain ⟨hx, hne⟩ := List.mem_filter.1 hx
    have other : x.slot ≠ o.slot := fun e =>
      of_decide_eq_true hne (congrArg Order.number (List.inj_on_of_nodup_map slots hx ho e))
    rw [State.vessel, s.removeOrder_vessels o]
    show (State.vessel (s.setVessel _ _) x.slot).state ≠ .free ∧ (State.vessel (s.setVessel _ _) x.slot).order = some x.number ∧ _
    rw [State.setVessel_vessel, if_neg fun c => other c.1]
    exact each x hx
  · rw [(s.removeOrder_book o).1]
    cases d
    · exact (lists .up).sublist List.filter_sublist
    · exact (lists .down).sublist List.filter_sublist

theorem State.removeOrder_keeps (s : State) (o : Order) (ho : o ∈ s.book.orders) : KeepsBooks s (s.removeOrder o) where
  journal h := by
    have e := (s.removeOrder_book o).2.2
    rw [State.journalFits_iff] at h ⊢
    have batch : ∀ k, (s.removeOrder o).batch k = s.batch k := fun k => by rw [State.batch, e]; rfl
    exact ⟨.of_frames e h.1 h.1.1, fun k b => batch k ▸ h.2 k b⟩
  book := s.removeOrder_bookInOrder o ho
  ceilings h := by
    intro i
    rw [State.vessel, s.removeOrder_vessels o]
    exact ((h.but o.slot).replace { s.vessel o.slot with order := none } (s.ceilingsHeld_iff.1 h o.slot)) i

/-- R97: an order of the book cancelled, with its frame. -/
theorem State.cancelled_keeps (s : State) (st : Station) (o : Order) (ho : o ∈ s.book.orders) : KeepsBooks s (s.cancelled st o) :=
  (s.removeOrder_keeps o ho).trans (State.orderFrame_keeps _ _ _ _ _)

end Sys2Proof.Machine
end

section
/-! SUPPORT. The numbers the book gives, and an order entered: it takes a number of its own and its place in its list (R94, R95). -/

namespace Sys2Proof.Machine

/-! ## Free numbers (R95) -/

/-- R95: the numbers tried one after another, from the second on, run through 1 to 65,535. -/
theorem succNumber_iterate (n j : Nat) : succNumber^[j + 1] n = (succNumber n - 1 + j) % 65535 + 1 := by
  have pos : 1 ≤ succNumber n ∧ succNumber n ≤ 65535 := by
    unfold succNumber
    split <;> omega
  induction j with
  | zero =>
    rw [Function.iterate_one]
    omega
  | succ j ih =>
    rw [Function.iterate_succ_apply', ih]
    generalize succNumber n = m at pos ⊢
    unfold succNumber
    split <;> omega

/-- No number is tried twice before all have been. -/
theorem succNumber_iterate_inj {n i j : Nat} (hi : i < 65535) (hj : j < 65535) (h : succNumber^[i] n = succNumber^[j] n) : i = j := by
  have first : ∀ m, m + 1 < 65535 → succNumber^[m + 1] n ≠ n := fun m hm => by
    rw [succNumber_iterate]
    unfold succNumber
    split <;> omega
  cases i with
  | zero =>
    cases j with
    | zero => rfl
    | succ j => exact absurd h.symm (first j hj)
  | succ i =>
    cases j with
    | zero => exact absurd h (first i hi)
    | succ j =>
      rw [succNumber_iterate, succNumber_iterate] at h
      omega

theorem freeNumber_mem_iff_all {held : List Nat} {fuel n : Nat} (h : freeNumber held fuel n ∈ held) :
    ∀ j < fuel, succNumber^[j] n ∈ held := by
  induction fuel generalizing n with
  | zero => nofun
  | succ fuel ih =>
    unfold freeNumber at h
    split at h
    · next hn =>
      intro j hj
      cases j with
      | zero => simpa using hn
      | succ j => exact ih h j (by omega)
    · next hn => exact absurd h (by simpa using hn)

/-- R95: with fewer numbers held than are tried, the number found is not among them. -/
theorem freeNumber_not_mem {held : List Nat} {fuel : Nat} (n : Nat) (few : held.length < fuel) (small : fuel ≤ 65535) :
    freeNumber held fuel n ∉ held := by
  intro h
  have all := freeNumber_mem_iff_all h
  have nodup : ((List.range fuel).map (succNumber^[·] n)).Nodup :=
    List.Nodup.map_on (fun i hi j hj e => succNumber_iterate_inj (by have := List.mem_range.1 hi; omega)
      (by have := List.mem_range.1 hj; omega) e) List.nodup_range
  have sub : (List.range fuel).map (succNumber^[·] n) ⊆ held := fun x hx => by
    obtain ⟨j, hj, rfl⟩ := List.mem_map.1 hx
    exact all j (List.mem_range.1 hj)
  have := (nodup.subperm sub).length_le
  simp only [List.length_map, List.length_range] at this
  omega

/-! ## An order put in its place (R94) -/

theorem insertOrder_perm (o : Order) (l : List Order) : (insertOrder o l).Perm (o :: l) := by
  induction l with
  | nil => exact .refl _
  | cons x xs ih =>
    unfold insertOrder
    split
    · exact (ih.cons x).trans (.swap o x xs)
    · exact .refl _

/-- R94: the order of the lists is transitive. -/
theorem Order.before_trans {x y z : Order} (h : x.before y = true) (g : y.before z = true) : x.before z = true := by
  unfold Order.before at *
  cases hx : x.cls <;> cases hy : y.cls <;> cases hz : z.cls <;> simp_all <;> omega

/-- R94: an order with a later entry sequence stands behind another one, or before it by its class. -/
theorem Order.before_or_of_later {x o : Order} (later : x.sequence < o.sequence) (h : ¬ x.before o = true) : o.before x = true := by
  unfold Order.before at *
  cases hx : x.cls <;> cases ho : o.cls <;> simp_all

/-- R94: an order entered later than all stands in its place. -/
theorem insertOrder_pairwise {o : Order} {l : List Order} (later : ∀ x ∈ l, x.sequence < o.sequence)
    (h : l.Pairwise (fun x y => x.before y = true)) : (insertOrder o l).Pairwise (fun x y => x.before y = true) := by
  induction l with
  | nil => exact List.pairwise_singleton _ _
  | cons x xs ih =>
    obtain ⟨hx, hxs⟩ := List.pairwise_cons.1 h
    unfold insertOrder
    split
    · next b =>
      refine List.pairwise_cons.2 ⟨fun y hy => ?_, ih (fun y hy => later y (List.mem_cons_of_mem x hy)) hxs⟩
      rcases List.mem_cons.1 ((insertOrder_perm o xs).mem_iff.1 hy) with rfl | hy
      · exact b
      · exact hx y hy
    · next b =>
      have first := Order.before_or_of_later (later x List.mem_cons_self) b
      refine List.pairwise_cons.2 ⟨fun y hy => ?_, h⟩
      rcases List.mem_cons.1 hy with rfl | hy
      · exact first
      · exact Order.before_trans first (hx y hy)

/-! ## An order entered (R95, R96) -/

theorem State.addOrder_lists (s : State) (o : Order) :
    (s.addOrder o).book.lists = s.book.lists.set o.direction (insertOrder o (s.book.lists.get o.direction)) := rfl

theorem State.addOrder_perm (s : State) (o : Order) : (s.addOrder o).book.orders.Perm (o :: s.book.orders) := by
  rw [Book.orders, s.addOrder_lists]
  cases o.direction
  · exact (insertOrder_perm o s.book.lists.up).append_right _
  · exact ((insertOrder_perm o s.book.lists.down).append_left _).trans List.perm_middle

/-- R95: an order of a vessel without one, with a number of its own and the next entry sequence, keeps the book in order. -/
theorem State.addOrder_bookInOrder (s : State) (o : Order) (h : s.BookInOrder) (count : s.book.orders.length < 32)
    (slot : o.slot < 128) (free : (s.vessel o.slot).state ≠ .free) (none : (s.vessel o.slot).order = none)
    (number : o.number ∉ s.book.numbers) (sequence : o.sequence = s.book.entrySequence + 1) (entered : o.entered ≤ s.now) :
    (s.addOrder o).BookInOrder := by
  obtain ⟨_, numbers, slots, each, lists⟩ := h
  have perm := s.addOrder_perm o
  have unnamed : ∀ x ∈ s.book.orders, x.slot ≠ o.slot := fun x hx e => by
    have := (each x hx).2.1
    rw [e, none] at this
    contradiction
  have vessel : ∀ i, (s.addOrder o).vessel i = if i = o.slot then { s.vessel o.slot with order := some o.number } else s.vessel i :=
    fun i => (s.setVessel_vessel o.slot _ i).trans (by simp [slot])
  refine ⟨?_, ?_, ?_, fun x hx => ?_, fun d => ?_⟩
  · rw [perm.length_eq, List.length_cons]
    omega
  · rw [(perm.map Order.number).nodup_iff, List.map_cons, List.nodup_cons]
    exact ⟨number, numbers⟩
  · rw [(perm.map Order.slot).nodup_iff, List.map_cons, List.nodup_cons]
    exact ⟨fun hm => by obtain ⟨x, hx, e⟩ := List.mem_map.1 hm; exact unnamed x hx e, slots⟩
  · rw [vessel]
    rcases List.mem_cons.1 (perm.mem_iff.1 hx) with rfl | hx
    · rw [if_pos rfl]
      exact ⟨free, rfl, Nat.le_refl _, entered⟩
    · rw [if_neg (unnamed x hx)]
      obtain ⟨hf, hn, hs, he⟩ := each x hx
      refine ⟨hf, hn, ?_, he⟩
      show x.sequence ≤ o.sequence
      omega
  · rw [s.addOrder_lists, PerDirection.get_set]
    split
    · refine insertOrder_pairwise (fun x hx => ?_) (lists _)
      have := (each x (Book.mem_orders.2 ⟨_, hx⟩)).2.2.1
      omega
    · exact lists d

/-- R96: ENTER ORDER's order takes a number that no other order holds. -/
theorem State.newOrder_number (s : State) (st : Station) (i : Nat) (d : Direction) (laden : Bool) (c : OrderClass)
    (count : s.book.orders.length < 32) : (s.newOrder st i d laden c).number ∉ s.book.numbers :=
  freeNumber_not_mem _ (by rw [Book.numbers, List.length_map]; omega) (by omega)

theorem State.addOrder_keeps (s : State) (st : Station) (i : Nat) (d : Direction) (laden : Bool) (c : OrderClass)
    (count : s.book.orders.length < 32) (slot : i < 128) (free : (s.vessel i).state ≠ .free) (none : (s.vessel i).order = none) :
    KeepsBooks s (s.addOrder (s.newOrder st i d laden c)) where
  journal h := h
  book h := s.addOrder_bookInOrder _ h count slot free none (s.newOrder_number st i d laden c count) rfl (Nat.le_refl _)
  ceilings h := (h.but i).replace _ (s.ceilingsHeld_iff.1 h i)

end Sys2Proof.Machine
end

section
/-! SUPPORT. Batches that lose members, are secured, cleared, abandoned or unbound: their reserves cover what they may still need
(R97, R104, R108 to R113, R139). -/

namespace Sys2Proof.Machine

/-! ## Re-apportionment and a batch's leaving (R110, R111, R139) -/

/-- R104: a batch that may still write a re-apportionment has the words for it. -/
theorem Batch.Covered.le_reserve {b : Batch} (h : b.Covered) : 12 ≤ b.reserve := by
  obtain ⟨owed, members⟩ := h
  by_cases e : b.members = []
  · have := members e
    simp only [Batch.owed, if_pos this] at owed
    omega
  · have := List.length_pos_iff.2 e
    unfold Batch.owed at owed
    omega

/-- The batch a re-apportionment leaves: its shares and its fill record anew, its reserve 12 words less. -/
def Batch.reapportioned (b : Batch) (r : ClosedRec) (toSite : Bool) : Batch :=
  { b with
    members := if toSite then b.members else shareMembers r.charge b.members
    fill := some
      { r with
        sitePart := if toSite then r.charge else 0
        sharers := if toSite then [] else b.members.map (·.order) }
    reserve := b.reserve - 12 }

theorem State.reapportion_eq {s : State} {k : Chamber} {b : Batch} {r : ClosedRec} (toSite : Bool) (hb : s.batch k = some b)
    (hr : b.fill = some r) :
    ∃ x : WaterFrame, s.reapportion k toSite = { s with
      book.batches := s.book.batches.set k (some (b.reapportioned r toSite))
      journal.frames := s.journal.frames ++ [.water x]
      stations := (s.reapportion k toSite).stations
      site := (s.reapportion k toSite).site } := by
  unfold State.reapportion
  rw [hb]
  dsimp only
  rw [hr]
  dsimp only
  rw [State.writeReserved_eq (State.setBatch_batch_self ..)]
  refine ⟨?_, ?_⟩
  rotate_left
  · simp only [State.postSite, State.setBatch, PerChamber.set_set]
    rfl

theorem State.reapportion_none {s : State} {k : Chamber} {b : Batch} (toSite : Bool) (hb : s.batch k = some b) (hr : b.fill = none) :
    s.reapportion k toSite = s := by
  unfold State.reapportion
  rw [hb]
  dsimp only
  rw [hr]

theorem Batch.reapportioned_members (b : Batch) (r : ClosedRec) (x : Bool) :
    (b.reapportioned r x).members.length = b.members.length := by
  cases x <;> simp [Batch.reapportioned, shareMembers_length]

/-- R139: the words of a re-apportionment leave the reserve for the frame. -/
theorem State.Room.reapportion {s : State} {k : Chamber} {b : Batch} (toSite : Bool) (hb : s.batch k = some b) (h : s.Room)
    (words : 12 ≤ b.reserve) : (s.reapportion k toSite).Room := by
  cases hr : b.fill with
  | none => rwa [State.reapportion_none toSite hb hr]
  | some r =>
    obtain ⟨x, e⟩ := State.reapportion_eq toSite hb hr
    rw [e]
    refine h.of_batch hb (fun k' => PerChamber.get_set ..) ?_ (Nat.sub_le _ _)
    show framesWords (s.journal.frames ++ [.water x]) + (b.reserve - 12) ≤ framesWords s.journal.frames + b.reserve
    rw [framesWords_snoc]
    simp only [Frame.words]
    omega

theorem State.reapportion_orders (s : State) (k : Chamber) (x : Bool) : OrdersAlone s (s.reapportion k x) := by
  cases hb : s.batch k with
  | none =>
    unfold State.reapportion
    rw [hb]
    exact .refl s
  | some b =>
    cases hr : b.fill with
    | none =>
      rw [State.reapportion_none x hb hr]
      exact .refl s
    | some r =>
      obtain ⟨_, e⟩ := State.reapportion_eq x hb hr
      rw [e]
      exact .of_eq rfl rfl rfl rfl

/-- A re-apportionment leaves the other chamber's batch alone. -/
theorem State.reapportion_other (s : State) (k : Chamber) (x : Bool) {k' : Chamber} (h : k' ≠ k) :
    (s.reapportion k x).batch k' = s.batch k' := by
  cases hb : s.batch k with
  | none =>
    unfold State.reapportion
    rw [hb]
  | some b =>
    cases hr : b.fill with
    | none => rw [State.reapportion_none x hb hr]
    | some r =>
      obtain ⟨_, e⟩ := State.reapportion_eq x hb hr
      rw [e]
      exact (PerChamber.get_set ..).trans (if_neg h)

theorem State.removeBatch_facts (s : State) (k : Chamber) : OrdersAlone s (s.removeBatch k)
    ∧ (∀ k', (s.removeBatch k).batch k' = if k' = k then none else s.batch k')
    ∧ (s.removeBatch k).journal.frames = s.journal.frames := by
  let t := (s.setBatch k none).setChamber k
    { s.chamber k with entry := none, entryOverdue := false, leave := none, clearOut := false, leaveOverdue := false }
  have freed : BooksAlone t (s.removeBatch k) := t.noteFreed_alone s
  refine ⟨.trans (t := t) (.of_eq rfl rfl rfl rfl) freed.toOrdersAlone, fun k' => (freed.batch k').trans (s.setBatch_batch k _ k'), freed.frames⟩

/-- R111, R113: a batch leaves its chamber, its fill's charge posted to the site. -/
theorem State.reapportion_removeBatch_keeps (s : State) (k : Chamber) :
    KeepsBooks s ((s.reapportion k true).removeBatch k) := by
  obtain ⟨orders, batch, frames⟩ := (s.reapportion k true).removeBatch_facts k
  refine ((s.reapportion_orders k true).trans orders).keeps fun h => ?_
  rw [State.journalFits_iff] at h ⊢
  obtain ⟨room, all⟩ := h
  have room' : (s.reapportion k true).Room := by
    cases hb : s.batch k with
    | none =>
      unfold State.reapportion
      rwa [hb]
    | some b => exact room.reapportion true hb (all k b hb).le_reserve
  refine ⟨room'.of_removed batch frames, fun k' b hb => ?_⟩
  rw [batch] at hb
  split at hb
  · contradiction
  · next hk =>
    rw [State.reapportion_other _ _ _ hk] at hb
    exact all k' b hb

theorem State.abandonBatch_keeps (s : State) (k : Chamber) : KeepsBooks s (s.abandonBatch k) :=
  (s.reapportion_removeBatch_keeps k).trans (State.push_alone _ _).keeps

/-! ## Members that leave (R97, R108) -/

theorem Batch.without_rest (b : Batch) (n : Nat) : (b.without n).state = b.state ∧ (b.without n).reserve = b.reserve
    ∧ (b.without n).fill = b.fill ∧ (b.without n).empty = b.empty := by
  unfold Batch.without
  split
  · exact ⟨rfl, rfl, rfl, rfl⟩
  · dsimp only
    split <;> exact ⟨rfl, rfl, rfl, rfl⟩

/-- R97: the members left are those of the other orders. -/
theorem Batch.without_members_length (b : Batch) (n : Nat) :
    (b.without n).members.length = (b.members.filter (fun m => decide (m.order ≠ n))).length := by
  unfold Batch.without
  split
  · next h =>
    rw [List.filter_eq_self.2]
    intro m hm
    have := List.find?_eq_none.1 h m hm
    simpa using this
  · dsimp only
    split
    · simp
    · rfl

/-- R97, R108: the words a member gives back are those it needs no longer. -/
theorem State.without_owed {s : State} {k : Chamber} {b : Batch} (hb : s.batch k = some b) (n : Nat) :
    (b.without n).owed + s.memberWords k n ≤ b.owed := by
  obtain ⟨state, _, fill, empty⟩ := b.without_rest n
  have len := b.without_members_length n
  have words : s.memberWords k n + 16 * (b.without n).members.length ≤ 16 * b.members.length := by
    unfold State.memberWords
    rw [hb]
    dsimp only
    split
    · next any =>
      obtain ⟨m, hm, hn⟩ := List.any_eq_true.1 any
      have shorter : (b.members.filter (fun m => decide (m.order ≠ n))).length < b.members.length := by
        refine List.length_filter_lt_length_iff_exists.2 ⟨m, hm, ?_⟩
        simpa using hn
      omega
    · have := List.length_filter_le (fun m : Member => decide (m.order ≠ n)) b.members
      omega
  unfold Batch.owed
  rw [state, fill, empty]
  omega

/-- A batch of chamber k, if any, has not been SECURED. -/
def State.Open (s : State) (k : Chamber) : Prop := ∀ b, s.batch k = some b → b.state = .bound ∨ b.state = .entering

theorem State.leaveBatch_batch (s : State) (k : Chamber) (n : Nat) (k' : Chamber) :
    (s.leaveBatch k n).batch k' = if k' = k then (s.batch k).map (·.without n) else s.batch k' := by
  unfold State.leaveBatch
  cases hb : s.batch k with
  | none =>
    dsimp only
    split
    · next h => rw [h, hb]; rfl
    · rfl
  | some b => exact s.setBatch_batch k _ k'

theorem State.leaveBatch_orders (s : State) (k : Chamber) (n : Nat) : OrdersAlone s (s.leaveBatch k n) := by
  unfold State.leaveBatch
  split
  · exact .of_eq rfl rfl rfl rfl
  · exact .refl s

theorem State.releaseReserve_facts (s : State) (k : Chamber) (n : Nat) : OrdersAlone s (s.releaseReserve k n)
    ∧ (∀ k', (s.releaseReserve k n).batch k' =
        if k' = k then (s.batch k).map (fun b => { b with reserve := b.reserve - n }) else s.batch k')
    ∧ (s.releaseReserve k n).journal.frames = s.journal.frames := by
  unfold State.releaseReserve
  cases hb : s.batch k with
  | none =>
    refine ⟨.refl s, fun k' => ?_, rfl⟩
    dsimp only
    split
    · next h => rw [h, hb]; rfl
    · rfl
  | some b =>
    have freed := State.noteFreed_alone (s.setBatch k (some { b with reserve := b.reserve - n })) s
    exact ⟨.trans (t := s.setBatch k (some { b with reserve := b.reserve - n })) (.of_eq rfl rfl rfl rfl) freed.toOrdersAlone, fun k' => (freed.batch k').trans (s.setBatch_batch k _ k'),
      freed.frames⟩

/-- With reserves no higher and frames that fit, a state without new batches has room. -/
theorem State.Room.of_lower {s t : State} (lower : ∀ k b, t.batch k = some b → ∃ a, s.batch k = some a ∧ b.reserve ≤ a.reserve)
    (used : t.used ≤ s.used) (h : s.Room) : t.Room := by
  have each : ∀ k, t.reserveOf k ≤ s.reserveOf k := fun k => by
    unfold State.reserveOf
    cases hb : t.batch k with
    | none => exact Nat.zero_le _
    | some b =>
      obtain ⟨a, ha, hr⟩ := lower k b hb
      rw [ha]
      exact hr
  refine ⟨?_, fun k b hb => ?_⟩
  · have h1 := each .c1
    have h2 := each .c2
    have := h.1
    unfold State.reserved at *
    omega
  · obtain ⟨a, ha, hr⟩ := lower k b hb
    exact hr.trans (h.2 k a ha)

/-- R97, R108: a member leaves its batch and gives its words back, whatever is written between the two. -/
theorem State.member_leaves {s : State} {k : Chamber} {n : Nat} (op : State → State)
    (keeps : KeepsBooks (s.leaveBatch k n) (op (s.leaveBatch k n)))
    (room : (s.leaveBatch k n).Room → (op (s.leaveBatch k n)).Room)
    (batch : ∀ k', (op (s.leaveBatch k n)).batch k' = (s.leaveBatch k n).batch k') (opened : s.Open k) :
    KeepsBooks s ((op (s.leaveBatch k n)).releaseReserve k (s.memberWords k n))
      ∧ ((op (s.leaveBatch k n)).releaseReserve k (s.memberWords k n)).Open k := by
  obtain ⟨orders, released, frames⟩ := (op (s.leaveBatch k n)).releaseReserve_facts k (s.memberWords k n)
  have final : ∀ k', ((op (s.leaveBatch k n)).releaseReserve k (s.memberWords k n)).batch k' =
      if k' = k then (s.batch k).map (fun b => { b.without n with reserve := b.reserve - s.memberWords k n })
      else s.batch k' := fun k' => by
    rw [released, batch, batch, s.leaveBatch_batch, s.leaveBatch_batch, if_pos rfl]
    split
    · cases s.batch k with
      | none => rfl
      | some b => simp only [Option.map_some, (b.without_rest n).2.1]
    · rfl
  have leave := s.leaveBatch_orders k n
  refine ⟨⟨fun h => ?_, fun h => ?_, fun h => ?_⟩, fun b hb => ?_⟩
  · rw [State.journalFits_iff] at h ⊢
    obtain ⟨hroom, all⟩ := h
    have left : (s.leaveBatch k n).Room := by
      refine .of_lower (fun k' b hb => ?_) ?_ hroom
      · rw [s.leaveBatch_batch] at hb
        split at hb
        · next hk =>
          obtain ⟨a, ha, rfl⟩ := Option.map_eq_some_iff.1 hb
          exact ⟨a, hk ▸ ha, (a.without_rest n).2.1.le⟩
        · exact ⟨b, hb, Nat.le_refl _⟩
      · unfold State.leaveBatch
        split <;> exact Nat.le_refl _
    refine ⟨.of_lower (fun k' b hb => ?_) ?_ (room left), fun k' b hb => ?_⟩
    · rw [released] at hb
      split at hb
      · next hk =>
        obtain ⟨a, ha, rfl⟩ := Option.map_eq_some_iff.1 hb
        exact ⟨a, hk ▸ ha, Nat.sub_le _ _⟩
      · exact ⟨b, hb, Nat.le_refl _⟩
    · rw [State.used, frames]
      exact Nat.le_refl _
    · rw [final] at hb
      split at hb
      · obtain ⟨a, ha, rfl⟩ := Option.map_eq_some_iff.1 hb
        have covered := (all k a ha).1
        have owed := State.without_owed ha n
        refine ⟨?_, fun _ => ?_⟩
        · show (a.without n).owed ≤ a.reserve - s.memberWords k n
          omega
        · show (a.without n).state = .bound ∨ (a.without n).state = .entering
          rw [(a.without_rest n).1]
          exact opened a ha
      · exact all k' b hb
  · exact orders.bookInOrder (keeps.book (leave.bookInOrder h))
  · exact orders.ceilings (keeps.ceilings (leave.ceilings h))
  · rw [final, if_pos rfl] at hb
    obtain ⟨a, ha, rfl⟩ := Option.map_eq_some_iff.1 hb
    show (a.without n).state = .bound ∨ (a.without n).state = .entering
    rw [(a.without_rest n).1]
    exact opened a ha

/-! ## Orders returned (R113) -/

theorem State.returnMember_keeps (s : State) (st : Station) (n : Nat) : KeepsBooks s (s.returnMember st n) := by
  unfold State.returnMember
  split
  · exact (s.returnOrder_alone _).keeps.trans (State.orderFrame_keeps _ _ _ _ _)
  · exact .refl s

theorem State.returnMember_batches (s : State) (st : Station) (n : Nat) : (s.returnMember st n).book.batches = s.book.batches := by
  unfold State.returnMember
  split
  · rw [State.orderFrame, State.write_frame]
    rfl
  · rfl

theorem State.returnMember_room (s : State) (st : Station) (n : Nat) (h : s.Room) : (s.returnMember st n).Room := by
  unfold State.returnMember
  split
  · exact State.write_room _ _ ((s.returnOrder_alone _).room h)
  · exact h

theorem State.unbind_keeps (s : State) (k : Chamber) (st : Station) : KeepsBooks s (s.unbind k st) := by
  have returned : ∀ ns : List Nat, KeepsBooks s (ns.foldl (fun u n => u.returnMember st n) s) :=
    fun ns => .foldl (fun u n => u.returnMember_keeps st n) ns s
  unfold State.unbind
  dsimp only
  split
  · exact .refl s
  · split
    · exact (returned _).trans ((State.reapportion_removeBatch_keeps _ k).trans (State.pushAvailable_alone _).keeps)
    · exact (returned _).trans (State.reapportion_removeBatch_keeps _ k)

/-! ## Confirming entry (R108, R109) -/

theorem State.absent_keeps {s : State} {k : Chamber} (st : Station) (n : Nat) (opened : s.Open k) :
    KeepsBooks s (s.absent st k n) ∧ (s.absent st k n).Open k :=
  State.member_leaves (op := fun t => t.returnMember st n) (State.returnMember_keeps _ st n) (State.returnMember_room _ st n)
    (fun k' => by rw [State.batch, State.returnMember_batches]; rfl) opened

theorem State.absents_keep {s : State} {k : Chamber} (st : Station) (gone : List Nat) (opened : s.Open k) :
    KeepsBooks s (gone.foldl (fun u n => u.absent st k n) s) ∧ (gone.foldl (fun u n => u.absent st k n) s).Open k := by
  induction gone generalizing s with
  | nil => exact ⟨.refl s, opened⟩
  | cons n ns ih =>
    obtain ⟨keeps, still⟩ := State.absent_keeps st n opened
    obtain ⟨rest, open'⟩ := ih still
    exact ⟨keeps.trans rest, open'⟩

end Sys2Proof.Machine
end

section
/-! SUPPORT. Batches secured and cleared, and the register's writes: what is left of the journal, the book and the ceilings (R80, R81,
R109, R110, R146). -/

namespace Sys2Proof.Machine

/-! ## Batches and frames alone -/

/-- The batches and the frames stay. -/
structure JournalAlone (s t : State) : Prop where
  batches : t.book.batches = s.book.batches
  frames : t.journal.frames = s.journal.frames

theorem JournalAlone.refl (s : State) : JournalAlone s s := ⟨rfl, rfl⟩

theorem JournalAlone.trans {s t u : State} (h : JournalAlone s t) (g : JournalAlone t u) : JournalAlone s u :=
  ⟨g.batches.trans h.batches, g.frames.trans h.frames⟩

theorem BooksAlone.journalAlone {s t : State} (h : BooksAlone s t) : JournalAlone s t := ⟨h.batches, h.frames⟩

theorem State.setVessel_journalAlone (s : State) (i : Nat) (v : Vessel) : JournalAlone s (s.setVessel i v) := ⟨rfl, rfl⟩

theorem State.reevaluate_journalAlone (s : State) (i : Nat) : JournalAlone s (s.reevaluate i) := by
  rcases s.reevaluate_cases i with ⟨e, _⟩ | e | ⟨e, _⟩ <;> rw [e]
  · exact .refl s
  · exact (s.setVessel_journalAlone i _).trans (s.holdVessel_journal i .ceiling).journalAlone
  · exact (s.setVessel_journalAlone i _).trans (s.activate_alone i).journalAlone

theorem State.removeOrder_journalAlone (s : State) (o : Order) : JournalAlone s (s.removeOrder o) := by
  unfold State.removeOrder
  dsimp only
  split <;> exact ⟨rfl, rfl⟩

/-! ## A batch secured (R109) -/

theorem State.noteUnset_alone (s : State) : BooksAlone s s.noteUnset := by
  unfold State.noteUnset
  split
  · exact s.raiseAll_alone _
  · exact .refl s

/-- The batch before it is SECURED: its members PRESENT, its night flag fixed. -/
def State.allPresent (s : State) (b : Batch) : Batch :=
  { b with members := b.members.map (fun m => { m with present := true }), night := some (s.nightFlag b.tariff) }

/-- R109, R139: a fill's shares stand over the members present, or are worked anew. -/
def State.sharedAnew (s : State) (k : Chamber) (b : Batch) : State :=
  let t := (s.setBatch k (some (s.allPresent b))).noteUnset
  match b.fill with
  | some r => if r.sharers = (s.allPresent b).members.map Member.order then t else t.reapportion k false
  | none => t

theorem State.secure_eq (s : State) (k : Chamber) (b : Batch) :
    s.secure k b =
      let t := s.sharedAnew k b
      let u := t.setBatch k ((t.batch k).map (fun x : Batch => { x with state := .secured }))
      (u.setChamber k { u.chamber k with entry := none, entryOverdue := false }).push (.rest k) := rfl

/-- What the shares' working leaves of the batch: as many members, the same records closed, and at most 12 words fewer. -/
theorem State.sharedAnew_facts {s : State} {k : Chamber} {b : Batch} :
    OrdersAlone s (s.sharedAnew k b) ∧ ∃ x, (∀ k', (s.sharedAnew k b).batch k' = if k' = k then some x else s.batch k')
      ∧ x.members.length = b.members.length ∧ (x.fill = none ↔ b.fill = none) ∧ x.empty = b.empty ∧ x.reserve ≤ b.reserve
      ∧ b.reserve ≤ x.reserve + 12 ∧ (12 ≤ b.reserve → (s.sharedAnew k b).used + x.reserve ≤ s.used + b.reserve) := by
  have unset := (s.setBatch k (some (s.allPresent b))).noteUnset_alone
  generalize hu : (s.setBatch k (some (s.allPresent b))).noteUnset = u at unset
  have batch : ∀ k', u.batch k' = if k' = k then some (s.allPresent b) else s.batch k' :=
    fun k' => (unset.batch k').trans (s.setBatch_batch k _ k')
  have orders : OrdersAlone s u := .trans (t := s.setBatch k (some (s.allPresent b))) (.of_eq rfl rfl rfl rfl) unset.toOrdersAlone
  have used : u.used = s.used := unset.used
  have len : (s.allPresent b).members.length = b.members.length := List.length_map _
  have plain : OrdersAlone s u ∧ ∃ x, (∀ k', u.batch k' = if k' = k then some x else s.batch k')
      ∧ x.members.length = b.members.length ∧ (x.fill = none ↔ b.fill = none) ∧ x.empty = b.empty ∧ x.reserve ≤ b.reserve
      ∧ b.reserve ≤ x.reserve + 12 ∧ (12 ≤ b.reserve → u.used + x.reserve ≤ s.used + b.reserve) :=
    ⟨orders, s.allPresent b, batch, len, Iff.rfl, rfl, Nat.le_refl _, Nat.le_add_right _ _, fun _ => by rw [used]; exact Nat.le_refl _⟩
  unfold State.sharedAnew
  dsimp only
  rw [hu]
  split
  · next r hr =>
    split
    · exact plain
    · obtain ⟨w, e⟩ := State.reapportion_eq (r := r) false ((batch k).trans (if_pos rfl)) hr
      have moved := u.reapportion_orders k false
      rw [e] at moved ⊢
      refine ⟨orders.trans moved, (s.allPresent b).reapportioned r false, fun k' => ?_,
        (Batch.reapportioned_members _ _ _).trans len, ?_, rfl, Nat.sub_le _ _, ?_, fun h => ?_⟩
      · refine (PerChamber.get_set ..).trans ?_
        split
        · rfl
        · next hk => exact (batch k').trans (if_neg hk)
      · rw [hr]
        exact iff_of_false (Option.some_ne_none _) (Option.some_ne_none _)
      · show b.reserve ≤ b.reserve - 12 + 12
        omega
      · have frames : u.journal.frames = s.journal.frames := unset.frames
        show framesWords (u.journal.frames ++ [.water w]) + (b.reserve - 12) ≤ framesWords s.journal.frames + b.reserve
        rw [framesWords_snoc, frames]
        simp only [Frame.words]
        omega
  · exact plain

/-- R109: a batch SECURED needs the words of a re-apportionment no longer. -/
theorem State.secure_keeps {s : State} {k : Chamber} {b : Batch} (hb : s.batch k = some b) (opened : s.Open k) (some' : b.members ≠ []) :
    KeepsBooks s (s.secure k b) := by
  obtain ⟨orders, x, batch, members, fill, empty, reserve, most, words⟩ := State.sharedAnew_facts (s := s) (k := k) (b := b)
  rw [State.secure_eq]
  generalize s.sharedAnew k b = t at orders batch words ⊢
  dsimp only
  have hx : t.batch k = some x := (batch k).trans (if_pos rfl)
  rw [hx]
  refine .trans (t := t.setBatch k (some { x with state := .secured })) ?_
    ((State.setChamber_alone _ k _).trans (State.push_alone _ _)).keeps
  have owed : ({ x with state := .secured } : Batch).owed + 12 = b.owed := by
    have open' := opened b hb
    simp only [Batch.owed, members, empty, fill, if_pos open']
    simp
  refine .of_batch (b' := { x with state := .secured }) (orders.trans (.of_eq rfl rfl rfl rfl)) hb (fun k' => ?_) (fun c => words c.le_reserve) reserve fun c => ?_
  · rw [State.setBatch_batch, batch]
    split <;> rfl
  · refine ⟨?_, fun h => absurd (List.eq_nil_of_length_eq_zero ?_) some'⟩
    · have := c.1
      show ({ x with state := .secured } : Batch).owed ≤ x.reserve
      omega
    · rw [← members]
      exact congrArg List.length h

theorem State.confirm_keeps {s : State} {k : Chamber} (st : Station) (gone : List Nat) (opened : s.Open k) :
    KeepsBooks s (s.confirm st k gone) := by
  obtain ⟨keeps, still⟩ := State.absents_keep st gone opened
  unfold State.confirm
  generalize gone.foldl (fun u n => u.absent st k n) s = t at keeps still ⊢
  dsimp only
  have rest : KeepsBooks t (match t.batch k with
      | some b => if b.members.isEmpty then t.abandonBatch k else t.secure k b
      | none => t) := by
    split
    · next b hb =>
      split
      · exact t.abandonBatch_keeps k
      · next h => exact State.secure_keeps hb still (by simpa using h)
    · exact .refl t
  have told : ∀ v : State, KeepsBooks v (if v.anyWaiting gone then v.pushAvailable else v) := fun v => by
    split
    · exact v.pushAvailable_alone.keeps
    · exact .refl v
  exact keeps.trans (rest.trans (told _))

/-! ## A batch cleared (R110) -/

/-- What clearing a member does to the journal: a ticket on top, its 16 words drawn from the reserve. -/
theorem State.clearMember_journal {s : State} {k : Chamber} {b' : Batch} (b : Batch) (m : Member) (hb : s.batch k = some b') :
    (∀ k', (s.clearMember k b m).batch k' = if k' = k then some { b' with reserve := b'.reserve - 16 } else s.batch k')
      ∧ ∃ t, (s.clearMember k b m).journal.frames = s.journal.frames ++ [.ticket t] := by
  let f := s.ticket k b m
  let u := (s.noteUnset).writeReserved k (.ticket f)
  have unset := s.noteUnset_alone
  have written := State.writeReserved_eq (s := s.noteUnset) (k := k) (b := b') ((unset.batch k).trans hb) (.ticket f)
  have batch : ∀ k', u.batch k' = if k' = k then some { b' with reserve := b'.reserve - 16 } else s.batch k' := fun k' => by
    show ((s.noteUnset).writeReserved k (.ticket f)).batch k' = _
    rw [written]
    refine (PerChamber.get_set ..).trans ?_
    split
    · rfl
    · exact unset.batch k'
  have frames : u.journal.frames = s.journal.frames ++ [.ticket f] := by
    show ((s.noteUnset).writeReserved k (.ticket f)).journal.frames = _
    rw [written]
    show s.noteUnset.journal.frames ++ _ = _
    rw [unset.frames]
  have posted : JournalAlone u (s.postTicket k m f) := by
    have base := (u.setVessel_journalAlone m.slot ((u.vessel m.slot).post f.dues)).trans (State.reevaluate_journalAlone _ m.slot)
    unfold State.postTicket
    dsimp only
    split
    · exact base.trans ⟨rfl, rfl⟩
    · exact base
  have passed : ∀ v : State, JournalAlone v (v.passMember m) := fun v => by
    have base := v.setVessel_journalAlone m.slot ((v.vessel m.slot).passed v.time)
    unfold State.passMember
    dsimp only
    split
    · exact base.trans (State.removeOrder_journalAlone _ _)
    · exact base
  have all : JournalAlone u (s.clearMember k b m) := posted.trans ((passed _).trans ⟨rfl, rfl⟩)
  refine ⟨fun k' => ?_, f, all.frames.trans frames⟩
  rw [State.batch, all.batches]
  exact batch k'

theorem State.noteUnset_writeReserved_orders (s : State) (k : Chamber) (f : Frame) :
    OrdersAlone s ((s.noteUnset).writeReserved k f) := by
  refine s.noteUnset_alone.toOrdersAlone.trans ?_
  cases hb : s.noteUnset.batch k with
  | none =>
    unfold State.writeReserved
    rw [hb]
    exact State.write_orders _ f
  | some b =>
    rw [State.writeReserved_eq hb]
    exact .of_eq rfl rfl rfl rfl

theorem Vessel.post_rest (v : Vessel) (n : Nat) : (v.post n).state = v.state ∧ (v.post n).order = v.order := by
  unfold Vessel.post
  split <;> exact ⟨rfl, rfl⟩

/-- R146, R89, R92: clearing a member keeps the book and the ceilings. -/
theorem State.clearMember_keeps (s : State) (k : Chamber) (b : Batch) (m : Member) :
    (s.BookInOrder → (s.clearMember k b m).BookInOrder) ∧ (s.CeilingsHeld → (s.clearMember k b m).CeilingsHeld) := by
  have written := s.noteUnset_writeReserved_orders k (.ticket (s.ticket k b m))
  generalize hu : (s.noteUnset).writeReserved k (.ticket (s.ticket k b m)) = u at written
  have post := (u.vessel m.slot).post_rest (s.ticket k b m).dues
  have posted : KeepsBooks u (s.postTicket k m (s.ticket k b m)) := by
    have base := u.setVessel_reevaluate_keeps m.slot ((u.vessel m.slot).post (s.ticket k b m).dues) (fun h => post.1 ▸ h) post.2
    unfold State.postTicket
    dsimp only
    rw [hu]
    split
    · exact base.trans (State.postSite_alone _ _ _ _).keeps
    · exact base
  have passed : ∀ v : State, KeepsBooks v (v.passMember m) := fun v => by
    have base := v.setVessel_keeps_books m.slot ((v.vessel m.slot).passed v.time) id rfl
      fun h => v.ceilingsHeld_iff.1 h m.slot
    unfold State.passMember
    dsimp only
    split
    · next o ho => exact base.trans (State.removeOrder_keeps _ o (Book.mem_of_find ho).1)
    · exact base
  have counted : ∀ v : State, KeepsBooks v (v.countCompleted b.direction m.cls) := fun v => .of_eq rfl rfl rfl rfl
  have all := posted.trans ((passed _).trans (counted _))
  exact ⟨fun h => all.book (written.bookInOrder h), fun h => all.ceilings (written.ceilings h)⟩

/-- R110, R144: the reserve of a batch covers the tickets of its members. -/
theorem State.clearMembers_room (k : Chamber) (b : Batch) (ms : List Member) {s : State} {b' : Batch} (hb : s.batch k = some b')
    (words : 16 * ms.length ≤ b'.reserve) (room : s.Room) :
    (ms.foldl (fun t m => t.clearMember k b m) s).Room
      ∧ ∀ k', k' ≠ k → (ms.foldl (fun t m => t.clearMember k b m) s).batch k' = s.batch k' := by
  induction ms generalizing s b' with
  | nil => exact ⟨room, fun _ _ => rfl⟩
  | cons m ms ih =>
    obtain ⟨batch, f, frames⟩ := State.clearMember_journal b m hb
    rw [List.length_cons] at words
    have next' : (s.clearMember k b m).Room := by
      refine room.of_batch hb batch ?_ (Nat.sub_le _ _)
      simp only [State.used, frames, framesWords_snoc, Frame.words]
      omega
    obtain ⟨last, others⟩ := ih ((batch k).trans (if_pos rfl)) (by dsimp only; omega) next'
    exact ⟨last, fun k' hk => (others k' hk).trans ((batch k').trans (if_neg hk))⟩

theorem State.clearMembers_keeps (k : Chamber) (b : Batch) (ms : List Member) (s : State) :
    (s.BookInOrder → (ms.foldl (fun t m => t.clearMember k b m) s).BookInOrder)
      ∧ (s.CeilingsHeld → (ms.foldl (fun t m => t.clearMember k b m) s).CeilingsHeld) := by
  induction ms generalizing s with
  | nil => exact ⟨id, id⟩
  | cons m ms ih =>
    have one := s.clearMember_keeps k b m
    exact ⟨(ih _).1 ∘ one.1, (ih _).2 ∘ one.2⟩

/-- R110: a batch cleared leaves its chamber. -/
theorem State.clearBatch_keeps {s : State} {k : Chamber} {b : Batch} (hb : s.batch k = some b) :
    KeepsBooks s ((b.members.foldl (fun t m => t.clearMember k b m) s).removeBatch k) := by
  obtain ⟨book, ceilings⟩ := State.clearMembers_keeps k b b.members s
  obtain ⟨orders, batch, frames⟩ := (b.members.foldl (fun t m => t.clearMember k b m) s).removeBatch_facts k
  refine ⟨fun h => ?_, fun h => orders.bookInOrder (book h), fun h => orders.ceilings (ceilings h)⟩
  rw [State.journalFits_iff] at h ⊢
  obtain ⟨room, all⟩ := h
  have owed := (all k b hb).1
  obtain ⟨left, others⟩ := State.clearMembers_room k b b.members hb (by unfold Batch.owed at owed; omega) room
  refine ⟨left.of_removed batch frames, fun k' x hx => ?_⟩
  rw [batch] at hx
  split at hx
  · contradiction
  · next hk => exact all k' x (others k' hk ▸ hx)

/-! ## Orders cancelled (R97, R112) -/

theorem State.chamberOf_batch {s : State} {n : Nat} {k : Chamber} {b : Batch} (h : s.chamberOf n = some (k, b)) :
    s.batch k = some b := by
  unfold State.chamberOf at h
  (repeat' split at h) <;> first | contradiction | (cases h; assumption)

theorem State.leaveBatch_lists (s : State) (k : Chamber) (n : Nat) : (s.leaveBatch k n).book.lists = s.book.lists := by
  unfold State.leaveBatch
  split <;> rfl

theorem State.releaseReserve_lists (s : State) (k : Chamber) (n : Nat) : (s.releaseReserve k n).book.lists = s.book.lists := by
  unfold State.releaseReserve
  split
  · next b _ =>
    rw [show State.noteFreed (s.setBatch k (some { b with reserve := b.reserve - n })) s = _ from State.noteFreed_agendaOnly _ s]
    rfl
  · rfl

/-- R97: a member's order cancelled: it leaves its batch with its words, and then the book. -/
theorem State.cancelMember_keeps {s : State} {k : Chamber} {n : Nat} {o : Order} (st : Station) (ho : o ∈ s.book.orders)
    (opened : s.Open k) : KeepsBooks s (((s.leaveBatch k n).releaseReserve k (s.memberWords k n)).cancelled st o) := by
  have left := State.member_leaves (s := s) (k := k) (n := n) (op := id) (.refl _) id (fun _ => rfl) opened
  refine left.1.trans (State.cancelled_keeps _ st o ?_)
  rw [Book.orders, State.releaseReserve_lists]
  show o ∈ (s.leaveBatch k n).book.lists.up ++ (s.leaveBatch k n).book.lists.down
  rw [s.leaveBatch_lists]
  exact ho

theorem State.abandonEmpty_keeps (s : State) (k : Chamber) : KeepsBooks s (s.abandonEmpty k) := by
  unfold State.abandonEmpty
  split
  · split
    · exact s.abandonBatch_keeps k
    · exact .refl s
  · exact .refl s

theorem State.abandonMember_keeps (s : State) (st : Station) (d : Direction) (m : Member) : KeepsBooks s (s.abandonMember st d m) := by
  have counted : ∀ v : State, KeepsBooks v (v.countAbandoned d m.cls) := fun v => .of_eq rfl rfl rfl rfl
  unfold State.abandonMember
  split
  · next o ho => exact (s.cancelled_keeps st o (Book.mem_of_find ho).1).trans (counted _)
  · exact counted s

end Sys2Proof.Machine
end

section
/-! SUPPORT. No command breaks the journal's words, the order of the book or the ceilings of the vessels (R89, R94, R95, R154). -/

namespace Sys2Proof.Machine

/-! ## Requests -/

theorem State.judged_keeps_books (s : State) (st : Station) (p : Permission) (own : State → Judged) (h : KeepsBooks s (own s).1) :
    KeepsBooks s (s.judged st p own).1 := by
  unfold State.judged
  split
  · exact .refl s
  · exact h

theorem State.directed_keeps_books (s : State) (st : Station) (k : Chamber) (own : State → Judged) (h : KeepsBooks s (own s).1) :
    KeepsBooks s (s.directed st k own).1 := by
  refine s.judged_keeps_books st _ _ ?_
  split
  · exact h
  · exact .refl s

theorem State.withVessel_keeps_books (s : State) (i : Nat) (own : Vessel → Judged)
    (h : (s.vessel i).state ≠ .free → KeepsBooks s (own (s.vessel i)).1) : KeepsBooks s (s.withVessel i own).1 := by
  unfold State.withVessel
  split
  · exact .refl s
  · split
    · exact .refl s
    · next free => exact h free

theorem State.phaseReply_keeps {s t : State} (k : Chamber) (kind : WaterKind) (o : ReplyOutcome) (h : KeepsBooks s t) :
    KeepsBooks s (t.phaseReply k kind o).1 := by
  unfold State.phaseReply
  split
  · exact State.finishes (h.trans ((KeepsBooks.of_plant (t.setRamp_plant _ _)).trans (State.setChamber_alone _ k _).keeps))
  · exact State.finishes h

theorem State.directPhase_keeps (s : State) (k : Chamber) (kind : WaterKind) (cross : Bool) :
    KeepsBooks s (s.directPhase k kind cross).1 := by
  unfold State.directPhase
  dsimp only
  split
  · refine State.phaseReply_keeps k kind .ok ((s.openWater_alone k kind).keeps.trans ?_)
    split
    · exact State.offer_keeps _ k kind
    · exact State.enterPhase_keeps _ k kind
  · exact .refl s

theorem State.orderSluice_keeps {s t : State} {q : Sluice} {n : Nat} {r : OrderResult} (h : s.orderSluice q n = (t, r)) :
    KeepsBooks s t := by
  have := s.orderSluice_plant q n
  rw [h] at this
  exact .of_plant this

theorem State.sluicePhase_keeps (s : State) (st : Station) (k : Chamber) (kind : WaterKind) (n : Nat) :
    KeepsBooks s (s.sluicePhase st k kind n) := by
  have begun : KeepsBooks s ((s.openWater k kind).beginPhase k kind) :=
    ((s.openWater_alone k kind).trans (State.setChamber_alone _ k _)).keeps
  unfold State.sluicePhase
  dsimp only
  split
  · exact begun.trans (State.endPhase_keeps _ k kind)
  · exact begun.trans (State.startRamp_alone _ _ _ _).keeps

theorem State.directSluice_keeps (s : State) (st : Station) (k : Chamber) (e : Side) (n : Nat) :
    KeepsBooks s (s.directSluice st k e n).1 := by
  unfold State.directSluice
  dsimp only
  split
  · exact State.finishes (s.shutSluice_alone _).keeps
  · split
    · unfold State.sluiceWithin
      dsimp only
      split
      · split
        · exact .refl s
        · exact State.finishes (s.startRamp_alone _ _ _).keeps
      · split
        · exact .refl s
        · next h => exact State.finishes (State.orderSluice_keeps h)
    · split
      · exact State.phaseReply_keeps k _ _ (s.sluicePhase_keeps st k _ n)
      · exact .refl s

theorem State.resumeAs_keeps (s : State) (k : Chamber) (c : ChamberState) : KeepsBooks s (s.resumeAs k c).1 := by
  have restored : ∀ x, BooksAlone s (s.restore k x) := fun x => s.setChamber_alone k _
  unfold State.resumeAs
  split
  · exact State.finishes ((restored _).trans ((BooksAlone.of_plant (State.closeGate_plant _ k _)).trans
      (State.noteComplete_alone _ k _ _))).keeps
  · split
    · split
      · next h =>
        split
        · exact .refl s
        · exact State.finishes ((restored _).trans ((State.openGate_alone h).trans (State.setChamber_alone _ k _))).keeps
      · next h =>
        exact State.finishes ((restored _).trans ((State.openGate_alone h).trans (State.noteComplete_alone _ k _ _))).keeps
    · split
      · exact State.finishes ((restored _).trans (State.push_alone _ _)).keeps
      · exact State.finishes (((restored _).trans (State.openWater_alone _ k _)).keeps.trans (State.enterPhase_keeps _ k _))
  · unfold State.resumePhase
    split
    · exact .refl s
    · exact State.finishes ((restored _).keeps.trans (State.enterPhase_keeps _ k _))
  · exact State.finishes ((restored _).trans (State.push_alone _ _)).keeps

theorem State.tidy_alone (s : State) (k : Chamber) : BooksAlone s (s.tidy k) := by
  have sluice : ∀ (t : State) (q : Sluice), BooksAlone t (t.tidySluice q) := fun t q => by
    unfold State.tidySluice
    split <;> first | exact t.shutSluice_alone q | exact .refl t
  have gate : ∀ (t : State) (e : Side), BooksAlone t (t.tidyGate k e) := fun t e => by
    unfold State.tidyGate
    split <;> first | exact .of_plant (t.closeGate_plant k e) | exact .refl t
  exact (sluice _ _).trans ((sluice _ _).trans ((gate _ .upper).trans (gate _ .lower)))

theorem State.intoService_alone (s : State) (k : Chamber) (c : ChamberState) : BooksAlone s (s.intoService k c) := by
  have cut : BooksAlone s (s.cutTest k) := by
    unfold State.cutTest
    split
    · exact .of_eq rfl rfl rfl rfl
    · exact .refl s
  exact cut.trans (State.setChamber_alone _ k _)

theorem judgeServiceOn_keeps_books (st : Station) (k : Chamber) (s : State) : KeepsBooks s (judgeServiceOn st k s).1 := by
  refine s.judged_keeps_books st _ _ ?_
  split
  · exact .refl s
  · split
    · exact State.finishes (s.tidy_alone k).keeps
    · exact .refl s
    · exact .refl s
    · exact State.finishes ((s.intoService_alone k _).trans (State.push_alone _ _)).keeps
    · exact State.finishes (((s.intoService_alone k _).trans (State.openWater_alone _ k _)).keeps.trans
        (State.enterPhase_keeps _ k _))

theorem State.serviceOff_keeps (s : State) (st : Station) (k : Chamber) : KeepsBooks s (s.serviceOff st k) :=
  (s.unbind_keeps k st).trans ((State.leaveCross_keeps _ k _).trans ((State.shutBoth_alone _ k).keeps.trans
    ((State.stopMoving_keeps _ k .upper).trans ((State.stopMoving_keeps _ k .lower).trans
      ((State.closeWater_keeps _ k false).trans (State.setChamber_alone _ k _).keeps)))))

theorem State.changeHolder_keeps_books (s : State) (k : Chamber) (o : Option Station) (c : ConductCause) :
    KeepsBooks s (s.changeHolder k o c) :=
  .trans (t := s.setHolder k o) (.of_eq rfl rfl rfl rfl) (State.write_keeps _ _)

/-- R154: frames freed leave more room. -/
theorem State.free_keeps (s : State) : KeepsBooks s s.free := by
  unfold State.free
  split
  · refine OrdersAlone.keeps (.of_eq (by rfl) (by rfl) (by rfl) (by rfl)) fun h => ?_
    rw [State.journalFits_iff] at h ⊢
    refine ⟨.of_lower (s := s) (fun k b hb => ⟨b, hb, Nat.le_refl _⟩) ?_ h.1, h.2⟩
    exact ((List.drop_sublist _ _).map _).sum_le_sum fun _ _ => Nat.zero_le _
  · exact .refl s

theorem judgeEnterOrder_keeps_books (st : Station) (i : Nat) (d : Direction) (laden : Bool) (c : OrderClass) (s : State) :
    KeepsBooks s (judgeEnterOrder st i d laden c s).1 := by
  have told : ∀ v : State, KeepsBooks v (if (s.newOrder st i d laden c).state = .waiting then v.pushAvailable else v) := fun v => by
    split
    · exact v.pushAvailable_alone.keeps
    · exact .refl v
  refine s.judged_keeps_books st _ _ ?_
  dsimp only
  split
  · exact .refl s
  · next slot =>
    split
    · exact .refl s
    · next count =>
      split
      · exact .refl s
      · next free =>
        split
        · exact .refl s
        · next none =>
          split
          · have few : s.book.orders.length < 32 := by
              simp only [Config.bookSize] at count
              omega
            have added := s.addOrder_keeps st i d laden c few (by simp only [Config.slots] at slot; omega) free none
            exact State.finishes ((added.trans (State.orderFrame_keeps _ _ _ _ _)).trans (told _))
          · refine .trans (t := { s with tallies.oversize := _ }) ?_ (State.orderFrame_keeps _ _ _ _ _)
            exact .of_eq rfl rfl rfl rfl

theorem judgeCancelOrder_keeps_books (st : Station) (n : Nat) (s : State) : KeepsBooks s (judgeCancelOrder st n s).1 := by
  refine s.judged_keeps_books st _ _ ?_
  split
  · exact .refl s
  · next o ho =>
    have found := (Book.mem_of_find ho).1
    split
    · split
      · next k b hk =>
        have hb := State.chamberOf_batch hk
        split
        · next opened =>
          refine State.finishes ((State.cancelMember_keeps st found fun x hx => ?_).trans (State.abandonEmpty_keeps _ k))
          rw [hb] at hx
          cases hx
          exact opened
        · exact .refl s
      · exact State.finishes (s.cancelled_keeps st o found)
    · exact State.finishes (s.cancelled_keeps st o found)

theorem judgeConfirmIn_keeps_books (st : Station) (k : Chamber) (present : Option (List Nat)) (s : State) :
    KeepsBooks s (judgeConfirmIn st k present s).1 := by
  refine s.judged_keeps_books st _ _ ?_
  dsimp only
  split
  · exact .refl s
  · next b hb =>
    split
    · exact .refl s
    · next entering =>
      have opened : s.Open k := fun x hx => by
        rw [hb] at hx
        cases hx
        exact .inr (Classical.not_not.1 entering)
      split
      · exact State.finishes (State.confirm_keeps st [] opened)
      · split
        · exact State.finishes (State.confirm_keeps st _ opened)
        · exact .refl s

theorem judgeConfirmClear_keeps_books (st : Station) (k : Chamber) (s : State) : KeepsBooks s (judgeConfirmClear st k s).1 := by
  refine s.judged_keeps_books st _ _ ?_
  split
  · exact .refl s
  · next b hb =>
    split
    · exact .refl s
    · exact State.finishes ((State.clearBatch_keeps hb).trans (State.push_alone _ _).keeps)

theorem judgeAbandonBatch_keeps_books (st : Station) (k : Chamber) (s : State) : KeepsBooks s (judgeAbandonBatch st k s).1 := by
  refine s.judged_keeps_books st _ _ ?_
  split
  · exact .refl s
  · next b _ =>
    split
    · exact .refl s
    · exact State.finishes ((KeepsBooks.foldl (fun t m => t.abandonMember_keeps st b.direction m) b.members s).trans
        (State.abandonBatch_keeps _ k))

theorem judgeBind_keeps_books (st : Station) (k : Chamber) (d : Direction) (s : State) : KeepsBooks s (judgeBind st k d s).1 := by
  refine s.directed_keeps_books st k _ ?_
  have formed := s.formFrom_keeps k d
  split
  · exact .refl s
  · split
    · exact .refl s
    · next e =>
      rw [e] at formed
      exact formed
    · next e =>
      rw [e] at formed
      exact State.finishes formed
    · next e =>
      rw [e] at formed
      exact State.finishes formed

/-! ## The register's requests (R78 to R89, R148) -/

theorem Vessel.addedVessel_below (v : VesselArgs) : (addedVessel v).overCeiling = false := by
  rw [Vessel.overCeiling_eq_false_iff]
  show v.ceiling = 0 ∨ 0 < v.ceiling
  omega

theorem State.nextFree_free {s : State} {i : Nat} (h : s.nextFree = some i) : (s.vessel i).state = .free := by
  have := List.find?_some h
  simpa [Vessel.nonFree] using this

theorem judgeAddVessel_keeps_books (st : Station) (v : VesselArgs) (s : State) : KeepsBooks s (judgeAddVessel st v s).1 := by
  refine s.judged_keeps_books st _ _ ?_
  split
  · exact .refl s
  · split
    · exact .refl s
    · split
      · next i hi =>
        exact ⟨id, fun h => s.setVessel_bookInOrder_unnamed i _ h (.inl (State.nextFree_free hi)),
          fun h => (h.but i).replace _ fun _ => Vessel.addedVessel_below v⟩
      · exact .refl s

theorem judgeDeleteVessel_keeps_books (st : Station) (i : Nat) (s : State) : KeepsBooks s (judgeDeleteVessel st i s).1 := by
  refine s.judged_keeps_books st _ _ (s.withVessel_keeps_books i _ fun _ => ?_)
  split
  · exact .refl s
  · next none =>
    exact ⟨id, fun h => s.setVessel_bookInOrder_unnamed i _ h (.inr none), fun h => (h.but i).replace _ nofun⟩

theorem judgeHold_keeps_books (st : Station) (i : Nat) (s : State) : KeepsBooks s (judgeHold st i s).1 := by
  refine s.judged_keeps_books st _ _ (s.withVessel_keeps_books i _ fun _ => ?_)
  split
  · exact State.finishes (s.holdVessel_keeps i _)
  · exact s.setVessel_keeps_books i _ nofun rfl nofun
  · exact .refl s

theorem judgeRelease_keeps_books (st : Station) (i : Nat) (s : State) : KeepsBooks s (judgeRelease st i s).1 := by
  refine s.judged_keeps_books st _ _ (s.withVessel_keeps_books i _ fun _ => ?_)
  split
  · split
    · exact s.setVessel_keeps_books i _ nofun rfl nofun
    · next below => exact State.finishes (s.activate_keeps i (Bool.eq_false_iff.2 below))
  · exact .refl s
  · exact .refl s

theorem judgeSettle_keeps_books (st : Station) (i amount : Nat) (s : State) : KeepsBooks s (judgeSettle st i amount s).1 := by
  refine s.judged_keeps_books st _ _ ?_
  split
  · exact .refl s
  · split
    · exact .refl s
    · split
      · exact .refl s
      · exact State.finishes (s.setVessel_reevaluate_keeps i _ id rfl)

/-! ## Writes (R80, R81, R187) -/

theorem Vessel.put_order (v : Vessel) (p : Given) : (v.put p).order = v.order := by
  unfold Vessel.put
  split <;> rfl

theorem Vessel.foldl_put_order (vs : List Given) (v : Vessel) : (vs.foldl Vessel.put v).order = v.order := by
  induction vs generalizing v with
  | nil => rfl
  | cons p ps ih => exact (ih _).trans (v.put_order p)

theorem State.writeVessel_keeps_books (s : State) (i : Nat) (vs : List Given) : KeepsBooks s (s.writeVessel i vs).1 := by
  have written := s.setVessel_reevaluate_keeps i (vs.foldl Vessel.put (s.vessel i))
    (fun h => (Vessel.foldl_put_state vs _).symm.trans h) (Vessel.foldl_put_order vs _)
  unfold State.writeVessel
  (repeat' split)
  · exact .refl s
  · exact .refl s
  · exact .refl s
  · refine written.trans ?_
    unfold State.vesselWritten
    dsimp only
    split
    · exact .refl _
    · exact (State.rejudge_alone _ i).keeps

theorem State.clearHistory_plant (s : State) (b : Body) (g : GaugeSide) : PlantOnly s (s.clearHistory b g) := rfl

theorem State.clearHistories_plant (s : State) : PlantOnly s s.clearHistories :=
  .foldl (fun t (g : Body × GaugeSide) => t.clearHistory_plant g.1 g.2) _ s

theorem State.startTrail_plant (s : State) : PlantOnly s s.startTrail := rfl

theorem State.lowerCounts_alone (s : State) : BooksAlone s s.lowerCounts := by
  refine ⟨⟨?_, ?_, rfl, rfl, Nat.le_refl _⟩, rfl, rfl⟩ <;>
  · simp only [State.lowerCounts, Book.mapLists, List.map_map]
    rfl

theorem State.resettle_keeps (s : State) : KeepsBooks s s.resettle := by
  refine .foldl (fun t p => ?_) _ s
  unfold State.resettlePair
  (repeat' split)
  · exact t.pairSettled_keeps p
  · exact .refl t
  · exact .refl t

theorem State.settingsWritten_keeps (s : State) (old : Settings) (limit : Bool) : KeepsBooks s (s.settingsWritten old limit) := by
  have skip : ∀ (c : Prop) [Decidable c] (t u : State), KeepsBooks t u → KeepsBooks t (if c then t else u) := fun c _ t u h => by
    split
    · exact .refl t
    · exact h
  have take : ∀ (c : Prop) [Decidable c] (t u : State), KeepsBooks t u → KeepsBooks t (if c then u else t) := fun c _ t u h => by
    split
    · exact h
    · exact .refl t
  unfold State.settingsWritten
  dsimp only
  exact (skip _ _ _ s.resettle_keeps).trans ((skip _ _ _ (.of_plant (State.clearHistories_plant _))).trans
    ((skip _ _ _ (.of_plant (State.clearHistories_plant _))).trans ((take _ _ _ (State.lowerCounts_alone _).keeps).trans
      ((skip _ _ _ (.of_plant (State.startTrail_plant _))).trans ((take _ _ _ (State.rejudgeAll_alone _).keeps).trans
        (.foldl (fun u (g : Body × GaugeSide) => skip _ _ _ (.of_plant (u.clearHistory_plant g.1 g.2))) _ _))))))

theorem State.writeRecord_keeps_books (s : State) (c : Collection) (i : Nat) (vs : List Given) :
    KeepsBooks s (s.writeRecord c i vs).1 := by
  cases c with
  | vessels => exact s.writeVessel_keeps_books i vs
  | tariffStandby => exact .of_eq rfl rfl rfl rfl
  | tariffActive => exact .refl s
  | settings =>
    refine .trans (t := { s with settings := _ }) ?_ (State.settingsWritten_keeps _ _ _)
    exact .of_eq rfl rfl rfl rfl

theorem Written.judged_keeps_books {s : State} {x : Written} {moved : State → State} (h : KeepsBooks s x.1)
    (hm : ∀ t, KeepsBooks t (moved t)) : KeepsBooks s (Written.judged x moved).1 := by
  unfold Written.judged
  split
  · exact State.finishes (h.trans (hm _))
  · exact h

theorem judgeWriteNext_keeps_books (st : Station) (count : Option Nat) (data : List Byte) (s : State) :
    KeepsBooks s (judgeWriteNext st count data s).1 := by
  unfold judgeWriteNext
  dsimp only
  split
  · exact .refl s
  · refine s.judged_keeps_books st _ _ ?_
    split
    · exact .refl s
    · exact Written.judged_keeps_books (s.writeRecord_keeps_books _ _ _) fun t => .of_eq rfl rfl rfl rfl

theorem judgeWriteAt_keeps_books (st : Station) (c i first last : Nat) (data : List Byte) (s : State) :
    KeepsBooks s (judgeWriteAt st c i first last data s).1 := by
  unfold judgeWriteAt
  split
  · exact s.judged_keeps_books st _ _ (.refl s)
  · split
    · exact .refl s
    · refine s.judged_keeps_books st _ _ ?_
      split
      · exact .refl s
      · exact Written.judged_keeps_books (s.writeRecord_keeps_books _ _ _) fun t => .refl t
      · exact .refl s

end Sys2Proof.Machine
end

section
/-! SUPPORT. The invariants of the journal, the book and the ceilings, settled (R89, R94, R95, R154). -/

namespace Sys2Proof.Machine

/-- Whatever a request comes to breaks none of the three. -/
theorem Requested.keeps_books {st : Station} {s : State} {x : Judged} (h : Requested st s x) : KeepsBooks s x.1 := by
  cases h with
  | refused => exact .refl s
  | enterOrder => exact judgeEnterOrder_keeps_books ..
  | cancelOrder => exact judgeCancelOrder_keeps_books ..
  | confirmIn => exact judgeConfirmIn_keeps_books ..
  | confirmClear => exact judgeConfirmClear_keeps_books ..
  | abandonBatch => exact judgeAbandonBatch_keeps_books ..
  | bind => exact judgeBind_keeps_books ..
  | addVessel => exact judgeAddVessel_keeps_books ..
  | deleteVessel => exact judgeDeleteVessel_keeps_books ..
  | hold => exact judgeHold_keeps_books ..
  | release => exact judgeRelease_keeps_books ..
  | settle => exact judgeSettle_keeps_books ..
  | writeNext => exact judgeWriteNext_keeps_books ..
  | writeAt => exact judgeWriteAt_keeps_books ..
  | serviceOn => exact judgeServiceOn_keeps_books ..
  | fill k cross => exact s.directed_keeps_books st k _ (s.directPhase_keeps k .fill cross)
  | empty k cross => exact s.directed_keeps_books st k _ (s.directPhase_keeps k .empty cross)
  | swapTariff | settleSite | clearFault | readSiteAccount | readJournalStatus | readChamber | readFault | readLevels
  | readNotices | setNoticeMask | setAttentionMode =>
    exact s.judged_keeps_books st _ _ (.of_eq rfl rfl rfl rfl)
  | readTallies clear =>
    refine s.judged_keeps_books st _ _ ?_
    cases clear <;> exact .of_eq rfl rfl rfl rfl
  | readBook =>
    refine s.judged_keeps_books st _ _ ?_
    dsimp only
    split <;> exact .refl s
  | readBatch | readAt =>
    refine s.judged_keeps_books st _ _ ?_
    split <;> exact .refl s
  | setClock =>
    refine s.judged_keeps_books st _ _ ?_
    (repeat' split) <;> exact .of_eq rfl rfl rfl rfl
  | setWindow =>
    refine s.judged_keeps_books st _ _ ?_
    split <;> exact .of_eq rfl rfl rfl rfl
  | readNext =>
    refine s.judged_keeps_books st _ _ ?_
    dsimp only
    split <;> exact .of_eq rfl rfl rfl rfl
  | restart | storeSettings =>
    refine s.judged_keeps_books st _ _ ?_
    split <;> exact .of_eq rfl rfl rfl rfl
  | seek =>
    refine s.judged_keeps_books st _ _ ?_
    split <;> exact .of_eq rfl rfl rfl rfl
  | seekNext =>
    refine s.judged_keeps_books st _ _ ?_
    split <;> exact .of_eq rfl rfl rfl rfl
  | subscribe w =>
    have marked : ∀ n, KeepsBooks s (s.subscribeAt st n) := fun n => by
      unfold State.subscribeAt
      rw [State.watermarkAt_frame]
      exact .of_eq rfl rfl rfl rfl
    refine s.judged_keeps_books st _ _ ?_
    split <;> exact marked _
  | unsubscribe who =>
    refine s.judged_keeps_books st _ _ (State.finishes ?_)
    exact .trans (t := s.setSubscriber who none) (.of_eq rfl rfl rfl rfl)
      ((State.free_keeps _).trans (State.noteFreed_alone _ s).keeps)
  | readJournal =>
    refine s.judged_keeps_books st _ _ ?_
    dsimp only
    split
    · exact .refl s
    · refine State.finishes (.trans (t := s.setSubscriber st _) ?_ ((State.free_keeps _).trans (State.noteFreed_alone _ s).keeps))
      exact .of_eq rfl rfl rfl rfl
  | lampTest k =>
    refine s.judged_keeps_books st _ _ ?_
    split
    · exact State.finishes (.of_eq rfl rfl rfl rfl)
    · exact .refl s
  | serviceOff k =>
    refine s.judged_keeps_books st _ _ ?_
    (repeat' split)
    · exact .refl s
    · exact .refl s
    · exact State.finishes (s.serviceOff_keeps st k)
  | setMode k m =>
    refine s.judged_keeps_books st _ _ ?_
    split
    · exact .refl s
    · split
      · exact State.finishes (s.setChamber_alone k _).keeps
      · exact State.finishes ((s.setChamber_alone k _).trans (State.push_alone _ _)).keeps
  | halt k =>
    refine s.judged_keeps_books st _ _ ?_
    split
    · exact .refl s
    · exact .refl s
    · exact State.finishes (s.haltChamber_keeps k _ _ _)
  | resume k =>
    refine s.judged_keeps_books st _ _ ?_
    split
    · exact s.resumeAs_keeps k _
    · exact .refl s
  | gateOpen k e =>
    refine s.directed_keeps_books st k _ ?_
    unfold State.directOpen
    dsimp only
    split
    · split
      · exact .refl s
      · next h =>
        exact State.finishes ((State.openGate_alone h).trans ((State.setChamberState_alone _ k _).trans
          (State.noteComplete_alone _ k e _))).keeps
    · split <;> exact .refl s
  | gateClose k e =>
    refine s.directed_keeps_books st k _ ?_
    unfold State.directClose
    dsimp only
    split
    · exact .refl s
    · split
      · exact State.finishes (s.sequenceClose_alone k e).keeps
      · split <;> exact .refl s
  | gateStop k e =>
    refine s.directed_keeps_books st k _ ?_
    split
    · exact State.finishes (s.haltChamber_keeps k _ _ _)
    · exact .refl s
  | sluice k which n =>
    refine s.directed_keeps_books st k _ ?_
    split
    · exact .refl s
    · split
      · exact .refl s
      · exact s.directSluice_keeps st k .upper n
    · split
      · exact .refl s
      · exact s.directSluice_keeps st k .lower n
  | claim k =>
    have taken : ∀ old, KeepsBooks s (s.takeOver k old st).1 := fun old =>
      State.finishes ((s.changeHolder_keeps_books k _ _).trans (.of_eq rfl rfl rfl rfl))
    refine s.judged_keeps_books st _ _ ?_
    split
    · exact State.finishes (s.changeHolder_keeps_books k _ _)
    · split
      · exact .refl s
      · split
        · exact taken _
        · split
          · exact .refl s
          · split
            · exact .refl s
            · exact taken _
  | releaseConduct k =>
    refine s.judged_keeps_books st _ _ ?_
    split
    · exact State.finishes (s.changeHolder_keeps_books k _ _)
    · exact .refl s
  | forceFast on =>
    have relax : ∀ (u : State) (b : Body), SamplingOnly u (u.relaxBody b) := fun u b => by
      unfold State.relaxBody
      split
      · exact u.becomePrimary_sampling b
      · exact .refl u
    refine s.judged_keeps_books st _ _ (.trans (t := s.setForceFast on) (.of_eq rfl rfl rfl rfl) (.foldl (fun u b => ?_) _ _))
    cases on
    · exact .of_plant (.of_sampling (relax u b))
    · exact .of_plant (.of_sampling (u.becomeFast_sampling b))

/-! ## Starts and the remaining events -/

theorem State.afterLoad_keeps_books (s : State) : KeepsBooks s s.afterLoad := by
  unfold State.afterLoad
  split
  · exact (s.raiseFault_keeps _ _).trans (State.raiseAll_alone _ _).keeps
  · exact .refl s

/-- R186: power-on leaves an empty journal, an empty book and an empty register. -/
theorem State.powerOn_keeps_books (s : State) (x : PerStation Straps) : KeepsBooks s (s.powerOn x) := by
  let base : State :=
    { State.reset with
      store := s.store.afterPower
      signals := { State.reset.signals with lamps := s.signals.lamps }
      choices := s.choices
      pending := s.pending }
  have free : ∀ i, (((base.load).startBlocks x (fun _ l => l.started true)).derive).vessel i = {} := fun i => by
    show ((Vector.replicate 128 ({} : Vessel))[i]?).getD {} = {}
    by_cases h : i < 128 <;> simp [h]
  have after : KeepsBooks (((base.load).startBlocks x (fun _ l => l.started true)).derive) (s.powerOn x) :=
    State.afterLoad_keeps_books _
  refine ⟨fun _ => after.journal ⟨Nat.zero_le _, ?_⟩, fun _ => after.book ⟨Nat.zero_le _, .nil, .nil, nofun, ?_⟩,
    fun _ => after.ceilings fun i hi => ?_⟩
  · rintro (_ | _) b hb <;> contradiction
  · rintro (_ | _) <;> exact .nil
  · rw [free] at hi
    contradiction

/-- R190: the restart keeps the register, the book and the journal, and no batch survives it. -/
theorem State.restarted_keeps (s : State) (x : PerStation Straps) : KeepsBooks s (s.restarted x) := by
  let t := (s.load.startBlocks x (restartLamp (s.load.loaded.two && !s.loaded.two))).restartBook
  have booked : KeepsBooks s t := by
    refine OrdersAlone.keeps (.of_eq rfl rfl rfl rfl) fun h => ?_
    rw [State.journalFits_iff] at h ⊢
    have none : ∀ k, t.batch k = none := by rintro (_ | _) <;> rfl
    refine ⟨.of_lower (s := s) (fun k b hb => ?_) (Nat.le_refl _) h.1, fun k b hb => ?_⟩ <;>
    · rw [none] at hb
      contradiction
  exact booked.trans (((State.rejudgeAll_alone t).trans (State.derive_alone _)).keeps.trans
    (State.finishes (State.afterLoad_keeps_books _)))

theorem State.failLamp_keeps (s : State) (l : LampId) : KeepsBooks s (s.failLamp l) := by
  unfold State.failLamp
  dsimp only
  split
  · refine .trans (t := s.setLamp l _) ?_ (State.raiseFault_keeps _ _ _)
    exact .of_eq rfl rfl rfl rfl
  · exact .of_eq rfl rfl rfl rfl

theorem State.loseLink_keeps_books (s : State) (st : Station) : KeepsBooks s (s.loseLink st) := by
  have lose : ∀ (t : State) (k : Chamber), KeepsBooks t (t.loseConduct st k) := fun t k => by
    unfold State.loseConduct
    split
    · exact t.changeHolder_keeps_books k _ _
    · exact .refl t
  have halt : ∀ (t : State) (k : Chamber), KeepsBooks t (t.lostHalt s st k) := fun t k => by
    unfold State.lostHalt
    split
    · exact t.haltChamber_keeps k _ _ _
    · exact .refl t
  refine .trans (t := s.setStation st { s.station st with link := .lost, silence := none }) (.of_eq rfl rfl rfl rfl) ?_
  exact (lose _ .c1).trans ((lose _ .c2).trans ((halt _ .c1).trans ((halt _ .c2).trans
    (State.finishes (State.raiseFault_keeps _ _ _)))))

theorem State.readback_keeps (s : State) (i : StoreImage) (matched : Bool) : KeepsBooks s (s.readback i matched) := by
  unfold State.readback
  split
  · exact .of_eq rfl rfl rfl rfl
  · have emptied : KeepsBooks s { s with store := { s.store with stored := none, storing := none } } := .of_eq rfl rfl rfl rfl
    exact emptied.trans ((State.raiseFault_keeps _ .settingsLost .store).trans (.of_eq rfl rfl rfl rfl))

/-- Every event breaks none of the three. -/
theorem exec_event_keeps_books {c : Instr} {s t : State} (hc : c.isEvent = true) (h : exec c s = .next t) : KeepsBooks s t := by
  cases c <;> first | exact absurd hc Bool.false_ne_true | skip
  case powerOnReset =>
    injection h with h
    exact h ▸ s.powerOn_keeps_books _
  case restartEvent =>
    simp only [exec, execRestartEvent] at h
    split at h <;> injection h with h <;> subst h
    · exact s.restarted_keeps _
    · exact .refl s
  case roundStart =>
    injection h with h
    exact h ▸ s.startRound_keeps
  case roundTimerExpiry b =>
    simp only [exec, execRoundTimerExpiry] at h
    split at h <;> injection h with h <;> subst h
    · exact (s.reach_keeps _).trans ((KeepsBooks.of_plant (State.setBody_plant _ b _)).trans
        (.of_plant (.of_sampling (State.enqueue_sampling _ b))))
    · exact .refl s
  case gaugeReply =>
    simp only [exec, execGaugeReply] at h
    split at h <;> injection h with h <;> subst h
    · exact s.closePoll_keeps _ _ _
    · exact .refl s
  case noReply =>
    simp only [exec, execNoReply] at h
    split at h <;> injection h with h <;> subst h
    · exact (s.reach_keeps _).trans (State.closePoll_keeps _ _ _ _)
    · exact .refl s
  case holdTimerExpiry b =>
    simp only [exec, execHoldTimerExpiry] at h
    split at h <;> injection h with h <;> subst h
    · exact (s.reach_keeps _).trans (.of_plant (.of_sampling (State.holdOut_sampling _ b)))
    · exact .refl s
  case settleExpiry p =>
    simp only [exec, execSettleExpiry] at h
    split at h <;> injection h with h <;> subst h
    · exact (s.reach_keeps _).trans (State.finishes (State.pairSettled_keeps _ p))
    · exact .refl s
  case trailTimerExpiry =>
    simp only [exec, execTrailTimerExpiry] at h
    split at h <;> injection h with h <;> subst h
    · next n _ =>
      refine (s.reach_keeps n).trans (.trans (t := { s.reach n with levels.trail := _ }) ?_ (State.write_keeps _ _))
      exact .of_eq rfl rfl rfl rfl
    · exact .refl s
  case gateReport k e r =>
    simp only [exec, execGateReport] at h
    split at h <;> injection h with h <;> subst h
    · exact .trans (t := s.pollClosed) (.of_eq rfl rfl rfl rfl) ((State.applyGateReport_keeps _ k e r).trans (State.driveEvent_keeps _ _))
    · exact .refl s
  case sluiceReport q n =>
    simp only [exec, execSluiceReport] at h
    (repeat' split at h) <;> injection h with h <;> subst h
    · exact .trans (t := s.pollClosed) (.of_eq rfl rfl rfl rfl) ((State.applySluiceReport_keeps _ q n).trans (State.driveEvent_keeps _ _))
    · exact .of_eq rfl rfl rfl rfl
    · exact .refl s
  case echoTimeout a =>
    simp only [exec, execEchoTimeout] at h
    (repeat' split at h) <;> injection h with h <;> subst h
    · refine .trans (t := { s with drive.sent := _ }) ?_ ((State.echoFailed_keeps _ a).trans (State.driveEvent_keeps _ a))
      exact .of_eq rfl rfl rfl rfl
    · exact .of_eq rfl rfl rfl rfl
    · exact .refl s
  case statusAnswer a x =>
    simp only [exec, execStatusAnswer] at h
    (repeat' split at h) <;> injection h with h <;> subst h
    · next hs => exact (State.statusOf_keeps hs).trans (State.closeQuery_keeps _ a)
    · exact s.noStatus_keeps a _
    · exact .refl s
  case statusTimeout a =>
    simp only [exec, execStatusTimeout] at h
    split at h <;> injection h with h <;> subst h
    · exact s.noStatus_keeps a _
    · exact .refl s
  case gateMovementTimeout k e =>
    simp only [exec, execGateMovementTimeout] at h
    split at h <;> injection h with h <;> subst h
    · exact (s.reach_keeps _).trans (State.finishes ((State.stallGate_keeps _ k e).trans (State.faultHalt_keeps _ k _ _)))
    · exact .refl s
  case sluiceMovementTimeout q =>
    simp only [exec, execSluiceMovementTimeout] at h
    split at h <;> injection h with h <;> subst h
    · exact (s.reach_keeps _).trans (State.finishes ((State.stallSluice_keeps _ q).trans (State.sluiceFault_keeps _ q _)))
    · exact .refl s
  case rampIntervalExpiry q =>
    simp only [exec, execRampIntervalExpiry] at h
    (repeat' split at h) <;> injection h with h <;> subst h
    · exact (s.reach_keeps _).trans (State.finishes (.of_plant (State.rampDecide_plant _ q _)))
    · exact .refl s
    · exact .refl s
  case fillSlow k =>
    simp only [exec, execFillSlow] at h
    (repeat' split at h) <;> injection h with h <;> subst h
    · exact .refl s
    · exact (s.reach_keeps _).trans ((State.raiseFault_keeps _ _ _).trans ((State.raiseAll_alone _ _).trans
        (State.setChamber_alone _ k _)).keeps)
    · exact .refl s
  case equaliseTimeout k =>
    simp only [exec, execEqualiseTimeout] at h
    split at h <;> injection h with h <;> subst h
    · exact (s.reach_keeps _).trans (State.finishes ((State.raiseFault_keeps _ _ _).trans (State.faultHalt_keeps _ k _ _)))
    · exact .refl s
  case entryOverdue k =>
    simp only [exec, execEntryOverdue] at h
    split at h <;> injection h with h <;> subst h
    · exact (s.reach_keeps _).trans (State.finishes ((State.setChamber_alone _ k _).trans (State.raiseAll_alone _ _)).keeps)
    · exact .refl s
  case clearOut k =>
    simp only [exec, execClearOut] at h
    (repeat' split at h) <;> injection h with h <;> subst h
    · exact .refl s
    · exact (s.reach_keeps _).trans (State.finishes (State.setChamber_alone _ k _).keeps)
    · exact .refl s
  case leaveOverdue k =>
    simp only [exec, execLeaveOverdue] at h
    split at h <;> injection h with h <;> subst h
    · exact (s.reach_keeps _).trans (State.finishes ((State.setChamber_alone _ k _).trans (State.raiseAll_alone _ _)).keeps)
    · exact .refl s
  case wishExpiry k =>
    simp only [exec, execWishExpiry] at h
    split at h <;> injection h with h <;> subst h
    · exact (s.reach_keeps _).trans (State.finishes (State.proceedAlone_keeps _ k))
    · exact .refl s
  case crossSlow =>
    simp only [exec, execCrossSlow] at h
    split at h <;> injection h with h <;> subst h
    · exact (s.reach_keeps _).trans (State.finishes ((State.raiseFault_keeps _ _ _).trans (State.closeCross_keeps _ _)))
    · exact .refl s
  case formationTimerExpiry =>
    simp only [exec, execFormationTimerExpiry] at h
    split at h <;> injection h with h <;> subst h
    · next n _ =>
      refine (s.reach_keeps n).trans (State.finishes (.trans (t := { s.reach n with book.timer := _ }) (BooksAlone.keeps ?_)
        (State.pushAvailable_alone _).keeps))
      exact ⟨.of_eq rfl rfl rfl rfl, rfl, rfl⟩
    · exact .refl s
  case flashPhaseChange g =>
    injection h with h
    subst h
    refine (s.reach_keeps (s.generator g).phaseEnd).trans ?_
    cases g <;> exact .of_eq rfl rfl rfl rfl
  case provingInput l x =>
    simp only [exec, execProvingInput] at h
    split at h <;> injection h with h <;> subst h <;> exact .of_eq rfl rfl rfl rfl
  case lampFailed l =>
    simp only [exec, execLampFailed] at h
    (repeat' split at h) <;> injection h with h <;> subst h
    · exact (s.reach_keeps _).trans (State.finishes (State.failLamp_keeps _ l))
    · exact .refl s
    · exact .refl s
  case lampTestEnd k =>
    simp only [exec, execLampTestEnd] at h
    split at h <;> injection h with h <;> subst h
    · exact (s.reach_keeps _).trans (State.finishes (.of_eq rfl rfl rfl rfl))
    · exact .refl s
  case siteClockTick =>
    simp only [exec, execSiteClockTick] at h
    split at h <;> injection h with h <;> subst h
    · exact (s.reach_keeps _).trans (.of_eq rfl rfl rfl rfl)
    · exact .refl s
  case linkLost st =>
    simp only [exec, execLinkLost] at h
    split at h <;> injection h with h <;> subst h
    · exact (s.reach_keeps _).trans (State.loseLink_keeps_books _ st)
    · exact .refl s
  case storeReadbackEnd matched =>
    simp only [exec, execStoreReadbackEnd] at h
    split at h <;> injection h with h <;> subst h
    · exact s.readback_keeps _ matched
    · exact .refl s
  case badFrame | frameGapTimeout =>
    injection h with h
    subst h
    unfold State.badFrame
    split
    · exact .refl s
    · exact .of_eq rfl rfl rfl rfl
  case attentionPulseEnd st =>
    simp only [exec, execAttentionPulseEnd] at h
    split at h <;> injection h with h <;> subst h
    · exact (s.reach_keeps _).trans (.of_eq rfl rfl rfl rfl)
    · exact .refl s
  all_goals
    simp only [exec, execGaugeStrayBytes, execDrivePollCycle, execDriveAnswerTimeout, execOrderEcho, execDriveStrayBytes,
      execStrayLinkByte, execReplySent, execNoneAnswer] at h
    (repeat' split at h) <;> injection h with h <;> subst h <;> exact .of_eq rfl rfl rfl rfl

/-! ## The obligations -/

/-- Every command keeps the three invariants. -/
theorem exec_keeps_books {c : Instr} {s t : State} (h : exec c s = .next t) : KeepsBooks s t :=
  exec_keeps (P := fun u => KeepsBooks s u) (fun _ _ _ _ hu => hu.trans (.of_eq rfl rfl rfl rfl))
    (fun _ _ _ _ hx hu => hu.trans hx.keeps_books) (fun _ _ _ hc h hu => hu.trans (exec_event_keeps_books hc h)) h (.refl s)

theorem step_keeps_books {s t : State} (h : step s = .next t) : KeepsBooks s t := by
  obtain ⟨_, rfl⟩ | ⟨c, rest, _, hx⟩ := step_cases h
  · refine BooksAlone.keeps ?_
    exact ⟨⟨rfl, rfl, rfl, rfl, Nat.le_succ _⟩, rfl, rfl⟩
  · exact .trans (t := { s with pending := rest }) (.of_eq rfl rfl rfl rfl) (exec_keeps_books hx)

/-- Settles O8: a frame written fits or makes its room, a reserve is granted only into room, and each batch draws from its reserve no
more than it owes. -/
theorem stepKeepsJournalFits : Obligations.StepKeepsJournalFits := fun _ _ hs h => (step_keeps_books h).journal hs

/-- Settles O9: an order enters with a free number, in its place, for a vessel without one, and only its own number leaves the book. -/
theorem stepKeepsBookInOrder : Obligations.StepKeepsBookInOrder := fun _ _ hs h => (step_keeps_books h).book hs

/-- Settles O10: whatever changes an account or a ceiling evaluates the ceiling hold again. -/
theorem stepKeepsCeilingsHeld : Obligations.StepKeepsCeilingsHeld := fun _ _ hs h => (step_keeps_books h).ceilings hs

end Sys2Proof.Machine
end

section
/-! SUPPORT. What is written and raised beside an effect (R151, R156, R169, R172): a frame, a notice and a fault change the journal,
the stations' records and the capture record, and nothing else. -/
namespace Sys2Proof.Machine

/-! ## Blocks left alone -/

@[simp] theorem State.write_now (s : State) (f : Frame) : (s.write f).now = s.now := by rw [State.write_frame]

@[simp] theorem State.write_loaded (s : State) (f : Frame) : (s.write f).loaded = s.loaded := by rw [State.write_frame]

@[simp] theorem State.write_settings (s : State) (f : Frame) : (s.write f).settings = s.settings := by rw [State.write_frame]

@[simp] theorem State.write_levels (s : State) (f : Frame) : (s.write f).levels = s.levels := by rw [State.write_frame]

@[simp] theorem State.write_drive (s : State) (f : Frame) : (s.write f).drive = s.drive := by rw [State.write_frame]

@[simp] theorem State.write_chambers (s : State) (f : Frame) : (s.write f).chambers = s.chambers := by rw [State.write_frame]

@[simp] theorem State.write_arbiter (s : State) (f : Frame) : (s.write f).arbiter = s.arbiter := by rw [State.write_frame]

@[simp] theorem State.write_vessels (s : State) (f : Frame) : (s.write f).vessels = s.vessels := by rw [State.write_frame]

@[simp] theorem State.write_book (s : State) (f : Frame) : (s.write f).book = s.book := by rw [State.write_frame]

@[simp] theorem State.write_signals (s : State) (f : Frame) : (s.write f).signals = s.signals := by rw [State.write_frame]

@[simp] theorem State.write_clock (s : State) (f : Frame) : (s.write f).clock = s.clock := by rw [State.write_frame]

@[simp] theorem State.write_site (s : State) (f : Frame) : (s.write f).site = s.site := by rw [State.write_frame]

@[simp] theorem State.write_tallies (s : State) (f : Frame) : (s.write f).tallies = s.tallies := by rw [State.write_frame]

@[simp] theorem State.write_conduct (s : State) (f : Frame) : (s.write f).conduct = s.conduct := by rw [State.write_frame]

@[simp] theorem State.write_store (s : State) (f : Frame) : (s.write f).store = s.store := by rw [State.write_frame]

@[simp] theorem State.write_agenda (s : State) (f : Frame) : (s.write f).agenda = s.agenda := by rw [State.write_frame]

@[simp] theorem State.write_body (s : State) (f : Frame) (b : Body) : (s.write f).body b = s.body b := by
  rw [State.write_frame]
  rfl

@[simp] theorem State.write_pair (s : State) (f : Frame) (p : Pair) : (s.write f).pair p = s.pair p := by
  rw [State.write_frame]
  rfl

@[simp] theorem State.write_gate (s : State) (f : Frame) (k : Chamber) (e : Side) : (s.write f).gate k e = s.gate k e := by
  rw [State.write_frame]
  rfl

@[simp] theorem State.write_sluice (s : State) (f : Frame) (q : Sluice) : (s.write f).sluice q = s.sluice q := by
  rw [State.write_frame]
  rfl

@[simp] theorem State.write_chamber (s : State) (f : Frame) (k : Chamber) : (s.write f).chamber k = s.chamber k := by
  rw [State.write_frame]
  rfl

@[simp] theorem State.write_wish (s : State) (f : Frame) (k : Chamber) : (s.write f).wish k = s.wish k := by
  rw [State.write_frame]
  rfl

@[simp] theorem State.write_batch (s : State) (f : Frame) (k : Chamber) : (s.write f).batch k = s.batch k := by
  rw [State.write_frame]
  rfl

@[simp] theorem State.write_vessel (s : State) (f : Frame) (i : Nat) : (s.write f).vessel i = s.vessel i := by
  rw [State.write_frame]
  rfl

@[simp] theorem State.write_capture (s : State) (f : Frame) : (s.write f).capture = s.capture := by rw [State.write_frame]

@[simp] theorem State.raiseFault_now (s : State) (f : FaultKind) (x : Subject) : (s.raiseFault f x).now = s.now := by rw [State.raiseFault_frame]

@[simp] theorem State.raiseFault_loaded (s : State) (f : FaultKind) (x : Subject) : (s.raiseFault f x).loaded = s.loaded := by rw [State.raiseFault_frame]

@[simp] theorem State.raiseFault_settings (s : State) (f : FaultKind) (x : Subject) : (s.raiseFault f x).settings = s.settings := by rw [State.raiseFault_frame]

@[simp] theorem State.raiseFault_levels (s : State) (f : FaultKind) (x : Subject) : (s.raiseFault f x).levels = s.levels := by rw [State.raiseFault_frame]

@[simp] theorem State.raiseFault_drive (s : State) (f : FaultKind) (x : Subject) : (s.raiseFault f x).drive = s.drive := by rw [State.raiseFault_frame]

@[simp] theorem State.raiseFault_chambers (s : State) (f : FaultKind) (x : Subject) : (s.raiseFault f x).chambers = s.chambers := by rw [State.raiseFault_frame]

@[simp] theorem State.raiseFault_arbiter (s : State) (f : FaultKind) (x : Subject) : (s.raiseFault f x).arbiter = s.arbiter := by rw [State.raiseFault_frame]

@[simp] theorem State.raiseFault_vessels (s : State) (f : FaultKind) (x : Subject) : (s.raiseFault f x).vessels = s.vessels := by rw [State.raiseFault_frame]

@[simp] theorem State.raiseFault_book (s : State) (f : FaultKind) (x : Subject) : (s.raiseFault f x).book = s.book := by rw [State.raiseFault_frame]

@[simp] theorem State.raiseFault_signals (s : State) (f : FaultKind) (x : Subject) : (s.raiseFault f x).signals = s.signals := by rw [State.raiseFault_frame]

@[simp] theorem State.raiseFault_clock (s : State) (f : FaultKind) (x : Subject) : (s.raiseFault f x).clock = s.clock := by rw [State.raiseFault_frame]

@[simp] theorem State.raiseFault_site (s : State) (f : FaultKind) (x : Subject) : (s.raiseFault f x).site = s.site := by rw [State.raiseFault_frame]

@[simp] theorem State.raiseFault_tallies (s : State) (f : FaultKind) (x : Subject) : (s.raiseFault f x).tallies = s.tallies := by rw [State.raiseFault_frame]

@[simp] theorem State.raiseFault_conduct (s : State) (f : FaultKind) (x : Subject) : (s.raiseFault f x).conduct = s.conduct := by rw [State.raiseFault_frame]

@[simp] theorem State.raiseFault_store (s : State) (f : FaultKind) (x : Subject) : (s.raiseFault f x).store = s.store := by rw [State.raiseFault_frame]

@[simp] theorem State.raiseFault_agenda (s : State) (f : FaultKind) (x : Subject) : (s.raiseFault f x).agenda = s.agenda := by rw [State.raiseFault_frame]

@[simp] theorem State.raiseFault_body (s : State) (f : FaultKind) (x : Subject) (b : Body) : (s.raiseFault f x).body b = s.body b := by
  rw [State.raiseFault_frame]
  rfl

@[simp] theorem State.raiseFault_pair (s : State) (f : FaultKind) (x : Subject) (p : Pair) : (s.raiseFault f x).pair p = s.pair p := by
  rw [State.raiseFault_frame]
  rfl

@[simp] theorem State.raiseFault_gate (s : State) (f : FaultKind) (x : Subject) (k : Chamber) (e : Side) : (s.raiseFault f x).gate k e = s.gate k e := by
  rw [State.raiseFault_frame]
  rfl

@[simp] theorem State.raiseFault_sluice (s : State) (f : FaultKind) (x : Subject) (q : Sluice) : (s.raiseFault f x).sluice q = s.sluice q := by
  rw [State.raiseFault_frame]
  rfl

@[simp] theorem State.raiseFault_chamber (s : State) (f : FaultKind) (x : Subject) (k : Chamber) : (s.raiseFault f x).chamber k = s.chamber k := by
  rw [State.raiseFault_frame]
  rfl

@[simp] theorem State.raiseFault_wish (s : State) (f : FaultKind) (x : Subject) (k : Chamber) : (s.raiseFault f x).wish k = s.wish k := by
  rw [State.raiseFault_frame]
  rfl

@[simp] theorem State.raiseFault_batch (s : State) (f : FaultKind) (x : Subject) (k : Chamber) : (s.raiseFault f x).batch k = s.batch k := by
  rw [State.raiseFault_frame]
  rfl

@[simp] theorem State.raiseFault_vessel (s : State) (f : FaultKind) (x : Subject) (i : Nat) : (s.raiseFault f x).vessel i = s.vessel i := by
  rw [State.raiseFault_frame]
  rfl


/-! ## The journal after a frame -/

@[simp] theorem State.append_journal (s : State) (f : Frame) :
    (s.append f).journal = { s.journal with frames := s.journal.frames ++ [f] } := by rw [State.append_frame]

/-- R156: what writing a frame does to a journal depends on the journal and the words reserved alone. -/
theorem State.write_journal_congr {s t : State} (journal : t.journal = s.journal) (reserved : t.reserved = s.reserved) (f : Frame) :
    (t.write f).journal = (s.write f).journal := by
  have subscribed : t.anySubscriber = s.anySubscriber := by simp only [State.anySubscriber, State.subscriber, journal]
  have available : t.availableWords = s.availableWords := by simp only [State.availableWords, State.used, journal, reserved]
  have discarded (n : Nat) : (t.discardFor n).journal = (s.discardFor n).journal := by
    simp only [State.discardFor, journal, reserved]
  simp only [State.write, subscribed, available, journal]
  split
  · split
    · rw [State.append_journal, State.append_journal, journal]
    · rfl
  · rw [State.append_journal, State.append_journal, discarded]

/-! ## Notices stay raised -/

/-- A notice raised joins a set, and none leaves it. -/
theorem State.raiseAt_notices {s : State} {st st' : Station} {n m : NoticeKind} (h : m ∈ (s.station st').notices) :
    m ∈ ((s.raiseAt st n).station st').notices := by
  rw [State.raiseAt, State.setStation_station]
  split
  · next same => exact StationRec.mem_notices_raise.mpr (.inr (same ▸ h))
  · exact h

theorem State.watermarkAt_notices {s : State} {st st' : Station} {x y : Nat} {m : NoticeKind} (h : m ∈ (s.station st').notices) :
    m ∈ ((s.watermarkAt st x y).station st').notices := by
  unfold State.watermarkAt
  (repeat' split) <;> first | exact State.raiseAt_notices h | exact h

theorem State.append_notices {s : State} {f : Frame} {st : Station} {m : NoticeKind} (h : m ∈ (s.station st).notices) :
    m ∈ ((s.append f).station st).notices :=
  State.watermarkAt_notices (State.watermarkAt_notices (State.watermarkAt_notices h))

theorem State.write_notices {s : State} {f : Frame} {st : Station} {m : NoticeKind} (h : m ∈ (s.station st).notices) :
    m ∈ ((s.write f).station st).notices := by
  unfold State.write
  (repeat' split) <;> first | exact State.append_notices h | exact h

/-! ## Faults (R172, R173) -/

/-- R172: a fault is shown in the capture record and the notice sets, unless it is soft and QUIET_SOFT is yes. -/
def State.Loud (s : State) (f : FaultKind) : Prop := s.settings.quietSoft = false ∨ f.hard = true

theorem State.loud_of_hard (s : State) {f : FaultKind} (h : f.hard = true) : s.Loud f := .inr h

theorem State.raiseFault_of_loud {s : State} {f : FaultKind} (loud : s.Loud f) (x : Subject) :
    s.raiseFault f x =
      { s.write (.fault f x s.time) with capture := s.capture.offer (s.captured f x) }.raiseAll .fault := by
  have shown : (s.settings.quietSoft && !f.hard) = false := by
    rcases loud with h | h <;> simp [h]
  rw [State.raiseFault]
  simp only [shown, State.write_capture]
  rfl

@[simp] theorem State.raiseFault_journal (s : State) (f : FaultKind) (x : Subject) :
    (s.raiseFault f x).journal = (s.write (.fault f x s.time)).journal := by
  rw [State.raiseFault]
  split <;> rfl

theorem State.raiseFault_capture {s : State} {f : FaultKind} (loud : s.Loud f) (x : Subject) :
    (s.raiseFault f x).capture = s.capture.offer (s.captured f x) := by
  rw [State.raiseFault_of_loud loud]
  rfl

theorem State.raiseFault_fault_mem {s : State} {f : FaultKind} (loud : s.Loud f) (x : Subject) (st : Station) :
    .fault ∈ ((s.raiseFault f x).station st).notices := by
  rw [State.raiseFault_of_loud loud, State.raiseAll_station]
  exact StationRec.mem_notices_raise.mpr (.inl rfl)

theorem State.raiseFault_notices {s : State} {f : FaultKind} {x : Subject} {st : Station} {m : NoticeKind}
    (h : m ∈ (s.station st).notices) : m ∈ ((s.raiseFault f x).station st).notices := by
  rw [State.raiseFault]
  split
  · exact State.write_notices h
  · rw [State.raiseAll_station]
    exact StationRec.mem_notices_raise.mpr (.inr (State.write_notices h))

end Sys2Proof.Machine
end

section
/-! SUPPORT. What reset leaves (R15, R27, R36 and the reset rules of the other blocks), and the requests that only read or change a
record of their own: the readings, the window, the tables, the clock, the tallies, the site account and the store. -/
namespace Sys2Proof.Machine

/-! ## Reset -/

theorem State.reset_vessel (i : Nat) : State.reset.vessel i = {} := by
  show ((Vector.replicate 128 ({} : Vessel))[i]?).getD {} = {}
  by_cases h : i < 128 <;> simp [h]

/-- Settles O3, block by block: each block's record is its default. -/
theorem resetLeavesEveryBlockAtItsStart : Obligations.ResetLeavesEveryBlockAtItsStart := by
  unfold Obligations.ResetLeavesEveryBlockAtItsStart
  refine ⟨?bodies, rfl, rfl, ?pairs, rfl, fun _ e => ?gates, ?sluices, ?queries, rfl, ?chambers, rfl, ?wishes, rfl, ?vessels,
    rfl, rfl, rfl, rfl, ?batches, ?aspects, ?lamps, rfl, rfl, rfl, rfl, rfl, rfl, rfl, ?holders, rfl, ?stations⟩
  case bodies => rintro (_ | _ | _ | _) <;> rfl
  case pairs => rintro (⟨_ | _, _ | _⟩ | _) <;> rfl
  case gates => rename_i k; cases k <;> cases e <;> rfl
  case sluices => rintro (⟨_ | _, _ | _⟩ | _) <;> rfl
  case queries => rintro (⟨_ | _, _ | _⟩ | ⟨_ | _, _ | _⟩ | _) <;> rfl
  case chambers => rintro (_ | _) <;> rfl
  case wishes => rintro (_ | _) <;> rfl
  case vessels => exact fun i _ => congrArg (·.state) (State.reset_vessel i)
  case batches => rintro (_ | _) <;> rfl
  case aspects => rintro (_ | _) <;> rfl
  case lamps => rintro ⟨_ | _, _ | _ | _ | _, _ | _ | _⟩ <;> rfl
  case holders => rintro (_ | _) <;> rfl
  case stations => rintro (_ | _ | _) <;> exact ⟨rfl, rfl, rfl, rfl, rfl, rfl, rfl, rfl, rfl⟩

/-- Settles O4: every slot is FREE, every station without conduct, the clock not set, the journal and the book empty. -/
theorem resetMeetsTheInvariants : Obligations.ResetMeetsTheInvariants := by
  refine ⟨fun i j _ _ hi _ _ => ?marks, ?conduct, nofun, ?signals, ⟨Nat.zero_le _, ?journal⟩,
    ⟨Nat.zero_le _, .nil, .nil, nofun, ?book⟩, fun i hi => ?ceilings⟩
  case marks =>
    rw [State.reset_vessel] at hi
    contradiction
  case conduct => rintro (_ | _) <;> nofun
  case signals => rintro (_ | _) <;> rfl
  case journal => rintro (_ | _) <;> nofun
  case book => rintro (_ | _) <;> exact .nil
  case ceilings => simp [State.reset_vessel] at hi

/-! ## Requests that read -/

/-- R167: a request that reads one chamber, which is present, is judged by its own rule alone. -/
theorem State.judged_anyOf {s : State} {k : Chamber} (present : s.chamberPresent k = true) (st : Station) (own : State → Judged) :
    s.judged st (.anyOf k) own = own s := by
  simp [State.judged, State.barred, Permission.chamber, present, State.notPermitted]

/-- Settles O17: each of them is a report in the state its frame leaves, which reads no station's record. -/
theorem readingsChangeNothing : Obligations.ReadingsChangeNothing := by
  intro s st takes
  refine ⟨State.exchange_report takes rfl, fun k present => ⟨_, State.exchange_report takes (State.judged_anyOf (s := s.validFrame st) present st _), rfl⟩,
    fun d pos position => State.exchange_report takes ?book, fun k present => State.exchange_report takes ?batch,
    ⟨_, State.exchange_report takes rfl, rfl⟩, State.exchange_report takes ?fault⟩
  case book => exact if_neg position.ne'
  case batch =>
    refine (State.judged_anyOf (s := s.validFrame st) present st _).trans ?_
    show (match s.batch k with | some b => _ | none => _) = _
    cases s.batch k <;> rfl
  case fault =>
    show State.report _ _ = State.report _ _
    congr 3
    show ((s.capture.record.map Captured.fields).getD []) = _
    cases s.capture.record <;> rfl

/-! ## The windows -/

/-- A setting's value is read from the settings, and DEFAULTED from the store's flag. -/
theorem settingField_get_congr {s t : State} {i n : Nat} {f : SettingField} (h : settingField i n = some f)
    (settings : t.settings = s.settings) (store : t.store = s.store) : f.get t = f.get s := by
  have reads : ∀ g ∈ settingFields i, g.get t = g.get s := by
    match i with
    | 0 => simp [settingFields, siteFields, defaultedField, ranged, yesNoField, settings, store]
    | 1 | 2 => simp [settingFields, chamberFields, chamberField, ranged, settings]
    | 3 | 4 | 5 | 6 | 7 | 8 | 9 | 10 => simp [settingFields, gaugeFields, settings]
    | _ + 11 => simp [settingFields]
  exact reads f (List.mem_of_getElem? h)

/-- No field of a record reads a station's record. -/
@[simp] theorem State.readField_setStation (s : State) (st : Station) (r : StationRec) (c : Collection) (i n : Nat) :
    (s.setStation st r).readField c i n = s.readField c i n := by
  cases c with
  | settings =>
    simp only [State.readField]
    cases h : settingField i n with
    | none => rfl
    | some f => simp only [settingField_get_congr (s := s) (t := s.setStation st r) h rfl rfl]
  | _ => rfl

@[simp] theorem State.readRun_setStation (s : State) (st : Station) (r : StationRec) (c : Collection) (i : Nat) (run : List Nat) :
    (s.setStation st r).readRun c i run = s.readRun c i run := by
  simp [State.readRun, funext (s.readField_setStation st r c i)]

theorem State.readRun_validFrame (s : State) (st : Station) (c : Collection) (i : Nat) (run : List Nat) :
    (s.validFrame st).readRun c i run = s.readRun c i run := s.readRun_setStation st _ c i run

theorem readRun_fieldRun (s : State) (c : Collection) (i a b : Nat) :
    s.readRun c i (fieldRun a b) = ((List.range (b + 1 - a)).map fun n => s.readField c i (a + n)).flatten := by
  simp [State.readRun, fieldRun, Function.comp_def, Nat.add_comm]

/-- R184: a run of no more fields than are left reads that many fields from the counter. -/
theorem take_fieldRun {a b n : Nat} (h : n ≤ b + 1 - a) : (fieldRun a b).take n = (List.range n).map (· + a) := by
  rw [fieldRun, List.map_take.symm, List.take_range, min_eq_left h]

theorem badSelection_eq_none {c i a b : Nat} {col : Collection} (named : collectionOf c = some col) (index : i ≤ col.lastIndex)
    (first : 0 < a) (last : a ≤ b) (count : b ≤ col.fieldCount i) : badSelection c i a b = none := by
  simp [badSelection, named, index.not_gt, first.ne', last.not_gt, count.not_gt]

theorem collectionOf_eq_none {c : Nat} (h : 3 < c) : collectionOf c = none := by
  match c with
  | 0 | 1 | 2 | 3 => contradiction
  | _ + 4 => rfl

theorem badSelection_eq_one {c : Nat} (h : 3 < c) (i a b : Nat) : badSelection c i a b = some 1 := by
  simp [badSelection, collectionOf_eq_none h]

/-- A request that edits its sender's window and answers what the records hold. -/
theorem State.exchange_window {s : State} {st : Station} {code : Nat} {judge : State → Judged} {w : Window} {l : List WireField}
    (takes : s.takes st) (judged : judge (s.validFrame st) = ((s.validFrame st).setWindowOf st w, some (.ok, l))) :
    s.exchange st code judge = .next ((s.setStation st { s.station st with window := w }).answered st code .ok l) := by
  refine State.exchange_validFrame takes (by simpa using takes.2) (judged.trans ?_)
  simp [State.setWindowOf, State.validFrame_eq, StationRec.heard]

theorem exec_readNext {s : State} {st : Station} {count : Option Nat} (takes : s.takes st)
    (good : (s.station st).window.badCount count = false) :
    exec (.readNext st count) s = .next
      ((s.setStation st { s.station st with
          window := (s.station st).window.after ((s.station st).window.run count).length }).answered st 0x02 .ok
        (s.readRun (s.station st).window.collection (s.station st).window.cursor ((s.station st).window.run count))) := by
  refine State.exchange_window takes ?_
  show ite _ _ _ = _
  have same : (s.validFrame st).window st = (s.station st).window := by simp [State.window]
  simp only [same, good, State.readRun_validFrame]
  rfl

/-- Settles O47: SET WINDOW and READ NEXT write the sender's window and nothing else, which no field read from a record depends on. -/
theorem windowsReadAndMove : Obligations.WindowsReadAndMove := by
  intro s st takes w stop
  refine ⟨fun c col i m a b named index first last count => ?selected, fun c i m a b beyond => ?unnamed, ?whole,
    fun n some_ fits left => ?part⟩
  case selected =>
    have good := badSelection_eq_none named index first last count
    refine ⟨State.exchange_window takes ?_, State.exchange_report takes ?_⟩
    · show Prod.mk _ _ = _
      simp only [good, named]
    · show Prod.mk _ _ = _
      simp only [good, named, State.report, ← readRun_fieldRun, State.readRun_validFrame]
  case unnamed =>
    have bad := badSelection_eq_one beyond
    constructor
    all_goals
      refine State.exchange_report takes ?_
      show Prod.mk _ _ = _
      simp only [bad]
      rfl
  case whole =>
    have past : w.stop < w.counter + (w.run none).length := by
      simp only [Window.run, fieldRun, List.length_map, List.length_range]
      omega
    rw [exec_readNext takes rfl]
    have after : w.after (w.run none).length = { w with counter := w.first, cursor := w.stepped } := if_pos past
    have run : s.readRun w.collection w.cursor (w.run none) = _ := readRun_fieldRun s w.collection w.cursor w.counter stop
    rw [after, run]
    rfl
  case part =>
    have run : w.run (some n) = (List.range n).map (· + w.counter) := take_fieldRun (by omega : n ≤ stop + 1 - w.counter)
    have after : w.after n = { w with counter := w.counter + n } := if_neg (by show ¬ stop < _; omega)
    have good : w.badCount (some n) = false := by simp [Window.badCount, some_.ne', fits.not_gt]
    rw [exec_readNext takes good, run]
    simp [after, State.readRun, Function.comp_def, Nat.add_comm, w]


/-! ## Requests of the traffic centre (R167) -/

theorem State.judged_tc {s : State} {st : Station} (other : st ≠ .tc) (own : State → Judged) :
    s.judged st .tc own = s.refuse .notPermitted := by
  simp [State.judged, State.barred, Permission.chamber, State.notPermitted, other, State.refuse]

/-- A request of the traffic centre from another station changes nothing. -/
theorem State.exchange_notPermitted {s : State} {st : Station} {code : Nat} {judge : State → Judged} {own : State → Judged}
    (takes : s.takes st) (other : st ≠ .tc) (judged : ∀ u, judge u = u.judged st .tc own) :
    s.exchange st code judge = .next (s.answered st code .notPermitted []) :=
  State.exchange_report takes ((judged _).trans (State.judged_tc other own))

/-! ## Tables, clock, tallies and site account -/

/-- Settles O53: the tables are exchanged, the clock is set by its ranges, and its tick is the successor of its time. -/
theorem tariffSwapsAndClockTicks : Obligations.TariffSwapsAndClockTicks := by
  refine ⟨fun s takes => ⟨State.exchange_validFrame takes takes.2 rfl, fun d x => ⟨fun day second => ?_, fun day => ?_,
    fun day second => ?_⟩⟩, fun s st d x other takes => ⟨State.exchange_notPermitted takes other fun _ => rfl,
    State.exchange_notPermitted takes other fun _ => rfl⟩, fun s d x n running => ?tick⟩
  · exact State.exchange_validFrame takes takes.2 ((if_neg day.not_gt).trans (if_neg second.not_gt))
  · exact State.exchange_report takes (if_pos day)
  · exact State.exchange_report takes ((if_neg day.not_gt).trans (if_pos second))
  case tick =>
    show execSiteClockTick s = _
    rw [execSiteClockTick, running]
    rfl

/-- Settles O55: the counters are answered as they stand, and cleared by a record of zeros. -/
theorem talliesAndSiteAreReadAndCleared : Obligations.TalliesAndSiteAreReadAndCleared := by
  refine ⟨fun s st clear takes => ?_, fun s st takes => ⟨State.exchange_report takes rfl, ?_, fun other =>
    State.exchange_notPermitted takes other fun _ => rfl⟩⟩
  · cases clear <;> exact State.exchange_validFrame takes takes.2 rfl
  · rintro rfl
    exact State.exchange_validFrame takes takes.2 rfl

/-! ## The store (R189) -/

theorem ChamberState.storable_iff (c : ChamberState) : c.storable = true ↔ c = .outOfService ∨ c.rest.isSome = true := by
  simp [ChamberState.storable]

/-- Settles O60: the copy is taken at the request, and its read-back decides what the store holds. -/
theorem storeKeepsTheSettings : Obligations.StoreKeepsTheSettings := by
  refine ⟨fun s takes => ⟨fun storable => ?stored, fun k out rest => ?refused⟩,
    fun s st other takes => State.exchange_notPermitted takes other fun _ => rfl,
    fun s i storing => ⟨?matched, ?failed⟩⟩
  case stored =>
    simp only [← ChamberState.storable_iff, Chamber.forall_iff] at storable
    have both : ((s.chamber .c1).state.storable && (s.chamber .c2).state.storable) = true := by simp [storable]
    have judged : judgeStoreSettings .tc (s.validFrame .tc) =
        ({ s.validFrame .tc with store.storing := some ⟨s.settings, s.active, s.standby⟩ }, none) := by
      show ite (((s.chamber .c1).state.storable && (s.chamber .c2).state.storable) = true) _ _ = _
      rw [both]
      rfl
    show Host.Outcome.next _ = _
    rw [State.portTake, if_neg takes.1]
    have idle : ((s.validFrame .tc).station .tc).service = .idle := by simpa using takes.2
    simp only [idle, if_true, State.serve, judged]
    rfl
  case refused =>
    have barred : (s.chamber k).state.storable = false := by simp [ChamberState.storable, out, rest]
    have either : ((s.chamber .c1).state.storable && (s.chamber .c2).state.storable) = false := by
      cases k <;> simp [barred]
    refine State.exchange_report takes ?_
    show ite (((s.chamber .c1).state.storable && (s.chamber .c2).state.storable) = true) _ _ = _
    rw [either]
    rfl
  case matched =>
    show execStoreReadbackEnd true s = _
    rw [execStoreReadbackEnd, storing]
    rfl
  case failed =>
    let u : State := { s with store := { s.store with stored := none, storing := none } }
    refine ⟨(u.raiseFault .settingsLost .store).reply .tc 0x70 (.state, [.byte 0]), ?_, ?_, rfl, fun loud => ⟨fun st => ?_, ?_⟩,
      ?_⟩
    · show execStoreReadbackEnd false s = _
      rw [execStoreReadbackEnd, storing]
      rfl
    · rw [State.raiseFault_frame]
      rfl
    · have raised := State.raiseFault_fault_mem (s := u) (f := .settingsLost) (.inl loud) .store st
      show .fault ∈ (State.station (State.setStation _ _ _) st).notices
      rw [State.setStation_station]
      split
      · next same => exact same ▸ raised
      · exact raised
    · exact State.raiseFault_capture (s := u) (.inl loud) .store
    · have written : (u.write (.fault .settingsLost .store s.time)).journal = _ :=
        State.write_journal_congr (s := s) (t := u) rfl rfl _
      exact (State.raiseFault_journal u .settingsLost .store).trans written

end Sys2Proof.Machine
end

section
/-! SUPPORT. The orders that are sent (R19, R23, R28): an order is sent when the interlock lets it pass, and not otherwise. -/
namespace Sys2Proof.Machine

theorem State.openGate_sent {s : State} {k : Chamber} {e : Side} (h : (s.openGate k e).2 = .sent) :
    s.judge (.gate k e) .opn = none := by
  unfold State.openGate at h
  split at h
  · cases h
  · cases h
  · split at h
    · cases h
    · assumption

/-- R23: a MOVE already under way, or to the step the sluice rests at, is complete without sending. -/
def SluiceRec.stands (r : SluiceRec) (n : Nat) : Bool :=
  match r.state with
  | .shut => decide (r.step = some n)
  | .held => decide (r.step = some n)
  | .moving => decide (r.target = some (.step n))
  | _ => false

theorem State.moveSluice_eq (s : State) (q : Sluice) (n : Nat) :
    s.moveSluice q n =
      if (s.sluice q).stands n then (s, .complete)
      else match s.judge (.sluice q) (.move n) with
        | some c => (s, .refused c)
        | none => (s.sendMove q n, .sent) := rfl

theorem State.moveSluice_sent {s : State} {q : Sluice} {n : Nat} (h : (s.moveSluice q n).2 = .sent) :
    s.judge (.sluice q) (.move n) = none := by
  rw [State.moveSluice_eq] at h
  split at h
  · cases h
  · split at h
    · cases h
    · assumption

/-- A verdict that an order may be sent says that its clause holds. -/
theorem clause_of_passes {b : Bool} {v : Option Clause} {c : Clause} (h : (if b = true then v else some c) = none) :
    b = true := by
  cases b
  · cases h
  · rfl

/-- Settles O26: what is sent has passed its clause, and the clause says where the other actuators stand. -/
theorem ordersSentKeepTheThreeLaws : Obligations.OrdersSentKeepTheThreeLaws := by
  refine ⟨fun s k e sent => ?gate, fun s k e n pos sent => ?chamberSluice, fun s n pos sent => ?crossSluice⟩
  case gate =>
    have passes := s.judge_gateOpen k e ▸ State.openGate_sent sent
    obtain ⟨-, closed, shut, cross, -⟩ := (s.clause1_iff k e).mp (clause_of_passes passes)
    exact ⟨closed, shut, cross⟩
  case chamberSluice =>
    obtain ⟨n, rfl⟩ := Nat.exists_eq_succ_of_ne_zero pos.ne'
    have passes := s.judge_chamberMove k e n ▸ State.moveSluice_sent sent
    obtain ⟨-, closed, shut, cross, -⟩ := (s.clause2_iff k e).mp (clause_of_passes passes)
    exact ⟨closed, shut, cross⟩
  case crossSluice =>
    obtain ⟨n, rfl⟩ := Nat.exists_eq_succ_of_ne_zero pos.ne'
    have passes := s.judge_crossMove n ▸ State.moveSluice_sent sent
    obtain ⟨-, closed, shut, -⟩ := s.clause3_iff.mp (clause_of_passes passes)
    exact ⟨closed, shut⟩

end Sys2Proof.Machine
end

section
/-! SUPPORT. What a scan leaves (R100 to R102): each row stays within the room, a row once opened only widens, and every vessel taken
stands in its row. -/
namespace Sys2Proof.Machine

/-! ## Rows -/

/-- Every row that stood still stands, as long and no narrower. -/
def Widened (rows rows' : List Row) : Prop :=
  ∀ (i : Nat) (r : Row), rows[i]? = some r → ∃ r', rows'[i]? = some r' ∧ r'.length = r.length ∧ r.width ≤ r'.width

theorem Widened.refl (rows : List Row) : Widened rows rows := fun _ r h => ⟨r, h, rfl, le_rfl⟩

theorem Widened.append (rows new : List Row) : Widened rows (rows ++ new) := fun i r h => by
  have inside := (List.getElem?_eq_some_iff.mp h).1
  exact ⟨r, by rw [List.getElem?_append_left inside, h], rfl, le_rfl⟩

theorem Widened.cons {rows rows' : List Row} (h : Widened rows rows') (r : Row) : Widened (r :: rows) (r :: rows')
  | 0, x, hx => ⟨x, hx, rfl, le_rfl⟩
  | i + 1, x, hx => h i x hx

/-- The first row alone has become wider. -/
theorem Widened.head {r r' : Row} (length : r'.length = r.length) (width : r.width ≤ r'.width) (rows : List Row) :
    Widened (r :: rows) (r' :: rows)
  | 0, x, hx => by
    obtain rfl : r = x := Option.some.inj hx
    exact ⟨r', rfl, length, width⟩
  | _ + 1, x, hx => ⟨x, hx, rfl, le_rfl⟩

/-- A vessel of these measures stands in row `n`, counted from 1. -/
def Stands (rows : List Row) (n length beam : Nat) : Prop :=
  ∃ r, 0 < n ∧ rows[n - 1]? = some r ∧ length ≤ r.length ∧ beam ≤ r.width

theorem Stands.widened {rows rows' : List Row} {n length beam : Nat} (h : Stands rows n length beam) (w : Widened rows rows') :
    Stands rows' n length beam := by
  obtain ⟨r, pos, row, long, wide⟩ := h
  obtain ⟨r', row', same, wider⟩ := w _ r row
  exact ⟨r', pos, row', same ▸ long, wide.trans wider⟩

/-- R101: the rows stand within the room, with the end clearances between them. -/
structure RowsFit (m : Room) (rows : List Row) : Prop where
  width : ∀ r ∈ rows, r.width ≤ m.width
  length : rows ≠ [] → (rows.map (·.length)).sum + m.endClear * (rows.length - 1) ≤ m.length

/-! ## Placing a vessel (R101) -/

/-- What a vessel's joining a row does. -/
structure Joined (m : Room) (rows rows' : List Row) : Prop where
  lengths : rows'.map (·.length) = rows.map (·.length)
  widened : Widened rows rows'
  width : (∀ r ∈ rows, r.width ≤ m.width) → ∀ r ∈ rows', r.width ≤ m.width

theorem joinRow_joined {m : Room} {length beam n i : Nat} {rows rows' : List Row}
    (h : joinRow m length beam n rows = some (rows', i)) : Joined m rows rows' := by
  induction rows generalizing n rows' i with
  | nil => cases h
  | cons r rows ih =>
    unfold joinRow at h
    split at h
    · next takes =>
      obtain ⟨rfl, -⟩ := Prod.mk.inj (Option.some.inj h)
      have fits : r.width + m.side + beam ≤ m.width := by
        have := (Bool.and_eq_true _ _ ▸ takes : _ ∧ _).1
        exact of_decide_eq_true this
      refine ⟨rfl, Widened.head (r := r) (r' := { r with width := r.width + m.side + beam }) rfl
        (le_trans (Nat.le_add_right _ m.side) (Nat.le_add_right _ beam)) rows, fun old x hx => ?_⟩
      rcases List.mem_cons.mp hx with rfl | hx
      · exact fits
      · exact old x (.tail _ hx)
    · obtain ⟨⟨rest, j⟩, joined, made⟩ := Option.map_eq_some_iff.mp h
      obtain ⟨rfl, -⟩ := Prod.mk.inj made
      obtain ⟨lengths, widened, width⟩ := ih joined
      refine ⟨congrArg (r.length :: ·) lengths, widened.cons r, fun old x hx => ?_⟩
      rcases List.mem_cons.mp hx with rfl | hx
      · exact old _ (.head _)
      · exact width (fun y hy => old y (.tail _ hy)) x hx

theorem joinRow_stands {m : Room} {length beam n i : Nat} {rows rows' : List Row}
    (h : joinRow m length beam n rows = some (rows', i)) :
    n ≤ i ∧ ∃ r, rows'[i - n]? = some r ∧ length ≤ r.length ∧ beam ≤ r.width := by
  induction rows generalizing n rows' i with
  | nil => cases h
  | cons r rows ih =>
    unfold joinRow at h
    split at h
    · next takes =>
      obtain ⟨rfl, rfl⟩ := Prod.mk.inj (Option.some.inj h)
      have long := of_decide_eq_true (Bool.and_eq_true _ _ ▸ takes : _ ∧ _).2
      refine ⟨le_rfl, { r with width := r.width + m.side + beam }, ?_, long, Nat.le_add_left ..⟩
      rw [Nat.sub_self]
      rfl
    · obtain ⟨⟨rest, j⟩, joined, made⟩ := Option.map_eq_some_iff.mp h
      obtain ⟨rfl, rfl⟩ := Prod.mk.inj made
      obtain ⟨later, x, place, fits⟩ := ih joined
      refine ⟨by omega, x, ?_, fits⟩
      rw [show j - n = (j - (n + 1)) + 1 by omega]
      exact place

/-- R101: a vessel placed stands in its row, every other one stays in its own, and the rows stand within the room. -/
theorem placeVessel_facts {m : Room} {length beam i : Nat} {rows rows' : List Row} (fit : RowsFit m rows)
    (h : placeVessel m rows length beam = some (rows', i)) :
    RowsFit m rows' ∧ Widened rows rows' ∧ Stands rows' i length beam := by
  unfold placeVessel at h
  split at h
  · next joined =>
    obtain rfl := Option.some.inj h
    obtain ⟨lengths, widened, width⟩ := joinRow_joined joined
    obtain ⟨pos, r, place, fits⟩ := joinRow_stands joined
    have count : rows'.length = rows.length := by simpa using congrArg List.length lengths
    refine ⟨⟨width fit.width, fun _ => ?_⟩, widened, r, pos, place, fits⟩
    rw [lengths, count]
    refine fit.length fun none => ?_
    rw [none] at joined
    cases joined
  · split at h
    · next opens =>
      obtain ⟨rfl, rfl⟩ := Prod.mk.inj (Option.some.inj h)
      simp only [opensRow, Bool.and_eq_true, decide_eq_true_eq] at opens
      obtain ⟨long, wide⟩ := opens
      refine ⟨⟨fun r hr => ?_, fun _ => ?_⟩, .append _ _, ⟨length, beam⟩, Nat.succ_pos _, ?_, le_rfl, le_rfl⟩
      · rcases List.mem_append.mp hr with old | new
        · exact fit.width r old
        · obtain rfl := List.mem_singleton.mp new
          exact wide
      · simp only [List.map_append, List.sum_append, List.map_cons, List.map_nil, List.sum_cons, List.sum_nil,
          List.length_append, List.length_cons, List.length_nil]
        simp only [Nat.add_sub_cancel, Nat.zero_add, Nat.add_zero]
        omega
      · simp
    · cases h

/-! ## The scan -/

/-- What a scan of `l` has gathered so far stands within the chamber. -/
structure ScanFits (s : State) (k : Chamber) (depth : Int) (l : List Order) (c : Scan) : Prop where
  count : c.members.length ≤ 8
  rows : RowsFit (s.room k) c.rows
  stands : ∀ m ∈ c.members, Stands c.rows m.row m.length m.beam
  taken : ∀ m ∈ c.members, (∃ o ∈ l, o.number = m.order ∧ o.slot = m.slot ∧ o.state = .waiting)
    ∧ ((m.draught + s.settings.keelClear : Nat) : Int) ≤ depth

theorem State.skips_eq_false {s : State} {k : Chamber} {depth : Int} {o : Order} (h : ¬s.skips k depth o = true) :
    o.state = .waiting ∧ (((s.vessel o.slot).draught + s.settings.keelClear : Nat) : Int) ≤ depth := by
  simp only [State.skips, Bool.or_eq_true, not_or, decide_eq_true_eq, not_not, not_lt] at h
  exact ⟨h.1.1, h.2⟩

/-- One vessel more. -/
theorem ScanFits.take {s : State} {k : Chamber} {depth : Int} {l : List Order} {c : Scan} {o : Order} {rows : List Row} {n : Nat}
    (fit : ScanFits s k depth l c) (mem : o ∈ l) (room : c.members.length < 8) (kept : ¬s.skips k depth o = true)
    (placed : placeVessel (s.room k) c.rows (s.vessel o.slot).length (s.vessel o.slot).beam = some (rows, n)) :
    ScanFits s k depth l { c with members := c.members ++ [memberOf o (s.vessel o.slot) n], rows := rows } := by
  obtain ⟨waiting, deep⟩ := State.skips_eq_false kept
  obtain ⟨fits, widened, stands⟩ := placeVessel_facts fit.rows placed
  refine ⟨by simpa using room, fits, fun m hm => ?_, fun m hm => ?_⟩
  · rcases List.mem_append.mp hm with old | new
    · exact (fit.stands m old).widened widened
    · obtain rfl := List.mem_singleton.mp new
      exact stands
  · rcases List.mem_append.mp hm with old | new
    · exact fit.taken m old
    · obtain rfl := List.mem_singleton.mp new
      exact ⟨⟨o, mem, rfl, rfl, waiting⟩, deep⟩

theorem ScanFits.miss {s : State} {k : Chamber} {depth : Int} {l : List Order} {c : Scan} (fit : ScanFits s k depth l c)
    (missed : List (Nat × Nat)) : ScanFits s k depth l { c with missed := missed } := ⟨fit.count, fit.rows, fit.stands, fit.taken⟩

theorem State.scan_fits (s : State) (k : Chamber) (depth : Int) {l os : List Order} (sub : ∀ o ∈ os, o ∈ l) {c : Scan}
    (fit : ScanFits s k depth l c) : ScanFits s k depth l (s.scan k depth os c) := by
  induction os generalizing c with
  | nil => exact fit
  | cons o os ih =>
    have rest : ∀ x ∈ os, x ∈ l := fun x hx => sub x (.tail _ hx)
    unfold State.scan
    split
    · exact fit
    · next room =>
      split
      · exact ih rest fit
      · next kept =>
        split
        · next placed => exact ih rest (fit.take (sub o (.head _)) (not_le.mp room) kept placed)
        · dsimp only
          split
          · exact ih rest (fit.miss _)
          · exact fit.miss _

/-- Settles O39, by induction along the list scanned: what has been gathered stands within the chamber, from the empty batch on. -/
theorem everyScanFitsItsChamber : Obligations.EveryScanFitsItsChamber := by
  intro s k depth l
  have empty : ScanFits s k depth l {} := ⟨Nat.zero_le _, ⟨nofun, fun h => (h rfl).elim⟩, nofun, nofun⟩
  obtain ⟨count, rows, stands, taken⟩ := s.scan_fits k depth (fun _ => id) empty
  exact ⟨count, rows.width, rows.length, fun m hm => ⟨stands m hm, taken m hm⟩⟩

end Sys2Proof.Machine
end

section
/-! SUPPORT. The signals (R118 to R121): when a GO is called and shown, and which lamps an aspect drives. -/
namespace Sys2Proof.Machine

theorem calledForBatch_go_iff (b : Batch) (overdue clearOut : Bool) (g : Signal) :
    calledForBatch b overdue clearOut g = .go ↔
      b.state = .entering ∧ g = b.direction.entrySignal ∧ overdue = false
        ∨ b.state = .leaving ∧ g = b.direction.exitSignal ∧ clearOut = false := by
  cases h : b.state
  · by_cases entry : g = b.direction.entrySignal <;> simp [calledForBatch, h, entry]
  · by_cases entry : g = b.direction.entrySignal <;> simp [calledForBatch, h, entry]
  · simp [calledForBatch, h]
  · by_cases leave : g = b.direction.exitSignal <;> cases clearOut <;> simp [calledForBatch, h, leave]

theorem State.called_go_iff (s : State) (k : Chamber) (g : Signal) :
    s.called k g = .go ↔ s.chamberPresent k = true ∧ (s.chamber k).state ≠ .outOfService ∧ (s.chamber k).state ≠ .halted
      ∧ ∃ b, s.batch k = some b
        ∧ (b.state = .entering ∧ g = b.direction.entrySignal ∧ (s.chamber k).entryOverdue = false
          ∨ b.state = .leaving ∧ g = b.direction.exitSignal ∧ (s.chamber k).clearOut = false) := by
  simp only [← calledForBatch_go_iff]
  unfold State.called
  cases s.chamberPresent k
  · simp
  · simp only [if_true, true_and]
    split
    · next h => cases g <;> simp [h, Signal.approach]
    · next h => simp [h]
    · next out halted =>
      cases s.batch k with
      | none => simp
      | some b => simp [show ¬(s.chamber k).state = .outOfService from out, show ¬(s.chamber k).state = .halted from halted]

theorem shownAspect_go {called : Aspect} {g : Signal} {gate : GateState} {l : PerLamp Lamp}
    (h : shownAspect called g gate l = .go) :
    called = .go ∧ l.green.proven = true
      ∧ (g.approach = true → gate = .opened ∧ (l.redA.proven = true ∨ l.redB.proven = true)) := by
  unfold shownAspect at h
  split at h
  · split at h
    · next approach =>
      split at h
      · cases h
      · next opened =>
        split at h
        · cases h
        · next reds =>
          split at h
          · next green => exact ⟨rfl, green, fun _ => ⟨not_not.mp opened, by simpa [or_iff_not_imp_left] using reds⟩⟩
          · cases h
    · next exits =>
      split at h
      · next green => exact ⟨rfl, green, fun approach => absurd approach exits⟩
      · cases h
  · split at h <;> cases h
  · next notGo _ => exact absurd h notGo

/-- R121: the outputs of a signal's lamps once its chamber's signals are derived. -/
theorem State.derive_lamp_output (s : State) (k : Chamber) (g : Signal) (n : LampName) :
    (s.derive.lamp ⟨k, g, n⟩).output = s.outputs k (s.aspectsOf k g).shown ((s.signals.lamps.get k).get g) n := by
  have recounted : ∀ (k : Chamber) (l : Lamp) (out : LampOutput), (s.driveLamp k l out).output = out :=
    fun _ _ _ => Lamp.recount_output ..
  cases k <;> cases g <;> cases n <;> exact recounted ..

/-- R121: no test runs: only these three aspects light a green lamp. -/
theorem lampOutput_green {shown : Aspect} {a b g : Bool} (h : lampOutput shown a b g .green ≠ .dark) :
    shown = .prepare ∨ shown = .go ∨ shown = .clearOut := by
  cases shown <;> simp [lampOutput] at h ⊢

/-- R121: one of the two red lamps shows STOP, whichever of them works. -/
theorem lampOutput_stop (a b g : Bool) :
    lampOutput .stop a b g .redA = .lit ∨ lampOutput .stop a b g .redB = .lit := by
  cases a <;> cases b <;> simp [lampOutput, showRedA, showRedB]

/-- Settles O51: the aspects are those the state gives, so a GO shown has passed each test of R118 to R120. -/
theorem goIsShownOnlyWhenSafe : Obligations.GoIsShownOnlyWhenSafe := by
  intro s k g current a lamp
  have aspects : a = s.aspectsOf k g := by
    show (s.signals.aspects.get k).get g = _
    rw [current k]
    cases g <;> rfl
  have outputs (n : LampName) (quiet : s.signals.tests.get k = none) :
      (s.derive.lamp ⟨k, g, n⟩).output = lampOutput a.shown (lamp .redA).proven (lamp .redB).proven (lamp .green).proven n := by
    rw [s.derive_lamp_output, State.outputs, quiet, aspects]
    rfl
  refine ⟨aspects ▸ s.called_go_iff k g, fun shown => ?_, fun quiet green => ?_, fun quiet stop => ?_⟩
  · obtain ⟨called, green, opened⟩ := shownAspect_go (aspects ▸ shown : (s.aspectsOf k g).shown = .go)
    exact ⟨aspects ▸ called, green, fun approach => opened (by rcases approach with rfl | rfl <;> rfl)⟩
  · rw [outputs .green quiet] at green
    exact lampOutput_green green
  · rw [outputs .redA quiet, outputs .redB quiet, stop]
    exact lampOutput_stop ..

end Sys2Proof.Machine
end

section
/-! SUPPORT. The vessel register's requests (R78 to R85): which slot a search of the register finds, and what a key matches. -/
namespace Sys2Proof.Machine

theorem Vessel.nonFree_iff (v : Vessel) : v.nonFree = true ↔ v.state ≠ .free := by
  simp [Vessel.nonFree]

/-- R78, R80: the first slot of the register with a property. -/
theorem find?_allSlots_eq_some {p : Nat → Bool} {i : Nat} :
    allSlots.find? p = some i ↔ p i = true ∧ i < 128 ∧ ∀ j, j < i → p j = false := by
  simp [allSlots, List.find?_range_eq_some, Config.slots]

theorem find?_allSlots_eq_none {p : Nat → Bool} : allSlots.find? p = none ↔ ∀ j, j < 128 → p j = false := by
  simp [allSlots, Config.slots]

/-! ## Adding (R78) -/

/-- The arguments of ADD VESSEL in range. -/
theorem firstBadField_eq_none {v : VesselArgs} (mark : markOk v.mark = true) (operator : v.operator ≤ 65535)
    (length : 50 ≤ v.length ∧ v.length ≤ 4000) (beam : 20 ≤ v.beam ∧ v.beam ≤ 300) (draught : 30 ≤ v.draught ∧ v.draught ≤ 600)
    (deadweight : v.deadweight ≤ 20000) (exempt : v.exempt ≤ 1) (ceiling : v.ceiling ≤ 4000000000) : firstBadField v = none := by
  simp [firstBadField, mark, fieldOk, fieldRange, operator, length, beam, draught, deadweight, exempt, ceiling, Config.moneyLimit]

theorem exec_addVessel {s : State} {st : Station} {v : VesselArgs} (takes : s.takes st) (good : firstBadField v = none) :
    exec (.addVessel st v) s = .next (match s.markHolder v.mark none, s.nextFree with
      | some i, _ => s.answered st 0x10 .duplicate [.half i]
      | none, some i => (s.setVessel i (addedVessel v)).answered st 0x10 .ok [.half i]
      | none, none => s.answered st 0x10 .full []) := by
  have judged : judgeAddVessel st v (s.validFrame st) =
      match s.markHolder v.mark none with
      | some i => (s.validFrame st).refuse .duplicate [.half i]
      | none => match s.nextFree with
        | some i => ((s.validFrame st).setVessel i (addedVessel v), some (.ok, [.half i]))
        | none => (s.validFrame st).refuse .full := by
    show Prod.mk _ _ = _
    rw [good]
    rfl
  cases holder : s.markHolder v.mark none with
  | some i => exact State.exchange_report takes (by rw [judged, holder]; rfl)
  | none =>
    cases free : s.nextFree with
    | some i => exact State.exchange_validFrame takes takes.2 (by rw [judged, holder, free]; rfl)
    | none => exact State.exchange_report takes (by rw [judged, holder, free]; rfl)

/-! ## Requests that name a slot (R82, R87, R88) -/

/-- R167: a request that any station may make is judged by its own rule alone. -/
theorem State.judged_any (s : State) (st : Station) (own : State → Judged) : s.judged st .any own = own s := rfl

theorem State.withVessel_beyond (s : State) {i : Nat} (h : 128 ≤ i) (own : Vessel → Judged) :
    s.withVessel i own = s.outOfRange 1 := if_pos h

theorem State.withVessel_free {s : State} {i : Nat} (h : i < 128) (free : (s.vessel i).state = .free) (own : Vessel → Judged) :
    s.withVessel i own = s.refuse .noVessel := (if_neg (not_le.mpr h)).trans (if_pos free)

theorem State.withVessel_known {s : State} {i : Nat} (h : i < 128) (known : (s.vessel i).state ≠ .free) (own : Vessel → Judged) :
    s.withVessel i own = own (s.vessel i) := (if_neg (not_le.mpr h)).trans (if_neg known)

/-! ## Searching (R84, R85) -/

theorem markChar_iff (x : Byte) :
    markChar x = true ↔ 65 ≤ x.toNat ∧ x.toNat ≤ 90 ∨ 48 ≤ x.toNat ∧ x.toNat ≤ 57 ∨ x.toNat = 32 := by
  simp [markChar, or_assoc]

theorem badKey_iff (q : SeekArgs) :
    badKey q = true ↔ ∃ (n : Nat) (x : Byte), q.care[n]? = some true ∧ q.key[n]? = some x
      ∧ ¬(65 ≤ x.toNat ∧ x.toNat ≤ 90 ∨ 48 ≤ x.toNat ∧ x.toNat ≤ 57 ∨ x.toNat = 32) := by
  simp only [← markChar_iff, badKey, List.any_eq_true, List.mem_iff_getElem?, List.getElem?_zip_eq_some, Bool.and_eq_true,
    Bool.not_eq_true']
  constructor
  · rintro ⟨⟨_, x⟩, ⟨n, care, key⟩, rfl, bad⟩
    exact ⟨n, x, care, key, by simpa using bad⟩
  · rintro ⟨n, x, care, key, bad⟩
    exact ⟨(true, x), ⟨n, care, key⟩, rfl, by simpa using bad⟩

theorem seekMatches_iff (q : SeekArgs) (v : Vessel) :
    seekMatches q v = true ↔
      (v.state = .active ∨ q.heldToo = true ∧ ∃ cause, v.state = .held cause)
        ∧ (∀ (n : Nat) (x y : Byte), q.care[n]? = some true → q.key[n]? = some x → v.mark[n]? = some y → x = y)
        ∧ (q.operatorCare = true → v.operator = q.operator) := by
  have state : (match v.state with | .free => false | .active => true | .held _ => q.heldToo) = true ↔
      v.state = .active ∨ q.heldToo = true ∧ ∃ cause, v.state = .held cause := by
    cases v.state <;> simp
  have marks : (q.care.zip (q.key.zip v.mark)).all (fun p => !p.1 || decide (p.2.1 = p.2.2)) = true ↔
      ∀ (n : Nat) (x y : Byte), q.care[n]? = some true → q.key[n]? = some x → v.mark[n]? = some y → x = y := by
    simp only [List.all_eq_true, List.mem_iff_getElem?, List.getElem?_zip_eq_some]
    constructor
    · intro all n x y care key mark
      simpa using all (true, x, y) ⟨n, care, key, mark⟩
    · rintro all ⟨_ | _, x, y⟩ ⟨n, care, key, mark⟩
      · rfl
      · simpa using all n x y care key mark
  have operator : (!q.operatorCare || decide (v.operator = q.operator)) = true ↔
      (q.operatorCare = true → v.operator = q.operator) := by
    cases q.operatorCare <;> simp
  rw [seekMatches, Bool.and_eq_true, Bool.and_eq_true, marks, operator, and_assoc]
  exact and_congr_left fun _ => state

theorem State.mem_matching (s : State) (q : SeekArgs) (i : Nat) :
    i ∈ s.matching q ↔ i < 128 ∧ seekMatches q (s.vessel i) = true := by
  rw [State.matching, List.mem_filter, mem_allSlots]

theorem State.matching_sorted (s : State) (q : SeekArgs) : (s.matching q).Pairwise (· < ·) :=
  List.pairwise_lt_range.filter _

/-- R85: the first element of a rising list beyond a place. -/
theorem find?_beyond_iff {l : List Nat} (sorted : l.Pairwise (· < ·)) (i j : Nat) :
    l.find? (fun x => decide (i < x)) = some j ↔ i < j ∧ j ∈ l ∧ ∀ m ∈ l, i < m → j ≤ m := by
  induction l with
  | nil => simp
  | cons x l ih =>
    obtain ⟨least, sorted⟩ := List.pairwise_cons.mp sorted
    by_cases beyond : i < x
    · rw [List.find?_cons_of_pos (by simpa using beyond)]
      constructor
      · rintro ⟨⟩
        exact ⟨beyond, .head _, fun m hm _ => by
          rcases List.mem_cons.mp hm with rfl | hm
          · exact le_rfl
          · exact (least m hm).le⟩
      · rintro ⟨-, mem, first⟩
        have le := first x (.head _) beyond
        rcases List.mem_cons.mp mem with rfl | mem
        · rfl
        · exact absurd (least j mem) le.not_gt
    · rw [List.find?_cons_of_neg (by simpa using beyond), ih sorted]
      constructor
      · rintro ⟨past, mem, first⟩
        exact ⟨past, .tail _ mem, fun m hm h => by
          rcases List.mem_cons.mp hm with rfl | hm
          · exact absurd h beyond
          · exact first m hm h⟩
      · rintro ⟨past, mem, first⟩
        refine ⟨past, ?_, fun m hm => first m (.tail _ hm)⟩
        rcases List.mem_cons.mp mem with rfl | mem
        · exact absurd past beyond
        · exact mem

/-- A search that leaves its place in its sender's context. -/
theorem State.exchange_found {s : State} {st : Station} {code : Nat} {judge : State → Judged} {q : SeekArgs} {n : Option Nat}
    (takes : s.takes st) (judged : judge (s.validFrame st) = (s.validFrame st).found st q n) :
    s.exchange st code judge = .next
      ((s.setStation st { s.station st with context := some ⟨q, n⟩ }).answered st code .ok
        [halfOr n, .half (s.matching q).length]) := by
  refine State.exchange_validFrame takes (by simpa using takes.2) (judged.trans ?_)
  show ((s.validFrame st).setStation st _, some (ReplyOutcome.ok, [halfOr n, .half (s.matching q).length])) = _
  simp [State.validFrame_eq, StationRec.heard]

theorem exec_seekNext {s : State} {st : Station} {q : SeekArgs} {last : Option Nat} (takes : s.takes st)
    (context : (s.station st).context = some ⟨q, last⟩) :
    exec (.seekNext st) s = .next
      ((s.setStation st { s.station st with context := some ⟨q, s.seekFrom q last⟩ }).answered st 0x13 .ok
        [halfOr (s.seekFrom q last), .half (s.matching q).length]) := by
  refine State.exchange_found takes ?_
  have same : ((s.validFrame st).station st).context = some ⟨q, last⟩ := by simpa using context
  show Prod.mk _ _ = _
  rw [same]
  rfl

/-- Settles O45: each request's answer is read off the first slot with the property it looks for. -/
theorem registerAddsDeletesAndFinds : Obligations.RegisterAddsDeletesAndFinds := by
  intro s st takes
  refine ⟨fun v mark operator length beam draught deadweight exempt ceiling => ?added,
    fun i beyond => State.exchange_report takes ((State.judged_any ..).trans (State.withVessel_beyond _ beyond _)),
    fun i slot free => State.exchange_report takes ((State.judged_any ..).trans (State.withVessel_free (s := s.validFrame st) slot free _)),
    fun i slot known => ⟨fun order => ?deleted, fun n order => ?inUse⟩, fun q => ?sought, fun context => ?noContext⟩
  case added =>
    have good := firstBadField_eq_none mark operator length beam draught deadweight exempt ceiling
    rw [exec_addVessel takes good]
    refine ⟨fun i slot others free first => ?_, fun i slot known same first => ?_, fun full => ?_⟩
    · have none : s.markHolder v.mark none = none :=
        (s.markHolder_eq_none_iff _ _).mpr fun j hj _ h => others j hj ((s.vessel j).nonFree_iff.mp h)
      have next : s.nextFree = some i := find?_allSlots_eq_some.mpr
        ⟨by simp [Vessel.nonFree, free], slot, fun j hj => by simpa [Vessel.nonFree] using first j hj⟩
      rw [none, next]
      rfl
    · have holder : s.markHolder v.mark none = some i := find?_allSlots_eq_some.mpr
        ⟨by simp [Vessel.nonFree, known, same], slot, fun j hj => by simpa [Vessel.nonFree] using first j hj⟩
      rw [holder]
    · have none : s.markHolder v.mark none = none :=
        (s.markHolder_eq_none_iff _ _).mpr fun j hj _ _ => (full j hj).2
      have taken : s.nextFree = Option.none := find?_allSlots_eq_none.mpr fun j hj => by simpa [Vessel.nonFree] using (full j hj).1
      rw [none, taken]
  case deleted =>
    refine State.exchange_validFrame takes takes.2 ((State.judged_any ..).trans
      ((State.withVessel_known (s := s.validFrame st) slot known _).trans ?_))
    show Prod.mk _ _ = _
    rw [show ((s.validFrame st).vessel i).order = none from order]
    rfl
  case inUse =>
    refine State.exchange_report takes ((State.judged_any ..).trans
      ((State.withVessel_known (s := s.validFrame st) slot known _).trans ?_))
    show Prod.mk _ _ = _
    rw [show ((s.validFrame st).vessel i).order = some n from order]
    rfl
  case sought =>
    refine ⟨fun bad => ?_, s.matching q, s.matching_sorted q, fun i => ?_, fun good => ?_, fun context => ?_,
      fun i context => ?_⟩
    · exact State.exchange_report takes (if_pos ((badKey_iff q).mpr bad))
    · rw [s.mem_matching, seekMatches_iff]
    · exact State.exchange_found takes (if_neg fun bad => good ((badKey_iff q).mp bad))
    · exact exec_seekNext takes context
    · exact ⟨_, exec_seekNext takes context, fun j => find?_beyond_iff (s.matching_sorted q) i j⟩
  case noContext =>
    refine State.exchange_report takes ?_
    have same : ((s.validFrame st).station st).context = none := by simpa using context
    show Prod.mk _ _ = _
    rw [same]
    rfl

end Sys2Proof.Machine
end

section
/-! SUPPORT. How a request ends that has no consequence beyond its own block: with nothing waiting and no binding deferred, the
signals alone are derived again; and the holds of a vessel (R87 to R90, R148). -/
namespace Sys2Proof.Machine

/-! ## The end of a calm event -/

theorem State.derive_frame (s : State) : s.derive = { s with signals := s.derive.signals } := rfl

theorem State.clearDeferred_self {s : State} (h : s.book.deferred = ⟨false, false⟩) : s.clearDeferred = s := by
  unfold State.clearDeferred
  rw [h]
  show ({ s with book := { s.book with deferred := ⟨false, false⟩ } } : State) = s
  rw [← h]

theorem State.finish_calm {s : State} (h : s.Calm) : s.finish = s.derive := by
  rw [State.finish_nil s h.1]
  exact State.clearDeferred_self (s := s.derive) h.2

/-- A request carried out whose consequences are the signals alone, its sender's record left as the frame left it but for
its notices. -/
theorem State.exchange_done {s t : State} {st : Station} {code : Nat} {judge : State → Judged} {o : ReplyOutcome}
    {l : List WireField} (takes : s.takes st) (judged : judge (s.validFrame st) = t.done o l) (calm : t.Calm)
    (core : (t.station st).core = ((s.validFrame st).station st).core) (now : t.now = s.now)
    (limit : t.settings.silenceLimit = s.settings.silenceLimit) :
    s.exchange st code judge = .next (t.derive.answered st code o l) := by
  refine State.exchange_answered takes ?_ core now limit
  rw [judged, State.done, State.finish_calm calm]

/-- The same of a request that leaves every station's record alone. -/
theorem State.exchange_done_same {s t : State} {st : Station} {code : Nat} {judge : State → Judged} {o : ReplyOutcome}
    {l : List WireField} (takes : s.takes st) (judged : judge (s.validFrame st) = (t.validFrame st).done o l) (calm : t.Calm)
    (station : (t.station st).service = .idle) : s.exchange st code judge = .next (t.derive.answered st code o l) := by
  refine State.exchange_validFrame takes station ?_
  rw [judged, State.done, State.finish_calm (s := t.validFrame st) calm]
  rfl

@[simp] theorem State.answered_notices (s : State) (st : Station) (code : Nat) (o : ReplyOutcome) (l : List WireField) (x : Station) :
    ((s.answered st code o l).station x).notices = (s.station x).notices := by
  rw [State.answered, State.setStation_station]
  split
  · next same => rw [same]
  · rfl

/-- The stations' records after a reply, when the request has changed no more of them than their notices. -/
theorem State.answered_core {s t : State} {st : Station} {code : Nat} {o : ReplyOutcome} {l : List WireField}
    (now : t.now = s.now) (limit : t.settings.silenceLimit = s.settings.silenceLimit)
    (cores : ∀ x, (t.station x).core = ((s.validFrame st).station x).core) (x : Station) :
    ((t.answered st code o l).station x).core = ((s.answered st code o l).station x).core := by
  have core := cores x
  rw [State.validFrame_station] at core
  rw [State.answered, State.answered, State.setStation_station, State.setStation_station]
  split
  · next same =>
    subst same
    simp only [if_true, StationRec.core, StationRec.mk.injEq] at core
    simp [StationRec.core, now, limit, core]
  · next other => rwa [if_neg other] at core

/-! ## Judging a vessel's order again (R90) -/

/-- R90: the book with a vessel's order judged again. -/
def State.rejudgedBook (s : State) (i : Nat) (x : OrderState) : Book :=
  match (s.vessel i).order.bind s.book.find with
  | some o => if o.state.isBound then s.book else (s.changeOrder o.number (fun y => { y with state := x })).book
  | none => s.book

/-- R90: without an available chamber, or when the order does not become WAITING, no formation follows. -/
theorem State.rejudge_eq {s : State} {i : Nat} {x : OrderState} (state : s.orderState (s.vessel i) = x)
    (none : x ≠ .waiting ∨ ∀ k, s.available k = false) : s.rejudge i = { s with book := s.rejudgedBook i x } := by
  unfold State.rejudge State.rejudgedBook
  cases (s.vessel i).order.bind s.book.find with
  | none => rfl
  | some o =>
    dsimp only
    rw [state]
    split
    · rfl
    · split
      · next waits =>
        have unavailable : ∀ k, s.available k = false := none.resolve_left (not_not.mpr waits.2)
        have first : (s.changeOrder o.number fun y => { y with state := x }).available .c1 = false := unavailable .c1
        have second : (s.changeOrder o.number fun y => { y with state := x }).available .c2 = false := unavailable .c2
        rw [State.pushAvailable, first, second]
        rfl
      · rfl

theorem State.rejudgedBook_deferred (s : State) (i : Nat) (x : OrderState) :
    (s.rejudgedBook i x).deferred = s.book.deferred := by
  unfold State.rejudgedBook
  (repeat' split) <;> rfl

theorem State.orderState_held {v : Vessel} {c : HoldCause} (h : v.state = .held c) (s : State) :
    s.orderState v = .blocked .held := by
  rw [State.orderState, h]

theorem State.orderState_active {v : Vessel} (h : v.state = .active) (s : State) :
    s.orderState v = if s.fits v then .waiting else .blocked .oversize := by
  rw [State.orderState, h]

theorem Vessel.overCeiling_iff (v : Vessel) : v.overCeiling = true ↔ v.ceiling ≠ 0 ∧ v.ceiling ≤ v.total := by
  simp [Vessel.overCeiling]

/-! ## Holds -/

theorem State.rejudgedBook_congr {s t : State} {i : Nat} (order : (t.vessel i).order = (s.vessel i).order) (book : t.book = s.book)
    (x : OrderState) : t.rejudgedBook i x = s.rejudgedBook i x := by
  simp only [State.rejudgedBook, State.changeOrder, order, book]

theorem State.holdVessel_eq {s : State} {i : Nat} (slot : i < 128) (c : HoldCause) :
    s.holdVessel i c =
      { s with
        vessels := (s.setVessel i { s.vessel i with state := .held c }).vessels
        book := s.rejudgedBook i (.blocked .held)
        stations := (s.raiseAll .vesselHeld).stations } := by
  let t := (s.setVessel i { s.vessel i with state := .held c }).raiseAll .vesselHeld
  have vessel : t.vessel i = { s.vessel i with state := .held c } := (s.setVessel_vessel i _ i).trans (by simp [slot])
  have held : t.orderState (t.vessel i) = .blocked .held := State.orderState_held (c := c) (by rw [vessel]) t
  have book : t.rejudgedBook i (.blocked .held) = s.rejudgedBook i (.blocked .held) :=
    State.rejudgedBook_congr (s := s) (t := t) (congrArg (·.order) vessel) rfl _
  show t.rejudge i = _
  rw [State.rejudge_eq held (.inl nofun), book]
  rfl

theorem State.activate_eq {s : State} {i : Nat} (slot : i < 128) (none : ∀ k, s.available k = false) :
    s.activate i =
      { s with
        vessels := (s.setVessel i { s.vessel i with state := .active }).vessels
        book := s.rejudgedBook i (if s.fits (s.vessel i) then .waiting else .blocked .oversize) } := by
  let t := s.setVessel i { s.vessel i with state := .active }
  have vessel : t.vessel i = { s.vessel i with state := .active } := (s.setVessel_vessel i _ i).trans (by simp [slot])
  have state : t.orderState (t.vessel i) = if s.fits (s.vessel i) then .waiting else .blocked .oversize := by
    rw [State.orderState_active (by rw [vessel]) t, vessel]
    rfl
  have book : t.rejudgedBook i _ = s.rejudgedBook i (if s.fits (s.vessel i) then .waiting else .blocked .oversize) :=
    State.rejudgedBook_congr (s := s) (t := t) (congrArg (·.order) vessel) rfl _
  show t.rejudge i = _
  rw [State.rejudge_eq state (.inr none), book]
  rfl

/-- R89: without an order, nothing but the vessel's state follows. -/
theorem State.activate_of_no_order {s : State} {i : Nat} (slot : i < 128) (order : (s.vessel i).order = none) :
    s.activate i = s.setVessel i { s.vessel i with state := .active } := by
  have same : ((s.setVessel i { s.vessel i with state := .active }).vessel i).order = none := by simp [slot, order]
  rw [State.activate, State.rejudge, same]
  rfl

/-- R87: HOLD of a vessel in state `x`. -/
theorem judgeHold_eq {s : State} {i : Nat} {x : VesselState} (st : Station) :
    i < 128 → (s.vessel i).state = x → x ≠ .free → judgeHold st i s = match x with
      | .active => (s.holdVessel i .station).done .ok
      | .held .ceiling => (s.setVessel i { s.vessel i with state := .held .station }, some (.ok, []))
      | _ => s.report [] := by
  rintro slot rfl known
  exact (State.judged_any ..).trans (State.withVessel_known slot known _)

/-- R88: RELEASE of a vessel in state `x`. -/
theorem judgeRelease_eq {s : State} {i : Nat} {x : VesselState} (st : Station) :
    i < 128 → (s.vessel i).state = x → x ≠ .free → judgeRelease st i s = match x with
      | .held .station =>
        if (s.vessel i).overCeiling then
          (s.setVessel i { s.vessel i with state := .held .ceiling }, some (.ok, [.byte HoldCause.ceiling.code]))
        else (s.activate i).done .ok
      | .held .ceiling => s.refuse .state [.byte HoldCause.ceiling.code]
      | _ => s.report [] := by
  rintro slot rfl known
  exact (State.judged_any ..).trans (State.withVessel_known slot known _)

theorem exec_hold_active {s : State} {st : Station} {i : Nat} (takes : s.takes st) (slot : i < 128) (calm : s.Calm)
    (active : (s.vessel i).state = .active) :
    exec (.hold st i) s = .next (((s.validFrame st).holdVessel i .station).derive.answered st 0x14 .ok []) := by
  have core : (((s.validFrame st).holdVessel i .station).station st).core = ((s.validFrame st).station st).core := by
    rw [State.holdVessel_eq slot]
    exact (congrArg StationRec.core (State.raiseAll_station ..)).trans (StationRec.raise_core ..)
  refine State.exchange_done (t := (s.validFrame st).holdVessel i .station) takes ?_ ?_ core ?_ ?_
  · exact judgeHold_eq (s := s.validFrame st) st slot active nofun
  · rw [State.holdVessel_eq slot]
    exact ⟨calm.1, (State.rejudgedBook_deferred ..).trans calm.2⟩
  · rw [State.holdVessel_eq slot]
    rfl
  · rw [State.holdVessel_eq slot]
    rfl

theorem State.setVessel_setVessel (s : State) (i : Nat) (v w : Vessel) : (s.setVessel i v).setVessel i w = s.setVessel i w := by
  simp [State.setVessel]

theorem State.setVessel_self (s : State) (i : Nat) : s.setVessel i (s.vessel i) = s := by
  have same : s.vessels.setIfInBounds i (s.vessel i) = s.vessels := by
    refine Vector.ext fun j inside => ?_
    by_cases h : i = j
    · subst h
      simp [State.vessel, inside]
    · simp [h]
  show ({ s with vessels := s.vessels.setIfInBounds i (s.vessel i) } : State) = s
  rw [same]

/-- R89: a vessel below its ceiling is not held for it; without an order nothing else follows. -/
theorem State.reevaluate_under {s : State} {i : Nat} (slot : i < 128) (order : (s.vessel i).order = none)
    (state : (s.vessel i).state = .active ∨ (s.vessel i).state = .held .ceiling) (under : (s.vessel i).overCeiling = false) :
    s.reevaluate i = s.setVessel i { s.vessel i with state := .active } := by
  unfold State.reevaluate
  dsimp only
  rcases state with active | held
  · have self : { s.vessel i with state := .active } = s.vessel i := by rw [← active]
    rw [active, self, State.setVessel_self]
    simp [under]
  · rw [held]
    simp [under, State.activate_of_no_order slot order]

/-- Settles O46: an ACTIVE vessel's hold and a release re-judge its order, without a formation; the other states are left alone or
change their cause. -/
theorem holdsBlockAndReleasesReturn : Obligations.HoldsBlockAndReleasesReturn := by
  refine ⟨fun s st i takes slot calm => ?known, fun s st i takes beyond => ⟨?range, ?range'⟩⟩
  case range | range' =>
    exact State.exchange_report takes ((State.judged_any ..).trans (State.withVessel_beyond _ beyond _))
  intro v rejudged
  refine ⟨fun active => ?hold, fun held under unavailable => ?release,
    fun held set reached => ?kept, fun a tc le state order under => ?settled, fun a other =>
      State.exchange_notPermitted takes other fun _ => rfl, fun held => ⟨?station, ?ceiling⟩, fun held => ?again,
    fun active => ?released, fun free => ⟨?noVessel, ?noVessel'⟩⟩
  case hold =>
    obtain ⟨t, held⟩ : ∃ t, (s.validFrame st).holdVessel i .station = t := ⟨_, rfl⟩
    have ends := held ▸ exec_hold_active takes slot calm active
    have eq := held.symm.trans (State.holdVessel_eq slot .station)
    have station (x : Station) : t.station x = ((s.validFrame st).station x).raise s.now .vesselHeld := by
      rw [eq]
      exact State.raiseAll_station ..
    have vessel (j : Nat) : t.vessel j = if j = i ∧ i < 128 then { v with state := .held .station } else s.vessel j := by
      rw [eq]
      exact State.setVessel_vessel ..
    refine ⟨_, ends, ?_, fun x => ⟨?_, ?_⟩, ?_, fun j other => ?_, ?_⟩
    · show t.derive.answered st 0x14 .ok [] = _
      rw [eq]
      rfl
    · exact State.answered_core (by rw [eq]; rfl) (by rw [eq]; rfl)
        (fun x => (congrArg StationRec.core (station x)).trans (StationRec.raise_core ..)) x
    · rw [State.answered_notices, State.derive_station, station]
      exact StationRec.mem_notices_raise.mpr (.inl rfl)
    · exact (vessel i).trans (by simp [slot])
    · exact (vessel j).trans (by simp [other])
    · show t.book = _
      rw [eq]
      rfl
  case release =>
    have under' : v.overCeiling = false := by
      rw [← Bool.not_eq_true, v.overCeiling_iff]
      omega
    let t : State :=
      { s with
        vessels := (s.setVessel i { s.vessel i with state := .active }).vessels
        book := s.rejudgedBook i (if s.fits (s.vessel i) then .waiting else .blocked .oversize) }
    have judged : judgeRelease st i (s.validFrame st) = (t.validFrame st).done .ok := by
      have activated : (s.validFrame st).activate i = t.validFrame st :=
        State.activate_eq (s := s.validFrame st) slot unavailable
      have below : ¬((s.validFrame st).vessel i).overCeiling = true := fun h => Bool.noConfusion (under'.symm.trans h)
      exact (judgeRelease_eq (s := s.validFrame st) st slot held nofun).trans
        ((if_neg below).trans (congrArg (State.done · ReplyOutcome.ok) activated))
    have calm' : t.Calm := ⟨calm.1, (State.rejudgedBook_deferred ..).trans calm.2⟩
    have vessel (j : Nat) : t.vessel j = if j = i ∧ i < 128 then { v with state := .active } else s.vessel j :=
      State.setVessel_vessel ..
    exact ⟨_, State.exchange_done_same takes judged calm' takes.2, rfl, (vessel i).trans (by simp [slot]),
      fun j other => (vessel j).trans (by simp [other]), rfl⟩
  case settled =>
    subst tc
    let w := { v with
      state := .active
      total := v.total - a
      saturated := v.saturated && decide (4000000000 ≤ v.total - a) }
    let t : State := s.setVessel i w
    have vessel (j : Nat) : t.vessel j = if j = i ∧ i < 128 then w else s.vessel j := State.setVessel_vessel ..
    have judged : judgeSettle .tc i a (s.validFrame .tc) =
        (t.validFrame .tc).done (if v.total < a then .limited else .ok) [.word (v.total - a), .byte 1] := by
      let u := s.validFrame .tc
      have known : ¬(u.vessel i).state = .free := by rcases state with h | h <;> exact fun free => by cases h.symm.trans free
      have settled : (u.setVessel i (v.settle a)).reevaluate i = t.validFrame .tc := by
        have vessel' : (u.setVessel i (v.settle a)).vessel i = v.settle a := by simp [slot]
        have below : (v.settle a).overCeiling = false := by
          rw [← Bool.not_eq_true, Vessel.overCeiling_iff]
          show ¬(v.ceiling ≠ 0 ∧ v.ceiling ≤ v.total - a)
          omega
        rw [State.reevaluate_under slot (by rw [vessel']; exact order) (by rw [vessel']; exact state) (by rw [vessel', below]),
          State.setVessel_setVessel, vessel']
        rfl
      have account : ((t.validFrame .tc).vessel i) = w := (vessel i).trans (by simp [slot])
      refine (if_neg (not_le.mpr slot)).trans ((if_neg (not_lt.mpr le)).trans ((if_neg known).trans ?_))
      show State.done ((u.setVessel i (v.settle a)).reevaluate i) _ [.word (((u.setVessel i (v.settle a)).reevaluate i).vessel i).total,
        .byte (((u.setVessel i (v.settle a)).reevaluate i).vessel i).state.code] = _
      rw [settled, account]
      rfl
    exact ⟨_, State.exchange_done_same (t := t) takes judged calm takes.2, rfl, (vessel i).trans (if_pos ⟨rfl, slot⟩),
      fun j other => (vessel j).trans (by simp [other])⟩
  case kept =>
    have above : v.overCeiling = true := (Vessel.overCeiling_iff _).mpr ⟨set, reached⟩
    exact State.exchange_validFrame takes takes.2
      ((judgeRelease_eq (s := s.validFrame st) st slot held nofun).trans (if_pos above))
  case station => exact State.exchange_validFrame takes takes.2 (judgeHold_eq (s := s.validFrame st) st slot held nofun)
  case ceiling => exact State.exchange_report takes (judgeRelease_eq (s := s.validFrame st) st slot held nofun)
  case again => exact State.exchange_report takes (judgeHold_eq (s := s.validFrame st) st slot held nofun)
  case released => exact State.exchange_report takes (judgeRelease_eq (s := s.validFrame st) st slot active nofun)
  case noVessel | noVessel' =>
    exact State.exchange_report takes ((State.judged_any ..).trans (State.withVessel_free (s := s.validFrame st) slot free _))

end Sys2Proof.Machine
end

section
/-! SUPPORT. Writes of one field (R80, R81, R130, R184, R185): at a record or through the window, they are judged the same way. -/
namespace Sys2Proof.Machine

/-! ## One value -/

@[simp] theorem fieldRun_self (n : Nat) : fieldRun n n = [n] := by simp [fieldRun]

/-- R184: the value list of one field is as long as the field. -/
theorem valuesFor_single (c : Collection) (i n : Nat) (data : List Byte) :
    valuesFor c i [n] data = if data.length = c.width i n then some [(n, data)] else none := by
  have whole (h : c.width i n ≤ data.length) : cut [c.width i n] data =
      if data.drop (c.width i n) = [] then some [data.take (c.width i n)] else none := by
    show (if _ then _ else _) = _
    rw [if_pos h]
    cases data.drop (c.width i n) <;> rfl
  show (cut [c.width i n] data).map (List.zip [n]) = _
  by_cases h : c.width i n ≤ data.length
  · rw [whole h]
    by_cases same : data.length = c.width i n
    · rw [if_pos (by simp [same]), if_pos same, ← same, List.take_length]
      rfl
    · rw [if_neg (by simp; omega), if_neg same]
      rfl
  · rw [if_neg (by omega)]
    show Option.map _ (if _ then _ else _) = _
    rw [if_neg h]
    rfl

/-! ## The two ways to write one field -/

/-- Where the sender's window stands after the write: unchanged, or moved. -/
def State.movedTo (s : State) (st : Station) : Option Window → State
  | none => s
  | some w => s.setWindowOf st w

/-- One field of a record written, at the record or through the window: how the write is judged, and where it leaves the window. -/
structure WritesField (s : State) (st : Station) (col : Collection) (i n : Nat) (data : List Byte) (c : Instr) (code : Nat)
    (w : Option Window) : Prop where
  judged : ∃ judge, exec c s = s.exchange st code judge ∧ judge (s.validFrame st) =
    (s.validFrame st).judged st col.writers fun u => Written.judged (u.writeRecord col i [(n, data)]) fun t => t.movedTo st w

theorem badSelection_single {c i n : Nat} {col : Collection} (named : collectionOf c = some col) (index : i ≤ col.lastIndex)
    (first : 1 ≤ n) (count : n ≤ col.fieldCount i) : badSelection c i n n = none :=
  badSelection_eq_none named index first le_rfl count

theorem names_single {col : Collection} {i n : Nat} (first : 1 ≤ n) (count : n ≤ col.fieldCount i) : col.names i n n = true := by
  simp [Collection.names, Nat.pos_of_ne_zero (Nat.one_le_iff_ne_zero.mp first), count]

theorem writesField_at (s : State) (st : Station) {c i n : Nat} {col : Collection} {data : List Byte}
    (named : collectionOf c = some col) (index : i ≤ col.lastIndex) (first : 1 ≤ n) (count : n ≤ col.fieldCount i)
    (length : data.length = col.width i n) : WritesField s st col i n data (.writeAt st c i n n data) 0x05 none := by
  have values : valuesFor col i [n] data = some [(n, data)] := by rw [valuesFor_single, if_pos length]
  refine ⟨_, rfl, ?_⟩
  have fits : wrongLength col i n n data = false := by simp [wrongLength, values]
  unfold judgeWriteAt
  simp only [named, fits, badSelection_single named index first count, fieldRun_self, values]
  rfl

/-- R180: a value list of the wrong length. -/
theorem exec_writeAt_format {s : State} {st : Station} {c i n : Nat} {col : Collection} {data : List Byte} (takes : s.takes st)
    (named : collectionOf c = some col) (first : 1 ≤ n) (count : n ≤ col.fieldCount i)
    (length : data.length ≠ col.width i n) : exec (.writeAt st c i n n data) s = .next (s.answered st 0x05 .format []) := by
  refine State.exchange_report takes ?_
  have wrong : wrongLength col i n n data = true := by
    simp [wrongLength, names_single first count, valuesFor_single, length]
  unfold judgeWriteAt
  simp only [named, wrong]
  rfl

theorem writesField_next (s : State) {st : Station} {w : Window} {n : Nat} {data : List Byte} (window : (s.station st).window = w)
    (counter : w.counter = n) (left : n < w.last) (count : w.last ≤ w.collection.fieldCount w.cursor) (first : 1 ≤ n)
    (length : data.length = w.collection.width w.cursor n) :
    WritesField s st w.collection w.cursor n data (.writeNext st (some 1) data) 0x03 (some { w with counter := n + 1 }) := by
  subst counter
  have same : (s.validFrame st).window st = w := by simpa [State.window] using window
  have stop : w.stop = w.last := min_eq_left count
  have run : w.run (some 1) = [w.counter] := by
    have one : 1 ≤ w.stop + 1 - w.counter := by omega
    simp [Window.run, take_fieldRun one]
  have after : w.after [w.counter].length = { w with counter := w.counter + 1 } := if_neg (by rw [stop]; simpa using left)
  have good : w.badCount (some 1) = false := by
    have := Nat.lt_of_lt_of_le left count
    simp [Window.badCount]
    omega
  have values : valuesFor w.collection w.cursor [w.counter] data = some [(w.counter, data)] := by
    rw [valuesFor_single, if_pos length]
  refine ⟨_, rfl, ?_⟩
  unfold judgeWriteNext
  simp only [same, run, values, good, after]
  rfl

/-! ## What a write of one field comes to -/

@[simp] theorem State.movedTo_notices (s : State) (st : Station) (w : Option Window) (x : Station) :
    ((s.movedTo st w).station x).notices = (s.station x).notices := by
  cases w with
  | none => rfl
  | some w =>
    rw [State.movedTo, State.setWindowOf, State.setStation_station]
    split
    · next same => rw [same]
    · rfl

theorem State.movedTo_station_other (s : State) {st x : Station} (other : x ≠ st) (w : Option Window) :
    (s.movedTo st w).station x = s.station x := by
  cases w with
  | none => rfl
  | some w => exact (State.setStation_station ..).trans (if_neg other)

/-- A request that is answered, its judgement leaving the core of its sender's record as the frame would leave that of `u`. -/
theorem State.exchange_answered_from {s u t : State} {st : Station} {code : Nat} {judge : State → Judged} {o : ReplyOutcome}
    {l : List WireField} (takes : s.takes st) (judged : judge (s.validFrame st) = (t, some (o, l)))
    (core : (t.station st).core = ((u.validFrame st).station st).core) (idle : (u.station st).service = .idle)
    (now : t.now = u.now) (limit : t.settings.silenceLimit = u.settings.silenceLimit) :
    s.exchange st code judge = .next (t.answered st code o l) := by
  rw [State.exchange_takes takes judged]
  have link : (t.station st).link = .present := by simpa [StationRec.core] using congrArg StationRec.link core
  have silence : (t.station st).silence = some (u.now + seconds u.settings.silenceLimit) := by
    simpa [StationRec.core] using congrArg StationRec.silence core
  have service : (t.station st).service = .idle := by simpa [StationRec.core, idle] using congrArg StationRec.service core
  have receiver : (t.station st).receiver = .hunting := by simpa [StationRec.core] using congrArg StationRec.receiver core
  rw [State.answered, now, limit, ← link, ← silence, ← service, ← receiver]

theorem State.movedTo_validFrame (s : State) (st : Station) (w : Option Window) :
    (s.validFrame st).movedTo st w = (s.movedTo st w).validFrame st := by
  cases w with
  | none => rfl
  | some w => simp [State.movedTo, State.setWindowOf, State.validFrame_eq, StationRec.heard]

theorem State.derive_validFrame (s : State) (st : Station) : (s.validFrame st).derive = s.derive.validFrame st := rfl

theorem State.answered_validFrame (s : State) (st : Station) (code : Nat) (o : ReplyOutcome) (l : List WireField) :
    (s.validFrame st).answered st code o l = s.answered st code o l := by
  simp [State.answered, State.validFrame_eq, StationRec.heard]

theorem StationRec.core_window {x y : StationRec} (core : x.core = y.core) (w : Window) :
    ({ x with window := w } : StationRec).core = ({ y with window := w } : StationRec).core :=
  congrArg (fun r : StationRec => { r with window := w }) core

/-- The window a write leaves does not meet the rest of its sender's record. -/
theorem State.movedTo_core {s t : State} {st : Station} {w : Option Window}
    (core : (t.station st).core = ((s.validFrame st).station st).core) :
    ((t.movedTo st w).station st).core = (((s.movedTo st w).validFrame st).station st).core := by
  cases w with
  | none => exact core
  | some w =>
    simpa [State.movedTo, State.setWindowOf, StationRec.core] using StationRec.core_window core w

section
variable {s : State} {st : Station} {col : Collection} {i n : Nat} {data : List Byte} {c : Instr} {code : Nat} {w : Option Window}

/-- R167: the tables and the settings are written by the traffic centre alone. -/
theorem WritesField.notPermitted (h : WritesField s st col i n data c code w) (takes : s.takes st) (writers : col.writers = .tc)
    (other : st ≠ .tc) : exec c s = .next (s.answered st code .notPermitted []) := by
  obtain ⟨judge, run, judged⟩ := h.judged
  rw [run]
  exact State.exchange_report takes (judged.trans (writers ▸ State.judged_tc other _))

/-- A refused write changes nothing. -/
theorem WritesField.refused (h : WritesField s st col i n data c code w) (takes : s.takes st)
    (permitted : ∀ own, (s.validFrame st).judged st col.writers own = own (s.validFrame st)) {o : ReplyOutcome} {l : List WireField}
    (written : (s.validFrame st).writeRecord col i [(n, data)] = (s.validFrame st, o, l)) (refusal : o.accepted = false) :
    exec c s = .next (s.answered st code o l) := by
  obtain ⟨judge, run, judged⟩ := h.judged
  rw [run]
  refine State.exchange_report takes (judged.trans ((permitted _).trans ?_))
  rw [written, Written.judged]
  simp [refusal]

/-- A write taken whose consequences are the signals alone. -/
theorem WritesField.accepted (h : WritesField s st col i n data c code w) (takes : s.takes st)
    (permitted : ∀ own, (s.validFrame st).judged st col.writers own = own (s.validFrame st)) {t : State} {o : ReplyOutcome}
    {l : List WireField} (written : (s.validFrame st).writeRecord col i [(n, data)] = (t, o, l)) (taken : o.accepted = true)
    (calm : t.Calm) (core : (t.station st).core = ((s.validFrame st).station st).core) (now : t.now = s.now)
    (limit : t.settings.silenceLimit = s.settings.silenceLimit) :
    exec c s = .next ((t.movedTo st w).derive.answered st code o l) := by
  obtain ⟨judge, run, judged⟩ := h.judged
  have result : judge (s.validFrame st) = ((t.movedTo st w).derive, some (o, l)) := by
    rw [judged, permitted, written, Written.judged]
    simp only [taken, if_true]
    cases w <;> rw [State.finish_calm] <;> exact calm
  have idle : ((s.movedTo st w).station st).service = .idle := by cases w <;> simp [State.movedTo, State.setWindowOf, takes.2]
  rw [run]
  refine State.exchange_answered_from (u := s.movedTo st w) takes result (State.movedTo_core core) idle ?_ ?_
  · cases w <;> exact now
  · cases w <;> exact limit

/-- The window a write leaves does not meet the rest of any station's record. -/
theorem State.movedTo_cores {t : State} (cores : ∀ x, (t.station x).core = ((s.validFrame st).station x).core) (x : Station) :
    ((t.movedTo st w).station x).core = (((s.movedTo st w).validFrame st).station x).core := by
  by_cases same : x = st
  · subst same
    exact State.movedTo_core (cores x)
  · have core := cores x
    rw [State.validFrame_station, if_neg same] at core
    rw [State.validFrame_station, if_neg same, State.movedTo_station_other t same, State.movedTo_station_other s same, core]

end

end Sys2Proof.Machine
end

section
/-! SUPPORT. What a write of one field does: the STANDBY table's clamped values (R130), three settings (R187), and the vessel register's
checks, ceiling hold and order (R79 to R81, R89). -/
namespace Sys2Proof.Machine

/-! ## The STANDBY table -/

theorem Tariff.get_set (t : Tariff) {n m : Nat} (hn : 1 ≤ n ∧ n ≤ 13) (hm : 1 ≤ m ∧ m ≤ 13) (x : Nat) :
    (t.set n x).get m = if m = n then x else t.get m := by
  obtain ⟨low, high⟩ := hn
  obtain ⟨low', high'⟩ := hm
  interval_cases n <;> interval_cases m <;> rfl

theorem tariffLimit_eq {n : Nat} (first : 1 ≤ n) (last : n ≤ 13) :
    tariffLimit n = if n ≤ 6 then 1000000 else if n = 7 then 5000 else if n = 8 ∨ n = 10 then 100 else if n = 9 then 10000
      else if n = 11 then 200 else 1439 := by
  interval_cases n <;> rfl

theorem broughtIn_single (p : Nat × List Byte) (bad : Nat × List Byte → Bool) :
    broughtIn ([p].any bad) = if bad p = true then .limited else .ok := by
  simp [broughtIn]

/-- What a write of one STANDBY field comes to. -/
theorem WritesField.standby {s : State} {i n : Nat} {data : List Byte} {c : Instr} {code : Nat} {w : Option Window}
    (h : WritesField s .tc .tariffStandby i n data c code w) (takes : s.takes .tc) (calm : s.Calm) :
    exec c s = .next (({ s.movedTo .tc w with
        standby := s.standby.set n (min (tariffLimit n) (bytesNat data)) } : State).derive.answered .tc code
      (if tariffLimit n < bytesNat data then .limited else .ok) []) := by
  let new := s.standby.set n (min (tariffLimit n) (bytesNat data))
  let t : State := { s.validFrame .tc with standby := new }
  have moved : t.movedTo .tc w = ({ s.movedTo .tc w with standby := new } : State).validFrame .tc := by
    show _ = { (s.movedTo .tc w).validFrame .tc with standby := new }
    rw [← State.movedTo_validFrame]
    cases w <;> rfl
  have written : (s.validFrame .tc).writeRecord .tariffStandby i [(n, data)] =
      (t, if tariffLimit n < bytesNat data then .limited else .ok, []) := by
    show (_, broughtIn _, _) = _
    rw [broughtIn_single]
    simp only [decide_eq_true_eq]
    rfl
  have run := h.accepted takes (fun _ => rfl) written (by split <;> rfl) calm rfl rfl rfl
  rw [run, moved, State.derive_validFrame, State.answered_validFrame]

/-! ## The vessel register -/

/-- R89: a vessel once its ceiling hold is evaluated again. -/
def Vessel.reheld (v : Vessel) : Vessel :=
  { v with
    state := match v.state with
      | .active => if v.overCeiling then .held .ceiling else .active
      | .held .ceiling => if v.overCeiling then .held .ceiling else .active
      | y => y }

theorem find_changeIn (n : Nat) (f : Order → Order) (same : ∀ o, (f o).number = o.number) (l : List Order) :
    (changeIn n f l).find? (fun o => decide (o.number = n)) = (l.find? fun o => decide (o.number = n)).map f := by
  induction l with
  | nil => rfl
  | cons o l ih =>
    by_cases h : o.number = n
    · simp [changeIn, h, same]
    · simpa [changeIn, h] using ih

theorem State.find_changeOrder (s : State) (n : Nat) (f : Order → Order) (same : ∀ o, (f o).number = o.number) :
    (s.changeOrder n f).book.find n = (s.book.find n).map f := by
  have lists : (s.changeOrder n f).book.orders = changeIn n f s.book.orders := List.map_append.symm
  rw [Book.find, lists, find_changeIn n f same]
  rfl

theorem State.changeOrder_changeOrder (s : State) (n : Nat) (f g : Order → Order) (same : ∀ o, (f o).number = o.number) :
    (s.changeOrder n f).changeOrder n g = s.changeOrder n (g ∘ f) := by
  have lists (l : List Order) : changeIn n g (changeIn n f l) = changeIn n (g ∘ f) l := by
    simp only [changeIn, List.map_map]
    refine List.map_congr_left fun o _ => ?_
    by_cases h : o.number = n <;> simp [h, same]
  simp only [State.changeOrder, Book.mapLists, lists]

/-- R90: a book in which a vessel's order was judged again is left as it is by judging it again the same way. -/
theorem State.rejudgedBook_again {s t : State} {i : Nat} {x : OrderState} (free : x.isBound = false)
    (order : (t.vessel i).order = (s.vessel i).order) (book : t.book = s.rejudgedBook i x) : t.rejudgedBook i x = t.book := by
  unfold State.rejudgedBook
  rw [order]
  cases held : (s.vessel i).order with
  | none => rfl
  | some n =>
    cases found : s.book.find n with
    | none =>
      have same : t.book = s.book := by simpa [State.rejudgedBook, held, found] using book
      simp [same, found]
    | some o =>
      obtain rfl : o.number = n := by simpa using List.find?_some found
      by_cases bound : o.state.isBound = true
      · have same : t.book = s.book := by simpa [State.rejudgedBook, held, found, bound] using book
        simp [same, found, bound]
      · let f : Order → Order := fun y => { y with state := x }
        have changed : t.book = (s.changeOrder o.number f).book := by
          simpa [State.rejudgedBook, held, found, bound] using book
        have again : t.book.find o.number = some (f o) := by
          rw [changed, s.find_changeOrder o.number f fun _ => rfl, found]
          rfl
        have twice : (t.changeOrder o.number f).book = ((s.changeOrder o.number f).changeOrder o.number f).book :=
          congrArg (fun b : Book => b.mapLists (changeIn o.number f)) changed
        rw [s.changeOrder_changeOrder o.number f f fun _ => rfl] at twice
        simp only [Option.bind_some, again]
        exact (if_neg (by simp [f, free])).trans (twice.trans changed.symm)

theorem State.rejudgedBook_batches (s : State) (i : Nat) (x : OrderState) :
    (s.rejudgedBook i x).batches = s.book.batches := by
  unfold State.rejudgedBook
  (repeat' split) <;> rfl

theorem State.available_congr {s t : State} (chambers : t.chambers = s.chambers) (batches : t.book.batches = s.book.batches)
    (k : Chamber) : t.available k = s.available k := by
  unfold State.available State.chamber State.batch
  rw [chambers, batches]

theorem State.orderState_isBound (s : State) (v : Vessel) : (s.orderState v).isBound = false := by
  unfold State.orderState
  (repeat' split) <;> rfl

/-- R89: the evaluation of a vessel's ceiling hold, where no chamber is available. -/
theorem State.reevaluate_eq {s : State} {i : Nat} (slot : i < 128) (none : ∀ k, s.available k = false) :
    s.reevaluate i =
      { s with
        vessels := (s.setVessel i (s.vessel i).reheld).vessels
        book := if (s.vessel i).reheld.state = (s.vessel i).state then s.book
          else s.rejudgedBook i (s.orderState (s.vessel i).reheld)
        stations := if (s.vessel i).state = .active ∧ (s.vessel i).overCeiling = true then (s.raiseAll .vesselHeld).stations
          else s.stations } := by
  have self {v : Vessel} (h : v = s.vessel i) : (s.setVessel i v).vessels = s.vessels := by rw [h, State.setVessel_self]
  unfold State.reevaluate
  dsimp only
  split
  · next active =>
    split
    · next above =>
      have reheld : (s.vessel i).reheld = { s.vessel i with state := .held .ceiling } := by
        simp [Vessel.reheld, active, above]
      rw [State.holdVessel_eq slot, reheld]
      simp [active, above, State.orderState]
    · next below =>
      have reheld : (s.vessel i).reheld = s.vessel i := by
        simp only [Vessel.reheld, active, below]
        rw [if_neg (by simp), ← active]
      rw [reheld, self rfl, if_pos rfl, if_neg (by simp [below])]
  · next held =>
    split
    · next above =>
      have reheld : (s.vessel i).reheld = s.vessel i := by
        simp only [Vessel.reheld, held, above, if_true]
        rw [← held]
      rw [reheld, self rfl, if_pos rfl, if_neg (by simp [held])]
    · next below =>
      have reheld : (s.vessel i).reheld = { s.vessel i with state := .active } := by
        simp [Vessel.reheld, held, below]
      rw [State.activate_eq slot none, reheld]
      simp [held, State.orderState, State.fits]
  · next inactive station =>
    have reheld : (s.vessel i).reheld = s.vessel i := by
      unfold Vessel.reheld
      split
      · next h => exact absurd h inactive
      · next h => exact absurd h station
      · rfl
    rw [reheld, self rfl, if_pos rfl, if_neg fun h => absurd h.1 inactive]

/-- R81: what the register does once a write has replaced fields of `old`, where no chamber is available. -/
theorem State.vesselWritten_eq {s : State} {i : Nat} {old : Vessel} (slot : i < 128) (none : ∀ k, s.available k = false) :
    s.vesselWritten i old =
      { s with
        vessels := (s.setVessel i (s.vessel i).reheld).vessels
        book :=
          if (s.vessel i).reheld.state = (s.vessel i).state ∧ (s.vessel i).length = old.length ∧ (s.vessel i).beam = old.beam
          then s.book
          else s.rejudgedBook i (s.orderState (s.vessel i).reheld)
        stations := if (s.vessel i).state = .active ∧ (s.vessel i).overCeiling = true then (s.raiseAll .vesselHeld).stations
          else s.stations } := by
  let t := s.reevaluate i
  have eq : t = _ := State.reevaluate_eq slot none
  have vessel : t.vessel i = (s.vessel i).reheld := by
    rw [eq]
    exact (s.setVessel_vessel i _ i).trans (if_pos ⟨rfl, slot⟩)
  have book : t.book = if (s.vessel i).reheld.state = (s.vessel i).state then s.book
      else s.rejudgedBook i (s.orderState (s.vessel i).reheld) := by rw [eq]
  have unavailable (k : Chamber) : t.available k = false := by
    refine (State.available_congr (s := s) (by rw [eq]) ?_ k).trans (none k)
    rw [book]
    split
    · rfl
    · exact s.rejudgedBook_batches ..
  have state : t.orderState (t.vessel i) = s.orderState (s.vessel i).reheld := by
    rw [vessel, eq]
    rfl
  have judged : t.rejudgedBook i (s.orderState (s.vessel i).reheld) = s.rejudgedBook i (s.orderState (s.vessel i).reheld) := by
    have order : (t.vessel i).order = (s.vessel i).order := congrArg (·.order) vessel
    split at book
    · exact State.rejudgedBook_congr order book _
    · exact (State.rejudgedBook_again (s.orderState_isBound _) order book).trans book
  show ite ((t.vessel i).length = old.length ∧ (t.vessel i).beam = old.beam) t (t.rejudge i) = _
  rw [vessel]
  by_cases measures : (s.vessel i).length = old.length ∧ (s.vessel i).beam = old.beam
  · refine (if_pos measures).trans (eq.trans ?_)
    simp only [measures, and_self, and_true]
  · refine (if_neg measures).trans ?_
    rw [if_neg fun h => measures h.2, State.rejudge_eq state (.inr unavailable), judged, eq]

/-! ## What a write of one vessel field comes to -/

/-- R79: a value given for a station field is in its range. -/
def goodVesselValue (n : Nat) (data : List Byte) : Prop :=
  if n = 3 then markOk data = true else (fieldRange n).1 ≤ bytesNat data ∧ bytesNat data ≤ (fieldRange n).2

theorem badVesselValue_iff {n : Nat} (first : 3 ≤ n) (last : n ≤ 10) (data : List Byte) :
    badVesselValue (n, data) = true ↔ ¬goodVesselValue n data := by
  by_cases mark : n = 3
  · simp [badVesselValue, goodVesselValue, mark]
  · have numeric : 4 ≤ n ∧ n ≤ 10 := by omega
    simp only [badVesselValue, goodVesselValue, mark, if_false, fieldOk, numeric, and_self, decide_true, Bool.true_and,
      Bool.not_eq_true', ← Bool.decide_and, decide_eq_false_iff_not]

theorem State.markClash_single (s : State) (i n : Nat) (data : List Byte) :
    s.markClash i [(n, data)] = if n = 3 then s.markHolder data (some i) else none := by
  by_cases mark : n = 3
  · subst mark
    rfl
  · simp [State.markClash, mark]

section
variable {s : State} {i n : Nat} {data : List Byte}

theorem writeVessel_free (free : (s.vessel i).state = .free) : s.writeVessel i [(n, data)] = (s, .state, []) := if_pos free

theorem writeVessel_range (first : 3 ≤ n) (last : n ≤ 10) (known : (s.vessel i).state ≠ .free)
    (bad : ¬goodVesselValue n data) : s.writeVessel i [(n, data)] = (s, .range, [.half n]) := by
  have found : [(n, data)].find? badVesselValue = some (n, data) :=
    List.find?_cons_of_pos ((badVesselValue_iff first last data).mpr bad)
  rw [State.writeVessel, if_neg known, found]

theorem writeVessel_good (first : 3 ≤ n) (last : n ≤ 10) (known : (s.vessel i).state ≠ .free) (good : goodVesselValue n data) :
    s.writeVessel i [(n, data)] =
      match (if n = 3 then s.markHolder data (some i) else none) with
      | some j => (s, .duplicate, [.half j])
      | none => ((s.setVessel i ((s.vessel i).put (n, data))).vesselWritten i (s.vessel i), .ok, []) := by
  have found : [(n, data)].find? badVesselValue = none := by
    rw [List.find?_cons_of_neg (fun bad => (badVesselValue_iff first last data).mp bad good)]
    rfl
  rw [State.writeVessel, if_neg known, found, s.markClash_single]
  rfl

end

end Sys2Proof.Machine
end

section
/-! SUPPORT. The writes of STANDBY, of settings and of vessel records (R80, R130, R184, R187), settled. -/
namespace Sys2Proof.Machine

/-! ## Settings whose write has no effect of its own -/

/-- R187: a settings write follows up the fields of R16, R91 and R116 alone. -/
theorem State.settingsWritten_same {s : State} {old : Settings} (settle : s.settings.eqSettle = old.eqSettle)
    (depth : s.settings.avgDepth = old.avgDepth) (enable : s.settings.trimEnable = old.trimEnable)
    (trail : s.settings.trailPeriod = old.trailPeriod) (trim : s.settings.trim = old.trim) (chamber : s.settings.chamber = old.chamber) :
    s.settingsWritten old false = s := by
  have room (k : Chamber) : s.roomChanged old k = false := by simp [State.roomChanged, chamber]
  have gauge (t : State) (same : t.settings = s.settings) (g : Body × GaugeSide) : t.trimChanged old g = t :=
    if_pos (by rw [same, trim])
  simp only [State.settingsWritten, settle, depth, enable, trail, room, Bool.or_self, if_true, Bool.false_eq_true, if_false,
    allGauges, List.foldl_cons, List.foldl_nil, gauge s rfl]

/-- What a write of one setting comes to that has no effect of its own. -/
theorem WritesField.plain_setting {s : State} {i n : Nat} {data : List Byte} {c : Instr} {code : Nat}
    (h : WritesField s .tc .settings i n data c code none) (takes : s.takes .tc) (calm : s.Calm)
    {new : Settings} {bad : Prop} [Decidable bad] (put : putSetting i s.settings (n, data) = new)
    (brought : notAllowed i (n, data) = decide bad) (limit : givesPassLimit i [(n, data)] = false)
    (silence : new.silenceLimit = s.settings.silenceLimit)
    (same : ({ s.validFrame .tc with settings := new } : State).settingsWritten s.settings false =
      { s.validFrame .tc with settings := new }) :
    exec c s = .next (({ s.validFrame .tc with settings := new } : State).derive.answered .tc code
      (if bad then .limited else .ok) []) := by
  refine h.accepted takes (fun _ => rfl) (t := { s.validFrame .tc with settings := new }) (o := if bad then .limited else .ok)
    ?_ ?_ calm rfl rfl silence
  · show (State.settingsWritten { s.validFrame .tc with settings := putSetting i s.settings (n, data) } s.settings
      (givesPassLimit i [(n, data)]), broughtIn _, _) = _
    rw [put, limit, same, broughtIn_single, brought]
    simp only [decide_eq_true_eq]
  · split <;> rfl

/-- R80, R81, R89: what an accepted write of one vessel field comes to, where no chamber is available. -/
theorem WritesField.vessel {s : State} {st : Station} {i n : Nat} {data : List Byte} {c : Instr} {code : Nat} {w : Option Window}
    (h : WritesField s st .vessels i n data c code w) (takes : s.takes st) (slot : i < 128) (first : 3 ≤ n) (last : n ≤ 10)
    (known : (s.vessel i).state ≠ .free) (good : goodVesselValue n data) (calm : s.Calm)
    (unavailable : ∀ k, s.available k = false)
    (unclashed : (if n = 3 then s.markHolder data (some i) else none) = none) :
    ∃ t, exec c s = .next t
      ∧ t = { (s.movedTo st w).answered st code .ok [] with
          vessels := t.vessels, book := t.book, signals := t.signals, stations := t.stations }
      ∧ (∀ y, (t.station y).core = (((s.movedTo st w).answered st code .ok []).station y).core)
      ∧ t.vessel i = ((s.vessel i).put (n, data)).reheld
      ∧ (∀ j, j ≠ i → t.vessel j = s.vessel j)
      ∧ ((s.vessel i).state = .active → ((s.vessel i).put (n, data)).overCeiling = true → ∀ y, .vesselHeld ∈ (t.station y).notices)
      ∧ t.book =
        if ((s.vessel i).put (n, data)).reheld.state = (s.vessel i).state
          ∧ ((s.vessel i).put (n, data)).length = (s.vessel i).length ∧ ((s.vessel i).put (n, data)).beam = (s.vessel i).beam
        then s.book else s.rejudgedBook i (s.orderState ((s.vessel i).put (n, data)).reheld) := by
  obtain ⟨put, putValue⟩ : ∃ put, (s.vessel i).put (n, data) = put := ⟨_, rfl⟩
  rw [putValue]
  have state : put.state = (s.vessel i).state := putValue ▸ Vessel.put_state ..
  have order : put.order = (s.vessel i).order := putValue ▸ Vessel.put_order ..
  let a := (s.validFrame st).setVessel i put
  have vessel : a.vessel i = put := (State.setVessel_vessel ..).trans (if_pos ⟨rfl, slot⟩)
  have result : (s.validFrame st).writeRecord .vessels i [(n, data)] = (a.vesselWritten i (s.vessel i), .ok, []) := by
    refine (writeVessel_good (s := s.validFrame st) first last known good).trans ?_
    show (match (if n = 3 then s.markHolder data (some i) else none) with | some j => _ | none => _) = _
    rw [unclashed]
    show (((s.validFrame st).setVessel i ((s.vessel i).put (n, data))).vesselWritten i (s.vessel i), _, _) = _
    rw [putValue]
  obtain ⟨t, written⟩ : ∃ t, a.vesselWritten i (s.vessel i) = t := ⟨_, rfl⟩
  have eq := written ▸ State.vesselWritten_eq (s := a) (old := s.vessel i) slot unavailable
  rw [vessel, state] at eq
  rw [written] at result
  have book : t.book = if put.reheld.state = (s.vessel i).state ∧ put.length = (s.vessel i).length ∧ put.beam = (s.vessel i).beam
      then s.book else s.rejudgedBook i (s.orderState put.reheld) := by
    have judged : a.rejudgedBook i (s.orderState put.reheld) = s.rejudgedBook i (s.orderState put.reheld) :=
      State.rejudgedBook_congr (s := s) (t := a) (by rw [vessel, order]) rfl _
    rw [← judged, eq]
    rfl
  have vessels (j : Nat) : t.vessel j = if j = i ∧ i < 128 then put.reheld else a.vessel j := by
    rw [eq]
    exact State.setVessel_vessel ..
  have station (x : Station) : t.station x =
      if (s.vessel i).state = .active ∧ put.overCeiling = true then ((s.validFrame st).station x).raise s.now .vesselHeld
      else (s.validFrame st).station x := by
    have stations : t.stations = if (s.vessel i).state = .active ∧ put.overCeiling = true then (a.raiseAll .vesselHeld).stations
        else a.stations := by rw [eq]
    show t.stations.get x = _
    rw [stations]
    split
    · exact State.raiseAll_station ..
    · rfl
  have core (x : Station) : (t.station x).core = ((s.validFrame st).station x).core := by
    rw [station]
    split
    · exact StationRec.raise_core ..
    · rfl
  have deferred : t.book.deferred = s.book.deferred := by
    rw [book]
    split
    · rfl
    · exact State.rejudgedBook_deferred ..
  have run := h.accepted takes (fun _ => rfl) result rfl ⟨by rw [eq]; exact calm.1, deferred.trans calm.2⟩ (core st)
    (by rw [eq]; rfl) (by rw [eq]; rfl)
  obtain ⟨V, B, S, shape⟩ : ∃ V B S, t = { s.validFrame st with vessels := V, book := B, stations := S } := ⟨_, _, _, eq⟩
  refine ⟨_, run, ?_, ?_, ?_, fun j other => ?_, fun active above y => ?_, ?_⟩
  · rw [shape]
    cases w <;> rfl
  · refine State.answered_core (t := (t.movedTo st w).derive) ?_ ?_ (State.movedTo_cores core)
    · rw [shape]
      cases w <;> rfl
    · rw [shape]
      cases w <;> rfl
  · have read : (t.movedTo st w).vessel i = t.vessel i := by cases w <;> rfl
    exact read.trans ((vessels i).trans (if_pos ⟨rfl, slot⟩))
  · have read : (t.movedTo st w).vessel j = t.vessel j := by cases w <;> rfl
    exact read.trans ((vessels j).trans ((if_neg fun h => other h.1).trans ((State.setVessel_vessel ..).trans (if_neg fun h => other h.1))))
  · rw [State.answered_notices, State.derive_station, State.movedTo_notices, station, if_pos ⟨active, above⟩]
    exact StationRec.mem_notices_raise.mpr (.inl rfl)
  · have read : (t.movedTo st w).book = t.book := by cases w <;> rfl
    exact read.trans book

/-- Settles O48: each value given is judged alone, and nothing follows an accepted one but what its own record's rule says. -/
theorem writesAreBroughtIntoRange : Obligations.WritesAreBroughtIntoRange := by
  refine ⟨fun s data takes calm => ?tables, fun s st i n data c code u slot first last length takes unavailable written => ?vessels⟩
  case tables =>
    intro x
    refine ⟨fun n first last => ?standby, fun length => ⟨?band, ?interval⟩, fun length => ?cross⟩
    case standby =>
      intro limit width
      have limited : tariffLimit n = limit := tariffLimit_eq first last
      refine ⟨fun length => ⟨?_, fun w window collection counter left within => ?_⟩, fun length =>
        exec_writeAt_format takes rfl first last length, fun st other takes length => ?_⟩
      · have write := writesField_at s .tc (col := .tariffStandby) (i := 0) (c := 1) rfl le_rfl first last length
        refine ⟨_, write.standby takes calm, ?_, ?_, fun m low high ne => ?_⟩
        · rw [limited]
          rfl
        · exact (Tariff.get_set _ ⟨first, last⟩ ⟨first, last⟩ _).trans ((if_pos rfl).trans (by rw [limited]))
        · exact (Tariff.get_set _ ⟨first, last⟩ ⟨low, high⟩ _).trans (if_neg ne)
      · obtain ⟨_, cursor, move, low, high, counted⟩ := w
        obtain rfl : _ = Collection.tariffStandby := collection
        have write := writesField_next s window counter left within first length
        refine ⟨_, write.standby takes calm, ?_, ?_, fun m low high ne => ?_⟩
        · rw [limited]
          rfl
        · exact (Tariff.get_set _ ⟨first, last⟩ ⟨first, last⟩ _).trans ((if_pos rfl).trans (by rw [limited]))
        · exact (Tariff.get_set _ ⟨first, last⟩ ⟨low, high⟩ _).trans (if_neg ne)
      · have write := writesField_at s st (col := .tariffStandby) (i := 0) (c := 1) rfl le_rfl first last length
        exact write.notPermitted takes rfl other
    case band =>
      have write := writesField_at s .tc (col := .settings) (i := 0) (n := 5) (c := 3) rfl (by decide) (by decide) (by decide) length
      have put : putSetting 0 s.settings (5, data) = { s.settings with eqBand := max 1 (min 15 x) } := rfl
      refine ⟨_, write.plain_setting takes calm (bad := ¬(1 ≤ x ∧ x ≤ 15)) put ?_ rfl rfl (State.settingsWritten_same rfl rfl rfl rfl rfl rfl), ?_⟩
      · show decide (max 1 (min 15 x) ≠ x) = _
        exact decide_eq_decide.mpr (by omega)
      · rw [ite_not]
        rfl
    case interval =>
      have write := writesField_at s .tc (col := .settings) (i := 0) (n := 10) (c := 3) rfl (by decide) (by decide) (by decide) length
      have multiple : x / 50 * 50 = x - x % 50 := by omega
      have put : putSetting 0 s.settings (10, data) = { s.settings with fastInterval := max 100 (min 2000 (x - x % 50)) } := by
        rw [← multiple]
        rfl
      refine ⟨_, write.plain_setting takes calm (bad := ¬(100 ≤ x ∧ x ≤ 2000 ∧ x % 50 = 0)) put ?_ rfl rfl
        (State.settingsWritten_same rfl rfl rfl rfl rfl rfl), ?_⟩
      · show decide (max 100 (min 2000 (x / 50 * 50)) ≠ x) = _
        exact decide_eq_decide.mpr (by omega)
      · rw [ite_not]
        rfl
    case cross =>
      have write := writesField_at s .tc (col := .settings) (i := 0) (n := 2) (c := 3) rfl (by decide) (by decide) (by decide) length
      have put : putSetting 0 s.settings (2, data) = { s.settings with crossPresent := decide (x ≠ 0) } := by
        have yes : decide (min 1 x = 1) = decide (x ≠ 0) := decide_eq_decide.mpr (by omega)
        rw [← yes]
        rfl
      refine ⟨_, write.plain_setting takes calm (bad := ¬x ≤ 1) put ?_ rfl rfl (State.settingsWritten_same rfl rfl rfl rfl rfl rfl), ?_⟩
      · show decide (min 1 x ≠ x) = _
        exact decide_eq_decide.mpr (by omega)
      · rw [ite_not]
        rfl
  case vessels =>
    intro v x range good put atCeiling
    obtain ⟨w, write, moved⟩ : ∃ w, WritesField s st .vessels i n data c code w ∧ s.movedTo st w = u := by
      have width : data.length = Collection.vessels.width i n := by rw [length]; interval_cases n <;> rfl
      rcases written with ⟨rfl, rfl, same⟩ | ⟨w, window, collection, cursor, counter, left, within, rfl, rfl, same⟩
      · exact ⟨none, writesField_at s st (col := .vessels) (c := 0) rfl (Nat.le_of_lt_succ slot) (by omega)
          (by show n ≤ 15; omega) width, same.symm⟩
      · obtain ⟨_, _, move, low, high, counted⟩ := w
        obtain rfl : _ = Collection.vessels := collection
        obtain rfl : _ = i := cursor
        exact ⟨_, writesField_next s window counter left within (by omega) width, same.symm⟩
    have fields : n = 3 ∨ n = 4 ∨ n = 5 ∨ n = 6 ∨ n = 7 ∨ n = 8 ∨ n = 9 ∨ n = 10 := by omega
    have goodValue : good ↔ goodVesselValue n data := by
      rcases fields with rfl | rfl | rfl | rfl | rfl | rfl | rfl | rfl <;> exact Iff.rfl
    have putValue : v.put (n, data) = put := by
      rcases fields with rfl | rfl | rfl | rfl | rfl | rfl | rfl | rfl <;> rfl
    refine ⟨fun free => ?_, fun known bad => ?_, fun known ok j mark inside other holder same least => ?_,
      fun known ok calm noClash => ?_⟩
    · exact write.refused takes (fun _ => rfl) (writeVessel_free (s := s.validFrame st) free) rfl
    · exact write.refused takes (fun _ => rfl)
        (writeVessel_range (s := s.validFrame st) first last known fun g => bad (goodValue.mpr g)) rfl
    · subst mark
      have clash : s.markHolder data (some i) = some j := find?_allSlots_eq_some.mpr
        ⟨by simp [other, Vessel.nonFree, holder, same], inside, fun m before => by
          by_cases self : m = i
          · simp [self]
          · by_cases free : (s.vessel m).state = .free
            · simp [Vessel.nonFree, free]
            · simp [least m before self free]⟩
      refine write.refused takes (fun _ => rfl)
        ((writeVessel_good (s := s.validFrame st) first last known (goodValue.mp ok)).trans ?_) rfl
      show (match s.markHolder data (some i) with | some j => _ | none => _) = _
      rw [clash]
    · have unclashed : (if n = 3 then s.markHolder data (some i) else none) = none := by
        by_cases mark : n = 3
        · rw [if_pos mark, s.markHolder_eq_none_iff]
          exact fun j inside other holder => noClash mark j inside (by simpa using other) ((Vessel.nonFree_iff _).mp holder)
        · exact if_neg mark
      obtain ⟨t, run, frame, core, vessel, others, notices, book⟩ :=
        write.vessel takes slot first last known (goodValue.mp ok) calm unavailable unclashed
      rw [putValue] at vessel notices book
      rw [moved] at frame core
      have state : put.state = v.state := putValue ▸ Vessel.put_state ..
      have ceiling : put.overCeiling = true ↔ atCeiling := put.overCeiling_iff
      have held : put.reheld = { put with
          state := match v.state with
            | .active => if atCeiling then .held .ceiling else .active
            | .held .ceiling => if atCeiling then .held .ceiling else .active
            | y => y } := by
        simp only [Vessel.reheld, state, ceiling] <;> rfl
      refine ⟨t, run, frame, core, vessel.trans held, others, fun active reached => notices active (ceiling.mpr reached), ?_⟩
      rw [book, vessel]
      by_cases same : put.reheld.state = v.state ∧ put.length = v.length ∧ put.beam = v.beam
      · rw [if_pos same]
        show s.book = match (s.vessel i).order.bind s.book.find with | some o => _ | none => _
        cases (s.vessel i).order.bind s.book.find with
        | none => rfl
        | some o => exact (if_pos (.inr same)).symm
      · rw [if_neg same]
        show s.rejudgedBook i _ = match (s.vessel i).order.bind s.book.find with | some o => _ | none => _
        unfold State.rejudgedBook
        cases (s.vessel i).order.bind s.book.find with
        | none => rfl
        | some o =>
          simp only [same, or_false]
          rfl

end Sys2Proof.Machine
end

section
/-! SUPPORT. The journal ring (R151 to R158): the watermark tests, the discarding, the freeing behind the slowest subscriber, and the
frames a read takes. -/
namespace Sys2Proof.Machine

/-! ## The watermark tests (R157) -/

/-- R157: the test of one station, from its unread words before and the watermark then in force. -/
def State.watermarkFires (s : State) (st : Station) (before below : Nat) : Prop :=
  ∃ b, s.subscriber st = some b ∧ b.watermark ≠ 0 ∧ before < below ∧ b.watermark ≤ s.unread st

theorem State.watermarkAt_of_fires {s : State} {st : Station} {before below : Nat} (h : s.watermarkFires st before below) :
    s.watermarkAt st before below = s.raiseAt st .journalWatermark := by
  obtain ⟨b, subscribed, fires⟩ := h
  rw [State.watermarkAt, subscribed]
  exact if_pos fires

theorem State.watermarkAt_of_not_fires {s : State} {st : Station} {before below : Nat} (h : ¬s.watermarkFires st before below) :
    s.watermarkAt st before below = s := by
  unfold State.watermarkAt
  split
  · next b subscribed => exact if_neg fun fires => h ⟨b, subscribed, fires⟩
  · rfl

theorem State.watermarkAt_station_other (s : State) {st x : Station} (other : x ≠ st) (before below : Nat) :
    (s.watermarkAt st before below).station x = s.station x := by
  by_cases h : s.watermarkFires st before below
  · rw [State.watermarkAt_of_fires h, State.raiseAt, State.setStation_station, if_neg other]
  · rw [State.watermarkAt_of_not_fires h]

/-- R157: a station whose test does not fire keeps its record, and one whose test fires has the notice. -/
theorem State.watermarkAt_station (s : State) (st : Station) (before below : Nat) [Decidable (s.watermarkFires st before below)] :
    if s.watermarkFires st before below then .journalWatermark ∈ ((s.watermarkAt st before below).station st).notices
    else (s.watermarkAt st before below).station st = s.station st := by
  split
  · next h =>
    rw [State.watermarkAt_of_fires h, State.raiseAt, State.setStation_station, if_pos rfl]
    exact StationRec.mem_notices_raise.mpr (.inl rfl)
  · next h => rw [State.watermarkAt_of_not_fires h]

/-! ## Freeing (R154) -/

theorem foldr_min_le (l : List Subscriber) (m : Nat) :
    l.foldr (fun b m => min b.read m) m ≤ m ∧ ∀ b ∈ l, l.foldr (fun b m => min b.read m) m ≤ b.read := by
  induction l with
  | nil => simp
  | cons b l ih =>
    obtain ⟨least, each⟩ := ih
    refine ⟨(min_le_right _ _).trans least, fun c hc => ?_⟩
    rcases List.mem_cons.mp hc with rfl | hc
    · exact min_le_left _ _
    · exact (min_le_right _ _).trans (each c hc)

theorem foldr_min_attained (l : List Subscriber) (m : Nat) :
    l.foldr (fun b m => min b.read m) m = m ∨ ∃ b ∈ l, l.foldr (fun b m => min b.read m) m = b.read := by
  induction l with
  | nil => exact .inl rfl
  | cons b l ih =>
    simp only [List.foldr_cons]
    rcases le_total b.read (l.foldr (fun b m => min b.read m) m) with h | h
    · exact .inr ⟨b, .head _, min_eq_left h⟩
    · rw [min_eq_right h]
      exact ih.imp_right fun ⟨c, mem, same⟩ => ⟨c, .tail _ mem, same⟩

theorem State.mem_subscribers {s : State} {b : Subscriber} :
    b ∈ [Station.uc, .lc, .tc].filterMap s.subscriber ↔ ∃ st, s.subscriber st = some b := by
  simp only [List.mem_filterMap]
  exact ⟨fun ⟨st, _, h⟩ => ⟨st, h⟩, fun ⟨st, h⟩ => ⟨st, by cases st <;> simp, h⟩⟩

theorem State.anySubscriber_iff (s : State) : s.anySubscriber = true ↔ ∃ st b, s.subscriber st = some b := by
  simp only [State.anySubscriber, Bool.or_eq_true, Option.isSome_iff_exists]
  exact ⟨fun h => by rcases h with (h | h) | h <;> exact ⟨_, h⟩,
    fun ⟨st, h⟩ => by cases st <;> simp [h]⟩

/-- R154: what freeing does: the frames behind the slowest subscriber go, and every place is counted from the new tail. -/
structure Freed (s t : State) (n : Nat) : Prop where
  frame : t = { s with journal := t.journal }
  journal : t.journal = { s.journal with frames := s.journal.frames.drop n, subscribers := t.journal.subscribers }
  subscriber : ∀ x, t.subscriber x = (s.subscriber x).map (fun b => { b with read := b.read - n })
  behind : ∀ x b, s.subscriber x = some b → n ≤ b.read
  slowest : n = 0 ∧ (∀ x, t.subscriber x = none) ∨ t.journal.frames = [] ∨ ∃ x b, t.subscriber x = some b ∧ b.read = 0

theorem State.free_freed (s : State) : ∃ n, Freed s s.free n := by
  by_cases some_ : s.anySubscriber = true
  · have eq : s.free = _ := if_pos some_
    have subscriber (x : Station) : s.free.subscriber x = (s.subscriber x).map (Subscriber.back s.slowest) := by
      rw [eq]
      cases x <;> rfl
    have behind (x : Station) (b : Subscriber) (h : s.subscriber x = some b) : s.slowest ≤ b.read :=
      (foldr_min_le _ _).2 b (State.mem_subscribers.mpr ⟨x, h⟩)
    refine ⟨s.slowest, by rw [eq], by rw [eq], subscriber, behind, .inr ?_⟩
    rcases foldr_min_attained ([Station.uc, .lc, .tc].filterMap s.subscriber) s.journal.frames.length with all | ⟨b, mem, least⟩
    · left
      have whole : s.slowest = s.journal.frames.length := all
      rw [eq]
      simp [whole]
    · obtain ⟨x, h⟩ := State.mem_subscribers.mp mem
      have first : s.slowest = b.read := least
      exact .inr ⟨x, _, (subscriber x).trans (by rw [h]; rfl), by simp [Subscriber.back, first]⟩
  · have none : ∀ x, s.subscriber x = none := fun x => by
      rw [s.anySubscriber_iff] at some_
      exact Option.eq_none_iff_forall_ne_some.mpr fun b h => some_ ⟨x, b, h⟩
    have eq : s.free = s := if_neg some_
    rw [eq]
    exact ⟨0, rfl, rfl, fun x => by simp [none], fun x b h => by simp [none] at h, .inl ⟨rfl, none⟩⟩

/-! ## Writing (R156) -/

/-- R157: the test of a station at the writing of a frame. -/
theorem State.append_station (s : State) (f : Frame) {st : Station} {b : Subscriber} (subscribed : s.subscriber st = some b)
    (place : b.read ≤ s.journal.frames.length) :
    if s.unread st < b.watermark ∧ b.watermark ≤ s.unread st + f.words then .journalWatermark ∈ ((s.append f).station st).notices
    else (s.append f).station st = s.station st := by
  let t : State := { s with journal.frames := s.journal.frames ++ [f] }
  let mark (x : Station) (u : State) : State := u.watermarkAt x (s.unread x) (s.watermark x)
  have unread : t.unread st = s.unread st + f.words := by
    have after : t.unread st = framesWords ((s.journal.frames ++ [f]).drop b.read) := by
      show (match s.subscriber st with | some b => _ | none => _) = _
      rw [subscribed]
    have before : s.unread st = framesWords (s.journal.frames.drop b.read) := by rw [State.unread, subscribed]
    rw [after, before, List.drop_append_of_le_length place, framesWords_snoc]
  have watermark : s.watermark st = b.watermark := by simp [State.watermark, subscribed]
  have fires (u : State) (journal : u.journal = t.journal) : u.watermarkFires st (s.unread st) (s.watermark st) ↔
      s.unread st < b.watermark ∧ b.watermark ≤ s.unread st + f.words := by
    have same : u.unread st = t.unread st := by simp only [State.unread, State.subscriber, journal]
    have known : u.subscriber st = some b := by
      rw [← subscribed]
      simp only [State.subscriber, journal]
      rfl
    simp only [State.watermarkFires, known, Option.some.injEq, same, unread, watermark]
    constructor
    · rintro ⟨_, rfl, -, h⟩
      exact h
    · exact fun h => ⟨b, rfl, by omega, h⟩
  have own (u : State) (journal : u.journal = t.journal) (station : u.station st = s.station st) :
      if s.unread st < b.watermark ∧ b.watermark ≤ s.unread st + f.words then
        .journalWatermark ∈ ((mark st u).station st).notices
      else (mark st u).station st = s.station st := by
    classical
    have test := u.watermarkAt_station st (s.unread st) (s.watermark st)
    simpa only [fires u journal, station] using test
  have journal (x : Station) (u : State) : (mark x u).journal = u.journal := by
    show (u.watermarkAt _ _ _).journal = _
    rw [State.watermarkAt_frame]
  show if _ then _ ∈ ((mark .tc (mark .lc (mark .uc t))).station st).notices
    else (mark .tc (mark .lc (mark .uc t))).station st = s.station st
  have other (x : Station) (u : State) (h : st ≠ x) : (mark x u).station st = u.station st :=
    u.watermarkAt_station_other h _ _
  cases st with
  | uc =>
    rw [other .tc _ nofun, other .lc _ nofun]
    exact own t rfl rfl
  | lc =>
    rw [other .tc _ nofun]
    exact own _ (journal _ _) (other .uc t nofun)
  | tc => exact own _ ((journal _ _).trans (journal _ _)) ((other .lc _ nofun).trans (other .uc t nofun))

theorem State.write_fits {s : State} {f : Frame} (some_ : s.anySubscriber = true) (fits : f.words ≤ s.availableWords) :
    s.write f = s.append f := by
  rw [State.write, if_pos some_, if_pos fits]

theorem State.append_none {s : State} (none : ∀ x, s.subscriber x = none) (f : Frame) :
    s.append f = { s with journal.frames := s.journal.frames ++ [f] } := by
  have test (u : State) (journal : ∀ x, u.subscriber x = Option.none) (x : Station) (n m : Nat) : u.watermarkAt x n m = u := by
    rw [State.watermarkAt, journal x]
  let t : State := { s with journal.frames := s.journal.frames ++ [f] }
  show t.watermarks s = t
  rw [State.watermarks, test t none, test t none, test t none]

/-- R156: whole frames are discarded from the tail, and no more of them than is needed. -/
theorem discardTo_drop (room : Nat) (fs : List Frame) :
    (discardTo room fs).1 = fs.drop (discardTo room fs).2 ∧ (discardTo room fs).2 ≤ fs.length
      ∧ ∀ m, m < (discardTo room fs).2 → room < framesWords (fs.drop m) := by
  induction fs with
  | nil => exact ⟨rfl, le_rfl, nofun⟩
  | cons f fs ih =>
    unfold discardTo
    split
    · exact ⟨rfl, Nat.zero_le _, nofun⟩
    · next full =>
      obtain ⟨kept, le, least⟩ := ih
      refine ⟨kept, Nat.succ_le_succ le, fun m before => ?_⟩
      cases m with
      | zero => exact not_le.mp full
      | succ m => exact least m (Nat.lt_of_succ_lt_succ before)

/-! ## Reading (R158) -/

/-- R158: the longest run of whole frames that fits. -/
theorem takeFrames_facts (room : Nat) (fs : List Frame) :
    ∃ rest, fs = takeFrames room fs ++ rest ∧ framesWords (takeFrames room fs) ≤ room
      ∧ ∀ f ∈ rest.head?, room < framesWords (takeFrames room fs) + f.words := by
  induction fs generalizing room with
  | nil => exact ⟨[], rfl, Nat.zero_le _, by simp⟩
  | cons f fs ih =>
    unfold takeFrames
    split
    · next fits =>
      obtain ⟨rest, whole, within, next⟩ := ih (room - f.words)
      have words : framesWords (f :: takeFrames (room - f.words) fs) = f.words + framesWords (takeFrames (room - f.words) fs) := by
        simp [framesWords]
      rw [words]
      refine ⟨rest, congrArg (f :: ·) whole, (Nat.le_sub_iff_add_le' fits).mp within, fun g hg => ?_⟩
      have beyond := (Nat.sub_lt_iff_lt_add' fits).mp (next g hg)
      rwa [← Nat.add_assoc] at beyond
    · next full =>
      refine ⟨f :: fs, rfl, Nat.zero_le _, fun g hg => ?_⟩
      obtain rfl : f = g := Option.some.inj hg
      simpa [framesWords] using full

/-! ## The three requests -/

/-- The settled part of the state holds every station's record but its notices and its line. -/
theorem station_core_of_core {s t : State} (h : t.core = s.core) (x : Station) : (t.station x).core = (s.station x).core := by
  cases x with
  | uc => exact congrArg (·.stations.uc) h
  | lc => exact congrArg (·.stations.lc) h
  | tc => exact congrArg (·.stations.tc) h

/-- R104: with no binding deferred, freed words have no consequence. -/
theorem State.noteFreed_of_none {s : State} (none : s.book.deferred = ⟨false, false⟩) (old : State) : s.noteFreed old = s := by
  rw [State.noteFreed, none]
  exact ite_self _

theorem State.free_validFrame (s : State) (st : Station) : (s.validFrame st).free = s.free.validFrame st := by
  by_cases h : s.anySubscriber = true
  · have free : s.free = _ := if_pos h
    have free' : (s.validFrame st).free = _ := if_pos h
    rw [free, free']
    rfl
  · have free : s.free = _ := if_neg h
    have free' : (s.validFrame st).free = _ := if_neg h
    rw [free, free']

/-- A request that frees what every subscriber has read. -/
theorem State.exchange_freed {s t : State} {st : Station} {code n : Nat} {judge : State → Judged} {o : ReplyOutcome}
    {l : List WireField} (takes : s.takes st) (calm : s.Calm) (same : t = { s with journal := t.journal }) (freed : Freed t t.free n)
    (judged : judge (s.validFrame st) = (((t.validFrame st).free).noteFreed (s.validFrame st)).done o l) :
    s.exchange st code judge = .next (t.free.derive.answered st code o l) := by
  have shape : t.free = { s with journal := t.free.journal } := by rw [freed.frame, same]
  have calm' : t.free.Calm := by
    rw [shape]
    exact calm
  refine State.exchange_done_same takes (judged.trans ?_) calm' ?_
  · rw [State.free_validFrame]
    exact congrArg (State.done · o l) (State.noteFreed_of_none (s := t.free.validFrame st) calm'.2 _)
  · rw [shape]
    exact takes.2

theorem State.answered_subscriber (s : State) (st : Station) (code : Nat) (o : ReplyOutcome) (l : List WireField) (x : Station) :
    (s.derive.answered st code o l).subscriber x = s.subscriber x := rfl

/-- What the answer to a request that freed frames leaves. -/
theorem State.freed_frame {s t : State} {st : Station} {code n : Nat} {o : ReplyOutcome} {l : List WireField}
    (same : t = { s with journal := t.journal }) (freed : Freed t t.free n) :
    t.free.derive.answered st code o l = { s.answered st code o l with
      journal := (t.free.derive.answered st code o l).journal, signals := (t.free.derive.answered st code o l).signals } := by
  have shape : t.free = { s with journal := t.free.journal } := by rw [freed.frame, same]
  generalize t.free.journal = J at shape
  rw [shape]
  rfl

/-- The answer to a request that freed frames, read through what it leaves. -/
theorem State.freed_answer {s t : State} {st : Station} {code n : Nat} {o : ReplyOutcome} {l : List WireField}
    (same : t = { s with journal := t.journal }) (freed : Freed t t.free n) :
    ∃ q, t.free.derive.answered st code o l = q
      ∧ q = { s.answered st code o l with journal := q.journal, signals := q.signals }
      ∧ q.journal = { t.journal with frames := t.journal.frames.drop n, subscribers := q.journal.subscribers }
      ∧ q.journal.frames = t.free.journal.frames ∧ ∀ x, q.subscriber x = t.free.subscriber x :=
  ⟨_, rfl, State.freed_frame same freed, freed.journal, rfl, fun _ => State.answered_subscriber ..⟩

/-- Settles O54: a frame is appended where it fits, the tail moves up to the slowest subscriber, and a read takes the longest run. -/
theorem journalTakesAndFreesFrames : Obligations.JournalTakesAndFreesFrames := by
  refine ⟨⟨fun s f some_ fits => ?fits, fun s f some_ full => ?dropped, fun s f silent room => ?discarded⟩,
    fun s st w takes => ?subscribe, fun s st takes calm => ⟨fun who own => ?unsubscribe, fun absent => ?refused, fun b subscribed => ?read⟩⟩
  case fits =>
    refine ⟨(s.append f).stations, by rw [State.write_fits some_ fits]; exact s.append_frame f, fun st b subscribed place => ?_⟩
    exact s.append_station f subscribed place
  case dropped =>
    rw [State.write, if_pos some_, if_neg (not_le.mpr full)]
    rfl
  case discarded =>
    have none' : ∀ x, s.subscriber x = none := fun x => Option.eq_none_iff_forall_ne_some.mpr fun b h => by
      rw [(s.anySubscriber_iff).mpr ⟨x, b, h⟩] at silent
      cases silent
    obtain ⟨kept, le, least⟩ := discardTo_drop (4096 - s.reserved - f.words) s.journal.frames
    refine ⟨(discardTo (4096 - s.reserved - f.words) s.journal.frames).2, ?_, le, ?_, fun m before => ?_⟩
    · rw [State.write, if_neg (by rw [silent]; nofun), State.append_none (s := s.discardFor f.words) none', ← kept]
      rfl
    · have := discardTo_words (4096 - s.reserved - f.words) s.journal.frames
      rw [← kept]
      omega
    · have := least m before
      omega
  case subscribe =>
    intro o
    let mark : Nat := match w with | some x => min 4096 x | none => 2048
    let u := (s.validFrame st).subscribeAt st mark
    have judged : judgeSubscribe st w (s.validFrame st) = (u, some (o, [])) := by cases w <;> rfl
    have settled : u.core = (s.validFrame st).core := (State.watermarkAt_core ..).trans rfl
    have core := station_core_of_core settled
    have shape : u = { s.validFrame st with
        journal.subscribers := s.journal.subscribers.set st (some ⟨0, mark⟩), stations := u.stations } :=
      State.watermarkAt_frame ..
    have now : u.now = s.now := by rw [shape]; rfl
    have limit : u.settings.silenceLimit = s.settings.silenceLimit := by rw [shape]; rfl
    refine ⟨_, State.exchange_answered takes judged (core st) now limit, ?_, State.answered_core now limit core⟩
    generalize u.stations = S at shape
    rw [shape]
    rfl
  case unsubscribe =>
    have permitted (u : State) (own' : State → Judged) : u.judged st (if st = who then .any else .tc) own' = own' u := by
      rcases own with rfl | rfl
      · rw [if_pos rfl]
        rfl
      · split <;> rfl
    obtain ⟨n, freed⟩ := (s.setSubscriber who none).free_freed
    have run : exec (.unsubscribe st who) s = _ :=
      State.exchange_freed (o := .ok) (l := []) takes calm (t := s.setSubscriber who none) rfl freed (permitted _ _)
    have read (x : Station) : (s.setSubscriber who none).subscriber x = if x = who then none else s.subscriber x :=
      State.setSubscriber_subscriber ..
    refine ⟨_, n, run, ?_, freed.journal, ?_, fun x other => ?_, fun x b other subscribed => ?_, ?_⟩
    · exact State.freed_frame rfl freed
    · exact (freed.subscriber who).trans (by rw [read, if_pos rfl]; rfl)
    · exact (freed.subscriber x).trans (by rw [read, if_neg other])
    · exact freed.behind x b (by rw [read, if_neg other, subscribed])
    · exact freed.slowest
  case refused =>
    refine State.exchange_report takes ?_
    show Prod.mk _ _ = _
    rw [show (s.validFrame st).subscriber st = none from absent]
    rfl
  case read =>
    obtain ⟨rest, whole, within, next⟩ := takeFrames_facts 56 (s.journal.frames.drop b.read)
    obtain ⟨fs, taken⟩ : ∃ fs, takeFrames 56 (s.journal.frames.drop b.read) = fs := ⟨_, rfl⟩
    rw [taken] at whole within next
    let t := s.setSubscriber st (some { b with read := b.read + fs.length })
    have left : s.journal.frames.drop (b.read + fs.length) = rest := by rw [← List.drop_drop, whole, List.drop_left]
    have atEnd : decide (s.journal.frames.length ≤ b.read + fs.length) = decide (rest = []) := by
      rw [← left]
      simp
    have read (x : Station) : t.subscriber x = if x = st then some { b with read := b.read + fs.length } else s.subscriber x :=
      State.setSubscriber_subscriber ..
    have unread : t.unread st = framesWords rest := by
      have own : t.subscriber st = some { b with read := b.read + fs.length } := (read st).trans (if_pos rfl)
      rw [State.unread, own, ← left]
      rfl
    let mark := decide (rest = []) && s.settings.clockMark
    let l : List WireField :=
      [.frames ((fs.map Frame.bytes).flatten ++ if mark then clockBytes s.time else []), .half (fs.length + if mark then 1 else 0),
        .half (framesWords rest), yesNo (decide (rest = []))]
    have judged : judgeReadJournal st (s.validFrame st) =
        (((t.validFrame st).free).noteFreed (s.validFrame st)).done .ok l := by
      show Prod.mk _ _ = _
      rw [show (s.validFrame st).subscriber st = some b from subscribed]
      dsimp only
      rw [show (s.validFrame st).nextFrames b = fs from taken,
        show decide ((s.validFrame st).journal.frames.length ≤ b.read + fs.length) = decide (rest = []) from atEnd]
      have words : ((s.validFrame st).setSubscriber st (some { b with read := b.read + fs.length })).unread st = framesWords rest :=
        unread
      rw [words]
      rfl
    obtain ⟨n, freed⟩ := t.free_freed
    obtain ⟨q, answer, shape, journal, frames, subscriber⟩ := State.freed_answer (st := st) (code := 0x54) (o := .ok) (l := l) rfl freed
    have run : exec (.readJournal st) s = .next q := answer ▸
      State.exchange_freed (judge := judgeReadJournal st) takes calm (t := t) rfl freed judged
    have own : t.free.subscriber st = some { b with read := b.read + fs.length - n } := by
      rw [freed.subscriber st, read, if_pos rfl, Option.map_some]
    have others (x : Station) (other : x ≠ st) :
        t.free.subscriber x = (s.subscriber x).map (fun c => { c with read := c.read - n }) := by
      rw [freed.subscriber x, read, if_neg other]
    refine ⟨q, n, fs, rest, run, whole, within, next, shape, journal, (subscriber st).trans own,
      fun x other => (subscriber x).trans (others x other), ?_, ?_, ?_⟩
    · have mine : t.subscriber st = some { b with read := b.read + fs.length } := by rw [read, if_pos rfl]
      exact freed.behind st _ mine
    · exact fun x c other subscribed => freed.behind x c (by rw [read, if_neg other, subscribed])
    · have slowest : t.free.journal.frames = [] ∨ ∃ x c, t.free.subscriber x = some c ∧ c.read = 0 :=
        freed.slowest.resolve_left fun none => Option.some_ne_none _ (own.symm.trans (none.2 st))
      rw [frames]
      exact slowest.imp_right fun ⟨x, c, held, zero⟩ => ⟨x, c, (subscriber x).trans held, zero⟩

end Sys2Proof.Machine
end

section
/-! SUPPORT. The station links: which bytes make a good frame, and what a port does with a good one, a bad one and a stray byte
(R176 to R180). -/

namespace Sys2Proof.Machine

/-! ## Good frames (R177, R178) -/

theorem goodFrame_counted (code : Nat) (args : List Byte) (isByte : code < 256) (short : args.length ≤ 249) :
    let counted := BitVec.ofNat 8 (args.length + 1) :: BitVec.ofNat 8 code :: args
    goodFrame (counted ++ halfBytes (crc16 counted).toNat) = some (code, args) := by
  intro counted
  have length : (BitVec.ofNat 8 (args.length + 1)).toNat = args.length + 1 := by
    rw [BitVec.toNat_ofNat]; omega
  have codeByte : (BitVec.ofNat 8 code).toNat = code := by rw [BitVec.toNat_ofNat]; omega
  have size : counted.length = args.length + 2 := rfl
  have takes : (counted ++ halfBytes (crc16 counted).toNat).take (args.length + 1 + 1) = counted :=
    List.take_left' size
  have drops : (counted ++ halfBytes (crc16 counted).toNat).drop (args.length + 1 + 1) = halfBytes (crc16 counted).toNat :=
    List.drop_left' size
  have total : (counted ++ halfBytes (crc16 counted).toNat).length = args.length + 1 + 3 := by
    rw [List.length_append, size]; rfl
  have whole : 1 ≤ args.length + 1 ∧ args.length + 1 ≤ 250
      ∧ (counted ++ halfBytes (crc16 counted).toNat).length = args.length + 1 + 3
      ∧ halfBytes (crc16 ((counted ++ halfBytes (crc16 counted).toNat).take (args.length + 1 + 1))).toNat
        = (counted ++ halfBytes (crc16 counted).toNat).drop (args.length + 1 + 1) := by
    rw [takes, drops]
    exact ⟨by omega, by omega, total, rfl⟩
  show (if 1 ≤ (BitVec.ofNat 8 (args.length + 1)).toNat ∧ _ then _ else none) = _
  rw [length, if_pos whole, codeByte, Nat.add_sub_cancel]
  congr 2
  exact List.take_left' rfl

/-! ## The ports (R176, R178, R179) -/

/-- R163: a port's record once a valid frame has come. -/
def State.heard (s : State) (st : Station) : StationRec :=
  { s.station st with
    link := .present, silence := some (s.now + seconds s.settings.silenceLimit), receiver := .hunting }

theorem State.hunt_validFrame (s : State) (st : Station) : (s.hunt st).validFrame st = s.setStation st (s.heard st) := by
  simp only [State.hunt, State.validFrame, State.heard, State.setStation_setStation, State.setStation_station, if_true,
    State.setStation_now, State.setStation_settings]

/-- R178: a port's record once a bad frame has come. -/
def StationRec.hunted (r : StationRec) : StationRec :=
  { r with receiver := .hunting, badFrames := countUp r.badFrames }

theorem State.badFrame_of_rate {s : State} {st : Station} (on : (s.station st).rate ≠ .silent) :
    s.badFrame st = s.setStation st (s.station st).hunted := if_neg on

/-- A port that is on and IDLE serves the request of a good frame. -/
theorem execRequestFrame_serves {s : State} {st : Station} {bytes args : List Byte} {code : Nat}
    (on : (s.station st).rate ≠ .silent) (idle : (s.station st).service = .idle) (good : goodFrame bytes = some (code, args)) :
    exec (.requestFrame st bytes) s
      = .next ((s.setStation st (s.heard st)).serve st code .serving (judgeFrame st code args)) := by
  have serves : (s.hunt st).portTake st code .serving (judgeFrame st code args)
      = (s.setStation st (s.heard st)).serve st code .serving (judgeFrame st code args) := by
    unfold State.portTake
    rw [if_neg (by simpa [State.hunt] using on), State.hunt_validFrame]
    dsimp only
    rw [State.setStation_station, if_pos rfl]
    exact if_pos idle
  show execRequestFrame st bytes s = _
  unfold execRequestFrame
  rw [good]
  exact (if_neg on).trans (congrArg _ serves)

theorem execRequestFrame_lists {s : State} {st : Station} {bytes args : List Byte} {code : Nat}
    (on : (s.station st).rate ≠ .silent) (engaged : (s.station st).service ≠ .idle)
    (good : goodFrame bytes = some (code, args)) :
    exec (.requestFrame st bytes) s = .next (s.setStation st ((s.heard st).addBusy code)) := by
  have lists : (s.hunt st).portTake st code .serving (judgeFrame st code args)
      = s.setStation st ((s.heard st).addBusy code) := by
    unfold State.portTake
    rw [if_neg (by simpa [State.hunt] using on), State.hunt_validFrame]
    dsimp only
    rw [State.setStation_station, if_pos rfl]
    exact (if_neg engaged).trans (State.setStation_setStation ..)
  show execRequestFrame st bytes s = _
  unfold execRequestFrame
  rw [good]
  exact (if_neg on).trans (congrArg _ lists)

theorem execRequestFrame_bad {s : State} {st : Station} {bytes : List Byte} (bad : goodFrame bytes = none) :
    exec (.requestFrame st bytes) s = .next (s.badFrame st) := by
  show execRequestFrame st bytes s = _
  unfold execRequestFrame
  rw [bad]

/-- R176: a SILENT port takes nothing. -/
theorem silent_port_takes_nothing {s : State} {st : Station} (off : (s.station st).rate = .silent) (bytes : List Byte)
    (c : BadCause) (b : Byte) (e : Bool) :
    exec (.requestFrame st bytes) s = .next s ∧ exec (.badFrame st c) s = .next s
      ∧ exec (.frameGapTimeout st) s = .next s ∧ exec (.strayLinkByte st b e) s = .next s := by
  have drops : s.badFrame st = s := if_pos off
  refine ⟨?_, congrArg _ drops, congrArg _ drops, if_neg fun listens => listens.1 off⟩
  show execRequestFrame st bytes s = _
  unfold execRequestFrame
  cases goodFrame bytes with
  | none => exact congrArg _ drops
  | some frame => exact if_pos off

theorem execReplySent_eq {s : State} {st : Station} (engaged : (s.station st).service ≠ .idle)
    (due : st ≠ .tc ∨ s.store.storing = none) :
    exec (.replySent st) s = .next (s.setStation st (s.station st).nextReplies) := by
  refine if_neg ?_
  rintro (idle | awaits)
  · exact engaged idle
  · simp only [State.awaitsStore, Bool.and_eq_true, decide_eq_true_eq] at awaits
    exact due.elim (· awaits.1) fun stored => by rw [stored] at awaits; simp at awaits

/-- Settles O57. -/
theorem linkFramesAreTakenOrCounted : Obligations.LinkFramesAreTakenOrCounted := by
  unfold Obligations.LinkFramesAreTakenOrCounted
  refine ⟨goodFrame_counted, fun s st => ?_⟩
  intro r heard hunted
  refine ⟨fun on => ⟨fun bytes code args good => ⟨fun j u o l idle named judged => ?_, fun idle unnamed => ?_, fun engaged => ?_⟩,
    fun bytes bad => ?_, fun c => ?_, ?_, fun hunting => ⟨?_, fun b e bad => ?_⟩⟩,
    fun off bytes c b e => silent_port_takes_nothing off bytes c b e, fun engaged due => ?_⟩
  · have judge : judgeFrame st code args = j := by rw [judgeFrame, named]; rfl
    rw [execRequestFrame_serves on idle good, judge]
    simp only [State.serve]
    rw [show j (s.setStation st (s.heard st)) = (u, some (o, l)) from judged]
    simp only [State.reply, State.setService, State.setStation_setStation, State.setStation_station, if_true]
  · have judge : judgeFrame st code args (s.setStation st (s.heard st))
        = (s.setStation st (s.heard st)).refuse .unknown := by rw [judgeFrame, unnamed]; rfl
    rw [execRequestFrame_serves on idle good]
    simp only [State.serve]
    rw [judge]
    simp only [State.refuse, State.reply, State.setService, State.setStation_setStation, State.setStation_station, if_true]
    rfl
  · rw [execRequestFrame_lists on engaged good]
    refine congrArg (fun x => Host.Outcome.next (s.setStation st x)) ?_
    show (if r.busy.length < 8 then _ else _) = _
    split <;> rfl
  · rw [execRequestFrame_bad bad, State.badFrame_of_rate on]; rfl
  · exact congrArg _ (State.badFrame_of_rate on)
  · exact congrArg _ (State.badFrame_of_rate on)
  · exact if_pos ⟨on, hunting, rfl, rfl⟩
  · refine if_neg fun begins => ?_
    obtain ⟨-, -, lead, whole⟩ := begins
    rcases bad with other | framed
    · exact other lead
    · rw [framed] at whole; exact Bool.noConfusion whole
  · rw [execReplySent_eq engaged due]
    refine congrArg (fun x => Host.Outcome.next (s.setStation st x)) ?_
    unfold StationRec.nextReplies
    simp only [List.isEmpty_iff]
    rfl

end Sys2Proof.Machine
end

section
/-! SUPPORT. The starts: what power-on, the reset line and the restart load and leave (R186, R190). -/

namespace Sys2Proof.Machine

theorem State.afterLoad_valid {s : State} (valid : s.store.defaulted = false) : s.afterLoad = s := by
  rw [State.afterLoad, valid]
  rfl

theorem State.derive_lamp_proven (s : State) (l : LampId) : (s.derive.lamp l).proven = (s.lamp l).proven := by
  have driven : ∀ (k : Chamber) (l : Lamp) (out : LampOutput), (s.driveLamp k l out).proven = l.proven :=
    fun _ _ _ => State.driveLamp_proven ..
  rcases l with ⟨k, g, n⟩
  cases k <;> cases g <;> cases n <;> exact driven ..

theorem State.write_fresh (s : State) :
    ({ s with journal := {}, book := {} } : State).write (.fault .settingsLost .store none)
      = { s with journal := { frames := [.fault .settingsLost .store none] }, book := {} } := rfl

theorem freshStation_raised (x : Straps) (n m : Nat) :
    (((freshStation x).raise n .fault).raise m .settingsDefaulted).notices = [.fault, .settingsDefaulted]
      ∧ (((freshStation x).raise n .fault).raise m .settingsDefaulted).line = true := ⟨rfl, rfl⟩

/-- R186: what a failed load raises. -/
theorem State.afterLoad_lost (s : State) (x : PerStation Straps) :
    let t := { s with
      settings := {}, store := { stored := none, defaulted := true }, journal := {}, capture := {}, clock := none, book := {}
      stations := ⟨freshStation x.uc, freshStation x.lc, freshStation x.tc⟩ }.afterLoad
    t.journal.frames = [.fault .settingsLost .store none] ∧ t.capture.record.map (·.kind) = some .settingsLost
      ∧ ∀ st, (t.station st).notices = [.fault, .settingsDefaulted] ∧ (t.station st).line = true := by
  let u := { s with
    settings := {}, store := { stored := none, defaulted := true }, journal := {}, capture := {}, clock := none, book := {}
    stations := ⟨freshStation x.uc, freshStation x.lc, freshStation x.tc⟩ }
  have loud : u.Loud .settingsLost := .inl rfl
  have written : u.write (.fault .settingsLost .store u.time)
      = { u with journal := { frames := [.fault .settingsLost .store none] } } := State.write_fresh u
  show (((u.raiseFault .settingsLost .store).raiseAll .settingsDefaulted).journal.frames = _
    ∧ Option.map _ ((u.raiseFault .settingsLost .store).raiseAll .settingsDefaulted).capture.record = _
    ∧ ∀ st, (((u.raiseFault .settingsLost .store).raiseAll .settingsDefaulted).station st).notices = _
      ∧ (((u.raiseFault .settingsLost .store).raiseAll .settingsDefaulted).station st).line = true)
  rw [State.raiseFault_of_loud loud, written]
  refine ⟨rfl, rfl, fun st => ?_⟩
  rw [State.raiseAll_station, State.raiseAll_station]
  cases st <;> exact freshStation_raised ..

/-- R186: the state of a power-on up to what a failed load raises. -/
def State.poweredUp (s : State) (x : PerStation Straps) : State :=
  let base : State :=
    { State.reset with
      store := s.store.afterPower
      signals := { State.reset.signals with lamps := s.signals.lamps }
      choices := s.choices
      pending := s.pending }
  ((base.load).startBlocks x (fun _ l => l.started true)).derive

theorem State.powerOn_eq (s : State) (x : PerStation Straps) : s.powerOn x = (s.poweredUp x).afterLoad := rfl

/-- R186: without a valid copy, whatever the power-on finds. -/
theorem powerOn_defaults {x : PerStation Straps} {s : State} (lost : s.store.afterPower = { stored := none }) :
    (s.powerOn x).settings = {} ∧ (s.powerOn x).active = {} ∧ (s.powerOn x).standby = {}
      ∧ (s.powerOn x).store = { stored := none, defaulted := true }
      ∧ (s.powerOn x).journal.frames = [.fault .settingsLost .store none]
      ∧ (s.powerOn x).capture.record.map (·.kind) = some .settingsLost
      ∧ ∀ st, ((s.powerOn x).station st).notices = [.fault, .settingsDefaulted] ∧ ((s.powerOn x).station st).line = true := by
  have kept (t : State) : t.afterLoad.settings = t.settings ∧ t.afterLoad.active = t.active ∧ t.afterLoad.standby = t.standby
      ∧ t.afterLoad.store = t.store := by
    have same : t.afterLoad.core = t.core := by
      unfold State.afterLoad
      split <;> simp
    exact ⟨congrArg (·.settings) same, congrArg (·.active) same, congrArg (·.standby) same, congrArg (·.store) same⟩
  have shape : s.poweredUp x = { s.poweredUp x with
      settings := {}, active := {}, standby := {}, store := { stored := none, defaulted := true }, journal := {}, capture := {}
      clock := none, book := {}, stations := ⟨freshStation x.uc, freshStation x.lc, freshStation x.tc⟩ } := by
    unfold State.poweredUp
    rw [lost]
    rfl
  rw [State.powerOn_eq]
  generalize s.poweredUp x = u at shape
  obtain ⟨settings, active, standby, store⟩ := kept u
  refine ⟨settings.trans (by rw [shape]), active.trans (by rw [shape]), standby.trans (by rw [shape]), store.trans (by rw [shape]), ?_⟩
  rw [shape]
  exact State.afterLoad_lost { u with active := {}, standby := {} } x

/-- Settles O11. -/
theorem powerOnLoadsTheStore : Obligations.PowerOnLoadsTheStore := by
  refine ⟨fun x s i stored idle => ?_, fun x s lost => ⟨s.powerOn x, rfl, powerOn_defaults ?_⟩⟩
  · have store : s.store.afterPower = { stored := some i } := by
      rw [Store.afterPower, idle, stored]; rfl
    refine ⟨s.powerOn x, rfl, ?_⟩
    rw [State.powerOn_eq, State.afterLoad_valid (by unfold State.poweredUp; rw [store]; rfl)]
    unfold State.poweredUp
    rw [store]
    refine ⟨rfl, rfl, rfl, rfl, rfl, rfl, rfl, rfl, rfl, rfl, rfl, rfl, rfl, rfl, rfl, rfl, rfl, fun b => ?_, fun st => ?_, fun l => ?_, rfl⟩
    · cases b <;> rfl
    · cases st <;> rfl
    · refine (State.derive_lamp_proven ..).trans ?_
      rcases l with ⟨k, g, n⟩
      cases k <;> cases g <;> cases n <;> rfl
  · rw [Store.afterPower]
    rcases lost with none | writing
    · rw [none, ite_self]
    · rw [if_pos writing]

/-! ## The orders judged again (R90, R91) -/

/-- Two books of the same orders, but for the orders' states. -/
structure SameButStates (b c : Book) : Prop where
  lists : ∀ d, (c.lists.get d).map (fun o => { o with state := .waiting }) = (b.lists.get d).map (fun o => { o with state := .waiting })
  rest : c = { b with lists := c.lists }

theorem SameButStates.refl (b : Book) : SameButStates b b := ⟨fun _ => rfl, rfl⟩

theorem SameButStates.trans {b c d : Book} (h : SameButStates b c) (h' : SameButStates c d) : SameButStates b d :=
  ⟨fun x => (h'.lists x).trans (h.lists x), by rw [h'.rest, h.rest]⟩

theorem sameButStates_changeIn (b : Book) (n : Nat) (x : OrderState) :
    SameButStates b (b.mapLists (changeIn n fun o => { o with state := x })) := by
  refine ⟨fun d => ?_, rfl⟩
  have stripped (l : List Order) : (changeIn n (fun o => { o with state := x }) l).map (fun o => { o with state := .waiting })
      = l.map (fun o => { o with state := .waiting }) := by
    rw [changeIn, List.map_map]
    refine List.map_congr_left fun o _ => ?_
    show ({ (if o.number = n then _ else o) with state := _ } : Order) = _
    split <;> rfl
  cases d <;> exact stripped _

theorem SameButStates.orders {b c : Book} (h : SameButStates b c) :
    c.orders.map (fun o => { o with state := .waiting }) = b.orders.map (fun o => { o with state := .waiting }) := by
  show (c.lists.up ++ c.lists.down).map _ = (b.lists.up ++ b.lists.down).map _
  rw [List.map_append, List.map_append]
  exact congrArg₂ _ (h.lists .up) (h.lists .down)

/-- R91: without an available chamber, the orders' states are all that follows. -/
theorem State.rejudgeAll_frame {s : State} (shut : ∀ k, s.available k = false) :
    ∃ b, s.rejudgeAll = { s with book := b } ∧ SameButStates s.book b := by
  have one (t : State) (i : Nat) (chambers : t.chambers = s.chambers) (batches : t.book.batches = s.book.batches) :
      ∃ b, t.rejudge i = { t with book := b } ∧ SameButStates t.book b := by
    have none (k : Chamber) : t.available k = false := by
      rw [← shut k]
      rw [State.available, State.chamber, State.batch, chambers, batches]
      rfl
    refine ⟨_, State.rejudge_eq rfl (.inr none), ?_⟩
    unfold State.rejudgedBook
    split
    · split
      · exact .refl _
      · exact sameButStates_changeIn ..
    · exact .refl _
  have all (l : List Order) : ∀ t : State, t.chambers = s.chambers → t.book.batches = s.book.batches →
      ∃ b, l.foldl (fun t o => t.rejudge o.slot) t = { t with book := b } ∧ SameButStates t.book b := by
    induction l with
    | nil => exact fun t _ _ => ⟨_, rfl, .refl _⟩
    | cons o l ih =>
      intro t chambers batches
      obtain ⟨b, first, same⟩ := one t o.slot chambers batches
      obtain ⟨c, rest, same'⟩ := ih (t.rejudge o.slot) (by rw [first]; exact chambers)
        (by rw [first]; exact (congrArg (·.batches) same.rest).trans batches)
      rw [first] at rest same'
      exact ⟨c, by rw [List.foldl_cons, first, rest], same.trans same'⟩
  exact all _ s rfl rfl

/-! ## RESTART (R190) -/

/-- R190: the state of a restart up to the judging of the orders. -/
def State.reloaded (s : State) (x : PerStation Straps) : State :=
  (s.load.startBlocks x (restartLamp (s.load.loaded.two && !s.loaded.two))).restartBook

/-- R190: what a restart with a valid copy leaves. -/
theorem State.restarted_eq {s : State} {x : PerStation Straps} (valid : s.store.stored.isNone = false) :
    ∃ b, s.restarted x = ({ s.reloaded x with book := b } : State).derive ∧ SameButStates (s.reloaded x).book b := by
  obtain ⟨b, judged, same⟩ := (s.reloaded x).rejudgeAll_frame (fun k => by cases k <;> rfl)
  refine ⟨b, ?_, same⟩
  have loaded : (({ s.reloaded x with book := b } : State).derive).store.defaulted = false := valid
  have calm : (({ s.reloaded x with book := b } : State).derive).Calm :=
    ⟨rfl, (congrArg (·.deferred) same.rest).trans rfl⟩
  show ((((s.reloaded x).rejudgeAll).derive).afterLoad).finish = _
  rw [judged, State.afterLoad_valid loaded, State.finish_calm calm, State.derive_derive]

/-- Settles O12. -/
theorem restartKeepsTheRecords : Obligations.RestartKeepsTheRecords := by
  refine ⟨fun s => ⟨fun takes shut1 shut2 => ?_, fun takes live => ?_, fun st other takes => ?_⟩, fun x s i due idle stored => ?_⟩
  · refine State.exchange_answered takes (t := { s.validFrame .tc with store.restartPending := true }) ?_ rfl rfl rfl
    exact if_pos ⟨shut1, shut2⟩
  · refine State.exchange_report takes ?_
    exact if_neg fun h => live.elim (· h.1) (· h.2)
  · exact State.exchange_notPermitted takes other fun _ => rfl
  · obtain ⟨b, run, same⟩ := s.restarted_eq (x := x) (by rw [stored]; rfl)
    have taken : exec (.restartEvent x) s = .next ({ s.reloaded x with book := b } : State).derive := by
      rw [← run]
      exact if_pos (by simp [due, idle])
    have image : s.store.image = i := by rw [Store.image, stored]; rfl
    refine ⟨_, taken, congrArg (·.settings) image, congrArg (·.active) image, congrArg (·.standby) image, ?_, rfl, rfl, rfl, rfl, rfl,
      rfl, rfl, rfl, congrArg (·.nextOrder) same.rest, congrArg (·.nextBatch) same.rest, congrArg (·.entrySequence) same.rest,
      same.orders, rfl, rfl, rfl, rfl, rfl, fun b => ?_, fun st => ?_⟩
    · exact congrArg (fun i : StoreImage => (⟨decide (i.settings.chambers = 2), i.settings.crossPresent⟩ : Loaded)) image
    · cases b <;> rfl
    · cases st <;> rfl

end Sys2Proof.Machine
end

section
/-! SUPPORT. The gauge line: rounds begun, gauge A read, and what is discarded (R1, R2, R5, R6). -/

namespace Sys2Proof.Machine

/-- R1, R6: the reading of gauge A is recorded, and gauge B is polled. -/
theorem State.closePoll_a {s : State} {p : Poll} (gauge : p.gauge = .a) (st : GaugeStatus) (raw : Nat) :
    s.closePoll p st raw = { s with
      levels := { s.levels with
        bodies := s.levels.bodies.set p.body
          { s.body p.body with
            gauges.a := (s.body p.body).gauges.a.take st s.settings.avgDepth (corrected (s.settings.trimOf p.body .a) raw) }
        poll := some ⟨p.body, .b, s.now + 20, decide (st = .ok), some (s.body p.body).gauges.a⟩ } } := by
  unfold State.closePoll
  rw [gauge]
  rfl

theorem exec_gaugeReply {s : State} {p : Poll} (polled : s.levels.poll = some p) (b1 b2 b3 b4 : Byte) :
    exec (.gaugeReply b1 b2 b3 b4) s
      = .next (s.closePoll p (replyStatus (gaugeNumber p.body p.gauge) b1 b2 b3 b4) (b2.toNat * 256 + b3.toNat)) := by
  show execGaugeReply b1 b2 b3 b4 s = _
  unfold execGaugeReply
  rw [polled]

theorem exec_noReply {s : State} {p : Poll} (polled : s.levels.poll = some p) :
    exec .noReply s = .next ((s.reach p.deadline).closePoll p .noReply 0) := by
  show execNoReply s = _
  unfold execNoReply
  rw [polled]

/-- Settles O13. -/
theorem roundsReadTheirGauges : Obligations.RoundsReadTheirGauges := by
  refine ⟨fun s b bs free queue => ⟨s.startRound, rfl, ?_⟩, fun s b x timer => ?_, fun s p b1 b2 b3 b4 polled gauge => ?_,
    fun s p polled gauge => ?_, fun s b1 b2 b3 b4 l => ⟨rfl, rfl, fun free => ?_⟩⟩
  · unfold State.startRound
    rw [free, queue]
    exact ⟨rfl, rfl⟩
  · let t := ((s.reach x).setBody b { s.body b with roundTimer := none }).enqueue b
    have run : exec (.roundTimerExpiry b) s = .next t := by
      show execRoundTimerExpiry b s = _
      unfold execRoundTimerExpiry
      rw [timer]
    refine ⟨t, run, ?_⟩
    have queued : t = { (s.reach x).setBody b { s.body b with roundTimer := none } with
        levels.queue := if b ∈ s.levels.queue then s.levels.queue else s.levels.queue ++ [b] } := by
      show State.enqueue _ b = _
      unfold State.enqueue
      rw [show ((s.reach x).setBody b { s.body b with roundTimer := none }).levels.queue = s.levels.queue from rfl]
      by_cases waits : b ∈ s.levels.queue
      · rw [if_pos (by simpa using waits), if_pos waits]
        rfl
      · rw [if_neg (by simpa using waits), if_neg waits]
    rw [queued]
    exact ⟨rfl, rfl⟩
  · intro number raw st trim x old
    have named : gaugeNumber p.body p.gauge = number := by
      rw [gauge]
      show gaugeNumber p.body .a = _
      cases h : p.body <;> simp [gaugeNumber, number, h]
    refine ⟨_, (exec_gaugeReply polled b1 b2 b3 b4).trans (congrArg _ (State.closePoll_a gauge ..)), rfl, ?_⟩
    rw [named]
    rfl
  · exact ⟨_, (exec_noReply polled).trans (congrArg _ (State.closePoll_a gauge ..)), rfl, rfl⟩
  · show execGaugeReply b1 b2 b3 b4 s = _
    unfold execGaugeReply
    rw [free]

end Sys2Proof.Machine
end

section
/-! SUPPORT. The end of a round: what is reconciled, tested and handed on (R7, R9, R10), whatever the readers do. -/

namespace Sys2Proof.Machine

/-! ## What a common core says -/

theorem SameRecords.of_core {s t : State} (h : t.core = s.core) : SameRecords s t where
  loaded := congrArg (·.loaded) h
  settings := congrArg (·.settings) h
  vessels := congrArg (·.vessels) h
  active := congrArg (·.active) h
  standby := congrArg (·.standby) h
  clock := congrArg (·.clock) h
  tallies := congrArg (·.tallies) h
  conduct := congrArg (·.conduct) h
  store := congrArg (·.store) h
  pending := congrArg (·.pending) h
  stations := station_core_of_core h

theorem body_of_core {s t : State} (h : t.core = s.core) (b : Body) : (t.body b).core = (s.body b).core := by
  cases b with
  | up => exact congrArg (·.levels.bodies.up) h
  | lp => exact congrArg (·.levels.bodies.lp) h
  | c1 => exact congrArg (·.levels.bodies.c1) h
  | c2 => exact congrArg (·.levels.bodies.c2) h

theorem SameBody.of_bodyCore {s t : State} {b : Body} (h : (t.body b).core = (s.body b).core) : SameBody s t b where
  level := congrArg (·.level) h
  state := congrArg (·.state) h
  handedLevel := congrArg (·.handedLevel) h
  handedState := congrArg (·.handedState) h
  gauges := congrArg (·.gauges) h
  lastRound := congrArg (·.lastRound) h

theorem pair_of_core {s t : State} (h : t.core = s.core) (p : Pair) : t.pair p = s.pair p := by
  cases p with
  | across e k =>
    have same : (t.core.levels.pairs.get e).get k = (s.core.levels.pairs.get e).get k := by rw [h]
    exact same
  | cross => exact congrArg (·.levels.crossPair) h

theorem SameLevels.of_core {s t : State} (h : t.core = s.core) : SameLevels s t :=
  ⟨fun b => .of_bodyCore (body_of_core h b), pair_of_core h, congrArg (·.levels.poll) h, congrArg (·.levels.trail) h⟩

theorem now_of_core {s t : State} (h : t.core = s.core) : t.now = s.now := congrArg (·.now) h

/-! ## The pairs tested (R10) -/

/-- R10: the state that the test gives a pair. -/
def State.pairTested (s : State) (p : Pair) : PairState :=
  if s.pairKept p then
    if s.pairEqual p then
      match s.pair p with
      | .notEqual => if s.settings.eqSettle = 0 then .equalised else .settling s.now
      | x => x
    else .notEqual
  else s.pair p

theorem State.setPair_self (s : State) (p : Pair) : s.setPair p (s.pair p) = s := by
  cases p with
  | across e k => cases e <;> cases k <;> rfl
  | cross => rfl

/-- A test sets its pair, and beyond that has no consequence that the core shows. -/
theorem State.testPair_core (s : State) (p : Pair) : (s.testPair p).core = (s.setPair p (s.pairTested p)).core := by
  have same {x : PairState} (h : s.pair p = x) : s.core = (s.setPair p x).core := by rw [← h, State.setPair_self]
  unfold State.testPair State.pairTested
  by_cases kept : s.pairKept p = true
  · by_cases equal : s.pairEqual p = true
    · simp only [kept, equal, if_true]
      cases h : s.pair p with
      | notEqual =>
        dsimp only
        split
        · exact State.tellEqualised_core ..
        · rfl
      | settling x => exact same h
      | equalised => exact same h
    · rw [if_pos kept, if_neg equal, if_pos kept, if_neg equal]
  · rw [if_neg kept, if_neg kept]
    exact same rfl

theorem State.pairTested_of_core {s t : State} (records : SameRecords s t) (now : t.now = s.now) (bodies : ∀ b, SameBody s t b)
    {p : Pair} (pair : t.pair p = s.pair p) : t.pairTested p = s.pairTested p := by
  have kept : t.pairKept p = s.pairKept p := by
    cases p with
    | across e k => cases k <;> simp only [State.pairKept, State.chamberPresent, records.loaded]
    | cross => simp only [State.pairKept, records.loaded]
  have equal : t.pairEqual p = s.pairEqual p := by
    simp only [State.pairEqual, BodyRec.newest, (bodies _).level, (bodies _).state, records.settings]
  simp only [State.pairTested, kept, equal, pair, records.settings, now]

theorem SameRecords.trans {s t u : State} (h : SameRecords s t) (h' : SameRecords t u) : SameRecords s u where
  loaded := h'.loaded.trans h.loaded
  settings := h'.settings.trans h.settings
  vessels := h'.vessels.trans h.vessels
  active := h'.active.trans h.active
  standby := h'.standby.trans h.standby
  clock := h'.clock.trans h.clock
  tallies := h'.tallies.trans h.tallies
  conduct := h'.conduct.trans h.conduct
  store := h'.store.trans h.store
  pending := h'.pending.trans h.pending
  stations := fun st => (h'.stations st).trans (h.stations st)

theorem setPair_records (s : State) (p : Pair) (x : PairState) : SameRecords s (s.setPair p x) := by
  cases p <;> exact ⟨rfl, rfl, rfl, rfl, rfl, rfl, rfl, rfl, rfl, rfl, fun _ => rfl⟩

theorem setBody_records (s : State) (b : Body) (r : BodyRec) : SameRecords s (s.setBody b r) :=
  ⟨rfl, rfl, rfl, rfl, rfl, rfl, rfl, rfl, rfl, rfl, fun _ => rfl⟩

theorem setPair_bodyCore (s : State) (p : Pair) (x : PairState) (b : Body) : ((s.setPair p x).body b).core = (s.body b).core := by
  rw [State.setPair_body]

/-- R10: two states whose cores differ in their pairs alone. -/
structure PairsTested (s t : State) (l : List Pair) : Prop where
  records : SameRecords s t
  now : t.now = s.now
  bodies : ∀ b, (t.body b).core = (s.body b).core
  poll : t.levels.poll = s.levels.poll
  pairs : ∀ p, t.pair p = if p ∈ l then s.pairTested p else s.pair p

/-- R10: each pair of a list is tested once, and no test reads what another has set. -/
theorem testPairs_tested (l : List Pair) : ∀ s : State, l.Nodup → PairsTested s (l.foldl State.testPair s) l := by
  induction l with
  | nil => exact fun s _ => ⟨.of_core rfl, rfl, fun _ => rfl, rfl, fun p => by simp⟩
  | cons p l ih =>
    intro s nodup
    obtain ⟨notIn, nodup⟩ := List.nodup_cons.mp nodup
    have core := s.testPair_core p
    have records : SameRecords s (s.testPair p) := (setPair_records ..).trans (.of_core core)
    have now : (s.testPair p).now = s.now := (now_of_core core).trans (State.setPair_now ..)
    have bodies (b : Body) : ((s.testPair p).body b).core = (s.body b).core :=
      (body_of_core core b).trans (setPair_bodyCore ..)
    have poll : (s.testPair p).levels.poll = s.levels.poll := by
      rw [(SameLevels.of_core core).2.2.1]
      cases p <;> rfl
    have pair (q : Pair) : (s.testPair p).pair q = if q = p then s.pairTested p else s.pair q := by
      rw [pair_of_core core, State.setPair_pair]
    obtain ⟨records', now', bodies', poll', pairs'⟩ := ih (s.testPair p) nodup
    refine ⟨?_, now'.trans now, fun b => (bodies' b).trans (bodies b), poll'.trans poll, fun q => ?_⟩
    · exact records.trans records'
    · rw [List.foldl_cons, pairs', pair]
      by_cases same : q = p
      · subst same
        rw [if_neg notIn, if_pos rfl, if_pos List.mem_cons_self]
      · have unread : (s.testPair p).pairTested q = s.pairTested q :=
          State.pairTested_of_core records now (fun b => .of_bodyCore (bodies b)) (by rw [pair, if_neg same])
        rw [unread, if_neg same]
        simp only [List.mem_cons, same, false_or]

/-! ## The end of a round (R7, R9) -/

@[simp] theorem State.levelFault_core (s : State) (b : Body) (old : LevelState) (aGood : Bool) :
    (s.levelFault b old aGood).core = s.core := by
  unfold State.levelFault
  (repeat' split) <;> simp

/-- R7: what a body's round gives. -/
def State.reconciled (s : State) (b : Body) (goodA goodB : Bool) : Option Nat × LevelState :=
  reconcile s.settings.agreeBand (s.body b).level (s.body b).state (s.goodValue b .a goodA) (s.goodValue b .b goodB)

/-- R7: the state with a body's level and level state by its round, before anything follows. -/
def State.levelled (s : State) (b : Body) (goodA goodB : Bool) : State :=
  s.setBody b { s.body b with level := (s.reconciled b goodA goodB).1, state := (s.reconciled b goodA goodB).2 }

/-- R7, R9, R10: what the end of a round leaves, whatever its readers do. -/
structure RoundEnded (s t : State) (b : Body) (goodA goodB : Bool) : Prop where
  records : SameRecords s t
  now : t.now = s.now
  poll : t.levels.poll = s.levels.poll
  others : ∀ c, c ≠ b → SameBody s t c
  gauges : (t.body b).gauges = (s.body b).gauges
  level : ((t.body b).level, (t.body b).state) = s.reconciled b goodA goodB
  handed : (t.body b).handedLevel = (t.body b).level ∧ (t.body b).handedState = (t.body b).state
  pairs : ∀ p, t.pair p = if p ∈ b.pairs then (s.levelled b goodA goodB).pairTested p else s.pair p

theorem pairs_nodup (b : Body) : b.pairs.Nodup := by cases b <;> decide

theorem State.handOver_core (s : State) (b : Body) : (s.handOver b).core
    = (s.setBody b { s.body b with handedLevel := (s.body b).level, handedState := (s.body b).state }).core := by
  unfold State.handOver
  dsimp only
  split
  · exact State.lateStart_core ..
  · rfl

theorem roundEnd_ended (s : State) (b : Body) (goodA goodB : Bool) : RoundEnded s (s.roundEnd b goodA goodB).finish b goodA goodB := by
  let u := s.levelled b goodA goodB
  let v := u.levelFault b (s.body b).state (s.goodValue b .a goodA).isSome
  let w := b.pairs.foldl State.testPair v
  have tested : PairsTested v w b.pairs := testPairs_tested b.pairs v (pairs_nodup b)
  have core : v.core = u.core := State.levelFault_core ..
  have final : (s.roundEnd b goodA goodB).finish.core = (w.setBody b { w.body b with
      handedLevel := (w.body b).level, handedState := (w.body b).state }).core :=
    (State.finish_core _).trans ((State.readers_core _ b).trans (State.handOver_core w b))
  have levelled (c : Body) : u.body c = if c = b then { s.body b with
      level := (s.reconciled b goodA goodB).1, state := (s.reconciled b goodA goodB).2 } else s.body c := State.setBody_body ..
  have body (c : Body) : (w.body c).core = (u.body c).core := (tested.bodies c).trans (body_of_core core c)
  have own : SameBody u w b := .of_bodyCore (body b)
  have same : SameRecords u v := .of_core core
  obtain ⟨t, ht⟩ : ∃ t, (s.roundEnd b goodA goodB).finish = t := ⟨_, rfl⟩
  rw [ht] at final ⊢
  have last := body_of_core final
  have others (c : Body) (other : c ≠ b) : (t.body c).core = (s.body c).core := by
    rw [last c, State.setBody_body, if_neg other, body c, levelled c, if_neg other]
  have mine : (t.body b).core = { (u.body b).core with handedLevel := (u.body b).level, handedState := (u.body b).state } := by
    rw [last b, State.setBody_body, if_pos rfl, ← body b, ← own.level, ← own.state]
    rfl
  rw [levelled b, if_pos rfl] at mine
  refine ⟨?_, ?_, ?_, fun c other => .of_bodyCore (others c other), congrArg (·.gauges) mine, ?_, ?_, fun p => ?_⟩
  · exact ((setBody_records ..).trans same).trans (tested.records.trans ((setBody_records ..).trans (.of_core final)))
  · exact (now_of_core final).trans (tested.now.trans ((now_of_core core).trans rfl))
  · exact (SameLevels.of_core final).2.2.1.trans (tested.poll.trans (SameLevels.of_core core).2.2.1)
  · exact Prod.ext (congrArg (·.level) mine) (congrArg (·.state) mine)
  · exact ⟨(congrArg (·.handedLevel) mine).trans (congrArg (·.level) mine).symm,
      (congrArg (·.handedState) mine).trans (congrArg (·.state) mine).symm⟩
  · rw [pair_of_core final, State.setBody_pair, tested.pairs p]
    have unread : v.pairTested p = u.pairTested p :=
      State.pairTested_of_core same (now_of_core core) (fun c => .of_bodyCore (body_of_core core c)) (pair_of_core core p)
    rw [unread, pair_of_core core]
    rfl

/-- R1, R6: the state in which the reading of gauge B ends a round. -/
def State.readB (s : State) (b : Body) (st : GaugeStatus) (raw : Nat) : State := (s.recordReading b .b st raw).setPoll none

theorem State.closePoll_b {s : State} {p : Poll} (gauge : p.gauge = .b) (st : GaugeStatus) (raw : Nat) :
    s.closePoll p st raw = ((s.readB p.body st raw).roundEnd p.body p.goodA (decide (st = .ok))).finish := by
  unfold State.closePoll
  rw [gauge]
  rfl

theorem State.readB_body (s : State) (b : Body) (st : GaugeStatus) (raw : Nat) (c : Body) :
    (s.readB b st raw).body c = if c = b then
      { s.body b with gauges.b := (s.body b).gauges.b.take st s.settings.avgDepth (corrected (s.settings.trimOf b .b) raw) }
      else s.body c := (State.setPoll_body ..).trans (State.setBody_body ..)

theorem mem_pairs_iff (b : Body) (q : Pair) : q ∈ b.pairs ↔ q.bodies.1 = b ∨ q.bodies.2 = b := by
  rcases q with ⟨e, k⟩ | _
  · cases b <;> cases e <;> cases k <;> decide
  · cases b <;> decide

theorem distance_le_iff (m n d : Nat) : distance m n ≤ d ↔ m ≤ n + d ∧ n ≤ m + d := by
  unfold distance
  omega

theorem gaugeValue_eq (h : List Nat) :
    gaugeValue h = if h = [] then none else some (((h.sum + h.length / 2) / h.length + 5) / 10) := by
  simp only [gaugeValue, List.isEmpty_iff]

theorem State.goodValue_decide (s : State) (b : Body) (g : GaugeSide) (p : Prop) [Decidable p] :
    s.goodValue b g (decide p) = if p then gaugeValue ((s.body b).gauges.get g).history else none := by
  simp only [State.goodValue, decide_eq_true_eq]

/-- R7: the table, with the distance written out. -/
theorem reconcile_eq (band : Nat) (level : Option Nat) (state : LevelState) (x y : Option Nat) :
    reconcile band level state x y =
      match x, y with
      | some m, some n =>
        if decide (m ≤ n + band ∧ n ≤ m + band) = true then (some ((m + n + 1) / 2), .good) else (level, .uncertain)
      | some m, none => (some m, .single)
      | none, some n => (some n, .single)
      | none, none => (level, if state = .unknown then .unknown else .lost) := by
  cases x <;> cases y <;> simp only [reconcile, distance_le_iff, decide_eq_true_eq]
  split <;> rfl

/-- R10: the equality of a pair, with the distance written out. -/
theorem State.pairEqual_eq (s : State) (p : Pair) :
    s.pairEqual p =
      match (s.body p.bodies.1).level, (s.body p.bodies.2).level with
      | some m, some n => (s.body p.bodies.1).state.usable && (s.body p.bodies.2).state.usable
          && decide (m ≤ n + s.settings.eqBand ∧ n ≤ m + s.settings.eqBand)
      | _, _ => false := by
  unfold State.pairEqual BodyRec.newest
  cases (s.body p.bodies.1).level <;> cases (s.body p.bodies.2).level <;> cases (s.body p.bodies.1).state.usable <;>
    cases (s.body p.bodies.2).state.usable <;> simp [distance_le_iff]

/-- Settles O14. -/
theorem roundEndReconcilesAndHandsOn : Obligations.RoundEndReconcilesAndHandsOn := by
  intro s p b1 b2 b3 b4 polled gauge b number raw trim x near mean history table ends
  have ended (now : Nat) (st : GaugeStatus) (raw' : Nat) (reading : st = .ok → raw' = raw) :
      (({ s with now := now } : State).closePoll p st raw').now = now
        ∧ ends st (({ s with now := now } : State).closePoll p st raw') := by
    rw [State.closePoll_b gauge]
    let u := ({ s with now := now } : State).readB b st raw'
    obtain ⟨t, ht⟩ : ∃ t, (u.roundEnd b p.goodA (decide (st = .ok))).finish = t := ⟨_, rfl⟩
    obtain ⟨records, now', poll, others, gauges, level, handed, pairs⟩ := roundEnd_ended u b p.goodA (decide (st = .ok))
    show (State.finish (State.roundEnd u b _ _)).now = now ∧ ends st (State.finish (State.roundEnd u b _ _))
    rw [ht] at records now' poll others gauges level handed pairs ⊢
    have read : u.body b = { s.body b with gauges.b := { status := some st, history := history st } } := by
      refine (State.readB_body ..).trans ((if_pos rfl).trans ?_)
      have taken : (if st = .ok then addReading s.settings.avgDepth (s.body b).gauges.b.history
          (corrected (s.settings.trimOf b .b) raw') else []) = history st := by
        show _ = if st = .ok then _ else _
        split
        case isTrue ok => rw [reading ok]; rfl
        · rfl
      exact congrArg (fun h => { s.body b with gauges.b := { status := some st, history := h } }) taken
    have reconciled : u.reconciled b p.goodA (decide (st = .ok)) = table st := by
      unfold State.reconciled
      rw [State.goodValue_decide, State.goodValue, read, reconcile_eq, gaugeValue_eq, gaugeValue_eq]
      rfl
    have same : SameRecords s u := ⟨rfl, rfl, rfl, rfl, rfl, rfl, rfl, rfl, rfl, rfl, fun _ => rfl⟩
    refine ⟨now', poll, same.trans records, gauges.trans (by rw [read]), level.trans reconciled, handed.1, handed.2,
      fun c other => ?_, fun q => ?_⟩
    · have kept : u.body c = s.body c := (State.readB_body ..).trans (if_neg other)
      obtain ⟨h1, h2, h3, h4, h5, h6⟩ := others c other
      rw [kept] at h1 h2 h3 h4 h5 h6
      exact ⟨h1, h2, h3, h4, h5, h6⟩
    · let v := u.levelled b p.goodA (decide (st = .ok))
      have body (c : Body) : v.body c = if c = b then { u.body b with
          level := (u.reconciled b p.goodA (decide (st = .ok))).1, state := (u.reconciled b p.goodA (decide (st = .ok))).2 }
          else u.body c := State.setBody_body ..
      have newest (c : Body) : (v.body c).level = (t.body c).level ∧ (v.body c).state = (t.body c).state := by
        rw [body c]
        split
        case isTrue own => rw [own, ← level]; exact ⟨rfl, rfl⟩
        case isFalse other => exact ⟨(others c other).level.symm, (others c other).state.symm⟩
      have kept : v.pairKept q = s.pairKept q := by rcases q with ⟨e, k⟩ | _ <;> rfl
      have before : u.pair q = s.pair q := by rcases q with ⟨e, k⟩ | _ <;> rfl
      have before' : v.pair q = s.pair q := by rcases q with ⟨e, k⟩ | _ <;> rfl
      rw [pairs q, before]
      by_cases inB : q ∈ b.pairs
      · have joins := (mem_pairs_iff b q).mp inB
        rw [if_pos inB]
        show v.pairTested q = _
        unfold State.pairTested
        rw [kept, before', v.pairEqual_eq, (newest _).1, (newest _).1, (newest _).2, (newest _).2]
        by_cases keeps : s.pairKept q = true
        · refine Eq.trans ?_ (if_pos (And.intro joins keeps)).symm
          rw [if_pos keeps, now']
          cases s.pair q <;> rfl
        · exact (if_neg keeps).trans (if_neg fun h => keeps h.2).symm
      · exact (if_neg inB).trans (if_neg fun h => inB ((mem_pairs_iff b q).mpr h.1)).symm
  refine ⟨?_, _, exec_noReply polled, ended (max s.now p.deadline) .noReply 0 nofun⟩
  intro st
  have run : exec (.gaugeReply b1 b2 b3 b4) s = .next (s.closePoll p st raw) := by
    have named : gaugeNumber p.body p.gauge = number := by
      rw [gauge]
      show gaugeNumber b .b = _
      cases h : b <;> simp [gaugeNumber, number, h]
    rw [exec_gaugeReply polled, named]
    rfl
  exact ⟨_, run, ended s.now st raw fun _ => rfl⟩

end Sys2Proof.Machine
end

section
/-! SUPPORT. The timers of the level monitor and FORCE FAST (R3, R4, R11 to R13). -/

namespace Sys2Proof.Machine

/-! ## When the next round falls due (R3) -/

/-- A change of one body's sampling and its timers: of the other bodies nothing, and of the queue only its growth. -/
structure BodyTold (s t : State) (b : Body) : Prop where
  sampling : SamplingOnly s t
  others : ∀ c, c ≠ b → t.body c = s.body c
  queue : ∀ c, c ∈ s.levels.queue → c ∈ t.levels.queue

theorem BodyTold.trans {s t u : State} {b : Body} (h : BodyTold s t b) (h' : BodyTold t u b) : BodyTold s u b :=
  ⟨h.sampling.trans h'.sampling, fun c other => (h'.others c other).trans (h.others c other), fun c m => h'.queue c (h.queue c m)⟩

theorem BodyTold.refl (s : State) (b : Body) : BodyTold s s b := ⟨.refl s, fun _ _ => rfl, fun _ => id⟩

theorem BodyTold.setBody (s : State) (b : Body) {r : BodyRec} (same : r.core = (s.body b).core) : BodyTold s (s.setBody b r) b :=
  ⟨.setBody s b r same, fun c other => by rw [State.setBody_body, if_neg other], fun _ => id⟩

theorem State.enqueue_told (s : State) (b : Body) : BodyTold s (s.enqueue b) b ∧ b ∈ (s.enqueue b).levels.queue
    ∧ (s.enqueue b).body b = s.body b := by
  have sampling := s.enqueue_sampling b
  unfold State.enqueue at sampling ⊢
  by_cases waits : s.levels.queue.contains b = true
  · rw [if_pos waits]
    exact ⟨.refl s b, by simpa using waits, rfl⟩
  · rw [if_neg waits] at sampling ⊢
    exact ⟨⟨sampling, fun _ _ => rfl, fun c m => List.mem_append_left _ m⟩, by simp, rfl⟩

/-- R3: the next round's due time sets the body's timer, or puts it in the queue. -/
theorem State.dueAfter_told (s : State) (b : Body) (n : Nat) : BodyTold s (s.dueAfter b n) b ∧ s.FallsDue (s.dueAfter b n) b n
    ∧ ((s.dueAfter b n).body b).sampling = (s.body b).sampling ∧ ((s.dueAfter b n).body b).hold = (s.body b).hold := by
  unfold State.dueAfter
  cases last : (s.body b).lastRound with
  | none => exact ⟨.refl s b, fun r (some_ : _ = some r) => (by rw [last] at some_; cases some_), rfl, rfl⟩
  | some t =>
    have only {P : Nat → Prop} (h : P t) : ∀ r, (s.body b).lastRound = some r → P r := by
      intro r some_
      rw [last] at some_
      cases some_
      exact h
    dsimp only
    by_cases past : t + n ≤ s.now
    · rw [if_pos past]
      obtain ⟨told, queued, same⟩ := s.enqueue_told b
      exact ⟨told, only (by rw [if_pos past]; exact queued), by rw [same], by rw [same]⟩
    · rw [if_neg past]
      have own : ((s.setBody b { s.body b with roundTimer := some (t + n) }).body b) = { s.body b with roundTimer := some (t + n) } := by
        rw [State.setBody_body, if_pos rfl]
      exact ⟨.setBody s b rfl, only (by rw [if_neg past, own]), by rw [own], by rw [own]⟩

/-- R3: what becoming PRIMARY leaves of a body. -/
theorem State.becomePrimary_told (s : State) (b : Body) : BodyTold s (s.becomePrimary b) b
    ∧ ((s.becomePrimary b).body b).sampling = .primary ∧ ((s.becomePrimary b).body b).hold = (s.body b).hold
    ∧ s.FallsDue (s.becomePrimary b) b (seconds s.settings.primaryInterval) := by
  let t := s.setBody b { s.body b with sampling := .primary }
  have own : t.body b = { s.body b with sampling := .primary } := by rw [State.setBody_body, if_pos rfl]
  obtain ⟨told, due, sampling, hold⟩ := t.dueAfter_told b (s.interval .primary)
  refine ⟨(BodyTold.setBody s b (r := { s.body b with sampling := .primary }) rfl).trans told, sampling.trans (by rw [own]), hold.trans (by rw [own]), fun r last => ?_⟩
  exact due r (by rw [own]; exact last)

/-- R3: what becoming FAST leaves of a body. -/
theorem State.becomeFast_told (s : State) (b : Body) : BodyTold s (s.becomeFast b) b
    ∧ ((s.becomeFast b).body b).sampling = .fast ∧ ((s.becomeFast b).body b).hold = (s.body b).hold
    ∧ ((s.body b).sampling = .primary → s.FallsDue (s.becomeFast b) b s.settings.fastInterval) := by
  unfold State.becomeFast
  cases was : (s.body b).sampling with
  | fast => exact ⟨.refl s b, was, rfl, nofun⟩
  | primary =>
    let t := s.setBody b { s.body b with sampling := .fast }
    have own : t.body b = { s.body b with sampling := .fast } := by rw [State.setBody_body, if_pos rfl]
    obtain ⟨told, due, sampling, hold⟩ := t.dueAfter_told b (s.interval .fast)
    refine ⟨(BodyTold.setBody s b (r := { s.body b with sampling := .fast }) rfl).trans told, sampling.trans (by rw [own]), hold.trans (by rw [own]), fun _ r last => ?_⟩
    exact due r (by rw [own]; exact last)

/-- R3: what the end of a hold leaves of a body. -/
theorem State.holdOut_told (s : State) (b : Body) : BodyTold s (s.holdOut b) b ∧ ((s.holdOut b).body b).hold = none
    ∧ (s.levels.forceFast = true →
      ((s.holdOut b).body b).sampling = (s.body b).sampling ∧ (s.holdOut b).levels.queue = s.levels.queue)
    ∧ (s.levels.forceFast = false → ((s.holdOut b).body b).sampling = .primary
      ∧ s.FallsDue (s.holdOut b) b (seconds s.settings.primaryInterval)) := by
  let t := s.setBody b { s.body b with hold := none }
  have stopped : BodyTold s t b := .setBody s b rfl
  have own : t.body b = { s.body b with hold := none } := by rw [State.setBody_body, if_pos rfl]
  by_cases force : s.levels.forceFast = true
  · have eq : s.holdOut b = t := if_pos force
    rw [eq]
    exact ⟨stopped, by rw [own], fun _ => ⟨by rw [own], rfl⟩, fun off => by rw [force] at off; cases off⟩
  · have eq : s.holdOut b = t.becomePrimary b := if_neg force
    rw [eq]
    obtain ⟨told, primary, hold, due⟩ := t.becomePrimary_told b
    exact ⟨stopped.trans told, hold.trans (by rw [own]), fun on => absurd on force,
      fun _ => ⟨primary, fun r last => due r (by rw [own]; exact last)⟩⟩

/-! ## FORCE FAST (R4) -/

/-- R4: what a command for every body present does to each of them; what is said of one body reads its own record and the queue. -/
structure PerBody (f : State → Body → State) (P : State → State → Body → Prop) : Prop where
  told : ∀ s b, BodyTold s (f s b) b
  hold : ∀ s b, ((f s b).body b).hold = (s.body b).hold
  does : ∀ s b, P s (f s b) b
  congr : ∀ s s' t t' b, SamplingOnly s s' → s'.body b = s.body b → P s' t b → t'.body b = t.body b →
    (∀ c, c ∈ t.levels.queue → c ∈ t'.levels.queue) → P s t' b

theorem foldBodies {f : State → Body → State} {P : State → State → Body → Prop} (each : PerBody f P) (l : List Body) :
    ∀ s : State, l.Nodup → let t := l.foldl f s
      SamplingOnly s t ∧ (∀ b, b ∉ l → t.body b = s.body b) ∧ (∀ b, (t.body b).hold = (s.body b).hold)
        ∧ (∀ c, c ∈ s.levels.queue → c ∈ t.levels.queue) ∧ ∀ b ∈ l, P s t b := by
  induction l with
  | nil => exact fun s _ => ⟨.refl s, fun _ _ => rfl, fun _ => rfl, fun _ => id, fun b m => by cases m⟩
  | cons x l ih =>
    intro s nodup
    obtain ⟨notIn, nodup⟩ := List.nodup_cons.mp nodup
    obtain ⟨sampling, others, hold, queue, does⟩ := ih (f s x) nodup
    have told := each.told s x
    have untouched : (l.foldl f (f s x)).body x = (f s x).body x := others x notIn
    refine ⟨told.sampling.trans sampling, fun b out => ?_, fun b => ?_, fun c m => queue c (told.queue c m), fun b m => ?_⟩
    · obtain ⟨other, out⟩ := not_or.mp (List.mem_cons.not.mp out)
      exact (others b out).trans (told.others b other)
    · by_cases same : b = x
      · subst same
        exact (hold b).trans (each.hold s b)
      · exact (hold b).trans (congrArg (·.hold) (told.others b same))
    · rcases List.mem_cons.mp m with rfl | later
      · exact each.congr s s _ _ b (.refl s) rfl (each.does s b) untouched queue
      · have other : b ≠ x := fun same => notIn (same ▸ later)
        exact each.congr s (f s x) _ _ b told.sampling (told.others b other) (does b later) rfl fun _ => id

theorem FallsDue.congr {s s' t t' : State} {b : Body} {n : Nat} (same : s'.body b = s.body b) (now : s'.now = s.now)
    (due : s'.FallsDue t b n) (own : t'.body b = t.body b) (queue : ∀ c, c ∈ t.levels.queue → c ∈ t'.levels.queue) :
    s.FallsDue t' b n := by
  intro r last
  have was := due r (by rw [same]; exact last)
  rw [now] at was
  split at was
  case isTrue past => rw [if_pos past]; exact queue b was
  case isFalse ahead => rw [if_neg ahead, own]; exact was

/-- R4: what FORCE FAST ON makes of a body. -/
def Fastened (s t : State) (b : Body) : Prop :=
  (t.body b).sampling = .fast ∧ ((s.body b).sampling = .primary → s.FallsDue t b s.settings.fastInterval)

/-- R4: what FORCE FAST OFF makes of a body. -/
def Relaxed (s t : State) (b : Body) : Prop :=
  if s.fastCause b = false ∧ (s.body b).hold = none then
    (t.body b).sampling = .primary ∧ ((s.body b).sampling = .fast → s.FallsDue t b (seconds s.settings.primaryInterval))
  else (t.body b).sampling = (s.body b).sampling

theorem SamplingOnly.now {s t : State} (h : SamplingOnly s t) : t.now = s.now := by rw [h.rest]

theorem SamplingOnly.settings {s t : State} (h : SamplingOnly s t) : t.settings = s.settings := by rw [h.rest]

theorem SamplingOnly.fastCause {s t : State} (h : SamplingOnly s t) (b : Body) : t.fastCause b = s.fastCause b := by
  rw [h.rest]
  rfl

theorem becomeFast_perBody : PerBody State.becomeFast Fastened where
  told s b := (s.becomeFast_told b).1
  hold s b := (s.becomeFast_told b).2.2.1
  does s b := ⟨(s.becomeFast_told b).2.1, (s.becomeFast_told b).2.2.2⟩
  congr s s' t t' b only same := by
    rintro ⟨fast, due⟩ own queue
    refine ⟨by rw [own]; exact fast, fun was => ?_⟩
    rw [← only.settings]
    exact FallsDue.congr same only.now (due (by rw [same]; exact was)) own queue

theorem relaxBody_perBody : PerBody State.relaxBody Relaxed := by
  have cases_ (s : State) (b : Body) : (s.fastCause b = false ∧ (s.body b).hold = none ∧ (s.body b).sampling = .fast
      ∧ s.relaxBody b = s.becomePrimary b)
      ∨ ((s.fastCause b = false ∧ (s.body b).hold = none → (s.body b).sampling = .primary) ∧ s.relaxBody b = s) := by
    unfold State.relaxBody
    cases (s.body b).sampling <;> cases s.fastCause b <;> cases (s.body b).hold <;> simp
  refine ⟨fun s b => ?_, fun s b => ?_, fun s b => ?_, ?_⟩
  · rcases cases_ s b with ⟨-, -, -, eq⟩ | ⟨-, eq⟩ <;> rw [eq]
    · exact (s.becomePrimary_told b).1
    · exact .refl s b
  · rcases cases_ s b with ⟨-, -, -, eq⟩ | ⟨-, eq⟩ <;> rw [eq]
    exact (s.becomePrimary_told b).2.2.1
  · rcases cases_ s b with ⟨cause, hold, -, eq⟩ | ⟨stays, eq⟩ <;> rw [eq]
    · obtain ⟨-, primary, -, due⟩ := s.becomePrimary_told b
      exact (if_pos (And.intro cause hold)).mpr ⟨primary, fun _ => due⟩
    · unfold Relaxed
      split
      case isTrue h => exact ⟨stays h, fun fast => by rw [stays h] at fast; cases fast⟩
      case isFalse => rfl
  · intro s s' t t' b only same does own queue
    unfold Relaxed at does ⊢
    rw [only.fastCause, same, only.settings] at does
    rw [own]
    split at does
    case isTrue h =>
      rw [if_pos h]
      exact ⟨does.1, fun was => FallsDue.congr same only.now (does.2 was) own queue⟩
    case isFalse h =>
      rw [if_neg h]
      exact does

theorem SameBody.congr {s s' t t' : State} {b : Body} (h : SameBody s t b) (before : s'.body b = s.body b)
    (after : t'.body b = t.body b) : SameBody s' t' b := by
  obtain ⟨h1, h2, h3, h4, h5, h6⟩ := h
  rw [← before, ← after] at h1 h2 h3 h4 h5 h6
  exact ⟨h1, h2, h3, h4, h5, h6⟩

/-- Settles O16. -/
theorem levelTimersAndForceFastAct : Obligations.LevelTimersAndForceFastAct := by
  refine ⟨fun s b x hold => ?_, fun s p x settling => ?_, fun s x trail => ?_, fun s st on takes => ?_⟩
  · have run : exec (.holdTimerExpiry b) s = .next ((s.reach x).holdOut b) := by
      show execHoldTimerExpiry b s = _
      unfold execHoldTimerExpiry
      rw [hold]
    obtain ⟨told, cleared, forced, freed⟩ := (s.reach x).holdOut_told b
    exact ⟨_, run, told.sampling.rest, ⟨fun c => (told.sampling.levels.1 c).congr rfl rfl, told.sampling.levels.2⟩, told.sampling.forceFast, cleared,
      told.others, forced, freed⟩
  · have run : exec (.settleExpiry p) s = .next (((s.reach (x + seconds s.settings.eqSettle)).pairSettled p).finish) := by
      show execSettleExpiry p s = _
      unfold execSettleExpiry
      rw [settling]
    obtain ⟨t, ht⟩ : ∃ t, ((s.reach (x + seconds s.settings.eqSettle)).pairSettled p).finish = t := ⟨_, rfl⟩
    have core : t.core = ((s.reach (x + seconds s.settings.eqSettle)).setPair p .equalised).core := by
      rw [← ht]
      simp [State.pairSettled]
    rw [ht] at run
    refine ⟨t, run, ?_, fun q other => ?_, fun b => ?_, ?_, ?_⟩
    · rw [pair_of_core core, State.setPair_pair, if_pos rfl]
    · rw [pair_of_core core, State.setPair_pair, if_neg other]
      rfl
    · exact .of_bodyCore ((body_of_core core b).trans (setPair_bodyCore ..))
    · exact (now_of_core core).trans (State.setPair_now ..)
    · have reached : SameRecords s (s.reach (x + seconds s.settings.eqSettle)) :=
        ⟨rfl, rfl, rfl, rfl, rfl, rfl, rfl, rfl, rfl, rfl, fun _ => rfl⟩
      exact (reached.trans (setPair_records ..)).trans (.of_core core)
  · show execTrailTimerExpiry s = _
    unfold execTrailTimerExpiry
    rw [trail]
    rfl
  · let u := (s.validFrame st).setForceFast on
    obtain ⟨f, hf⟩ : ∃ f, (if on then State.becomeFast else State.relaxBody) = f := ⟨_, rfl⟩
    obtain ⟨P, each, fastens, relaxes⟩ : ∃ P, PerBody f P ∧ (on = true → P = Fastened) ∧ (on = false → P = Relaxed) := by
      cases on with
      | true => exact ⟨Fastened, hf ▸ becomeFast_perBody, fun _ => rfl, nofun⟩
      | false => exact ⟨Relaxed, hf ▸ relaxBody_perBody, nofun, fun _ => rfl⟩
    have nodup : u.presentBodies.Nodup := List.Nodup.filter _ (by decide)
    have present (b : Body) : b ∈ u.presentBodies ↔ s.bodyPresent b = true := by
      show b ∈ allBodies.filter s.bodyPresent ↔ _
      cases b <;> simp [allBodies]
    obtain ⟨sampling, others, hold, -, does⟩ := foldBodies each u.presentBodies u nodup
    have judged : judgeForceFast st on (s.validFrame st) = (u.presentBodies.foldl f u, some (.ok, [])) := by
      show Prod.mk _ _ = _
      rw [hf]
    generalize u.presentBodies.foldl f u = t at sampling others hold does judged
    have run : exec (.forceFast st on) s = .next (t.answered st 0x42 .ok []) :=
      State.exchange_answered takes judged (by rw [sampling.rest]; rfl) (by rw [sampling.rest]; rfl) (by rw [sampling.rest]; rfl)
    have frame : t.answered st 0x42 .ok [] = { s.answered st 0x42 .ok [] with levels := t.levels } := by
      have rest := sampling.rest
      generalize t.levels = L at rest ⊢
      rw [rest]
      exact State.answered_validFrame { s with levels := L } st 0x42 .ok []
    refine ⟨_, run, frame, sampling.forceFast, ⟨fun b => (sampling.levels.1 b).congr rfl rfl, sampling.levels.2⟩, hold,
      fun b absent => others b (by rw [present]; simp [absent]), fun turned b here => ?_, fun turned b here => ?_⟩
    · have fast := does b ((present b).mpr here)
      rw [fastens turned] at fast
      exact fast
    · have relaxed := does b ((present b).mpr here)
      rw [relaxes turned] at relaxed
      exact relaxed

end Sys2Proof.Machine
end

section
/-! SUPPORT. The lamps: their proving, their failing and their test (R122 to R126). -/

namespace Sys2Proof.Machine

/-! ## Lamps read after a change -/

theorem State.mapChamberLamps_lamp (s : State) (k : Chamber) (f : Lamp → Lamp) (l : LampId) :
    (s.mapChamberLamps k f).lamp l = if l.chamber = k then f (s.lamp l) else s.lamp l := by
  rcases l with ⟨k', g, n⟩
  cases k <;> cases k' <;> cases g <;> cases n <;> rfl

theorem Lamp.recount_testFailed (l : Lamp) (now : Nat) (lit tested : Bool) :
    (l.recount now lit tested).testFailed = l.testFailed := by
  unfold Lamp.recount
  split <;> rfl

theorem Lamp.recount_current (l : Lamp) (now : Nat) (lit tested : Bool) : (l.recount now lit tested).current = l.current := by
  unfold Lamp.recount
  split <;> rfl

theorem Lamp.recount_seen {l : Lamp} {now : Nat} {tested : Bool} (seen : l.current = true) :
    (l.recount now true tested).count = 0 ∧ (l.recount now true tested).since = none := by
  have zero : l.recount now true tested = { l with count := 0, since := none } := if_pos (by simp [seen])
  rw [zero]
  exact ⟨rfl, rfl⟩

theorem State.derive_lamp_testFailed (s : State) (l : LampId) : (s.derive.lamp l).testFailed = (s.lamp l).testFailed := by
  have driven : ∀ (k : Chamber) (l : Lamp) (out : LampOutput), (s.driveLamp k l out).testFailed = l.testFailed :=
    fun _ _ _ => Lamp.recount_testFailed ..
  rcases l with ⟨k, g, n⟩
  cases k <;> cases g <;> cases n <;> exact driven ..

/-- R125: in a lamp test every lamp is lit. -/
theorem State.derive_lamp_tested {s : State} {k : Chamber} (tested : (s.signals.tests.get k).isSome = true) (g : Signal)
    (n : LampName) : (s.derive.lamp ⟨k, g, n⟩).output = .lit := by
  rw [State.derive_lamp_output, State.outputs, if_pos tested]

/-! ## Flash phases (R122) -/

theorem Lamp.flash_facts (l : Lamp) (g : Generator) (now : Nat) (lit tested : Bool) :
    (l.flash g now lit tested).proven = l.proven ∧ (l.flash g now lit tested).output = l.output
      ∧ (l.output ≠ .flashing g → l.flash g now lit tested = l) := by
  unfold Lamp.flash
  split
  case isTrue h => exact ⟨Lamp.recount_proven .., Lamp.recount_output .., fun other => absurd h other⟩
  case isFalse => exact ⟨rfl, rfl, fun _ => rfl⟩

theorem flashPhaseChange_facts (s : State) (g : Generator) :
    ∃ t, exec (.flashPhaseChange g) s = .next t ∧ t = { s with now := max s.now (s.generator g).phaseEnd, signals := t.signals }
      ∧ t.generator g = (s.generator g).change (s.flashSettings g).1 (s.flashSettings g).2
      ∧ (∀ h, h ≠ g → t.generator h = s.generator h) ∧ t.signals.aspects = s.signals.aspects ∧ t.signals.tests = s.signals.tests
      ∧ ∀ l, (t.lamp l).proven = (s.lamp l).proven ∧ (t.lamp l).output = (s.lamp l).output
        ∧ ((s.lamp l).output ≠ .flashing g → t.lamp l = s.lamp l) := by
  let t := s.reach (s.generator g).phaseEnd
  let x := (s.generator g).change (s.flashSettings g).1 (s.flashSettings g).2
  let u := t.setGenerator g x
  let f := fun k (l : Lamp) => l.flash g u.now x.on (u.tested k)
  let v := (u.mapChamberLamps .c1 (f .c1)).mapChamberLamps .c2 (f .c2)
  refine ⟨v, rfl, ?_, ?_, fun h other => ?_, ?_, ?_, fun l => ?_⟩
  · cases g <;> rfl
  · cases g <;> rfl
  · cases g <;> cases h <;> first | rfl | exact absurd rfl other
  · cases g <;> rfl
  · cases g <;> rfl
  · have before : u.lamp l = s.lamp l := by cases g <;> rfl
    have lamp : v.lamp l = f l.chamber (s.lamp l) := by
      rw [State.mapChamberLamps_lamp, State.mapChamberLamps_lamp, before]
      cases l.chamber <;> rfl
    rw [lamp]
    exact Lamp.flash_facts ..

/-! ## Proving (R123, R124) -/

theorem provingInput_present {s : State} {l : LampId} {c : Bool} (present : s.chamberPresent l.chamber = true) :
    ∃ t, exec (.provingInput l c) s = .next t ∧ t = { s with signals.lamps := t.signals.lamps } ∧ (t.lamp l).current = c
      ∧ (t.lamp l).proven = (s.lamp l).proven ∧ (t.lamp l).output = (s.lamp l).output
      ∧ (c = true → s.lights (s.lamp l).output = true → (t.lamp l).count = 0 ∧ (t.lamp l).since = none)
      ∧ ∀ l', l' ≠ l → t.lamp l' = s.lamp l' := by
  let x := { s.lamp l with current := c }
  let y := x.recount s.now (s.lights x.output) (s.tested l.chamber)
  have own : (s.setLamp l y).lamp l = y := by rw [State.setLamp_lamp, if_pos rfl]
  refine ⟨s.setLamp l y, if_pos present, rfl, ?_, ?_, ?_, fun seen lit => ?_, fun l' other => ?_⟩
  · rw [own]; exact Lamp.recount_current ..
  · rw [own]; exact Lamp.recount_proven ..
  · rw [own]; exact Lamp.recount_output ..
  · rw [own, show y = x.recount s.now true (s.tested l.chamber) from congrArg (fun b => x.recount s.now b _) lit]
    exact Lamp.recount_seen seen
  · rw [State.setLamp_lamp, if_neg other]

theorem lampFault_eq (s : State) (l : LampId) :
    lampFault l.lamp ((s.signals.lamps.get l.chamber).get l.signal) =
      match l.lamp with
      | .green => .lampGreen
      | .redA => if (s.lamp { l with lamp := .redB }).proven then .lampRed else .lampRedBoth
      | .redB => if (s.lamp { l with lamp := .redA }).proven then .lampRed else .lampRedBoth := by
  rcases l with ⟨k, g, n⟩
  cases n <;> rfl

/-- R123, R124: what the failing of a PROVEN lamp leaves. -/
theorem failLamp_facts {s : State} (l : LampId) (calm : s.Calm) (proven : (s.lamp l).proven = true) :
    let f := lampFault l.lamp ((s.signals.lamps.get l.chamber).get l.signal)
    let t := (s.failLamp l).finish
    SameRecords s t
      ∧ t = { s with signals := t.signals, journal := t.journal, stations := t.stations, capture := t.capture }
      ∧ (t.lamp l).proven = false ∧ (∀ l', l' ≠ l → (t.lamp l').proven = (s.lamp l').proven)
      ∧ t.journal = (s.write (.fault f (.lamp l) s.time)).journal := by
  intro f t
  let x := { s.lamp l with proven := false, count := 0, since := none, testFailed := s.tested l.chamber }
  have failed : s.failLamp l = (s.setLamp l x).raiseFault f (.lamp l) := if_pos proven
  have frame := State.raiseFault_frame (s.setLamp l x) f (.lamp l)
  have calm' : ((s.setLamp l x).raiseFault f (.lamp l)).Calm := by
    rw [State.Calm, frame]
    exact calm
  have eq : t = ((s.setLamp l x).raiseFault f (.lamp l)).derive := by
    show (s.failLamp l).finish = _
    rw [failed, State.finish_calm calm']
  have lamp (m : LampId) : ((s.setLamp l x).raiseFault f (.lamp l)).lamp m = if m = l then x else s.lamp m := by
    rw [← State.setLamp_lamp, frame]
    rfl
  rw [eq]
  refine ⟨.of_core (by simp), ?_, ?_, fun m other => ?_, ?_⟩
  · generalize (s.setLamp l x).raiseFault f (.lamp l) = u at frame
    rw [State.derive_frame, frame]
    rfl
  · rw [State.derive_lamp_proven, lamp, if_pos rfl]
  · rw [State.derive_lamp_proven, lamp, if_neg other]
  · exact (State.raiseFault_journal ..).trans (State.write_journal_congr (s := s) (t := s.setLamp l x) rfl rfl _)

/-! ## The lamp test (R125, R126) -/

theorem lampTest_taken {s : State} {st : Station} {k : Chamber} (takes : s.takes st) (present : s.chamberPresent k = true)
    (shut : (s.chamber k).state = .outOfService) (calm : s.Calm) :
    ∃ t, exec (.lampTest st k) s = .next t ∧ t = { s.answered st 0x43 .ok [] with signals := t.signals }
      ∧ t.signals.tests.get k = some (s.now + 5000) ∧ t.signals.tests.get k.other = s.signals.tests.get k.other
      ∧ ∀ l, (t.lamp l).proven = (s.lamp l).proven
        ∧ (l.chamber = k → (t.lamp l).output = .lit ∧ (t.lamp l).testFailed = false) := by
  let u := (s.setTest k (some (s.now + 5000))).mapChamberLamps k Lamp.beginTest
  have judged : judgeLampTest st k (s.validFrame st) = (u.validFrame st).done .ok := by
    refine (State.judged_anyOf (s := s.validFrame st) present st _).trans ?_
    exact if_pos shut
  have run : exec (.lampTest st k) s = .next (u.derive.answered st 0x43 .ok []) :=
    State.exchange_done_same takes judged calm takes.2
  have lamp (l : LampId) : u.lamp l = if l.chamber = k then (s.lamp l).beginTest else s.lamp l := State.mapChamberLamps_lamp ..
  refine ⟨_, run, rfl, ?_, ?_, fun l => ⟨?_, fun own => ⟨?_, ?_⟩⟩⟩
  · cases k <;> rfl
  · cases k <;> rfl
  · refine (State.derive_lamp_proven ..).trans ?_
    rw [lamp]
    split <;> rfl
  · refine State.derive_lamp_tested (s := u) ?_ l.signal l.lamp
    rw [own]
    cases k <;> rfl
  · refine (State.derive_lamp_testFailed ..).trans ?_
    rw [lamp, if_pos own]
    rfl

theorem lampTestEnd_facts {s : State} {k : Chamber} {x : Nat} (calm : s.Calm) (running : s.signals.tests.get k = some x) :
    ∃ t, exec (.lampTestEnd k) s = .next t ∧ t = { s with now := max s.now x, signals := t.signals }
      ∧ t.signals.tests.get k = none ∧ t.signals.tests.get k.other = s.signals.tests.get k.other
      ∧ ∀ l, (t.lamp l).proven = if l.chamber = k then !(s.lamp l).testFailed else (s.lamp l).proven := by
  let u := ((s.reach x).setTest k none).mapChamberLamps k Lamp.endTest
  have run : exec (.lampTestEnd k) s = .next u.derive := by
    show execLampTestEnd k s = _
    unfold execLampTestEnd
    rw [running]
    exact congrArg Host.Outcome.next (State.finish_calm (s := u) calm)
  have lamp (l : LampId) : u.lamp l = if l.chamber = k then (s.lamp l).endTest else s.lamp l := State.mapChamberLamps_lamp ..
  refine ⟨_, run, rfl, ?_, ?_, fun l => ?_⟩
  · cases k <;> rfl
  · cases k <;> rfl
  · refine (State.derive_lamp_proven ..).trans ?_
    rw [lamp]
    split <;> rfl

theorem reach_records (s : State) (x : Nat) : SameRecords s (s.reach x) :=
  ⟨rfl, rfl, rfl, rfl, rfl, rfl, rfl, rfl, rfl, rfl, fun _ => rfl⟩

/-- Settles O50. -/
theorem lampsAreProvedAndTested : Obligations.LampsAreProvedAndTested := by
  refine ⟨fun s g => ?_, fun s l c absent => ?_, fun s l c present => provingInput_present present,
    fun s l x calm present due proven untested => ?_, fun s st k takes present => ⟨fun live => ?_, fun shut calm => ?_⟩,
    fun s k x calm running => lampTestEnd_facts calm running⟩
  · intro x rate duty period on
    obtain ⟨t, run, frame, own, rest⟩ := flashPhaseChange_facts s g
    refine ⟨t, run, frame, fun lit => own.trans (if_pos lit), fun dark => own.trans ?_, rest⟩
    refine (if_neg (by rw [dark]; nofun)).trans ?_
    cases g <;> rfl
  · exact if_neg (by rw [absent]; nofun)
  · intro f kind
    have named : lampFault l.lamp ((s.signals.lamps.get l.chamber).get l.signal) = kind :=
      (lampFault_eq s l).trans rfl
    have fails : (s.lamp l).failsAt s.now = some x := by
      unfold Lamp.failsAt
      rcases due with ⟨y, since, rfl⟩ | ⟨since, counted, rfl⟩
      · rw [since]
      · rw [since]
        exact if_pos counted
    have run : exec (.lampFailed l) s = .next ((s.reach x).failLamp l).finish := by
      show execLampFailed l s = _
      unfold execLampFailed
      rw [fails]
      exact if_pos (by simp [present, Lamp.counts, proven])
    obtain ⟨records, frame, failed, others, journal⟩ := failLamp_facts (s := s.reach x) l calm proven
    refine ⟨_, run, ?_, frame, failed, others, ?_⟩
    · exact (reach_records s x).trans records
    · rw [journal, ← named]
      exact State.write_journal_congr (s := s) (t := s.reach x) rfl rfl _
  · refine State.exchange_report takes ((State.judged_anyOf (s := s.validFrame st) present st _).trans ?_)
    exact if_neg live
  · exact lampTest_taken takes present shut calm

end Sys2Proof.Machine
end

section
/-! SUPPORT. Entering and cancelling passage orders (R94 to R98, R155). -/

namespace Sys2Proof.Machine

/-! ## The place of an order (R94) -/

theorem mem_insertOrder (o : Order) (l : List Order) : o ∈ insertOrder o l :=
  (insertOrder_perm o l).mem_iff.mpr List.mem_cons_self

/-- An order put in its place leaves the others as they stand. -/
theorem insertOrder_filter {o : Order} {l : List Order} (fresh : ∀ x ∈ l, x.number ≠ o.number) :
    (insertOrder o l).filter (fun x => decide (x.number ≠ o.number)) = l := by
  induction l with
  | nil => simp [insertOrder]
  | cons x xs ih =>
    have other : decide (x.number ≠ o.number) = true := by simpa using fresh x List.mem_cons_self
    have rest : ∀ y ∈ xs, y.number ≠ o.number := fun y m => fresh y (List.mem_cons_of_mem _ m)
    have all : xs.filter (fun x => decide (x.number ≠ o.number)) = xs :=
      List.filter_eq_self.mpr fun y m => by simpa using rest y m
    unfold insertOrder
    split
    · rw [List.filter_cons, if_pos other, ih rest]
    · rw [List.filter_cons, if_neg (by simp), List.filter_cons, if_pos other, all]

/-! ## ENTER ORDER (R96) -/

theorem State.pushAvailable_of_none {s : State} (none : ∀ k, s.available k = false) : s.pushAvailable = s := by
  rw [State.pushAvailable, none, none]
  rfl

theorem State.orderState_of_fits {s : State} {v : Vessel} (fits : s.fits v = true) (held : v.state ≠ .free) :
    s.orderState v = if v.state = .active then .waiting else .blocked .held := by
  unfold State.orderState
  cases h : v.state with
  | free => exact absurd h held
  | active => simp [fits]
  | held c => simp

/-- R95, R96: what an order that joins the book leaves. -/
theorem State.addOrder_vessel {s : State} {o : Order} (slot : o.slot < 128) (j : Nat) :
    (s.addOrder o).vessel j = if j = o.slot then { s.vessel o.slot with order := some o.number } else s.vessel j := by
  show (s.setVessel o.slot { s.vessel o.slot with order := some o.number }).vessel j = _
  rw [State.setVessel_vessel]
  by_cases same : j = o.slot
  · rw [if_pos ⟨same, slot⟩, if_pos same]
  · rw [if_neg fun h => same h.1, if_neg same]

/-- A frame handed to the journal leaves each station's record but for its notices and its line. -/
theorem State.write_station_core (s : State) (f : Frame) (x : Station) : ((s.write f).station x).core = (s.station x).core :=
  station_core_of_core (s.write_core f) x

/-- What a request leaves that changes the book and the register, hands a frame to the journal and is answered. -/
theorem State.written_answer {s u : State} {st : Station} {code : Nat} {judge : State → Judged} {f : Frame} {o : ReplyOutcome}
    {l : List WireField} (takes : s.takes st) (calm : u.Calm) (judged : judge (s.validFrame st) = ((u.validFrame st).write f).done o l)
    (same : u = { s with book := u.book, vessels := u.vessels }) :
    ∃ t, s.exchange st code judge = .next t
      ∧ t = { s.answered st code o l with
          book := t.book, vessels := t.vessels, journal := t.journal, signals := t.signals, stations := t.stations }
      ∧ (∀ x, (t.station x).core = ((s.answered st code o l).station x).core)
      ∧ t.book = u.book ∧ t.vessels = u.vessels ∧ t.journal = (u.write f).journal := by
  obtain ⟨w, hw⟩ : ∃ w, (u.validFrame st).write f = w := ⟨_, rfl⟩
  have frame : w = { u.validFrame st with journal := w.journal, stations := w.stations } := hw ▸ State.write_frame ..
  have cores (x : Station) : (w.station x).core = ((s.validFrame st).station x).core := by
    rw [← hw, State.write_station_core, same]
    rfl
  have journal : w.journal = (u.write f).journal := hw ▸ State.write_journal_congr (s := u) (t := u.validFrame st) rfl rfl f
  have calm' : w.Calm := by rw [State.Calm, frame]; exact calm
  have now : w.now = s.now := by rw [frame, same]; rfl
  have limit : w.settings.silenceLimit = s.settings.silenceLimit := by rw [frame, same]; rfl
  rw [hw] at judged
  refine ⟨_, State.exchange_done takes judged calm' (cores st) now limit, ?_, State.answered_core now limit cores, ?_, ?_, journal⟩
  · rw [State.derive_frame]
    generalize w.derive.signals = S
    generalize w.journal = J at frame
    generalize w.stations = N at frame
    rw [frame, same]
    rfl
  · show w.book = _
    rw [frame]; rfl
  · show w.vessels = _
    rw [frame]; rfl

theorem enterOrder_accepted {s : State} {st : Station} {i : Nat} {d : Direction} {laden : Bool} {c : OrderClass}
    (takes : s.takes st) (slot : i < 128) (few : s.book.orders.length < 32) (held : (s.vessel i).state ≠ .free)
    (free : (s.vessel i).order = none) (fits : s.fits (s.vessel i) = true) (calm : s.Calm) (none_ : ∀ k, s.available k = false) :
    let o := s.newOrder st i d laden c
    let u := s.addOrder o
    ∃ t, exec (.enterOrder st i d laden c) s = .next t
      ∧ t = { s.answered st 0x20 .ok (.half o.number :: o.state.fields) with
          book := t.book, vessels := t.vessels, journal := t.journal, signals := t.signals, stations := t.stations }
      ∧ (∀ x, (t.station x).core = ((s.answered st 0x20 .ok (.half o.number :: o.state.fields)).station x).core)
      ∧ t.book = u.book ∧ t.vessels = u.vessels ∧ t.journal = (u.write (.order (some o.number) i .entered st s.time)).journal := by
  intro o u
  have calm' : u.Calm := calm
  refine State.written_answer takes calm' ?_ rfl
  let w := (u.validFrame st).write (.order (some o.number) i .entered st s.time)
  have none' (k : Chamber) : w.available k = false := by
    have same : w.available k = s.available k := by
      show State.available (State.write _ _) k = _
      rw [State.write_frame]
      rfl
    rw [same, none_]
  have told : (if o.state = .waiting then w.pushAvailable else w) = w := by
    split
    · exact State.pushAvailable_of_none none'
    · rfl
  show (if 128 ≤ i then _ else _) = _
  rw [if_neg (by omega)]
  show (if 32 ≤ s.book.orders.length then _ else _) = _
  rw [if_neg (by omega)]
  show (if (s.vessel i).state = .free then _ else _) = _
  rw [if_neg held]
  show (match (s.vessel i).order with | some n => _ | none => _) = _
  rw [free]
  show (if s.fits (s.vessel i) then _ else _) = _
  rw [if_pos fits]
  exact congrArg (fun x : State => x.done .ok (.half o.number :: o.state.fields)) told

theorem enterOrder_oversize {s : State} {st : Station} {i : Nat} {d : Direction} {laden : Bool} {c : OrderClass}
    (takes : s.takes st) (slot : i < 128) (few : s.book.orders.length < 32) (held : (s.vessel i).state ≠ .free)
    (free : (s.vessel i).order = none) (large : s.fits (s.vessel i) = false) :
    ∃ t, exec (.enterOrder st i d laden c) s = .next t
      ∧ t = { s.answered st 0x20 .oversize [] with
          journal := t.journal, stations := t.stations
          tallies.oversize := countClass s.tallies.oversize (lengthClass (s.vessel i).length) }
      ∧ (∀ x, (t.station x).core = ((s.answered st 0x20 .oversize []).station x).core)
      ∧ t.journal = (s.write (.order none i .refusedOversize st s.time)).journal := by
  let u : State := { s with tallies.oversize := countClass s.tallies.oversize (lengthClass (s.vessel i).length) }
  let f : Frame := .order none i .refusedOversize st s.time
  obtain ⟨w, hw⟩ : ∃ w, (u.validFrame st).write f = w := ⟨_, rfl⟩
  have judged : judgeEnterOrder st i d laden c (s.validFrame st) = (w, some (.oversize, [])) := by
    rw [← hw]
    show (if 128 ≤ i then _ else _) = _
    rw [if_neg (by omega)]
    show (if 32 ≤ s.book.orders.length then _ else _) = _
    rw [if_neg (by omega)]
    show (if (s.vessel i).state = .free then _ else _) = _
    rw [if_neg held]
    show (match (s.vessel i).order with | some n => _ | none => _) = _
    rw [free]
    show (if s.fits (s.vessel i) then _ else _) = _
    rw [large]
    rfl
  have frame : w = { u.validFrame st with journal := w.journal, stations := w.stations } := hw ▸ State.write_frame ..
  have cores (x : Station) : (w.station x).core = ((s.validFrame st).station x).core := by
    rw [← hw, State.write_station_core]
    rfl
  have now : w.now = s.now := by rw [frame]; rfl
  have limit : w.settings.silenceLimit = s.settings.silenceLimit := by rw [frame]; rfl
  refine ⟨_, State.exchange_answered takes judged (cores st) now limit, ?_, State.answered_core now limit cores, ?_⟩
  · generalize w.journal = J at frame
    generalize w.stations = N at frame
    rw [frame]
    rfl
  · show w.journal = _
    rw [← hw]
    exact State.write_journal_congr (s := s) (t := u.validFrame st) rfl rfl f

/-- Settles O37. -/
theorem enterOrderJoinsTheBook : Obligations.EnterOrderJoinsTheBook := by
  intro s st i d laden c takes slot few held free
  refine ⟨fun fits calm none_ => ?_, fun large => enterOrder_oversize takes slot few held free large⟩
  obtain ⟨t, run, frame, cores, book, vessels, journal⟩ :=
    enterOrder_accepted (d := d) (laden := laden) (c := c) takes slot few held free fits calm none_
  let o := s.newOrder st i d laden c
  have fresh : ∀ x ∈ s.book.orders, x.number ≠ o.number := fun x m same =>
    s.newOrder_number st i d laden c few (List.mem_map.mpr ⟨x, m, same⟩)
  have inList (x : Order) (m : x ∈ s.book.lists.get d) : x ∈ s.book.orders := Book.mem_orders.mpr ⟨d, m⟩
  have own : t.book.lists.get d = insertOrder o (s.book.lists.get d) := by
    rw [book, State.addOrder_lists]
    show (s.book.lists.set d _).get d = _
    rw [PerDirection.get_set, if_pos rfl]
    rfl
  have other : t.book.lists.get d.other = s.book.lists.get d.other := by
    rw [book, State.addOrder_lists]
    show (s.book.lists.set d _).get d.other = _
    rw [PerDirection.get_set, if_neg (by cases d <;> nofun)]
  have vessel (j : Nat) : t.vessel j = if j = i then { s.vessel i with order := some o.number } else s.vessel j := by
    rw [State.vessel, vessels]
    exact State.addOrder_vessel (s := s) (o := o) slot j
  refine ⟨o, t, run, frame, cores, rfl, rfl, rfl, rfl, rfl, rfl, rfl, rfl, rfl, State.orderState_of_fits fits held, fresh, ?_, ?_, ?_,
    other, ?_, ?_, ?_, ?_, ?_, ?_, fun j away => ?_, ?_⟩
  · rw [own]; exact mem_insertOrder ..
  · rw [own]; exact insertOrder_filter fun x m => fresh x (inList x m)
  · intro ordered later
    rw [own]
    exact insertOrder_pairwise later ordered
  · rw [book]; rfl
  · rw [book]; rfl
  · rw [book]; rfl
  · rw [book]; rfl
  · rw [book]
    show (if s.book.orders.isEmpty then _ else _) = _
    simp only [List.isEmpty_iff]
    rfl
  · rw [vessel, if_pos rfl]
  · rw [vessel, if_neg away]
  · rw [journal]
    exact State.write_journal_congr (s := s) (t := s.addOrder o) rfl rfl _

end Sys2Proof.Machine
end

section
/-! SUPPORT. Orders that leave the book, and the batch they leave (R97, R101, R111, R155). -/

namespace Sys2Proof.Machine

/-! ## One consequence -/

/-- An event whose one consequence leaves nothing more to do. -/
theorem State.finish_one {s u : State} {task : Task} (agenda : s.agenda = [task])
    (done : (({ s with agenda := [] } : State).derive).runTask task = u) (calm : u.Calm) : s.finish = u.derive := by
  have first : ({ s.derive with agenda := [] } : State).runTask task = u := done
  have settled : settle cascadeFuel s.derive = u.derive := by
    rw [settle_cons 63 s.derive task [] agenda, first, settle_nil 63 u.derive calm.1]
  show (settle cascadeFuel s.derive).derive.clearDeferred = _
  rw [settled, State.derive_derive]
  exact State.clearDeferred_self calm.2

/-- The same of a state in which nothing waits, given that one consequence. -/
theorem State.finish_push {s u : State} {task : Task} (calm : s.Calm) (done : s.derive.runTask task = u) (calm' : u.Calm) :
    (s.push task).finish = u.derive := by
  have pushed : s.push task = { s with agenda := [task] } := by
    have idle : s.agenda = [] := calm.1
    unfold State.push
    rw [idle]
    rfl
  have cleared : ({ s.push task with agenda := [] } : State) = s := by
    rw [pushed, ← calm.1]
  refine State.finish_one (by rw [pushed]) ?_ calm'
  rw [cleared, done]

theorem State.setChamber_self (s : State) (k : Chamber) : s.setChamber k (s.chamber k) = s := by
  cases k <;> rfl

/-- R41: without a batch, the rest state of a DIRECTED chamber drops its pending order and calls for nothing. -/
theorem State.restStep_directed {s : State} {k : Chamber} (none_ : s.batch k = none)
    (directed : (s.chamber k).mode = .directed ∨ (s.chamber k).state.rest = none) :
    s.restStep k = s.setChamber k { s.chamber k with
      pendingOrder := if (s.chamber k).state.rest.isSome then none else (s.chamber k).pendingOrder } := by
  have shut : s.available k = false := by
    rcases directed with h | h <;> rw [State.available, h] <;> simp
  unfold State.restStep
  cases rest : (s.chamber k).state.rest with
  | none =>
    show s = s.setChamber k (s.chamber k)
    rw [State.setChamber_self]
  | some x =>
    dsimp only
    rw [none_, shut]
    rfl

/-! ## A batch's operations while no binding is deferred -/

theorem State.removeBatch_calm {s : State} {k : Chamber} (none_ : s.book.deferred = ⟨false, false⟩) :
    s.removeBatch k = (s.setBatch k none).setChamber k
      { s.chamber k with entry := none, entryOverdue := false, leave := none, clearOut := false, leaveOverdue := false } :=
  State.noteFreed_of_none (s := (s.setBatch k none).setChamber k
    { s.chamber k with entry := none, entryOverdue := false, leave := none, clearOut := false, leaveOverdue := false }) none_ s

theorem State.releaseReserve_calm {s : State} {k : Chamber} {b : Batch} (none_ : s.book.deferred = ⟨false, false⟩)
    (batch : s.batch k = some b) (n : Nat) :
    s.releaseReserve k n = s.setBatch k (some { b with reserve := b.reserve - n }) := by
  unfold State.releaseReserve
  rw [batch]
  exact State.noteFreed_of_none (s := s.setBatch k (some { b with reserve := b.reserve - n })) none_ s

theorem State.reapportion_unfilled {s : State} {k : Chamber} {b : Batch} (batch : s.batch k = some b) (unfilled : b.fill = none)
    (toSite : Bool) : s.reapportion k toSite = s := by
  unfold State.reapportion
  rw [batch]
  dsimp only
  rw [unfilled]

theorem State.leaveBatch_some {s : State} {k : Chamber} {b : Batch} (batch : s.batch k = some b) (n : Nat) :
    s.leaveBatch k n = s.setBatch k (some (b.without n)) := by
  unfold State.leaveBatch
  rw [batch]

/-- R97, R155: a member leaves its batch, and its 16 words of the reserve go back. -/
theorem State.member_leaves_calm {s : State} {k : Chamber} {b : Batch} {m : Member} (none_ : s.book.deferred = ⟨false, false⟩)
    (batch : s.batch k = some b) (member : m ∈ b.members) :
    (s.leaveBatch k m.order).releaseReserve k (s.memberWords k m.order)
      = s.setBatch k (some { b.without m.order with reserve := b.reserve - 16 }) := by
  have words : s.memberWords k m.order = 16 := by
    unfold State.memberWords
    rw [batch]
    exact if_pos (List.any_eq_true.mpr ⟨m, member, by simp⟩)
  have left : (s.setBatch k (some (b.without m.order))).batch k = some (b.without m.order) := by
    rw [State.setBatch_batch, if_pos rfl]
  have reserve : (b.without m.order).reserve = b.reserve := (b.without_rest m.order).2.1
  have calm : (s.setBatch k (some (b.without m.order))).book.deferred = ⟨false, false⟩ := none_
  rw [State.leaveBatch_some batch, words, State.releaseReserve_calm calm left, reserve]
  cases k <;> rfl

/-- R97: what a member's leaving makes of its batch. -/
theorem Batch.without_eq {b : Batch} {m : Member} (member : m ∈ b.members)
    (only : ∀ x ∈ b.members, x.order = m.order → x = m) :
    b.without m.order =
      let rest := b.members.filter (fun x => decide (x.order ≠ m.order))
      let beams := (rest.filter (fun x => decide (x.row = m.row))).map (·.beam)
      { b with
        members := if beams = [] then rest.map (fun x => if m.row < x.row then { x with row := x.row - 1 } else x) else rest
        rows :=
          if beams = [] then b.rows.eraseIdx (m.row - 1)
          else b.rows.modify (m.row - 1) (fun r => { r with width := beams.sum + b.sideClear * (beams.length - 1) }) } := by
  have found : b.members.find? (fun x => decide (x.order = m.order)) = some m := by
    cases h : b.members.find? (fun x => decide (x.order = m.order)) with
    | none => exact absurd (List.find?_eq_none.mp h m member) (by simp)
    | some x => rw [only x (List.mem_of_find?_eq_some h) (by simpa using List.find?_some h)]
  unfold Batch.without
  rw [found]
  simp only [beamsOf, rowWidth, List.isEmpty_iff]
  split <;> rfl

/-! ## CANCEL ORDER (R97) -/

theorem State.chamberOf_some {s : State} {k : Chamber} {b : Batch} (batch : s.batch k = some b)
    (other : ∀ c, s.batch k.other = some c → c.number ≠ b.number) : s.chamberOf b.number = some (k, b) := by
  unfold State.chamberOf
  cases k with
  | c1 =>
    rw [batch]
    cases s.batch .c2 <;> exact if_pos rfl
  | c2 =>
    rw [batch]
    cases h : s.batch .c1 with
    | none => exact if_pos rfl
    | some c => exact (if_neg (other c h)).trans (if_pos rfl)

/-- R92, R94, R98: what the removal of an order leaves of the book and of its vessel. -/
structure OrderGone (s t : State) (o : Order) : Prop where
  lists : ∀ d, t.book.lists.get d = (s.book.lists.get d).filter (fun x => decide (x.number ≠ o.number))
  timer : t.book.timer = if t.book.orders = [] then none else s.book.timer
  counters : t.book.nextOrder = s.book.nextOrder ∧ t.book.nextBatch = s.book.nextBatch
    ∧ t.book.entrySequence = s.book.entrySequence ∧ t.book.deferred = s.book.deferred
  vessel : t.vessel o.slot = { s.vessel o.slot with order := none }
  others : ∀ j, j ≠ o.slot → t.vessel j = s.vessel j

theorem State.removeOrder_gone (s : State) {o : Order} (slot : o.slot < 128) : OrderGone s (s.removeOrder o) o := by
  have vessel (j : Nat) : (s.removeOrder o).vessel j = if j = o.slot then { s.vessel o.slot with order := none } else s.vessel j := by
    show (s.setVessel o.slot { s.vessel o.slot with order := none }).vessel j = _
    rw [State.setVessel_vessel]
    by_cases same : j = o.slot
    · rw [if_pos ⟨same, slot⟩, if_pos same]
    · rw [if_neg fun h => same h.1, if_neg same]
  refine ⟨fun d => ?_, ?_, ?_, by rw [vessel, if_pos rfl], fun j other => by rw [vessel, if_neg other]⟩
  · rw [(s.removeOrder_book o).1]
    cases d <;> rfl
  · let b := s.book.mapLists (fun l => l.filter (fun x => decide (x.number ≠ o.number)))
    show (if b.orders.isEmpty then { b with timer := none } else b).timer
      = if (if b.orders.isEmpty then { b with timer := none } else b).orders = [] then none else b.timer
    by_cases none_ : b.orders = []
    · rw [if_pos (by rw [none_]; rfl)]
      exact (if_pos none_).symm
    · rw [if_neg (by simpa using none_), if_neg none_]
  · unfold State.removeOrder
    dsimp only
    split <;> exact ⟨rfl, rfl, rfl, rfl⟩

/-- R97: a cancellation that changes no batch but as `v` has it before. -/
theorem cancelOrder_answer {s v : State} {st : Station} {o : Order} (takes : s.takes st) (calm : s.Calm)
    (same : v = { s with book := v.book }) (deferred : v.book.deferred = s.book.deferred)
    (judged : judgeCancelOrder st o.number (s.validFrame st) = ((v.validFrame st).cancelled st o).done .ok) :
    ∃ t, exec (.cancelOrder st o.number) s = .next t
      ∧ t = { s.answered st 0x21 .ok [] with
          book := t.book, vessels := t.vessels, journal := t.journal, signals := t.signals, stations := t.stations }
      ∧ (∀ x, (t.station x).core = ((s.answered st 0x21 .ok []).station x).core)
      ∧ t.book = (v.removeOrder o).book ∧ t.vessels = (v.removeOrder o).vessels
      ∧ t.journal = (v.write (.order (some o.number) o.slot .cancelled st s.time)).journal := by
  have time : v.time = s.time := by rw [same]; rfl
  have calm' : (v.removeOrder o).Calm := by
    refine ⟨?_, ?_⟩
    · show v.agenda = []
      rw [same]
      exact calm.1
    · refine Eq.trans ?_ (deferred.trans calm.2)
      unfold State.removeOrder
      dsimp only
      split <;> rfl
  have frame : v.removeOrder o = { s with book := (v.removeOrder o).book, vessels := (v.removeOrder o).vessels } := by
    have rest : v.removeOrder o = { v with book := (v.removeOrder o).book, vessels := (v.removeOrder o).vessels } := rfl
    generalize (v.removeOrder o).book = B at rest ⊢
    generalize (v.removeOrder o).vessels = V at rest ⊢
    rw [rest, same]
  have judged' : judgeCancelOrder st o.number (s.validFrame st)
      = (((v.removeOrder o).validFrame st).write (.order (some o.number) o.slot .cancelled st s.time)).done .ok := by
    rw [judged, ← time]
    rfl
  obtain ⟨t, run, shape, cores, book, vessels, journal⟩ := State.written_answer takes calm' judged' frame
  refine ⟨t, run, shape, cores, book, vessels, journal.trans (State.write_journal_congr ?_ ?_ _)⟩
  · rfl
  · have batches := (v.removeOrder_book o).2.2
    simp only [State.reserved, State.reserveOf, State.batch, batches]

/-- R111: the sequencer of a DIRECTED chamber whose batch has gone. -/
def Sequencer.batchGone (c : Sequencer) : Sequencer :=
  { c with
    entry := none, entryOverdue := false, leave := none, clearOut := false, leaveOverdue := false
    pendingOrder := if c.state.rest.isSome then none else c.pendingOrder }

/-- R48, R56: a batch that leaves a DIRECTED chamber, with what follows. -/
theorem State.removeBatch_finish {s : State} {k : Chamber} (calm : s.Calm)
    (directed : (s.chamber k).mode = .directed ∨ (s.chamber k).state.rest = none) :
    ∃ S, ((s.removeBatch k).push (.rest k)).finish =
      { (s.setBatch k none).setChamber k (s.chamber k).batchGone with signals := S } := by
  let c : Sequencer :=
    { s.chamber k with entry := none, entryOverdue := false, leave := none, clearOut := false, leaveOverdue := false }
  let u := (s.setBatch k none).setChamber k c
  have own : u.derive.chamber k = c := by
    show u.chamber k = c
    rw [State.setChamber_chamber, if_pos rfl]
  have gone : u.derive.batch k = none := by
    show (s.setBatch k none).batch k = none
    rw [State.setBatch_batch, if_pos rfl]
  have step : u.derive.restStep k = u.derive.setChamber k (s.chamber k).batchGone := by
    rw [State.restStep_directed gone (by rw [own]; exact directed), own]
    rfl
  refine ⟨(u.derive.setChamber k (s.chamber k).batchGone).derive.signals, ?_⟩
  rw [State.removeBatch_calm calm.2, State.finish_push (s := u) (task := .rest k) calm step calm, State.derive_frame]
  cases k <;> rfl

/-- R111: a batch without a fill record abandoned in a DIRECTED chamber, with what follows. -/
theorem State.abandonBatch_finish {s : State} {k : Chamber} {b : Batch} (calm : s.Calm) (batch : s.batch k = some b)
    (unfilled : b.fill = none) (directed : (s.chamber k).mode = .directed ∨ (s.chamber k).state.rest = none) :
    ∃ S, (s.abandonBatch k).finish = { (s.setBatch k none).setChamber k (s.chamber k).batchGone with signals := S } := by
  rw [State.abandonBatch, State.reapportion_unfilled batch unfilled]
  exact State.removeBatch_finish calm directed

/-- What an answer leaves beside the stations, when the request has changed the passage book, the register, the sequencers and the
journal alone. -/
theorem State.answered_books {s u : State} {st : Station} {code : Nat} {o : ReplyOutcome} {l : List WireField}
    (shape : u = { s with
      book := u.book, vessels := u.vessels, chambers := u.chambers, journal := u.journal, signals := u.signals
      stations := u.stations }) :
    u.answered st code o l = { s.answered st code o l with
      book := u.book, vessels := u.vessels, chambers := u.chambers, journal := u.journal, signals := u.signals
      stations := (u.answered st code o l).stations } := by
  have ends : u.answered st code o l = { u with stations := (u.answered st code o l).stations } := rfl
  generalize u.answered st code o l = t at ends ⊢
  generalize t.stations = N at ends ⊢
  generalize u.book = B at shape ⊢
  generalize u.vessels = V at shape ⊢
  generalize u.chambers = C at shape ⊢
  generalize u.journal = J at shape ⊢
  generalize u.signals = G at shape ⊢
  rw [ends, shape]
  rfl

theorem State.cancelled_batch (s : State) (st : Station) (o : Order) (k : Chamber) : (s.cancelled st o).batch k = s.batch k := by
  have batches := (s.removeOrder_book o).2.2
  show State.batch (State.write _ _) k = _
  rw [State.write_frame]
  exact congrArg (fun x : PerChamber (Option Batch) => x.get k) batches

/-- R111: the cancellation of the last member abandons the batch, here of a DIRECTED chamber and without a fill record. -/
theorem cancelOrder_abandons {s : State} {st : Station} {o : Order} {k : Chamber} {left : Batch} (takes : s.takes st)
    (calm : s.Calm) (empty : left.members = []) (unfilled : left.fill = none) (directed : (s.chamber k).mode = .directed)
    (judged : judgeCancelOrder st o.number (s.validFrame st)
      = ((((s.setBatch k (some left)).validFrame st).cancelled st o).abandonEmpty k).done .ok) :
    let v := s.setBatch k (some left)
    ∃ t, exec (.cancelOrder st o.number) s = .next t
      ∧ t = { s.answered st 0x21 .ok [] with
          book := t.book, vessels := t.vessels, chambers := t.chambers, journal := t.journal, signals := t.signals
          stations := t.stations }
      ∧ (∀ x, (t.station x).core = ((s.answered st 0x21 .ok []).station x).core)
      ∧ t.book = { (v.removeOrder o).book with batches := s.book.batches.set k none } ∧ t.vessels = (v.removeOrder o).vessels
      ∧ t.journal = (v.write (.order (some o.number) o.slot .cancelled st s.time)).journal
      ∧ t.chambers = s.chambers.set k (s.chamber k).batchGone := by
  intro v
  obtain ⟨w, hw⟩ : ∃ w, (v.validFrame st).cancelled st o = w := ⟨_, rfl⟩
  have held : w.batch k = some left := by
    rw [← hw, State.cancelled_batch]
    show v.batch k = _
    rw [State.setBatch_batch, if_pos rfl]
  have frame : w = { s with
      book := (v.removeOrder o).book, vessels := (v.removeOrder o).vessels, journal := w.journal, stations := w.stations } :=
    hw ▸ State.write_frame ..
  have cores (x : Station) : (w.station x).core = ((s.validFrame st).station x).core := by
    rw [← hw]
    exact State.write_station_core ..
  have journal : w.journal = (v.write (.order (some o.number) o.slot .cancelled st s.time)).journal := by
    have reserved : ((v.validFrame st).removeOrder o).reserved = v.reserved := by
      have batches := ((v.validFrame st).removeOrder_book o).2.2
      simp only [State.reserved, State.reserveOf, State.batch, batches]
      rfl
    rw [← hw]
    exact State.write_journal_congr (s := v) (t := (v.validFrame st).removeOrder o) rfl reserved _
  have counters := (v.removeOrder_book o)
  have deferred : (v.removeOrder o).book.deferred = s.book.deferred := by
    unfold State.removeOrder
    dsimp only
    split <;> rfl
  rw [hw] at judged
  have wcalm : w.Calm := by
    rw [State.Calm, frame]
    exact ⟨calm.1, deferred.trans calm.2⟩
  have chambers : w.chambers = s.chambers := by rw [frame]
  have own : w.chamber k = s.chamber k := congrArg (fun c : PerChamber Sequencer => c.get k) chambers
  have abandons : w.abandonEmpty k = w.abandonBatch k := by
    unfold State.abandonEmpty
    rw [held]
    exact if_pos (by rw [empty]; rfl)
  obtain ⟨S, after⟩ := State.abandonBatch_finish wcalm held unfilled (by rw [own]; exact .inl directed)
  obtain ⟨u, hu⟩ : ∃ u, ({ (w.setBatch k none).setChamber k (w.chamber k).batchGone with signals := S } : State) = u := ⟨_, rfl⟩
  rw [hu] at after
  have judged' : judgeCancelOrder st o.number (s.validFrame st) = (u, some (.ok, [])) := by
    rw [judged, ← after, ← abandons]
    rfl
  have shape : u = { s with
      book := u.book, vessels := u.vessels, chambers := u.chambers, journal := u.journal, signals := u.signals
      stations := u.stations } := by
    rw [← hu, frame]
    rfl
  have stations (x : Station) : (u.station x).core = ((s.validFrame st).station x).core := by
    rw [← cores x, ← hu]
    rfl
  have now : u.now = s.now := by rw [shape]
  have limit : u.settings.silenceLimit = s.settings.silenceLimit := by rw [shape]
  have book : u.book = { (v.removeOrder o).book with batches := s.book.batches.set k none } := by
    rw [← hu]
    show ({ w.book with batches := w.book.batches.set k none } : Book) = _
    have same : w.book = (v.removeOrder o).book := by rw [frame]
    rw [same, counters.2.2]
    cases k <;> rfl
  refine ⟨u.answered st 0x21 .ok [], State.exchange_answered takes judged' (stations st) now limit, State.answered_books shape,
    State.answered_core now limit stations, book, ?_, ?_, ?_⟩
  · show u.vessels = _
    rw [← hu]
    show w.vessels = _
    rw [frame]
  · show u.journal = _
    rw [← journal, ← hu]
    rfl
  · show u.chambers = _
    rw [← hu]
    show w.chambers.set k (w.chamber k).batchGone = _
    rw [chambers, own]

/-- Settles O38. -/
theorem cancelOrderLeavesTheBook : Obligations.CancelOrderLeavesTheBook := by
  refine ⟨fun s st n takes absent => ?_, fun s st o takes held slot => ?_⟩
  · refine State.exchange_report takes ?_
    show (match s.book.find n with | none => _ | some o => _) = _
    rw [absent]
    rfl
  intro gone frame
  have goneOf {v t : State} (same : v = { s with book := v.book }) (lists : v.book.lists = s.book.lists)
      (timer : v.book.timer = s.book.timer) (counters : v.book.nextOrder = s.book.nextOrder ∧ v.book.nextBatch = s.book.nextBatch
        ∧ v.book.entrySequence = s.book.entrySequence ∧ v.book.deferred = s.book.deferred)
      (cores : ∀ x, (t.station x).core = ((s.answered st 0x21 .ok []).station x).core)
      (book : ∃ x, t.book = { (v.removeOrder o).book with batches := x }) (vessels : t.vessels = (v.removeOrder o).vessels) : gone t := by
    obtain ⟨x, book⟩ := book
    obtain ⟨lists', timer', counters', vessel', others'⟩ := v.removeOrder_gone slot
    have before (j : Nat) : v.vessel j = s.vessel j := by rw [same]; rfl
    have after (j : Nat) : t.vessel j = (v.removeOrder o).vessel j := by rw [State.vessel, vessels]; rfl
    obtain ⟨nextOrder, nextBatch, entry, deferred⟩ := counters
    obtain ⟨nextOrder', nextBatch', entry', deferred'⟩ := counters'
    refine ⟨cores, fun d => ?_, ?_, ?_, ?_, ?_, ?_, ?_, fun j away => ?_⟩
    · rw [book]; exact (lists' d).trans (by rw [lists])
    · rw [book]; exact timer'.trans (by rw [timer]; rfl)
    · rw [book]; exact nextOrder'.trans nextOrder
    · rw [book]; exact nextBatch'.trans nextBatch
    · rw [book]; exact entry'.trans entry
    · rw [book]; exact deferred'.trans deferred
    · rw [after, vessel', before]
    · rw [after, others' j away, before]
  refine ⟨fun unbound calm => ?_, fun k b bound batch other => ⟨fun past => ?_, ?_⟩⟩
  · have judged : judgeCancelOrder st o.number (s.validFrame st) = ((s.validFrame st).cancelled st o).done .ok := by
      show (match s.book.find o.number with | none => _ | some o => _) = _
      rw [held]
      dsimp only
      cases h : o.state with
      | bound n => rw [h] at unbound; cases unbound
      | waiting => rfl
      | blocked c => rfl
    obtain ⟨t, run, shape, cores, book, vessels, journal⟩ := cancelOrder_answer takes calm rfl rfl judged
    obtain ⟨x, b⟩ : ∃ x, t.book = { (s.removeOrder o).book with batches := x } := ⟨(s.removeOrder o).book.batches, book⟩
    exact ⟨t, run, goneOf rfl rfl rfl ⟨rfl, rfl, rfl, rfl⟩ cores ⟨x, b⟩ vessels, by rw [book]; exact (s.removeOrder_book o).2.2, shape,
      journal⟩
  · have chamber : (s.validFrame st).chamberOf b.number = some (k, b) := State.chamberOf_some (s := s.validFrame st) batch other
    refine State.exchange_report takes ?_
    show (match s.book.find o.number with | none => _ | some o => _) = _
    rw [held]
    dsimp only
    rw [bound]
    dsimp only
    rw [chamber]
    refine if_neg ?_
    rcases past with h | h <;> rw [h] <;> simp
  · intro m early calm member named only rest beams
    obtain ⟨left, hleft⟩ : ∃ left, ({ b.without m.order with reserve := b.reserve - 16 } : Batch) = left := ⟨_, rfl⟩
    have leftEq := hleft
    rw [Batch.without_eq member (fun x mem same => only x mem (same.trans named)), named] at leftEq
    let v := s.setBatch k (some left)
    have chamber : (s.validFrame st).chamberOf b.number = some (k, b) := State.chamberOf_some (s := s.validFrame st) batch other
    have judged : judgeCancelOrder st o.number (s.validFrame st)
        = (((v.validFrame st).cancelled st o).abandonEmpty k).done .ok := by
      have leaves := State.member_leaves_calm (s := s.validFrame st) (k := k) calm.2 batch member
      rw [hleft, named] at leaves
      show (match s.book.find o.number with | none => _ | some o => _) = _
      rw [held]
      dsimp only
      rw [bound]
      dsimp only
      rw [chamber]
      refine (if_pos early).trans ?_
      rw [leaves]
      rfl
    have same : v = { s with book := v.book } := rfl
    have batch' : v.batch k = some left := by rw [State.setBatch_batch, if_pos rfl]
    let w := (v.validFrame st).cancelled st o
    have heldBatch : w.batch k = some left := (State.cancelled_batch ..).trans batch'
    refine ⟨?_, fun none_ unfilled directed => ?_⟩
    · intro some_ left'
      have eq : left' = left := leftEq
      have members : left.members.isEmpty = false := by
        rw [← eq]
        show (if beams = [] then rest.map _ else rest).isEmpty = false
        split <;> simpa using some_
      have stays : w.abandonEmpty k = w := by
        unfold State.abandonEmpty
        rw [heldBatch]
        exact if_neg (by rw [members]; nofun)
      have judged' : judgeCancelOrder st o.number (s.validFrame st) = w.done .ok := by rw [judged, stays]
      obtain ⟨t, run, shape, cores, book, vessels, journal⟩ := cancelOrder_answer takes calm same rfl judged'
      refine ⟨t, run, goneOf same rfl rfl ⟨rfl, rfl, rfl, rfl⟩ cores ⟨(v.removeOrder o).book.batches, book⟩ vessels, ?_, shape, ?_⟩
      · rw [book, eq]; exact (v.removeOrder_book o).2.2
      · rw [journal, eq]
    · have members : left.members = [] := by
        rw [← leftEq]
        show (if beams = [] then rest.map _ else rest) = []
        rw [none_]
        split <;> rfl
      have unfilled' : left.fill = none := by rw [← leftEq]; exact unfilled
      obtain ⟨t, run, shape, cores, book, vessels, journal, chambers⟩ :=
        cancelOrder_abandons takes calm members unfilled' directed judged
      refine ⟨t, run, goneOf same rfl rfl ⟨rfl, rfl, rfl, rfl⟩ cores ⟨_, book⟩ vessels, by rw [book], shape, ?_, ?_, ?_⟩
      · let v' := s.setBatch k (some { b with reserve := b.reserve - 16 })
        have reserved : v.reserved = v'.reserved := by
          show (s.setBatch k (some left)).reserved = _
          rw [← leftEq]
          cases k <;> rfl
        rw [journal]
        exact State.write_journal_congr (s := v') (t := v) rfl reserved _
      · rw [State.chamber, chambers, PerChamber.get_set, if_pos rfl]
        rfl
      · rw [State.chamber, chambers, PerChamber.get_set, if_neg (by cases k <;> nofun)]
        rfl

end Sys2Proof.Machine
end

section
/-! SUPPORT. The abandonment of a batch (R111, R112). -/

namespace Sys2Proof.Machine

theorem State.judged_conductor {s : State} {st : Station} {k : Chamber} (present : s.chamberPresent k = true)
    (held : s.holder k = some st) (own : State → Judged) : s.judged st (.conductor k) own = own s := by
  simp [State.judged, State.barred, Permission.chamber, present, State.notPermitted, held]

theorem State.judged_confirm {s : State} {st : Station} {k : Chamber} (present : s.chamberPresent k = true)
    (held : s.holder k = some st ∨ s.holder k = none) (own : State → Judged) : s.judged st (.confirm k) own = own s := by
  simp [State.judged, State.barred, Permission.chamber, present, State.notPermitted, held]

/-- R112: what the cancelling of the orders of some members leaves. -/
structure MembersAbandoned (s t : State) (d : Direction) (ms : List Member) : Prop where
  frame : t = { s with book := t.book, vessels := t.vessels, journal := t.journal, stations := t.stations, tallies := t.tallies }
  cores : ∀ x, (t.station x).core = (s.station x).core
  lists : ∀ c, t.book.lists.get c = (s.book.lists.get c).filter (fun o => decide (∀ m ∈ ms, m.order ≠ o.number))
  vessels : ∀ i, (∀ o ∈ s.book.orders, o.slot = i → ∀ m ∈ ms, m.order ≠ o.number) → t.vessel i = s.vessel i
  abandoned : t.tallies = { s.tallies with abandoned := ms.foldl (fun v m => countTally v d m.cls) s.tallies.abandoned }
  counters : t.book.nextOrder = s.book.nextOrder ∧ t.book.nextBatch = s.book.nextBatch
    ∧ t.book.entrySequence = s.book.entrySequence ∧ t.book.deferred = s.book.deferred ∧ t.book.batches = s.book.batches

theorem MembersAbandoned.refl (s : State) (d : Direction) : MembersAbandoned s s d [] :=
  ⟨rfl, fun _ => rfl, fun _ => (List.filter_eq_self.mpr fun _ _ => by simp).symm, fun _ _ => rfl, rfl, rfl, rfl, rfl, rfl, rfl⟩

theorem MembersAbandoned.trans {s t u : State} {d : Direction} {m : Member} {ms : List Member} (h : MembersAbandoned s t d [m])
    (h' : MembersAbandoned t u d ms) : MembersAbandoned s u d (m :: ms) := by
  obtain ⟨n1, n2, n3, n4, n5⟩ := h.counters
  obtain ⟨n1', n2', n3', n4', n5'⟩ := h'.counters
  refine ⟨by rw [h'.frame, h.frame], fun x => (h'.cores x).trans (h.cores x), fun c => ?_, fun i away => ?_, ?_,
    n1'.trans n1, n2'.trans n2, n3'.trans n3, n4'.trans n4, n5'.trans n5⟩
  · rw [h'.lists, h.lists, List.filter_filter]
    refine List.filter_congr fun o _ => ?_
    simp [Bool.and_comm]
  · have first : t.vessel i = s.vessel i :=
      h.vessels i fun o held slot x mem => away o held slot x (List.mem_cons.mpr (.inl (List.mem_singleton.mp mem)))
    refine (h'.vessels i fun o held slot x mem => away o ?_ slot x (List.mem_cons_of_mem _ mem)).trans first
    obtain ⟨c, inList⟩ := Book.mem_orders.mp held
    rw [h.lists] at inList
    exact Book.mem_orders.mpr ⟨c, List.mem_of_mem_filter inList⟩
  · rw [h'.abandoned, h.abandoned]
    rfl

/-- R112: one member's order cancelled and counted. -/
theorem State.abandonMember_abandoned (s : State) (st : Station) (d : Direction) (m : Member) :
    MembersAbandoned s (s.abandonMember st d m) d [m] := by
  unfold State.abandonMember
  cases found : s.book.find m.order with
  | none =>
    have absent : ∀ o ∈ s.book.orders, m.order ≠ o.number := fun o held same =>
      absurd (List.find?_eq_none.mp found o held) (by simp [same])
    refine ⟨rfl, fun _ => rfl, fun c => (List.filter_eq_self.mpr fun o inList => ?_).symm, fun _ _ => rfl, rfl, rfl, rfl, rfl, rfl, rfl⟩
    simpa using absent o (Book.mem_orders.mpr ⟨c, inList⟩)
  | some o =>
    obtain ⟨held, number⟩ := Book.mem_of_find found
    obtain ⟨w, hw⟩ : ∃ w, s.cancelled st o = w := ⟨_, rfl⟩
    have frame : w = { s with
        book := (s.removeOrder o).book, vessels := (s.removeOrder o).vessels, journal := w.journal, stations := w.stations } :=
      hw ▸ State.write_frame ..
    have cores (x : Station) : (w.station x).core = (s.station x).core := by
      rw [← hw]
      exact State.write_station_core ..
    obtain ⟨lists, entry, batches⟩ := s.removeOrder_book o
    have counters : (s.removeOrder o).book.nextOrder = s.book.nextOrder ∧ (s.removeOrder o).book.nextBatch = s.book.nextBatch
        ∧ (s.removeOrder o).book.deferred = s.book.deferred := by
      unfold State.removeOrder
      dsimp only
      split <;> exact ⟨rfl, rfl, rfl⟩
    have book : w.book = (s.removeOrder o).book := by rw [frame]
    dsimp only
    rw [hw]
    refine ⟨?_, cores, fun c => ?_, fun i away => ?_, ?_, ?_⟩
    · have ends : w.countAbandoned d m.cls = { w with tallies := (w.countAbandoned d m.cls).tallies } := rfl
      generalize w.countAbandoned d m.cls = t at ends ⊢
      rw [ends, frame]
    · show w.book.lists.get c = _
      rw [book, lists]
      cases c <;> refine List.filter_congr fun x _ => ?_ <;> simp [number, eq_comm]
    · have other : i ≠ o.slot := fun same => away o held same.symm m List.mem_cons_self number.symm
      show State.vessel w i = _
      rw [State.vessel, frame]
      show (s.setVessel o.slot { s.vessel o.slot with order := none }).vessel i = _
      rw [State.setVessel_vessel, if_neg fun h => other h.1]
    · show ({ w.tallies with abandoned := _ } : Tallies) = _
      have tallies : w.tallies = s.tallies := by rw [frame]
      rw [tallies]
      rfl
    · show w.book.nextOrder = _ ∧ w.book.nextBatch = _ ∧ w.book.entrySequence = _ ∧ w.book.deferred = _ ∧ w.book.batches = _
      rw [book]
      exact ⟨counters.1, counters.2.1, entry, counters.2.2, batches⟩

theorem abandonMembers_abandoned (st : Station) (d : Direction) (ms : List Member) :
    ∀ s : State, MembersAbandoned s (ms.foldl (fun t m => t.abandonMember st d m) s) d ms := by
  induction ms with
  | nil => exact fun s => .refl s d
  | cons m ms ih => exact fun s => (s.abandonMember_abandoned st d m).trans (ih _)

/-- What an answer leaves beside the stations, when the request has changed no more than what the passages of a batch keep. -/
theorem State.answered_passage {s u : State} {st : Station} {code : Nat} {o : ReplyOutcome} {l : List WireField}
    (shape : u = { s with
      book := u.book, vessels := u.vessels, chambers := u.chambers, journal := u.journal, signals := u.signals
      tallies := u.tallies, site := u.site, stations := u.stations }) :
    u.answered st code o l = { s.answered st code o l with
      book := u.book, vessels := u.vessels, chambers := u.chambers, journal := u.journal, signals := u.signals
      tallies := u.tallies, site := u.site, stations := (u.answered st code o l).stations } := by
  have ends : u.answered st code o l = { u with stations := (u.answered st code o l).stations } := rfl
  generalize u.answered st code o l = t at ends ⊢
  generalize t.stations = N at ends ⊢
  generalize u.book = B at shape ⊢
  generalize u.vessels = V at shape ⊢
  generalize u.chambers = C at shape ⊢
  generalize u.journal = J at shape ⊢
  generalize u.signals = G at shape ⊢
  generalize u.tallies = T at shape ⊢
  generalize u.site = A at shape ⊢
  rw [ends, shape]
  rfl

theorem Sequencer.batchGone_halted {c : Sequencer} (halted : c.state = .halted) :
    c.batchGone = { c with entry := none, entryOverdue := false, leave := none, clearOut := false, leaveOverdue := false } := by
  unfold Sequencer.batchGone
  rw [halted]
  rfl

/-- Settles O44. -/
theorem abandonBatchCancelsItsOrders : Obligations.AbandonBatchCancelsItsOrders := by
  refine ⟨fun s st k b takes held present calm halted batch unfilled => ?_, fun s st k takes held present refused => ?_⟩
  · let s' := s.validFrame st
    obtain ⟨w, hw⟩ : ∃ w, b.members.foldl (fun t m => t.abandonMember st b.direction m) s' = w := ⟨_, rfl⟩
    obtain ⟨frame, cores, lists, vessels, abandoned, next, nextBatch, entry, deferred, batches⟩ :=
      hw ▸ abandonMembers_abandoned st b.direction b.members s'
    have wbatch (j : Chamber) : w.batch j = s.batch j := congrArg (fun x : PerChamber (Option Batch) => x.get j) batches
    have wcalm : w.Calm := ⟨by rw [frame]; exact calm.1, deferred.trans calm.2⟩
    have chambers : w.chambers = s.chambers := by rw [frame]; rfl
    have own : w.chamber k = s.chamber k := congrArg (fun c : PerChamber Sequencer => c.get k) chambers
    obtain ⟨S, after⟩ := State.abandonBatch_finish wcalm ((wbatch k).trans batch) unfilled (.inr (by rw [own, halted]; rfl))
    obtain ⟨u, hu⟩ : ∃ u, ({ (w.setBatch k none).setChamber k (w.chamber k).batchGone with signals := S } : State) = u := ⟨_, rfl⟩
    rw [hu] at after
    have judged : judgeAbandonBatch st k s' = (u, some (.ok, [])) := by
      refine (State.judged_conductor (s := s') present held _).trans ?_
      show (match s.batch k with | none => _ | some b => _) = _
      rw [batch]
      dsimp only
      rw [hw]
      refine (if_neg (by rw [not_not]; exact halted)).trans ?_
      exact congrArg (fun x => (x, some (ReplyOutcome.ok, ([] : List WireField)))) after
    have shape : u = { s with
        book := u.book, vessels := u.vessels, chambers := u.chambers, journal := u.journal, signals := u.signals
        tallies := u.tallies, site := s.site, stations := u.stations } := by
      rw [← hu, frame]
      rfl
    have stations (x : Station) : (u.station x).core = (s'.station x).core := by
      rw [← cores x, ← hu]
      rfl
    have now : u.now = s.now := by rw [shape]
    have limit : u.settings.silenceLimit = s.settings.silenceLimit := by rw [shape]
    have site : u.site = s.site := by rw [shape]
    have tallies : u.tallies = w.tallies := by rw [← hu]; rfl
    have book : u.book = { w.book with batches := w.book.batches.set k none } := by rw [← hu]; rfl
    have chamber (j : Chamber) : u.chamber j = if j = k then (s.chamber k).batchGone else s.chamber j := by
      rw [← hu]
      show (w.chambers.set k (w.chamber k).batchGone).get j = _
      rw [PerChamber.get_set, chambers, own]
      rfl
    have ubatch (j : Chamber) : u.batch j = if j = k then none else s.batch j := by
      rw [State.batch, book]
      exact (PerChamber.get_set ..).trans (by rw [← wbatch j]; rfl)
    have away : k.other ≠ k := by cases k <;> nofun
    refine ⟨_, State.exchange_answered takes judged (stations st) now limit, ?_, State.answered_core now limit stations, ?_, ?_, ?_, ?_,
      ?_, ?_, ?_, ?_, ?_, ?_, ?_, ?_, ?_⟩
    · have frame' := State.answered_passage (s := s) (u := u) (st := st) (code := 0x36) (o := .ok) (l := []) (by rw [site]; exact shape)
      rw [site] at frame'
      exact frame'
    · intro d
      show u.book.lists.get d = _
      rw [book]
      exact lists d
    · intro i out
      refine Eq.trans ?_ (vessels i out)
      show u.vessel i = w.vessel i
      rw [← hu]
      rfl
    · show u.tallies.abandoned = _
      rw [tallies, abandoned]
      rfl
    · show u.book.nextOrder = _
      rw [book]; exact next
    · show u.book.nextBatch = _
      rw [book]; exact nextBatch
    · show u.book.entrySequence = _
      rw [book]; exact entry
    · show u.book.deferred = _
      rw [book]; exact deferred
    · show u.tallies.completed = _
      rw [tallies, abandoned]; rfl
    · show u.tallies.oversize = _
      rw [tallies, abandoned]; rfl
    · exact (ubatch k).trans (if_pos rfl)
    · exact (ubatch k.other).trans (if_neg away)
    · exact ((chamber k).trans (if_pos rfl)).trans (Sequencer.batchGone_halted halted)
    · exact (chamber k.other).trans (if_neg away)
  · refine State.exchange_report takes ((State.judged_conductor (s := s.validFrame st) present held _).trans ?_)
    show (match s.batch k with | none => _ | some b => _) = _
    cases batch : s.batch k with
    | none => rfl
    | some b =>
      dsimp only
      refine if_pos (refused.resolve_left ?_)
      rw [batch]
      nofun

end Sys2Proof.Machine
end

section
/-! SUPPORT. The clearance of a batch (R110, R92, R144, R146, R160). -/

namespace Sys2Proof.Machine

theorem State.raiseAll_station_core (s : State) (n : NoticeKind) (x : Station) : ((s.raiseAll n).station x).core = (s.station x).core :=
  station_core_of_core (State.raiseAll_core ..) x

/-- R90: a vessel whose order is BOUND is not re-judged. -/
theorem State.rejudge_bound {s : State} {i n x : Nat} {o : Order} (order : (s.vessel i).order = some n)
    (found : s.book.find n = some o) (bound : o.state = .bound x) : s.rejudge i = s := by
  unfold State.rejudge
  rw [order, Option.bind_some, found]
  dsimp only
  rw [bound]
  exact if_pos rfl

/-- R89: an ACTIVE vessel with its ceiling evaluated. -/
def Vessel.ceilingHeld (v : Vessel) : Vessel :=
  { v with state := if v.ceiling ≠ 0 ∧ v.ceiling ≤ v.total then .held .ceiling else .active }

/-- R89: the ceiling of an ACTIVE vessel with a BOUND order evaluated again: its record alone changes. -/
theorem State.reevaluate_bound {s : State} {i n x : Nat} {o : Order} (slot : i < 128) (active : (s.vessel i).state = .active)
    (order : (s.vessel i).order = some n) (found : s.book.find n = some o) (bound : o.state = .bound x) :
    ∃ t, s.reevaluate i = t ∧ t = { s.setVessel i (s.vessel i).ceilingHeld with stations := t.stations }
      ∧ ∀ st, (t.station st).core = (s.station st).core := by
  have unfolded : s.reevaluate i = if (s.vessel i).overCeiling then s.holdVessel i .ceiling else s := by
    unfold State.reevaluate
    simp only [active]
  by_cases above : (s.vessel i).ceiling ≠ 0 ∧ (s.vessel i).ceiling ≤ (s.vessel i).total
  · have reached : (s.vessel i).overCeiling = true := by simpa [Vessel.overCeiling] using above
    have held : (s.vessel i).ceilingHeld = { s.vessel i with state := .held .ceiling } := by rw [Vessel.ceilingHeld, if_pos above]
    let t := s.setVessel i { s.vessel i with state := .held .ceiling }
    have same : (t.raiseAll .vesselHeld).vessel i = { s.vessel i with state := .held .ceiling } :=
      (s.setVessel_vessel i _ i).trans (if_pos ⟨rfl, slot⟩)
    have still : (t.raiseAll .vesselHeld).rejudge i = t.raiseAll .vesselHeld :=
      State.rejudge_bound (by rw [same]; exact order) (show s.book.find n = some o from found) bound
    refine ⟨t.raiseAll .vesselHeld, by rw [unfolded, if_pos reached]; exact still, ?_, fun st => ?_⟩
    · rw [held]
      exact State.raiseAll_frame ..
    · exact State.raiseAll_station_core t .vesselHeld st
  · have under : ¬ (s.vessel i).overCeiling = true := by simpa [Vessel.overCeiling] using above
    have self : (s.vessel i).ceilingHeld = s.vessel i := by rw [Vessel.ceilingHeld, if_neg above, ← active]
    exact ⟨s, by rw [unfolded, if_neg under], by rw [self, State.setVessel_self], fun _ => rfl⟩

theorem Vessel.post_eq (v : Vessel) (n : Nat) :
    v.post n = { v with total := min 4000000000 (v.total + n), saturated := v.saturated || decide (4000000000 < v.total + n) } := by
  unfold Vessel.post
  split
  · next above =>
    have full : min 4000000000 (v.total + n) = 4000000000 := Nat.min_eq_left (Nat.le_of_lt above)
    have saturated : decide (4000000000 < v.total + n) = true := decide_eq_true above
    rw [full, saturated, Bool.or_true]
  · next below =>
    have kept : min 4000000000 (v.total + n) = v.total + n := Nat.min_eq_right (Nat.le_of_not_lt below)
    have free : decide (4000000000 < v.total + n) = false := decide_eq_false below
    rw [kept, free, Bool.or_false]

theorem State.noteUnset_frame (s : State) : s.noteUnset = { s with stations := s.noteUnset.stations } := by
  unfold State.noteUnset
  split <;> rfl

theorem State.noteUnset_station_core (s : State) (x : Station) : (s.noteUnset.station x).core = (s.station x).core := by
  unfold State.noteUnset
  split
  · exact State.raiseAll_station_core ..
  · rfl

/-- R110, R144: a ticket written for a member, from its batch's reserve. -/
theorem State.ticket_written {s : State} {k : Chamber} {b : Batch} (batch : s.batch k = some b) (f : Frame) :
    ∃ t, s.noteUnset.writeReserved k f = t
      ∧ t = { s with
        book.batches := s.book.batches.set k (some { b with reserve := b.reserve - f.words })
        journal.frames := s.journal.frames ++ [f]
        stations := t.stations }
      ∧ ∀ st, (t.station st).core = (s.station st).core := by
  have unset := s.noteUnset_frame
  have cores := s.noteUnset_station_core
  generalize s.noteUnset = u at unset cores ⊢
  have held : u.batch k = some b := by
    rw [unset]
    exact batch
  refine ⟨_, rfl, ?_, fun st => ?_⟩
  · have frame := State.writeReserved_eq held f
    generalize u.writeReserved k f = t at frame ⊢
    generalize t.stations = N at frame ⊢
    generalize u.stations = M at unset
    rw [frame, unset]
  · exact (station_core_of_core (State.writeReserved_core ..) st).trans (cores st)

/-- R110: what the clearance of one member leaves. -/
structure MemberCleared (s t : State) (k : Chamber) (b : Batch) (m : Member) : Prop where
  frame : t = { s with
    book := t.book, vessels := t.vessels, journal := t.journal, stations := t.stations, tallies := t.tallies, site := t.site }
  cores : ∀ x, (t.station x).core = (s.station x).core
  journal : t.journal.frames = s.journal.frames ++ [.ticket (s.ticket k b m)]
  vessel : t.vessel m.slot =
    { (((s.vessel m.slot).post (b.dues m)).ceilingHeld).passed s.time with order := none }
  vessels : ∀ i, i ≠ m.slot → t.vessel i = s.vessel i
  lists : ∀ d, t.book.lists.get d = (s.book.lists.get d).filter (fun x => decide (x.number ≠ m.order))
  otherBatch : t.batch k.other = s.batch k.other
  site : t.site = if m.exempt then s.site.post (b.shareOf m) 0 0 else s.site
  tallies : t.tallies = { s.tallies with completed := countTally s.tallies.completed b.direction m.cls }
  counters : t.book.nextOrder = s.book.nextOrder ∧ t.book.nextBatch = s.book.nextBatch
    ∧ t.book.entrySequence = s.book.entrySequence ∧ t.book.deferred = s.book.deferred

theorem vessels_vessel {s t : State} (same : t.vessels = s.vessels) (i : Nat) : t.vessel i = s.vessel i := by
  rw [State.vessel, State.vessel, same]

/-- R110: one member of a batch dealt with, its vessel ACTIVE. -/
theorem State.clearMember_cleared {s : State} {k : Chamber} {b : Batch} {m : Member} {o : Order} {n : Nat}
    (batch : s.batch k = some b) (slot : m.slot < 128) (found : s.book.find m.order = some o) (own : o.slot = m.slot)
    (bound : o.state = .bound n) (order : (s.vessel m.slot).order = some m.order) (active : (s.vessel m.slot).state = .active) :
    MemberCleared s (s.clearMember k b m) k b m := by
  obtain ⟨t, ht⟩ : ∃ t, s.ticket k b m = t := ⟨_, rfl⟩
  have dues : t.dues = b.dues m := ht ▸ rfl
  have share : t.share = b.shareOf m := ht ▸ rfl
  -- the ticket and the posting
  obtain ⟨u, hu, written, cores⟩ := State.ticket_written batch (.ticket t)
  let v := (s.vessel m.slot).post (b.dues m)
  have vessels : u.vessels = s.vessels := by rw [written]
  have finds : u.book.find m.order = some o := by rw [written]; exact found
  let w := u.setVessel m.slot v
  have wvessel : w.vessel m.slot = v := (u.setVessel_vessel m.slot _ m.slot).trans (if_pos ⟨rfl, slot⟩)
  obtain ⟨z, hz, posted, cores'⟩ := State.reevaluate_bound (s := w) (i := m.slot) (n := m.order) slot
    (by rw [wvessel]; exact (Vessel.post_rest ..).1.trans active) (by rw [wvessel]; exact (Vessel.post_rest ..).2.trans order)
    (show u.book.find m.order = some o from finds) bound
  rw [wvessel] at posted
  let a : SiteAccount := if m.exempt then s.site.post (b.shareOf m) 0 0 else s.site
  let p : State := { z with site := a }
  have ticketed : s.postTicket k m t = p := by
    have site : z.site = s.site := by rw [posted]; show u.site = _; rw [written]
    unfold State.postTicket
    rw [hu]
    dsimp only
    rw [vessels_vessel vessels, dues, share]
    show (if m.exempt = true then State.postSite ((w.reevaluate m.slot)) _ 0 0 else w.reevaluate m.slot) = _
    rw [hz]
    by_cases exempt : m.exempt = true
    · rw [if_pos exempt, State.postSite, site, ← if_pos (c := m.exempt = true) (t := s.site.post (b.shareOf m) 0 0) (e := s.site) exempt]
    · rw [if_neg exempt]
      have kept : a = z.site := by rw [site]; exact if_neg exempt
      show z = { z with site := a }
      rw [kept]
  -- the passage and the order
  have shape : p = { s with
      book.batches := s.book.batches.set k (some { b with reserve := b.reserve - (Frame.ticket t).words })
      journal.frames := s.journal.frames ++ [.ticket t]
      vessels := p.vessels, stations := p.stations, site := a } := by
    have top : z = { u with vessels := z.vessels, stations := z.stations } := by
      refine posted.trans ?_
      rw [show z.vessels = (w.setVessel m.slot v.ceilingHeld).vessels from (congrArg State.vessels posted :)]
      rfl
    have moved : p = { u with vessels := p.vessels, stations := p.stations, site := a } := by
      show ({ z with site := a } : State) = { u with vessels := z.vessels, stations := z.stations, site := a }
      generalize z.vessels = V at top ⊢
      generalize z.stations = N at top ⊢
      rw [top]
    generalize p.vessels = V at moved ⊢
    generalize p.stations = N at moved ⊢
    generalize u.stations = M at written
    rw [moved, written]
  have time : p.time = s.time := by rw [shape]; rfl
  have book : p.book = { s.book with batches := p.book.batches } := by rw [shape]
  have pvessel (i : Nat) : p.vessel i = if i = m.slot then v.ceilingHeld else s.vessel i := by
    show z.vessel i = _
    rw [vessels_vessel (congrArg State.vessels posted), ← vessels_vessel vessels i]
    refine (w.setVessel_vessel m.slot _ i).trans ?_
    by_cases same : i = m.slot
    · rw [if_pos ⟨same, slot⟩, if_pos same]
    · rw [if_neg fun h => same h.1, if_neg same]
      exact (u.setVessel_vessel m.slot _ i).trans (if_neg fun h => same h.1)
  let y := p.setVessel m.slot (v.ceilingHeld.passed s.time)
  have passed : p.passMember m = y.removeOrder o := by
    have finds' : p.book.find m.order = some o := by rw [book]; exact found
    unfold State.passMember
    rw [pvessel, if_pos rfl, time]
    dsimp only
    rw [show (p.setVessel m.slot (v.ceilingHeld.passed s.time)).book.find m.order = some o from finds']
  have cleared : s.clearMember k b m = (y.removeOrder o).countCompleted b.direction m.cls := by
    show ((s.postTicket k m (s.ticket k b m)).passMember m).countCompleted b.direction m.cls = _
    rw [ht, ticketed, passed]
  have gone := y.removeOrder_gone (o := o) (own ▸ slot)
  have number : o.number = m.order := (Book.mem_of_find found).2
  rw [cleared]
  have pcores (x : Station) : (p.station x).core = (s.station x).core := (cores' x).trans (cores x)
  refine ⟨?_, pcores, ?_, ?_, fun i other => ?_, fun d => ?_, ?_, ?_, ?_, ?_⟩
  · have ends : (y.removeOrder o).countCompleted b.direction m.cls = { p with
        book := (y.removeOrder o).book, vessels := (y.removeOrder o).vessels
        tallies := ((y.removeOrder o).countCompleted b.direction m.cls).tallies } := rfl
    generalize (y.removeOrder o).countCompleted b.direction m.cls = q at ends ⊢
    generalize q.tallies = T at ends ⊢
    rw [ends]
    generalize (y.removeOrder o).book = B
    generalize (y.removeOrder o).vessels = V
    clear_value p
    generalize p.journal = J at *
    rw [shape]
  · show p.journal.frames = _
    rw [shape, ht]
  · show (y.removeOrder o).vessel m.slot = _
    rw [← own, gone.vessel, own, p.setVessel_vessel m.slot _ m.slot, if_pos ⟨rfl, slot⟩]
  · show (y.removeOrder o).vessel i = _
    rw [gone.others i (own ▸ other)]
    exact (p.setVessel_vessel m.slot _ i).trans ((if_neg fun h => other h.1).trans ((pvessel i).trans (if_neg other)))
  · show (y.removeOrder o).book.lists.get d = _
    rw [gone.lists, number]
    show (p.book.lists.get d).filter _ = _
    rw [book]
  · have away : k.other ≠ k := by cases k <;> nofun
    have batches : (y.removeOrder o).batch k.other = p.batch k.other :=
      congrArg (fun x : PerChamber (Option Batch) => x.get k.other) (y.removeOrder_book o).2.2
    refine batches.trans ?_
    rw [State.batch, shape]
    exact (PerChamber.get_set ..).trans (if_neg away)
  · show p.site = _
    rfl
  · show ({ p.tallies with completed := _ } : Tallies) = _
    rw [show p.tallies = s.tallies by rw [shape]]
    exact congrArg (fun T : Tallies => ({ s.tallies with completed := countTally T.completed b.direction m.cls } : Tallies))
      (show p.tallies = s.tallies by rw [shape])
  · obtain ⟨next, nextBatch, entry, deferred⟩ := gone.counters
    have base : y.book = { s.book with batches := p.book.batches } := book
    rw [base] at next nextBatch entry deferred
    exact ⟨next, nextBatch, entry, deferred⟩

/-- Settles O42: the batch's one member is cleared, the batch leaves its chamber, and a DIRECTED chamber has no further step. -/
theorem confirmClearSettlesTheMember : Obligations.ConfirmClearSettlesTheMember := by
  intro s st k b m o takes held present directed calm batch leaving one slot found own bound order active v
  let s' := s.validFrame st
  obtain ⟨w, hw⟩ : ∃ w, s'.clearMember k b m = w := ⟨_, rfl⟩
  have cleared : MemberCleared s' w k b m :=
    hw ▸ State.clearMember_cleared (s := s') batch slot found own bound order active
  obtain ⟨next, nextBatch, entry, deferred⟩ := cleared.counters
  have chambers : w.chambers = s.chambers := by rw [cleared.frame]; rfl
  have ownChamber (j : Chamber) : w.chamber j = s.chamber j := congrArg (fun c : PerChamber Sequencer => c.get j) chambers
  have wcalm : w.Calm := ⟨by rw [cleared.frame]; exact calm.1, deferred.trans calm.2⟩
  obtain ⟨S, after⟩ := State.removeBatch_finish (s := w) (k := k) wcalm (.inl (by rw [ownChamber]; exact directed))
  obtain ⟨u, hu⟩ : ∃ u, ({ (w.setBatch k none).setChamber k (w.chamber k).batchGone with signals := S } : State) = u := ⟨_, rfl⟩
  rw [hu] at after
  have judged : judgeConfirmClear st k s' = (u, some (.ok, [])) := by
    refine (State.judged_confirm (s := s') present held _).trans ?_
    show (match s.batch k with | none => _ | some b => _) = _
    rw [batch]
    dsimp only
    rw [one]
    refine (if_neg (by rw [not_not]; exact leaving)).trans ?_
    show State.done (((s'.clearMember k b m).removeBatch k).push (.rest k)) .ok = _
    rw [hw]
    exact congrArg (fun x => (x, some (ReplyOutcome.ok, ([] : List WireField)))) after
  have shape : u = { s with
      book := u.book, vessels := u.vessels, chambers := u.chambers, journal := u.journal, signals := u.signals
      tallies := u.tallies, site := u.site, stations := u.stations } := by
    rw [← hu]
    have frame := cleared.frame
    generalize (w.chamber k).batchGone = c
    generalize w.book = B at frame
    generalize w.vessels = V at frame
    generalize w.journal = J at frame
    generalize w.stations = N at frame
    generalize w.tallies = T at frame
    generalize w.site = A at frame
    rw [frame]
    rfl
  have stations (x : Station) : (u.station x).core = (s'.station x).core := by
    rw [← cleared.cores x, ← hu]
    rfl
  have now : u.now = s.now := by rw [shape]
  have limit : u.settings.silenceLimit = s.settings.silenceLimit := by rw [shape]
  have book : u.book = { w.book with batches := w.book.batches.set k none } := by rw [← hu]; rfl
  have chamber (j : Chamber) : u.chamber j = if j = k then (s.chamber k).batchGone else s.chamber j := by
    rw [← hu]
    show (w.chambers.set k (w.chamber k).batchGone).get j = _
    rw [PerChamber.get_set, chambers, ownChamber]
    rfl
  have ubatch (j : Chamber) : u.batch j = if j = k then none else w.batch j := by
    rw [State.batch, book]
    exact PerChamber.get_set ..
  have uvessel (i : Nat) : u.vessel i = w.vessel i := by
    rw [← hu]
    rfl
  have away : k.other ≠ k := by cases k <;> nofun
  refine ⟨_, State.exchange_answered takes judged (stations st) now limit, State.answered_passage shape,
    State.answered_core now limit stations, ?_, ?_, fun i other => ?_, fun d => ?_, ?_, ?_, ?_, ?_, ?_, ?_, ?_, ?_, ?_, ?_⟩
  · show u.journal.frames = _
    rw [← hu]
    exact cleared.journal
  · have state : (u.vessel m.slot) = { ((v.post (b.dues m)).ceilingHeld).passed s.time with order := none } :=
      (uvessel m.slot).trans cleared.vessel
    have total : ((u.answered st 0x38 .ok []).vessel m.slot).total = min 4000000000 (v.total + b.dues m) := by
      rw [show (u.answered st 0x38 .ok []).vessel m.slot = _ from state, Vessel.post_eq]
      rfl
    rw [total]
    refine state.trans ?_
    rw [Vessel.post_eq]
    rfl
  · exact (uvessel i).trans (cleared.vessels i other)
  · show u.book.lists.get d = _
    rw [book]
    exact cleared.lists d
  · exact (ubatch k).trans (if_pos rfl)
  · exact ((ubatch k.other).trans (if_neg away)).trans cleared.otherBatch
  · show u.site = _
    rw [← hu]
    exact cleared.site
  · show u.tallies = _
    rw [← hu]
    exact cleared.tallies
  · show u.book.nextOrder = _
    rw [book]; exact next
  · show u.book.nextBatch = _
    rw [book]; exact nextBatch
  · show u.book.entrySequence = _
    rw [book]; exact entry
  · show u.book.deferred = _
    rw [book]; exact deferred
  · exact (chamber k).trans (if_pos rfl)
  · exact (chamber k.other).trans (if_neg away)

end Sys2Proof.Machine
end

section
/-! SUPPORT. The confirmation of entry (R47, R108, R109). -/

namespace Sys2Proof.Machine

/-! ## Members returned to their lists (R108) -/

/-- R90: an order returned to its list. -/
def State.returned (s : State) (o : Order) : Order := { o with state := s.orderState (s.vessel o.slot) }

/-- The book holds a member's order, for the member's vessel. -/
def State.Booked (s : State) (m : Member) : Prop :=
  s.book.find m.order ≠ none ∧ ∀ o ∈ s.book.orders, o.number = m.order → o.slot = m.slot

/-- A batch's members with their rows left out. -/
def Batch.unrowed (b : Batch) : List Member := b.members.map fun m => { m with row := 0 }

theorem Batch.without_frame (b : Batch) (n : Nat) :
    b.without n = { b with members := (b.without n).members, rows := (b.without n).rows } := by
  unfold Batch.without
  split
  · rfl
  · dsimp only
    split <;> rfl

theorem Batch.without_unrowed (b : Batch) (n : Nat) : (b.without n).unrowed = b.unrowed.filter (fun m => decide (m.order ≠ n)) := by
  have kept : (b.members.filter (fun m => decide (m.order ≠ n))).map (fun m => { m with row := 0 })
      = b.unrowed.filter (fun m => decide (m.order ≠ n)) := by
    rw [Batch.unrowed, List.filter_map]
    rfl
  rw [← kept]
  unfold Batch.without
  split
  · next absent =>
    rw [List.filter_eq_self.mpr fun m member => by simpa using List.find?_eq_none.mp absent m member]
    rfl
  · dsimp only
    split
    · refine List.map_map.trans (List.map_congr_left fun m _ => ?_)
      dsimp only [Function.comp_apply]
      split <;> rfl
    · rfl

/-- R108: what the return of some members of a batch leaves. -/
structure MembersReturned (s t : State) (st : Station) (k : Chamber) (b : Batch) (ms : List Member) : Prop where
  frame : t = { s with book := t.book, journal := t.journal, stations := t.stations }
  cores : ∀ x, (t.station x).core = (s.station x).core
  lists : ∀ d, t.book.lists.get d =
    (s.book.lists.get d).map (fun o => if o.number ∈ ms.map (·.order) then s.returned o else o)
  counters : t.book.nextOrder = s.book.nextOrder ∧ t.book.nextBatch = s.book.nextBatch
    ∧ t.book.entrySequence = s.book.entrySequence ∧ t.book.timer = s.book.timer ∧ t.book.deferred = s.book.deferred
  otherBatch : t.batch k.other = s.batch k.other
  batch : ∃ x, t.batch k = some x
    ∧ x = { b with members := x.members, rows := x.rows, reserve := b.reserve - 16 * ms.length }
    ∧ x.unrowed = b.unrowed.filter (fun m => decide (m.order ∉ ms.map (·.order)))
  journal : s.anySubscriber = true → 6 * ms.length ≤ s.availableWords →
    t.journal.frames = s.journal.frames ++ ms.map (fun m => .order (some m.order) m.slot .returned st s.time)
      ∧ t.anySubscriber = true ∧ s.availableWords ≤ t.availableWords + 6 * ms.length

theorem MembersReturned.refl {s : State} {k : Chamber} {b : Batch} (st : Station) (batch : s.batch k = some b) :
    MembersReturned s s st k b [] :=
  ⟨rfl, fun _ => rfl, fun _ => by simp, ⟨rfl, rfl, rfl, rfl, rfl⟩, rfl, ⟨b, batch, rfl, by simp⟩,
    fun some_ _ => ⟨by simp, some_, Nat.le_refl _⟩⟩

theorem MembersReturned.booked {s t : State} {st : Station} {k : Chamber} {b : Batch} {ms : List Member}
    (h : MembersReturned s t st k b ms) {m : Member} (booked : s.Booked m) : t.Booked m := by
  let f := fun o : Order => if o.number ∈ ms.map (·.order) then s.returned o else o
  have number (o : Order) : (f o).number = o.number := by
    dsimp only [f]
    split <;> rfl
  have slot (o : Order) : (f o).slot = o.slot := by
    dsimp only [f]
    split <;> rfl
  have orders : t.book.orders = s.book.orders.map f := by
    have up := h.lists .up
    have down := h.lists .down
    show t.book.lists.get .up ++ t.book.lists.get .down = _
    rw [up, down]
    exact List.map_append.symm
  obtain ⟨found, slots⟩ := booked
  constructor
  · obtain ⟨o, ho⟩ := Option.ne_none_iff_exists'.mp found
    obtain ⟨held, same⟩ := Book.mem_of_find ho
    intro none_
    have absent := List.find?_eq_none.mp none_ (f o) (by rw [orders]; exact List.mem_map_of_mem held)
    exact absurd ((number o).trans same) (by simpa using absent)
  · intro o held same
    rw [orders] at held
    obtain ⟨x, hx, rfl⟩ := List.mem_map.mp held
    rw [slot]
    exact slots x hx ((number x).symm.trans same)

/-- R108: one member of a batch absent: its order returned, its 16 words given back. -/
theorem State.absent_returned {s : State} {k : Chamber} {b : Batch} {m : Member} (st : Station)
    (calm : s.book.deferred = ⟨false, false⟩) (batch : s.batch k = some b) (booked : s.Booked m)
    (member : m.order ∈ b.members.map (·.order)) : MembersReturned s (s.absent st k m.order) st k b [m] := by
  obtain ⟨o, found⟩ := Option.ne_none_iff_exists'.mp booked.1
  obtain ⟨held, number⟩ := Book.mem_of_find found
  have slot : o.slot = m.slot := booked.2 o held number
  have words : s.memberWords k m.order = 16 := by
    obtain ⟨x, hx, same⟩ := List.mem_map.mp member
    unfold State.memberWords
    rw [batch]
    exact if_pos (List.any_eq_true.mpr ⟨x, hx, by simpa using same⟩)
  let u := s.setBatch k (some (b.without m.order))
  let f := fun y : Order => { y with state := u.orderState (u.vessel o.slot) }
  let v := u.changeOrder o.number f
  let w := v.write (.order (some m.order) m.slot .returned st s.time)
  have returned : (s.leaveBatch k m.order).returnMember st m.order = w := by
    rw [State.leaveBatch_some batch]
    unfold State.returnMember
    rw [show (s.setBatch k (some (b.without m.order))).book.find m.order = some o from found]
    show v.write (.order (some o.number) o.slot .returned st _) = _
    rw [number, slot]
    rfl
  have wbatch (j : Chamber) : w.batch j = if j = k then some (b.without m.order) else s.batch j := by
    have same : w.book = v.book := State.write_book ..
    show w.book.batches.get j = _
    rw [same]
    exact PerChamber.get_set ..
  have reserve : (b.without m.order).reserve = b.reserve := (b.without_rest m.order).2.1
  let x : Batch := { b.without m.order with reserve := b.reserve - 16 }
  have absent : s.absent st k m.order = w.setBatch k (some x) := by
    unfold State.absent
    rw [returned, words, State.releaseReserve_calm ?_ ((wbatch k).trans (if_pos rfl)), reserve]
    rw [show w.book = v.book from State.write_book ..]
    exact calm
  rw [absent]
  have frame : w = { v with journal := w.journal, stations := w.stations } := State.write_frame ..
  have book : w.book = v.book := State.write_book ..
  have away : k.other ≠ k := by cases k <;> nofun
  refine ⟨?_, State.write_station_core v _, fun d => ?_, ?_, ?_, ⟨x, ?_, ?_, ?_⟩, fun some_ fits => ?_⟩
  · show ({ w with book := { w.book with batches := _ } } : State) = { s with book := _, journal := w.journal, stations := w.stations }
    generalize w.journal = J at frame ⊢
    generalize w.stations = N at frame ⊢
    rw [frame]
    rfl
  · show w.book.lists.get d = _
    rw [book]
    have lists : v.book.lists.get d = changeIn o.number f (s.book.lists.get d) := by cases d <;> rfl
    rw [lists, changeIn]
    refine List.map_congr_left fun y inList => ?_
    have same : y.number = m.order → y.slot = o.slot := fun h =>
      (booked.2 y (Book.mem_orders.mpr ⟨d, inList⟩) h).trans slot.symm
    rw [number]
    by_cases h : y.number = m.order
    · rw [if_pos h, if_pos (by simp [h])]
      show ({ y with state := s.orderState (s.vessel o.slot) } : Order) = { y with state := s.orderState (s.vessel y.slot) }
      rw [← same h]
    · rw [if_neg h, if_neg (by simpa using h)]
  · show w.book.nextOrder = _ ∧ w.book.nextBatch = _ ∧ w.book.entrySequence = _ ∧ w.book.timer = _ ∧ w.book.deferred = _
    rw [book]
    exact ⟨rfl, rfl, rfl, rfl, rfl⟩
  · exact ((w.setBatch_batch k _ k.other).trans (if_neg away)).trans ((wbatch k.other).trans (if_neg away))
  · exact (w.setBatch_batch k _ k).trans (if_pos rfl)
  · show ({ b.without m.order with reserve := b.reserve - 16 } : Batch) = { b with
      members := (b.without m.order).members, rows := (b.without m.order).rows, reserve := b.reserve - 16 }
    have alone := b.without_frame m.order
    generalize (b.without m.order).members = M at alone ⊢
    generalize (b.without m.order).rows = R at alone ⊢
    rw [alone]
  · show (b.without m.order).unrowed = _
    rw [Batch.without_unrowed]
    exact List.filter_congr fun y _ => by simp
  · have reserved : v.reserved = s.reserved := by
      have same (j : Chamber) : v.reserveOf j = s.reserveOf j := by
        have vbatch : v.batch j = if j = k then some (b.without m.order) else s.batch j := s.setBatch_batch ..
        rw [State.reserveOf, State.reserveOf, vbatch]
        split
        · next h =>
          subst h
          rw [batch, Option.map_some, Option.map_some, reserve]
        · rfl
      rw [State.reserved, same, same, State.reserved]
    have room : v.availableWords = s.availableWords := by rw [State.availableWords, reserved]; rfl
    have written : w = v.append (.order (some m.order) m.slot .returned st s.time) :=
      State.write_fits (s := v) some_ (by rw [room]; exact fits)
    have frames : (w.setBatch k (some x)).journal.frames = s.journal.frames ++ [.order (some m.order) m.slot .returned st s.time] := by
      show w.journal.frames = _
      rw [written, State.append_frame]
      rfl
    refine ⟨frames, ?_, ?_⟩
    · show w.anySubscriber = true
      rw [written, State.append_frame]
      exact some_
    · have used : (w.setBatch k (some x)).used = s.used + 6 := by
        rw [State.used, frames, framesWords_snoc]
        rfl
      have less : (w.setBatch k (some x)).reserved ≤ s.reserved := by
        have each (j : Chamber) : (w.setBatch k (some x)).reserveOf j ≤ s.reserveOf j := by
          rw [State.reserveOf, State.reserveOf, w.setBatch_batch, wbatch]
          split
          · next h =>
            subst h
            rw [batch]
            exact Nat.sub_le _ _
          · exact Nat.le_refl _
        exact Nat.add_le_add (each .c1) (each .c2)
      rw [State.availableWords, State.availableWords, used]
      show _ ≤ _ + 6
      omega

theorem MembersReturned.trans {s t u : State} {st : Station} {k : Chamber} {b x : Batch} {m : Member} {ms : List Member}
    (h : MembersReturned s t st k b [m]) (batch : t.batch k = some x) (h' : MembersReturned t u st k x ms) :
    MembersReturned s u st k b (m :: ms) := by
  obtain ⟨n1, n2, n3, n4, n5⟩ := h.counters
  obtain ⟨n1', n2', n3', n4', n5'⟩ := h'.counters
  obtain ⟨y, held, frame, members⟩ := h.batch
  obtain rfl : x = y := Option.some.inj (batch.symm.trans held)
  obtain ⟨z, held', frame', members'⟩ := h'.batch
  have returned (o : Order) : t.returned o = s.returned o := by
    rw [h.frame]
    rfl
  refine ⟨by rw [h'.frame, h.frame], fun a => (h'.cores a).trans (h.cores a), fun d => ?_,
    ⟨n1'.trans n1, n2'.trans n2, n3'.trans n3, n4'.trans n4, n5'.trans n5⟩, h'.otherBatch.trans h.otherBatch,
    ⟨z, held', ?_, ?_⟩, fun some_ fits => ?_⟩
  · rw [h'.lists, h.lists, List.map_map]
    refine List.map_congr_left fun o _ => ?_
    dsimp only [Function.comp_apply]
    by_cases first : o.number = m.order
    · rw [if_pos (List.mem_map.mpr ⟨m, List.mem_singleton_self m, first.symm⟩),
        if_pos (List.mem_map.mpr ⟨m, List.mem_cons_self, first.symm⟩), returned]
      split <;> rfl
    · have out : o.number ∉ [m].map (·.order) := by simpa using first
      have both : o.number ∈ (m :: ms).map (·.order) ↔ o.number ∈ ms.map (·.order) := by simp [first]
      rw [if_neg out, returned]
      simp only [both]
  · generalize z.members = M at frame' ⊢
    generalize z.rows = R at frame' ⊢
    generalize x.members = M' at frame
    generalize x.rows = R' at frame
    have reserve : b.reserve - 16 * [m].length - 16 * ms.length = b.reserve - 16 * (m :: ms).length := by
      simp only [List.length_cons, List.length_nil]
      omega
    rw [← reserve, frame', frame]
  · rw [members', members, List.filter_filter]
    exact List.filter_congr fun o _ => by simp [Bool.and_comm]
  · rw [List.length_cons] at fits
    obtain ⟨frames, some', more⟩ := h.journal some_ (by rw [List.length_singleton]; omega)
    rw [List.length_singleton] at more
    obtain ⟨frames', some'', more'⟩ := h'.journal some' (by omega)
    refine ⟨?_, some'', by rw [List.length_cons]; omega⟩
    rw [frames', frames, List.append_assoc, show t.time = s.time by rw [h.frame]; rfl]
    rfl

/-- R108: some members of a batch absent, one after the other. -/
theorem absents_returned (st : Station) (k : Chamber) (ms : List Member) :
    ∀ {s : State} {b : Batch}, s.book.deferred = ⟨false, false⟩ → s.batch k = some b → (∀ m ∈ ms, s.Booked m) →
      (∀ m ∈ ms, m.order ∈ b.members.map (·.order)) → (ms.map (·.order)).Nodup →
      MembersReturned s ((ms.map (·.order)).foldl (fun u n => u.absent st k n) s) st k b ms := by
  induction ms with
  | nil => exact fun _ batch _ _ _ => .refl st batch
  | cons m ms ih =>
    intro s b calm batch booked member nodup
    obtain ⟨fresh, nodup'⟩ := List.nodup_cons.mp nodup
    have first := State.absent_returned st calm batch (booked m List.mem_cons_self) (member m List.mem_cons_self)
    obtain ⟨x, held, frame, members⟩ := first.batch
    refine first.trans held (ih (first.counters.2.2.2.2.trans calm) held
      (fun y mem => first.booked (booked y (List.mem_cons_of_mem _ mem))) (fun y mem => ?_) nodup')
    have orders : x.members.map (·.order) = (b.members.map (·.order)).filter (fun n => decide (n ≠ m.order)) := by
      have unrowed (c : Batch) : c.members.map (·.order) = c.unrowed.map (·.order) := by
        rw [Batch.unrowed, List.map_map]
        rfl
      rw [unrowed x, members, unrowed b, List.filter_map]
      exact congrArg _ (List.filter_congr fun o _ => by simp)
    rw [orders, List.mem_filter]
    refine ⟨member y (List.mem_cons_of_mem _ mem), decide_eq_true fun same => fresh ?_⟩
    exact List.mem_map.mpr ⟨y, mem, same⟩

/-! ## The batch SECURED, or abandoned (R109, R111) -/

theorem State.noteUnset_stations {s t : State} (time : t.time = s.time) (now : t.now = s.now) (stations : t.stations = s.stations) :
    t.noteUnset.stations = s.noteUnset.stations := by
  have raised : (t.raiseAll .clockUnset).stations = (s.raiseAll .clockUnset).stations := by
    have same (x : Station) : (t.raiseAll .clockUnset).station x = (s.raiseAll .clockUnset).station x := by
      have own : t.station x = s.station x := congrArg (fun y : PerStation StationRec => y.get x) stations
      rw [State.raiseAll_station, State.raiseAll_station, own, now]
    have uc : (t.raiseAll .clockUnset).stations.uc = (s.raiseAll .clockUnset).stations.uc := same .uc
    have lc : (t.raiseAll .clockUnset).stations.lc = (s.raiseAll .clockUnset).stations.lc := same .lc
    have tc : (t.raiseAll .clockUnset).stations.tc = (s.raiseAll .clockUnset).stations.tc := same .tc
    show PerStation.mk _ _ _ = PerStation.mk _ _ _
    exact congr (congr (congrArg PerStation.mk uc) lc) tc
  unfold State.noteUnset
  rw [time]
  split
  · exact raised
  · exact stations

/-- R109: a batch without a fill record SECURED. -/
theorem State.secure_unfilled {s : State} {k : Chamber} {b : Batch} (unfilled : b.fill = none) :
    s.secure k b =
      ({ (s.setBatch k (some { s.allPresent b with state := .secured })).setChamber k
        { s.chamber k with entry := none, entryOverdue := false } with stations := s.noteUnset.stations } : State).push (.rest k) := by
  let u := s.setBatch k (some (s.allPresent b))
  have told : u.noteUnset = { u with stations := s.noteUnset.stations } := by
    rw [u.noteUnset_frame, State.noteUnset_stations (s := s) (t := u) rfl rfl rfl]
  rw [State.secure_eq]
  unfold State.sharedAnew
  rw [unfilled]
  dsimp only
  rw [told]
  have batch : ({ u with stations := s.noteUnset.stations } : State).batch k = some (s.allPresent b) :=
    (s.setBatch_batch k _ k).trans (if_pos rfl)
  rw [batch]
  cases k <;> rfl

theorem exitEnd_ne_entryEnd (d : Direction) : d.exitEnd ≠ d.entryEnd := by cases d <;> nofun

/-- R41: a SECURED batch at its entry end calls for a CLOSE, which a DIRECTED chamber leaves to its conductor. -/
theorem State.restStep_secured {s : State} {k : Chamber} {b : Batch} (batch : s.batch k = some b) (secured : b.state = .secured)
    (directed : (s.chamber k).mode = .directed) (rest : (s.chamber k).state = openState b.direction.entryEnd) :
    s.restStep k = s.dropPending k := by
  have place : (s.chamber k).state.rest = some (b.direction.entryEnd, true) := by
    rw [rest]
    cases b.direction <;> rfl
  have table : restTable b.direction.entryEnd true b = .close := by
    unfold restTable
    rw [secured]
    exact if_neg (exitEnd_ne_entryEnd b.direction)
  unfold State.restStep
  rw [place]
  dsimp only
  rw [batch]
  dsimp only
  rw [table]
  exact if_neg (by rw [directed]; nofun)

theorem State.available_directed {s : State} {k : Chamber} (directed : (s.chamber k).mode = .directed) : s.available k = false := by
  simp [State.available, directed]

theorem State.push_available (s : State) (t : Task) (k : Chamber) : (s.push t).available k = s.available k := by
  rw [show s.push t = _ from s.push_agendaOnly t]
  rfl

theorem State.available_of_own {s t : State} {k : Chamber} (chamber : t.chamber k = s.chamber k) (batch : t.batch k = s.batch k) :
    t.available k = s.available k := by
  rw [State.available, State.available, chamber, batch]

theorem Chamber.eq_or_other (j k : Chamber) : j = k ∨ j = k.other ∧ j ≠ k := by
  cases j <;> cases k <;> simp [Chamber.other]

/-- R108, R109, R111: a confirmation that lets no chamber attempt a formation. -/
theorem State.confirm_eq {s w v : State} {st : Station} {k : Chamber} {gone : List Nat} {b : Batch}
    (absent : gone.foldl (fun u n => u.absent st k n) s = w) (batch : w.batch k = some b)
    (rest : (if b.members.isEmpty then w.abandonBatch k else w.secure k b) = v) (shut : gone = [] ∨ ∀ j, v.available j = false) :
    s.confirm st k gone = v := by
  have last : (if v.anyWaiting gone then v.pushAvailable else v) = v := by
    rcases shut with none_ | shut
    · rw [none_]
      rfl
    · rw [State.pushAvailable_of_none shut, ite_self]
  have inner : (match w.batch k with
      | some b => if b.members.isEmpty then w.abandonBatch k else w.secure k b
      | none => w) = v := by
    rw [batch]
    exact rest
  unfold State.confirm
  rw [absent]
  exact (congrArg (fun z : State => if z.anyWaiting gone then z.pushAvailable else z) inner).trans last

/-- R108, R109: a confirmation with members left, in a DIRECTED chamber resting open at the batch's entry end. -/
theorem State.confirm_secures {s w : State} {st : Station} {k : Chamber} {gone : List Nat} {b : Batch}
    (absent : gone.foldl (fun u n => u.absent st k n) s = w) (calm : w.Calm) (directed : (w.chamber k).mode = .directed)
    (rest : (w.chamber k).state = openState b.direction.entryEnd) (batch : w.batch k = some b) (unfilled : b.fill = none)
    (some_ : b.members ≠ []) (alone : gone = [] ∨ w.available k.other = false) :
    ∃ S, (s.confirm st k gone).finish =
      { (w.setBatch k (some { w.allPresent b with state := .secured })).setChamber k
        { w.chamber k with entry := none, entryOverdue := false, pendingOrder := none } with
        signals := S, stations := w.noteUnset.stations } := by
  let c : Sequencer := { w.chamber k with entry := none, entryOverdue := false }
  let u : State := { (w.setBatch k (some { w.allPresent b with state := .secured })).setChamber k c with
    stations := w.noteUnset.stations }
  have own : u.chamber k = c := (State.setChamber_chamber ..).trans (if_pos rfl)
  have shut (none_ : w.available k.other = false) (j : Chamber) : (u.push (.rest k)).available j = false := by
    rw [State.push_available]
    rcases Chamber.eq_or_other j k with rfl | ⟨rfl, other⟩
    · exact State.available_directed (by rw [own]; exact directed)
    · refine (State.available_of_own ?_ ?_).trans none_
      · exact (State.setChamber_chamber ..).trans (if_neg other)
      · exact (w.setBatch_batch k _ k.other).trans (if_neg other)
  have secured : s.confirm st k gone = u.push (.rest k) :=
    State.confirm_eq absent batch ((if_neg (by simpa using some_)).trans (State.secure_unfilled unfilled)) (alone.imp_right shut)
  have held : u.batch k = some { w.allPresent b with state := .secured } := (w.setBatch_batch k _ k).trans (if_pos rfl)
  have step : u.derive.restStep k = u.derive.dropPending k :=
    State.restStep_secured (s := u.derive) held rfl (by rw [show u.derive.chamber k = c from own]; exact directed)
      (by rw [show u.derive.chamber k = c from own]; exact rest)
  refine ⟨(u.derive.dropPending k).derive.signals, ?_⟩
  have ends := State.finish_push (s := u) (task := .rest k) calm step calm
  rw [secured, ends, State.derive_frame]
  show ({ u.derive.setChamber k { u.derive.chamber k with pendingOrder := none } with signals := _ } : State) = _
  rw [show u.derive.chamber k = c from own]
  cases k <;> rfl

/-- R111: a confirmation with no member left. -/
theorem State.confirm_abandons {s w : State} {st : Station} {k : Chamber} {gone : List Nat} {b : Batch}
    (absent : gone.foldl (fun u n => u.absent st k n) s = w) (calm : w.Calm) (directed : (w.chamber k).mode = .directed)
    (batch : w.batch k = some b) (unfilled : b.fill = none) (none_ : b.members = []) (alone : w.available k.other = false) :
    ∃ S, (s.confirm st k gone).finish = { (w.setBatch k none).setChamber k (w.chamber k).batchGone with signals := S } := by
  have shut (j : Chamber) : (w.abandonBatch k).available j = false := by
    rw [State.abandonBatch, State.reapportion_unfilled batch unfilled, State.removeBatch_calm calm.2, State.push_available]
    rcases Chamber.eq_or_other j k with rfl | ⟨rfl, other⟩
    · refine State.available_directed ?_
      rw [State.setChamber_chamber, if_pos rfl]
      exact directed
    · refine Eq.trans (State.available_of_own ?_ ?_) alone
      · exact (State.setChamber_chamber ..).trans (if_neg other)
      · exact (w.setBatch_batch k _ k.other).trans (if_neg other)
  obtain ⟨S, ends⟩ := State.abandonBatch_finish calm batch unfilled (.inl directed)
  refine ⟨S, Eq.trans (congrArg State.finish ?_) ends⟩
  exact State.confirm_eq absent batch (if_pos (by rw [none_]; rfl)) (.inr shut)

/-! ## CONFIRM IN -/

/-- What an answer leaves beside the stations, when the request has changed the passage book, the sequencers and the journal alone. -/
theorem State.answered_passages {s u : State} {st : Station} {code : Nat} {o : ReplyOutcome} {l : List WireField}
    (shape : u = { s with
      book := u.book, chambers := u.chambers, journal := u.journal, signals := u.signals, stations := u.stations }) :
    u.answered st code o l = { s.answered st code o l with
      book := u.book, chambers := u.chambers, journal := u.journal, signals := u.signals
      stations := (u.answered st code o l).stations } := by
  have ends : u.answered st code o l = { u with stations := (u.answered st code o l).stations } := rfl
  generalize u.answered st code o l = t at ends ⊢
  generalize t.stations = N at ends ⊢
  generalize u.book = B at shape ⊢
  generalize u.chambers = C at shape ⊢
  generalize u.journal = J at shape ⊢
  generalize u.signals = G at shape ⊢
  rw [ends, shape]
  rfl

/-- R108: the confirmation of an ENTERING batch, judged. -/
theorem confirmIn_judged {s u : State} {st : Station} {k : Chamber} {b : Batch} {l : Option (List Nat)}
    (present : s.chamberPresent k = true) (held : s.holder k = some st ∨ s.holder k = none) (batch : s.batch k = some b)
    (entering : b.state = .entering) (members : ∀ x, l = some x → x.all (b.members.map (·.order)).contains = true)
    (after : (s.confirm st k (match l with
      | none => []
      | some x => (b.members.map (·.order)).filter (fun n => !x.contains n))).finish = u) :
    judgeConfirmIn st k l s = (u, some (.ok, [])) := by
  refine (State.judged_confirm present held _).trans ?_
  rw [batch]
  refine (if_neg (by rw [not_not]; exact entering)).trans ?_
  cases l with
  | none => exact congrArg (fun x => (x, some (ReplyOutcome.ok, ([] : List WireField)))) after
  | some x =>
    exact (if_pos (members x rfl)).trans (congrArg (fun x => (x, some (ReplyOutcome.ok, ([] : List WireField)))) after)

theorem absent_orders (b : Batch) (l : List Nat) :
    (b.members.map (·.order)).filter (fun n => !l.contains n)
      = (b.members.filter (fun m => decide (m.order ∉ l))).map (·.order) := by
  rw [List.filter_map]
  exact congrArg _ (List.filter_congr fun m _ => by simp)

theorem State.noteUnset_raised {s : State} (unset : s.time = none) (x : Station) : .clockUnset ∈ (s.noteUnset.station x).notices := by
  unfold State.noteUnset
  rw [unset]
  refine (congrArg (fun r : StationRec => NoticeKind.clockUnset ∈ r.notices) (State.raiseAll_station ..)).mpr ?_
  exact StationRec.mem_notices_raise.mpr (.inl rfl)

/-- R108, R109, R47: every member of an ENTERING batch is there. -/
theorem confirmIn_all {s : State} {st : Station} {k : Chamber} {b : Batch} (takes : s.takes st)
    (held : s.holder k = some st ∨ s.holder k = none) (present : s.chamberPresent k = true)
    (directed : (s.chamber k).mode = .directed) (rest : (s.chamber k).state = openState b.direction.entryEnd) (calm : s.Calm)
    (batch : s.batch k = some b) (entering : b.state = .entering) (some_ : b.members ≠ []) (unfilled : b.fill = none) :
    ∃ t, exec (.confirmIn st k none) s = .next t
      ∧ t = { s.answered st 0x37 .ok [] with
          book.batches := t.book.batches, chambers := t.chambers, signals := t.signals, stations := t.stations }
      ∧ (∀ x, (t.station x).core = ((s.answered st 0x37 .ok []).station x).core
        ∧ (s.time = none → .clockUnset ∈ (t.station x).notices))
      ∧ t.batch k = some { s.allPresent b with state := .secured }
      ∧ t.batch k.other = s.batch k.other
      ∧ t.chamber k = { s.chamber k with entry := none, entryOverdue := false, pendingOrder := none }
      ∧ t.chamber k.other = s.chamber k.other := by
  let s' := s.validFrame st
  obtain ⟨S, after⟩ := State.confirm_secures (s := s') (w := s') (st := st) (k := k) (gone := []) rfl calm directed rest batch
    unfilled some_ (.inl rfl)
  let x : Batch := { s.allPresent b with state := .secured }
  let c : Sequencer := { s.chamber k with entry := none, entryOverdue := false, pendingOrder := none }
  obtain ⟨u, hu⟩ : ∃ u : State, ({ (s'.setBatch k (some x)).setChamber k c with
    signals := S, stations := s'.noteUnset.stations } : State) = u := ⟨_, rfl⟩
  have after' : (s'.confirm st k []).finish = u := after.trans hu
  have judged := confirmIn_judged (s := s') (l := none) present held batch entering nofun after'
  have stations (y : Station) : (u.station y).core = (s'.station y).core := by
    rw [← hu]
    exact s'.noteUnset_station_core y
  have now : u.now = s.now := by rw [← hu]; rfl
  have limit : u.settings.silenceLimit = s.settings.silenceLimit := by rw [← hu]; rfl
  have away : k.other ≠ k := by cases k <;> nofun
  have batches (j : Chamber) : u.batch j = if j = k then some x else s.batch j := by
    rw [← hu]
    exact s'.setBatch_batch k _ j
  have chambers (j : Chamber) : u.chamber j = if j = k then c else s.chamber j := by
    rw [← hu]
    exact State.setChamber_chamber ..
  refine ⟨_, State.exchange_answered takes judged (stations st) now limit, ?_, fun y =>
    ⟨State.answered_core now limit stations y, fun unset => ?_⟩, ?_, ?_, ?_, ?_⟩
  · rw [State.answered_passages (s := s) (u := u) (by rw [← hu]; rfl), ← hu]
    rfl
  · rw [State.answered_notices, ← hu]
    exact State.noteUnset_raised (s := s') unset y
  · exact (batches k).trans (if_pos rfl)
  · exact (batches k.other).trans (if_neg away)
  · exact (chambers k).trans (if_pos rfl)
  · exact (chambers k.other).trans (if_neg away)

theorem unrowed_eq_nil {b : Batch} : b.unrowed = [] ↔ b.members = [] := List.map_eq_nil_iff

/-- R108, R109, R111: some members of an ENTERING batch are absent, in a DIRECTED chamber. -/
theorem confirmIn_some {s : State} {st : Station} {k : Chamber} {b : Batch} {l : List Nat} (takes : s.takes st)
    (held : s.holder k = some st ∨ s.holder k = none) (present : s.chamberPresent k = true)
    (directed : (s.chamber k).mode = .directed) (rest : (s.chamber k).state = openState b.direction.entryEnd) (calm : s.Calm)
    (batch : s.batch k = some b) (entering : b.state = .entering) (unfilled : b.fill = none)
    (all : ∀ n ∈ l, ∃ m ∈ b.members, m.order = n) (alone : s.available k.other = false)
    (nodup : (b.members.map (·.order)).Nodup) (booked : ∀ m ∈ b.members, s.Booked m) :
    let stays := b.members.filter (fun m => decide (m.order ∈ l))
    let gone := b.members.filter (fun m => decide (m.order ∉ l))
    ∃ t, exec (.confirmIn st k (some l)) s = .next t
      ∧ t = { s.answered st 0x37 .ok [] with
          book := t.book, chambers := t.chambers, journal := t.journal, signals := t.signals, stations := t.stations }
      ∧ (∀ x, (t.station x).core = ((s.answered st 0x37 .ok []).station x).core)
      ∧ (∀ d, t.book.lists.get d =
        (s.book.lists.get d).map (fun o => if o.number ∈ gone.map (·.order) then s.returned o else o))
      ∧ t.book.nextOrder = s.book.nextOrder ∧ t.book.nextBatch = s.book.nextBatch
      ∧ t.book.entrySequence = s.book.entrySequence ∧ t.book.timer = s.book.timer
      ∧ t.batch k.other = s.batch k.other
      ∧ (s.anySubscriber = true → 6 * gone.length ≤ s.availableWords →
        t.journal.frames = s.journal.frames ++ gone.map (fun m => .order (some m.order) m.slot .returned st s.time))
      ∧ (stays ≠ [] → ∃ x, t.batch k = some x ∧ x.state = .secured ∧ x.night = some (s.nightFlag b.tariff)
        ∧ x.reserve = b.reserve - 16 * gone.length ∧ x.fill = none
        ∧ x.members.map (fun m => { m with row := 0 }) = stays.map (fun m => { m with row := 0, present := true })
        ∧ t.chamber k = { s.chamber k with entry := none, entryOverdue := false, pendingOrder := none })
      ∧ (stays = [] → t.batch k = none
        ∧ t.chamber k =
          { s.chamber k with
            entry := none, entryOverdue := false, leave := none, clearOut := false, leaveOverdue := false
            pendingOrder := none })
      ∧ t.chamber k.other = s.chamber k.other := by
  intro stays gone
  let s' := s.validFrame st
  have member : ∀ m ∈ gone, m ∈ b.members := fun m mem => List.mem_of_mem_filter mem
  have returned : MembersReturned s' ((gone.map (·.order)).foldl (fun u n => u.absent st k n) s') st k b gone :=
    absents_returned st k gone calm.2 batch (fun m mem => booked m (member m mem))
      (fun m mem => List.mem_map_of_mem (member m mem)) (List.Nodup.sublist (List.filter_sublist.map _) nodup)
  obtain ⟨w, hw⟩ : ∃ w, (gone.map (·.order)).foldl (fun u n => u.absent st k n) s' = w := ⟨_, rfl⟩
  rw [hw] at returned
  obtain ⟨next, nextBatch, entry, timer, deferred⟩ := returned.counters
  obtain ⟨y, ybatch, yframe, ymembers⟩ := returned.batch
  have chambers : w.chambers = s.chambers := by rw [returned.frame]; rfl
  have own (j : Chamber) : w.chamber j = s.chamber j := congrArg (fun c : PerChamber Sequencer => c.get j) chambers
  have wcalm : w.Calm := ⟨by rw [returned.frame]; exact calm.1, deferred.trans calm.2⟩
  have other : w.available k.other = false :=
    (State.available_of_own (s := s) (own k.other) returned.otherBatch).trans alone
  have ystate : y.state = .entering := by rw [yframe]; exact entering
  have yunfilled : y.fill = none := by rw [yframe]; exact unfilled
  have ydirection : y.direction = b.direction := by rw [yframe]
  have unrowed : y.unrowed = stays.map (fun m => { m with row := 0 }) := by
    rw [ymembers, Batch.unrowed, List.filter_map]
    refine congrArg _ (List.filter_congr fun m mem => ?_)
    have out : m.order ∈ gone.map (·.order) ↔ m.order ∉ l := by
      constructor
      · intro h
        obtain ⟨z, hz, same⟩ := List.mem_map.mp h
        rw [← same]
        exact of_decide_eq_true (List.mem_filter.mp hz).2
      · exact fun h => List.mem_map_of_mem (List.mem_filter.mpr ⟨mem, decide_eq_true h⟩)
    dsimp only [Function.comp_apply]
    simp only [out, not_not]
  have judgedGone : (b.members.map (·.order)).filter (fun n => !l.contains n) = gone.map (·.order) := absent_orders b l
  have away : k.other ≠ k := by cases k <;> nofun
  obtain ⟨u, after, frame, cores, otherBatch, otherChamber, secured, abandoned⟩ : ∃ u : State,
      (s'.confirm st k (gone.map (·.order))).finish = u
      ∧ u = { w with book.batches := u.book.batches, chambers := u.chambers, signals := u.signals, stations := u.stations }
      ∧ (∀ x, (u.station x).core = (w.station x).core) ∧ u.batch k.other = w.batch k.other
      ∧ u.chamber k.other = w.chamber k.other
      ∧ (stays ≠ [] → u.batch k = some { w.allPresent y with state := .secured }
        ∧ u.chamber k = { w.chamber k with entry := none, entryOverdue := false, pendingOrder := none })
      ∧ (stays = [] → u.batch k = none ∧ u.chamber k = (w.chamber k).batchGone) := by
    by_cases left : stays = []
    · have none_ : y.members = [] := unrowed_eq_nil.mp (by rw [unrowed, left]; rfl)
      obtain ⟨S, after⟩ := State.confirm_abandons hw wcalm (by rw [own]; exact directed) ybatch yunfilled none_ other
      refine ⟨_, after, rfl, fun _ => rfl, (w.setBatch_batch k _ k.other).trans (if_neg away),
        (State.setChamber_chamber ..).trans (if_neg away), fun h => absurd left h,
        fun _ => ⟨(w.setBatch_batch k _ k).trans (if_pos rfl), (State.setChamber_chamber ..).trans (if_pos rfl)⟩⟩
    · have some_ : y.members ≠ [] := fun none_ => left (List.map_eq_nil_iff.mp (unrowed.symm.trans (unrowed_eq_nil.mpr none_)))
      obtain ⟨S, after⟩ := State.confirm_secures hw wcalm (by rw [own]; exact directed) (by rw [own, ydirection]; exact rest)
        ybatch yunfilled some_ (.inr other)
      exact ⟨_, after, rfl, w.noteUnset_station_core, (w.setBatch_batch k _ k.other).trans (if_neg away),
        (State.setChamber_chamber ..).trans (if_neg away),
        fun _ => ⟨(w.setBatch_batch k _ k).trans (if_pos rfl), (State.setChamber_chamber ..).trans (if_pos rfl)⟩,
        fun h => absurd h left⟩
  have judged := confirmIn_judged (s := s') (st := st) (k := k) (l := some l) present held batch entering
    (fun x same => by
      cases same
      refine List.all_eq_true.mpr fun n mem => ?_
      obtain ⟨m, hm, order⟩ := all n mem
      exact List.contains_iff_mem.mpr (order ▸ List.mem_map_of_mem hm)) (judgedGone.symm ▸ after)
  have shape : u = { s with
      book := u.book, chambers := u.chambers, journal := u.journal, signals := u.signals, stations := u.stations } := by
    have base := returned.frame
    have journal : u.journal = w.journal := by rw [frame]
    have book : u.book = { w.book with batches := u.book.batches } := by rw [frame]
    rw [journal, book]
    generalize u.book.batches = B at frame ⊢
    generalize u.chambers = C at frame ⊢
    generalize u.signals = G at frame ⊢
    generalize u.stations = N at frame ⊢
    generalize w.book = B' at base frame ⊢
    generalize w.journal = J at base frame ⊢
    generalize w.stations = N' at base
    rw [frame, base]
    rfl
  have stations (x : Station) : (u.station x).core = (s'.station x).core := (cores x).trans (returned.cores x)
  have now : u.now = s.now := by rw [shape]
  have limit : u.settings.silenceLimit = s.settings.silenceLimit := by rw [shape]
  have book : u.book = { w.book with batches := u.book.batches } := by rw [frame]
  refine ⟨_, State.exchange_answered takes judged (stations st) now limit, State.answered_passages shape,
    State.answered_core now limit stations, fun d => ?_, ?_, ?_, ?_, ?_, otherBatch.trans returned.otherBatch,
    fun some_ fits => ?_, fun left => ?_, fun left => ?_, otherChamber.trans (own k.other)⟩
  · show u.book.lists.get d = _
    rw [book]
    exact returned.lists d
  · show u.book.nextOrder = _
    rw [book]; exact next
  · show u.book.nextBatch = _
    rw [book]; exact nextBatch
  · show u.book.entrySequence = _
    rw [book]; exact entry
  · show u.book.timer = _
    rw [book]; exact timer
  · show u.journal.frames = _
    rw [show u.journal = w.journal by rw [frame]]
    exact (returned.journal some_ fits).1
  · obtain ⟨ubatch, uchamber⟩ := secured left
    have tariff : y.tariff = b.tariff := by rw [yframe]
    have time : w.nightFlag y.tariff = s.nightFlag b.tariff := by rw [tariff, returned.frame]; rfl
    refine ⟨_, ubatch, rfl, congrArg some time, by show y.reserve = _; rw [yframe], yunfilled, ?_, by rw [← own k]; exact uchamber⟩
    show (y.members.map fun m => { m with present := true }).map (fun m => { m with row := 0 }) = _
    have swap : (y.members.map fun m => { m with present := true }).map (fun m => { m with row := 0 })
        = y.unrowed.map (fun m => { m with present := true }) := by
      rw [Batch.unrowed, List.map_map, List.map_map]
      rfl
    rw [swap, unrowed, List.map_map]
    rfl
  · obtain ⟨ubatch, uchamber⟩ := abandoned left
    refine ⟨ubatch, uchamber.trans ?_⟩
    rw [own k]
    have resting : (s.chamber k).state.rest.isSome = true := by
      rw [rest]
      cases b.direction <;> rfl
    exact congrArg (fun p => ({ s.chamber k with
      entry := none, entryOverdue := false, leave := none, clearOut := false, leaveOverdue := false, pendingOrder := p } : Sequencer))
      (if_pos resting)

/-- Settles O41. -/
theorem confirmInSecuresTheBatch : Obligations.ConfirmInSecuresTheBatch := by
  refine ⟨fun s st k b takes held present directed rest calm batch entering some_ unfilled => ⟨?_, fun l => ⟨fun ⟨n, mem, none_⟩ => ?_,
    fun all alone nodup booked => ?_⟩⟩, fun s st k l takes held present refused => ?_⟩
  · exact confirmIn_all takes held present directed rest calm batch entering some_ unfilled
  · refine State.exchange_report takes ((State.judged_confirm (s := s.validFrame st) present held _).trans ?_)
    show (match s.batch k with | none => _ | some b => _) = _
    rw [batch]
    refine (if_neg (by rw [not_not]; exact entering)).trans (if_neg fun all => ?_)
    obtain ⟨m, hm, same⟩ := List.mem_map.mp (List.contains_iff_mem.mp (List.all_eq_true.mp all n mem))
    exact none_ m hm same
  · exact confirmIn_some takes held present directed rest calm batch entering unfilled all alone nodup booked
  · refine State.exchange_report takes ((State.judged_confirm (s := s.validFrame st) present held _).trans ?_)
    show (match s.batch k with | none => _ | some b => _) = _
    cases batch : s.batch k with
    | none => rfl
    | some b => exact if_pos (refused b batch)

end Sys2Proof.Machine
end

section
/-! SUPPORT. A batch bound from what a scan took (R100 to R105). -/

namespace Sys2Proof.Machine

/-! ## Orders changed in the book -/

theorem Book.mapLists_mapLists (b : Book) (f g : Order → Order) :
    (b.mapLists (List.map f)).mapLists (List.map g) = b.mapLists (List.map (g ∘ f)) := by
  simp only [Book.mapLists, List.map_map]

theorem Book.mapLists_id (b : Book) : b.mapLists (List.map id) = b := by
  simp only [Book.mapLists, List.map_id]

theorem Book.mapLists_orders (b : Book) (f : Order → Order) : (b.mapLists (List.map f)).orders = b.orders.map f :=
  List.map_append.symm

/-- R103: the pass-over counts of some orders raised, as one change of every order. -/
theorem State.raiseCounts_map (s : State) (c : Scan) :
    ∃ g : Order → Order, s.raiseCounts c = { s with book := s.book.mapLists (List.map g) }
      ∧ ∀ o, g o = { o with passOver := (g o).passOver } ∧ o.passOver ≤ (g o).passOver := by
  have each (ns : List Nat) : ∀ t : State, ∃ g : Order → Order,
      ns.foldl (fun t n => t.changeOrder n
        (fun o => { o with passOver := max o.passOver (min s.settings.passLimit (o.passOver + 1)) })) t
        = { t with book := t.book.mapLists (List.map g) }
      ∧ ∀ o, g o = { o with passOver := (g o).passOver } ∧ o.passOver ≤ (g o).passOver := by
    induction ns with
    | nil => exact fun t => ⟨id, by rw [Book.mapLists_id]; rfl, fun o => ⟨rfl, Nat.le_refl _⟩⟩
    | cons n ns ih =>
      intro t
      let f := fun o : Order => { o with passOver := max o.passOver (min s.settings.passLimit (o.passOver + 1)) }
      let h := fun o : Order => if o.number = n then f o else o
      obtain ⟨g, changed, only⟩ := ih (t.changeOrder n f)
      have first (o : Order) : h o = { o with passOver := (h o).passOver } ∧ o.passOver ≤ (h o).passOver := by
        dsimp only [h]
        split
        · exact ⟨rfl, Nat.le_max_left _ _⟩
        · exact ⟨rfl, Nat.le_refl _⟩
      refine ⟨g ∘ h, ?_, fun o => ⟨?_, (first o).2.trans (only (h o)).2⟩⟩
      · rw [← Book.mapLists_mapLists]
        exact changed
      · show g (h o) = { o with passOver := (g (h o)).passOver }
        rw [(only (h o)).1]
        generalize (g (h o)).passOver = p
        rw [(first o).1]
  exact each c.raised s

/-- An order in a state, if it is a member's; any other as it is. -/
def Order.inState (x : OrderState) (ms : List Member) (o : Order) : Order :=
  if ∃ m ∈ ms, m.order = o.number then { o with state := x } else o

/-- R105: some orders take a state, as one change of every order. -/
theorem changeStates_map (x : OrderState) (ms : List Member) :
    ∀ s : State, ms.foldl (fun u m => u.changeOrder m.order (fun o => { o with state := x })) s
      = { s with book := s.book.mapLists (List.map (Order.inState x ms)) } := by
  induction ms with
  | nil =>
    intro s
    have same : Order.inState x [] = id := by
      funext o
      exact if_neg (by simp)
    rw [same, Book.mapLists_id]
    rfl
  | cons m ms ih =>
    intro s
    refine (ih _).trans ?_
    show ({ s with book := (s.book.mapLists (List.map _)).mapLists (List.map _) } : State) = _
    rw [Book.mapLists_mapLists]
    congr 3
    funext o
    dsimp only [Function.comp_apply, Order.inState]
    by_cases first : o.number = m.order
    · have named : ∃ y ∈ m :: ms, y.order = o.number := ⟨m, List.mem_cons_self, first.symm⟩
      rw [if_pos first, if_pos named]
      exact ite_self _
    · have both : (∃ y ∈ m :: ms, y.order = o.number) ↔ ∃ y ∈ ms, y.order = o.number := by
        simp [Ne.symm first]
      rw [if_neg first]
      simp only [both]

/-! ## A binding granted (R104, R105) -/

/-- R100: a scan reads the settings and the vessels alone. -/
theorem State.scan_congr {s t : State} (settings : t.settings = s.settings) (vessels : t.vessels = s.vessels) (k : Chamber)
    (depth : Int) (l : List Order) : ∀ c : Scan, t.scan k depth l c = s.scan k depth l c := by
  have vessel (i : Nat) : t.vessel i = s.vessel i := vessels_vessel vessels i
  have skips (o : Order) : t.skips k depth o = s.skips k depth o := by
    unfold State.skips
    rw [settings, vessel]
  have room : t.room k = s.room k := by
    unfold State.room
    rw [settings]
  induction l with
  | nil => exact fun _ => rfl
  | cons o os ih =>
    intro c
    unfold State.scan
    rw [skips, vessel, room, settings]
    simp only [ih]

theorem State.scanList_congr {s t : State} (settings : t.settings = s.settings) (vessels : t.vessels = s.vessels)
    (lists : t.book.lists = s.book.lists) (k : Chamber) (depth : Int) (d : Direction) :
    t.scanList k depth d = s.scanList k depth d := by
  rw [State.scanList, lists]
  exact State.scan_congr settings vessels k depth _ _

/-- R104, R105: what a binding leaves, before the chamber's rest state takes its step. -/
structure BatchMade (s t : State) (k : Chamber) (d : Direction) (c : Scan) : Prop where
  frame : t = { s with book := t.book, journal := t.journal, stations := t.stations }
  subscribers : t.journal.subscribers = s.journal.subscribers
  journal : s.anySubscriber = true → t.journal = s.journal
  cores : ∀ x, (t.station x).core = (s.station x).core
  notices : ∀ x, .batchBound ∈ (t.station x).notices
  batch : t.batch k = some (s.newBatch k d c)
  otherBatch : t.batch k.other = s.batch k.other
  nextBatch : t.book.nextBatch = succNumber (s.nextBatchNumber k)
  counters : t.book.nextOrder = s.book.nextOrder ∧ t.book.entrySequence = s.book.entrySequence ∧ t.book.timer = s.book.timer
  deferred : t.book.deferred = s.book.deferred.set k false
  orders : t.book.orders.map (fun o => { o with state := .waiting, passOver := 0 })
    = s.book.orders.map (fun o => { o with state := .waiting, passOver := 0 })
  members : ∀ o ∈ t.book.orders, (∃ m ∈ c.members, m.order = o.number) → o.state = .bound (s.nextBatchNumber k)
  kept : ∀ o ∈ t.book.orders, (∀ m ∈ c.members, m.order ≠ o.number) →
    ∃ x ∈ s.book.orders, x.number = o.number ∧ x.state = o.state ∧ x.passOver ≤ o.passOver

/-- R155: a reserve granted changes the journal alone, and with a subscriber nothing. -/
theorem State.askReserve_frame {s t : State} {n : Nat} (asked : s.askReserve n = some t) :
    t = { s with journal := t.journal } ∧ t.journal.subscribers = s.journal.subscribers
      ∧ (s.anySubscriber = true → t.journal = s.journal) := by
  unfold State.askReserve at asked
  split at asked
  · split at asked
    · cases asked
      exact ⟨rfl, rfl, fun _ => rfl⟩
    · cases asked
  · next silent =>
    cases asked
    exact ⟨rfl, rfl, fun some_ => absurd some_ silent⟩

/-- R104, R105: a scan whose reserve is granted is bound. -/
theorem State.bindScan_granted {s w : State} {k : Chamber} {d : Direction} {c : Scan}
    (asked : (s.raiseCounts c).askReserve (reserveFor c.members.length) = some w) :
    ∃ t, s.bindScan k d c = (t.push (.rest k), .bound (s.nextBatchNumber k) c.members.length) ∧ BatchMade s t k d c := by
  obtain ⟨g, counted, only⟩ := s.raiseCounts_map c
  rw [counted] at asked
  obtain ⟨granted, subscribers, journal⟩ := State.askReserve_frame asked
  obtain ⟨J, rfl⟩ : ∃ J, w = { s with book := s.book.mapLists (List.map g), journal := J } := ⟨_, granted⟩
  let n := s.nextBatchNumber k
  let b := s.newBatch k d c
  let h := Order.inState (.bound n) c.members
  let book : Book :=
    { (s.book.mapLists (List.map (h ∘ g))) with
      batches := s.book.batches.set k (some b), nextBatch := succNumber n, deferred := s.book.deferred.set k false }
  let u : State := { s with book := book, journal := J }
  let t := u.raiseAll .batchBound
  have bound : ({ s with book := s.book.mapLists (List.map g), journal := J } : State).bindBatch k d c = t.push (.rest k) := by
    unfold State.bindBatch
    dsimp only
    rw [changeStates_map]
    let whole := fun B : Book => (({ s with
      book :=
        { B with batches := s.book.batches.set k (some b), nextBatch := succNumber n, deferred := s.book.deferred.set k false }
      journal := J } : State).raiseAll .batchBound).push (.rest k)
    have merged : whole ((s.book.mapLists (List.map g)).mapLists (List.map h)) = whole (s.book.mapLists (List.map (h ∘ g))) :=
      congrArg whole (Book.mapLists_mapLists s.book g h)
    exact Eq.trans (by rfl) merged
  have told : t = { u with stations := t.stations } := State.raiseAll_frame ..
  have away : k.other ≠ k := by cases k <;> nofun
  have orders : t.book.orders = s.book.orders.map (h ∘ g) := Book.mapLists_orders ..
  have number_g (o : Order) : (g o).number = o.number := by rw [(only o).1]
  have number_h (o : Order) : (h o).number = o.number := by
    dsimp only [h, Order.inState]
    split <;> rfl
  refine ⟨t, ?_, rfl, subscribers, journal, State.raiseAll_station_core u _, fun x => ?_, ?_, ?_, rfl, ⟨rfl, rfl, rfl⟩, rfl, ?_,
    fun o mem named => ?_, fun o mem away => ?_⟩
  · unfold State.bindScan
    rw [counted, asked]
    dsimp only
    rw [bound]
    rfl
  · refine (congrArg (fun r : StationRec => NoticeKind.batchBound ∈ r.notices) (State.raiseAll_station ..)).mpr ?_
    exact StationRec.mem_notices_raise.mpr (.inl rfl)
  · exact (PerChamber.get_set ..).trans (if_pos rfl)
  · exact (PerChamber.get_set ..).trans (if_neg away)
  · rw [orders, List.map_map]
    refine List.map_congr_left fun o _ => ?_
    have erased : ({ h (g o) with state := .waiting, passOver := 0 } : Order) = { g o with state := .waiting, passOver := 0 } := by
      dsimp only [h, Order.inState]
      split <;> rfl
    show ({ h (g o) with state := .waiting, passOver := 0 } : Order) = _
    rw [erased, (only o).1]
  · rw [orders] at mem
    obtain ⟨x, hx, rfl⟩ := List.mem_map.mp mem
    have inMembers : ∃ m ∈ c.members, m.order = (g x).number := by
      obtain ⟨m, hm, same⟩ := named
      exact ⟨m, hm, same.trans (number_h (g x))⟩
    exact congrArg Order.state (if_pos inMembers)
  · rw [orders] at mem
    obtain ⟨x, hx, rfl⟩ := List.mem_map.mp mem
    have out : ¬ ∃ m ∈ c.members, m.order = (g x).number := fun ⟨m, hm, same⟩ =>
      away m hm (same.trans (number_h (g x)).symm)
    have still : (h ∘ g) x = g x := if_neg out
    rw [still]
    exact ⟨x, hx, (number_g x).symm, by rw [(only x).1], (only x).2⟩

theorem BatchMade.formed {s t u : State} {k : Chamber} {d : Direction} {c : Scan} {x : BatchState} (made : BatchMade s t k d c)
    (book : u.book = { t.book with batches := u.book.batches }) (batch : u.batch k = some { s.newBatch k d c with state := x })
    (other : u.batch k.other = t.batch k.other) (notices : ∀ st, .batchBound ∈ (u.station st).notices) :
    BatchFormed s u k d c x where
  batch := batch
  otherBatch := other.trans made.otherBatch
  nextBatch := by rw [book]; exact made.nextBatch
  counters := by rw [book]; exact ⟨made.counters.1, made.counters.2.1⟩
  deferred := by rw [book]; exact made.deferred
  orders := by rw [book]; exact made.orders
  members := by rw [book]; exact made.members
  kept := by rw [book]; exact made.kept
  notices := notices

theorem State.raiseCounts_frame (s : State) (c : Scan) : s.raiseCounts c = { s with book.lists := (s.raiseCounts c).book.lists } := by
  obtain ⟨g, counted, -⟩ := s.raiseCounts_map c
  rw [counted]
  rfl

/-- R155: with a subscriber, a reserve is granted when the journal has the words available. -/
theorem State.askReserve_subscribed {s : State} (some_ : s.anySubscriber = true) (c : Scan) (n : Nat) :
    (s.raiseCounts c).askReserve n = if n ≤ s.availableWords then some (s.raiseCounts c) else none := by
  have same := s.raiseCounts_frame c
  generalize (s.raiseCounts c).book.lists = L at same
  rw [same]
  exact if_pos some_

/-- R104: a binding refused leaves the book as it is, but for the mark of an available chamber. -/
theorem State.bindScan_refused {s : State} {k : Chamber} {d : Direction} {c : Scan} (some_ : s.anySubscriber = true)
    (full : s.availableWords < reserveFor c.members.length) :
    s.bindScan k d c =
      (if s.available k then
        { s.raiseAll .journalPressure with book.deferred := s.book.deferred.set k true }
      else s.raiseAll .journalPressure, .refused) := by
  unfold State.bindScan
  rw [State.askReserve_subscribed some_, if_neg (not_le.mpr full)]
  rfl

/-- R41: a BOUND batch of a DIRECTED chamber resting shut calls for an order, which the chamber leaves to its conductor. -/
theorem State.restStep_bound_shut {s : State} {k : Chamber} {b : Batch} {e : Side} (batch : s.batch k = some b)
    (bound : b.state = .bound) (directed : (s.chamber k).mode = .directed) (rest : (s.chamber k).state = shutState e) :
    s.restStep k = s.dropPending k := by
  have place : (s.chamber k).state.rest = some (e, false) := by
    rw [rest]
    cases e <;> rfl
  have manual : ¬ (s.chamber k).mode = .automatic := by
    rw [directed]
    nofun
  unfold State.restStep
  rw [place]
  dsimp only
  rw [batch]
  dsimp only
  unfold restTable
  rw [bound]
  dsimp only
  split <;> exact if_neg manual

/-- R41, R47: a BOUND batch of a chamber resting open at its entry end becomes ENTERING. -/
theorem State.restStep_bound_open {s : State} {k : Chamber} {b : Batch} (batch : s.batch k = some b) (bound : b.state = .bound)
    (rest : (s.chamber k).state = openState b.direction.entryEnd) : s.restStep k = s.becomeEntering k b := by
  have place : (s.chamber k).state.rest = some (b.direction.entryEnd, true) := by
    rw [rest]
    cases b.direction <;> rfl
  have table : restTable b.direction.entryEnd true b = .entering := by
    unfold restTable
    rw [bound]
    exact if_pos rfl
  unfold State.restStep
  rw [place]
  dsimp only
  rw [batch]
  dsimp only
  rw [table]
  rfl

/-! ## Two consequences -/

/-- One consequence of an event carried out. -/
theorem settle_step {n : Nat} {s u : State} {t : Task} {ts : List Task} (agenda : s.agenda = t :: ts)
    (run : ({ s with agenda := ts } : State).derive.runTask t = u) : settle (n + 1) s.derive = settle n u.derive := by
  rw [settle_cons n s.derive t ts agenda]
  exact congrArg (fun v : State => settle n v.derive) run

/-- An event with one consequence. -/
theorem State.finish_once {s u : State} {a : Task} (agenda : s.agenda = [a])
    (first : ({ s with agenda := [] } : State).derive.runTask a = u) (ends : u.agenda = []) : s.finish = u.derive.clearDeferred := by
  show (settle 64 s.derive).derive.clearDeferred = _
  rw [settle_step (n := 63) agenda first, settle_nil 63 u.derive ends, State.derive_derive]

/-- An event with two consequences, the second one called for by the first. -/
theorem State.finish_two {s u v : State} {a b : Task} (agenda : s.agenda = [a])
    (first : ({ s with agenda := [] } : State).derive.runTask a = u) (agenda' : u.agenda = [b])
    (second : ({ u with agenda := [] } : State).derive.runTask b = v) (ends : v.agenda = []) :
    s.finish = v.derive.clearDeferred := by
  show (settle 64 s.derive).derive.clearDeferred = _
  rw [settle_step (n := 63) agenda first, settle_step (n := 62) agenda' second, settle_nil 62 v.derive ends, State.derive_derive]

/-! ## A formation from the chamber's own end (R98, R99) -/

theorem openState_rest (e : Side) : (openState e).rest = some (e, true) := by cases e <;> rfl

theorem enteringAt_entryEnd (e : Side) : (enteringAt e).entryEnd = e := by cases e <;> rfl

/-- R99: an available chamber resting open forms from the list of its own end, when its scan takes anyone. -/
theorem State.form_own {s : State} {k : Chamber} {e : Side} {depth : Int} (available : s.available k = true)
    (rest : (s.chamber k).state = openState e) (level : s.depth = some depth)
    (taken : (s.scanList k depth (enteringAt e)).members ≠ []) :
    s.form k = (s.bindScan k (enteringAt e) (s.scanList k depth (enteringAt e))).1 := by
  have some_ : (!(s.scanList k depth (enteringAt e)).members.isEmpty) = true := by simpa using taken
  unfold State.form
  rw [if_pos available, level, rest, openState_rest]
  exact if_pos some_

theorem push_nil {s : State} (idle : s.agenda = []) (t : Task) : s.push t = { s with agenda := [t] } := by
  unfold State.push
  rw [idle]
  rfl

/-- R99, R104, R47: the formation granted: the batch is bound, and becomes ENTERING. -/
theorem State.finish_form_granted {s w : State} {k : Chamber} {e : Side} {depth : Int} (idle : s.agenda = [])
    (other : s.book.deferred.get k.other = false) (available : s.available k = true) (rest : (s.chamber k).state = openState e)
    (level : s.depth = some depth) {c : Scan} (scanned : s.scanList k depth (enteringAt e) = c) (taken : c.members ≠ [])
    (asked : (s.derive.raiseCounts c).askReserve (reserveFor c.members.length) = some w) :
    ∃ t S, BatchMade s.derive t k (enteringAt e) c
      ∧ (s.push (.form k)).finish = { t.becomeEntering k (s.newBatch k (enteringAt e) c) with signals := S } := by
  have scanned' : s.derive.scanList k depth (enteringAt e) = c :=
    (State.scanList_congr (s := s) (t := s.derive) rfl rfl rfl k depth _).trans scanned
  obtain ⟨t, bound, made⟩ := State.bindScan_granted asked (d := enteringAt e) (k := k)
  have tidle : t.agenda = [] := by
    rw [made.frame]
    exact idle
  have deferred : t.book.deferred = ⟨false, false⟩ := by
    rw [made.deferred]
    show s.book.deferred.set k false = _
    cases k with
    | c1 => exact congrArg (PerChamber.mk false) other
    | c2 => exact congrArg (fun x => PerChamber.mk x false) other
  have state : (t.chamber k).state = openState e := by
    rw [made.frame]
    exact rest
  have formed : (({ s.push (.form k) with agenda := [] } : State).derive).runTask (.form k) = t.push (.rest k) := by
    have self : ({ s.push (.form k) with agenda := [] } : State) = s := by
      rw [push_nil idle, ← idle]
    rw [self]
    show s.derive.form k = _
    have own := State.form_own (s := s.derive) (k := k) (e := e) (depth := depth) available rest level (by rw [scanned']; exact taken)
    rw [own, scanned', bound]
  have entered : (({ t.push (.rest k) with agenda := [] } : State).derive).runTask (.rest k)
      = t.derive.becomeEntering k (s.newBatch k (enteringAt e) c) := by
    have self : ({ t.push (.rest k) with agenda := [] } : State) = t := by
      rw [push_nil tidle, ← tidle]
    rw [self]
    refine State.restStep_bound_open (s := t.derive) made.batch rfl ?_
    show (t.chamber k).state = openState (enteringAt e).entryEnd
    rw [enteringAt_entryEnd]
    exact state
  have ends := State.finish_two (s := s.push (.form k)) (by rw [push_nil idle]) formed (by rw [push_nil tidle]) entered
    (show t.agenda = [] from tidle)
  refine ⟨t, (t.derive.becomeEntering k (s.newBatch k (enteringAt e) c)).derive.signals, made, ?_⟩
  have kept : (t.derive.becomeEntering k (s.newBatch k (enteringAt e) c)).derive.clearDeferred
      = (t.derive.becomeEntering k (s.newBatch k (enteringAt e) c)).derive := State.clearDeferred_self deferred
  rw [ends, kept, State.derive_frame]
  cases k <;> rfl

/-- R104: an available chamber's mark stays. -/
theorem State.clearDeferred_marked {s : State} {k : Chamber} (other : s.book.deferred.get k.other = false)
    (available : s.available k = true) : s.clearDeferred = s := by
  have same : (⟨s.book.deferred.c1 && s.available .c1, s.book.deferred.c2 && s.available .c2⟩ : PerChamber Bool)
      = s.book.deferred := by
    cases k with
    | c1 =>
      have away : s.book.deferred.c2 = false := other
      rw [available, Bool.and_true, away, Bool.false_and, ← away]
    | c2 =>
      have away : s.book.deferred.c1 = false := other
      rw [available, Bool.and_true, away, Bool.false_and, ← away]
  unfold State.clearDeferred
  rw [same]

/-- R104: the formation refused by the journal: the chamber's binding is deferred. -/
theorem State.finish_form_refused {s : State} {k : Chamber} {e : Side} {depth : Int} (idle : s.agenda = [])
    (other : s.book.deferred.get k.other = false) (available : s.available k = true) (rest : (s.chamber k).state = openState e)
    (level : s.depth = some depth) {c : Scan} (scanned : s.scanList k depth (enteringAt e) = c) (taken : c.members ≠ [])
    (some_ : s.anySubscriber = true) (full : s.availableWords < reserveFor c.members.length) :
    ∃ S, (s.push (.form k)).finish = { s with
      book.deferred := s.book.deferred.set k true, signals := S, stations := (s.raiseAll .journalPressure).stations } := by
  have scanned' : s.derive.scanList k depth (enteringAt e) = c :=
    (State.scanList_congr (s := s) (t := s.derive) rfl rfl rfl k depth _).trans scanned
  obtain ⟨u, hu⟩ : ∃ u : State, ({ s.derive.raiseAll .journalPressure with
    book.deferred := s.book.deferred.set k true } : State) = u := ⟨_, rfl⟩
  have frame : u = { s.derive with book.deferred := s.book.deferred.set k true, stations := u.stations } := by
    rw [← hu]
    rfl
  have formed : (({ s.push (.form k) with agenda := [] } : State).derive).runTask (.form k) = u := by
    have self : ({ s.push (.form k) with agenda := [] } : State) = s := by
      rw [push_nil idle, ← idle]
    rw [self]
    show s.derive.form k = _
    have own := State.form_own (s := s.derive) (k := k) (e := e) (depth := depth) available rest level (by rw [scanned']; exact taken)
    rw [own, scanned', State.bindScan_refused (s := s.derive) some_ full]
    exact (if_pos available).trans hu
  have ends := State.finish_once (s := s.push (.form k)) (by rw [push_nil idle]) formed (by rw [frame]; exact idle)
  have away : k.other ≠ k := by cases k <;> nofun
  have marked : u.derive.book.deferred.get k.other = false := by
    show u.book.deferred.get k.other = false
    rw [frame]
    exact (PerChamber.get_set ..).trans ((if_neg away).trans other)
  have still : u.derive.available k = true := by
    refine (State.available_of_own (s := s) ?_ ?_).trans available
    · show u.chamber k = _
      rw [frame]
      rfl
    · show u.batch k = _
      rw [frame]
      rfl
  have stations : u.stations = (s.raiseAll .journalPressure).stations := by
    rw [← hu]
    rfl
  refine ⟨u.derive.signals, ?_⟩
  rw [ends, State.clearDeferred_marked marked still, State.derive_frame, ← stations]
  generalize u.derive.signals = S
  generalize u.stations = N at frame ⊢
  rw [frame]
  rfl

end Sys2Proof.Machine
end

section
/-! SUPPORT. BIND, and the binding that freed words let form (R104, R105, R114). -/

namespace Sys2Proof.Machine

/-- R57: a request of the directed kind, its chamber DIRECTED, in service and not HALTED. -/
theorem State.directed_own {s : State} {st : Station} {k : Chamber} (present : s.chamberPresent k = true)
    (held : s.holder k = some st) (directed : (s.chamber k).mode = .directed) (live : (s.chamber k).state.live = true)
    (own : State → Judged) : s.directed st k own = own s := by
  refine (State.judged_conductor present held _).trans (if_pos ?_)
  rw [State.directable, live, decide_eq_true directed]
  rfl

theorem State.mem_answered_notices {s : State} {st x : Station} {code : Nat} {o : ReplyOutcome} {l : List WireField} {n : NoticeKind}
    (raised : n ∈ (s.station x).notices) : n ∈ ((s.answered st code o l).station x).notices := by
  rw [State.answered_notices]
  exact raised

/-- R104, R105, R114: BIND in a shut rest state. -/
theorem bind_bound {s : State} {st : Station} {k : Chamber} {d : Direction} {e : Side} {depth : Int} (takes : s.takes st)
    (held : s.holder k = some st) (present : s.chamberPresent k = true) (directed : (s.chamber k).mode = .directed)
    (rest : (s.chamber k).state = shutState e) (calm : s.Calm) (empty : s.batch k = none) (level : s.depth = some depth)
    (some_ : s.anySubscriber = true) (taken : (s.scanList k depth d).members ≠ [])
    (room : 16 * (s.scanList k depth d).members.length + 36 ≤ s.availableWords) :
    let c := s.scanList k depth d
    let n := s.nextBatchNumber k
    ∃ t, exec (.bind st k d) s = .next t ∧ BatchFormed s t k d c .bound
      ∧ t = { s.answered st 0x39 .ok [.half n, .half c.members.length] with
          book := t.book, chambers := t.chambers, signals := t.signals, stations := t.stations }
      ∧ (∀ x, (t.station x).core = ((s.answered st 0x39 .ok [.half n, .half c.members.length]).station x).core)
      ∧ t.book.timer = s.book.timer
      ∧ t.chamber k = { s.chamber k with pendingOrder := none } ∧ t.chamber k.other = s.chamber k.other := by
  intro c n
  let s' := s.validFrame st
  have asked : (s'.raiseCounts c).askReserve (reserveFor c.members.length) = some (s'.raiseCounts c) :=
    (State.askReserve_subscribed (s := s') some_ c _).trans (if_pos room)
  obtain ⟨t, bound, made⟩ := State.bindScan_granted asked (d := d) (k := k)
  have own (j : Chamber) : t.chamber j = s.chamber j := by
    rw [made.frame]
    rfl
  have tcalm : t.Calm := by
    refine ⟨by rw [made.frame]; exact calm.1, made.deferred.trans ?_⟩
    rw [show s'.book.deferred = ⟨false, false⟩ from calm.2]
    cases k <;> rfl
  have step : t.derive.restStep k = t.derive.dropPending k :=
    State.restStep_bound_shut (s := t.derive) made.batch rfl (by rw [show t.derive.chamber k = t.chamber k from rfl, own]; exact directed)
      (by rw [show t.derive.chamber k = t.chamber k from rfl, own]; exact rest)
  obtain ⟨u, after⟩ : ∃ u, (t.push (.rest k)).finish = u := ⟨_, rfl⟩
  have ends : u = { t.setChamber k { t.chamber k with pendingOrder := none } with signals := u.signals } := by
    rw [← after, State.finish_push (s := t) (task := .rest k) tcalm step tcalm, State.derive_frame]
    cases k <;> rfl
  have judged : judgeBind st k d s' = (u, some (.ok, [.half n, .half c.members.length])) := by
    have live : (s.chamber k).state.live = true := by
      rw [rest]
      cases e <;> rfl
    refine (State.directed_own (s := s') present held directed live _).trans ?_
    have resting : (s.chamber k).state.rest.isNone = false := by
      rw [rest]
      cases e <;> rfl
    have free : ((s.chamber k).state.rest.isNone || (s.batch k).isSome) = false := by rw [resting, empty]; rfl
    refine (if_neg (ne_true_of_eq_false free)).trans ?_
    have formed : s'.formFrom k d = (t.push (.rest k), .bound n c.members.length) := by
      unfold State.formFrom
      rw [show s'.depth = some depth from level]
      dsimp only
      have scanned : s'.scanList k depth d = c := State.scanList_congr (s := s) (t := s') rfl rfl rfl k depth d
      rw [scanned]
      exact (if_neg fun none_ => taken (List.isEmpty_iff.mp none_)).trans bound
    rw [formed]
    exact congrArg (fun v => (v, some (ReplyOutcome.ok, [WireField.half n, .half c.members.length]))) after
  have shape : u = { s with book := t.book, chambers := u.chambers, signals := u.signals, stations := t.stations } := by
    have base := made.frame
    have journal : t.journal = s.journal := made.journal some_
    rw [journal] at base
    have chambers : u.chambers = s.chambers.set k { s.chamber k with pendingOrder := none } := by
      rw [ends, ← own k]
      show t.chambers.set k _ = _
      rw [show t.chambers = s.chambers by rw [base]; rfl]
    rw [chambers]
    rw [own] at ends
    generalize u.signals = G at ends ⊢
    generalize t.book = B at base ⊢
    generalize t.stations = N at base ⊢
    rw [ends, base]
    rfl
  have book : u.book = t.book := by rw [shape]
  have told : u.stations = t.stations := by rw [shape]
  have station (x : Station) : u.station x = t.station x := congrArg (fun p : PerStation StationRec => p.get x) told
  have stations (x : Station) : (u.station x).core = (s'.station x).core := by
    rw [station]
    exact made.cores x
  have now : u.now = s.now := by rw [shape]
  have limit : u.settings.silenceLimit = s.settings.silenceLimit := by rw [shape]
  have chamber (j : Chamber) : u.chamber j = if j = k then { s.chamber k with pendingOrder := none } else s.chamber j := by
    rw [ends, own]
    refine (State.setChamber_chamber t k _ j).trans ?_
    rw [own]
  have away : k.other ≠ k := by cases k <;> nofun
  refine ⟨_, State.exchange_answered takes judged (stations st) now limit, ?_, ?_, State.answered_core now limit stations, ?_, ?_, ?_⟩
  · have batch (j : Chamber) : u.batch j = t.batch j := by rw [State.batch, book]; rfl
    have formed : BatchFormed s' u k d c .bound :=
      made.formed (by rw [book]) ((batch k).trans made.batch) (batch k.other) fun x => by rw [station]; exact made.notices x
    exact { formed with notices := fun x => State.mem_answered_notices (formed.notices x) }
  · have whole := State.answered_passages (s := s) (u := u) (st := st) (code := 0x39) (o := .ok) (l := [.half n, .half c.members.length])
      (by rw [shape])
    have journal : u.journal = s.journal := by rw [shape]
    rw [journal] at whole
    exact whole
  · show u.book.timer = _
    rw [book]
    exact made.counters.2.2
  · exact (chamber k).trans (if_pos rfl)
  · exact (chamber k.other).trans (if_neg away)

/-! ## A binding that waited for words (R104) -/

/-- R154: a request whose consequences are those of the words it may have freed. -/
theorem State.exchange_freedWords {s t : State} {st : Station} {code : Nat} {judge : State → Judged} {o : ReplyOutcome}
    {l : List WireField} {J : Journal} (takes : s.takes st)
    (judged : judge (s.validFrame st) = ((({ s.validFrame st with journal := J } : State).noteFreed (s.validFrame st))).done o l)
    (run : s.exchange st code judge = .next t) :
    t = ((({ s.validFrame st with journal := J } : State).noteFreed (s.validFrame st)).finish).answered st code o l := by
  obtain ⟨u, hu⟩ : ∃ u, (({ s.validFrame st with journal := J } : State).noteFreed (s.validFrame st)).finish = u := ⟨_, rfl⟩
  have core : u.core = (s.validFrame st).core := by
    rw [← hu, State.finish_core, State.noteFreed_core]
    rfl
  have limit : u.settings = s.settings := by
    show u.core.settings = (s.validFrame st).core.settings
    rw [core]
  have ran := State.exchange_answered (code := code) (judge := judge) (t := u) (o := o) (l := l) takes (judged.trans (by rw [State.done, hu]))
    (station_core_of_core core st) (now_of_core (s := s.validFrame st) core) (by rw [limit])
  rw [hu]
  exact Host.Outcome.next.inj (run.symm.trans ran)

/-- R153, R158: READ JOURNAL and UNSUBSCRIBE, when they have freed words, are answered once the consequences have followed. -/
theorem words_freed {s t : State} {st who : Station} {c : Instr} (asked : c = .readJournal st ∨ c = .unsubscribe st who)
    (takes : s.takes st) (run : exec c s = .next t) (freed : t.used < s.used) :
    ∃ J code o l, t = ((({ s.validFrame st with journal := J } : State).noteFreed (s.validFrame st)).finish).answered st code o l := by
  have refused {code : Nat} {judge : State → Judged} {o : ReplyOutcome} {l : List WireField}
      (judged : judge (s.validFrame st) = (s.validFrame st, some (o, l))) (ran : s.exchange st code judge = .next t) : False := by
    have same := Host.Outcome.next.inj (ran.symm.trans (State.exchange_report takes judged))
    rw [same] at freed
    exact absurd freed (Nat.lt_irrefl _)
  rcases asked with rfl | rfl
  · cases subscribed : s.subscriber st with
    | none =>
      refine (refused (judge := judgeReadJournal st) (o := .state) (l := []) ?_ run).elim
      show Prod.mk _ _ = _
      rw [show (s.validFrame st).subscriber st = none from subscribed]
      rfl
    | some b =>
      let fs := (s.validFrame st).nextFrames b
      let w := (s.validFrame st).setSubscriber st (some { b with read := b.read + fs.length })
      obtain ⟨n, free⟩ := w.free_freed
      have shape : w.free = { s.validFrame st with journal := w.free.journal } := free.frame
      generalize hl : ([.frames ((fs.map Frame.bytes).flatten
        ++ if decide (s.journal.frames.length ≤ b.read + fs.length) && s.settings.clockMark then clockBytes s.time else []),
        .half (fs.length + if decide (s.journal.frames.length ≤ b.read + fs.length) && s.settings.clockMark then 1 else 0),
        .half (w.unread st), yesNo (decide (s.journal.frames.length ≤ b.read + fs.length))] : List WireField) = l
      have judged : judgeReadJournal st (s.validFrame st) = ((w.free).noteFreed (s.validFrame st)).done .ok l := by
        rw [← hl]
        show Prod.mk _ _ = _
        rw [show (s.validFrame st).subscriber st = some b from subscribed]
        rfl
      rw [shape] at judged
      exact ⟨_, _, _, _, State.exchange_freedWords (judge := judgeReadJournal st) takes judged run⟩
  · let w := (s.validFrame st).setSubscriber who none
    obtain ⟨n, free⟩ := w.free_freed
    have shape : w.free = { s.validFrame st with journal := w.free.journal } := free.frame
    by_cases own : st = who ∨ st = .tc
    · have judged : judgeUnsubscribe st who (s.validFrame st) = ((w.free).noteFreed (s.validFrame st)).done .ok [] := by
        unfold judgeUnsubscribe
        rcases own with rfl | rfl
        · rw [if_pos rfl]
          rfl
        · split <;> rfl
      rw [shape] at judged
      exact ⟨_, _, _, _, State.exchange_freedWords (judge := judgeUnsubscribe st who) takes judged run⟩
    · rw [not_or] at own
      refine (refused (judge := judgeUnsubscribe st who) (o := .notPermitted) (l := []) ?_ run).elim
      unfold judgeUnsubscribe
      rw [if_neg own.1]
      exact State.judged_tc own.2 _

/-- R104: a chamber whose binding is deferred attempts again once words are free. -/
theorem deferred_forms {s t : State} {st who : Station} {c : Instr} {k : Chamber} {e : Side} {depth : Int}
    (asked : c = .readJournal st ∨ c = .unsubscribe st who) (takes : s.takes st) (idle : s.agenda = []) (fits : s.JournalFits)
    (deferred : s.book.deferred = (⟨false, false⟩ : PerChamber Bool).set k true) (available : s.available k = true)
    (rest : (s.chamber k).state = openState e) (level : s.depth = some depth) (run : exec c s = .next t)
    (some_ : t.anySubscriber = true) (taken : (s.scanList k depth (enteringAt e)).members ≠ []) (freed : t.used < s.used) :
    let scan := s.scanList k depth (enteringAt e)
    (16 * scan.members.length + 36 + t.used + s.reserved ≤ 4096 →
      BatchFormed s t k (enteringAt e) scan .entering
        ∧ t.chamber k =
          { s.chamber k with
            entry := some (s.now + seconds s.settings.entryLimit), entryOverdue := false, pendingOrder := none })
    ∧ (4096 < 16 * scan.members.length + 36 + t.used + s.reserved →
      t.book = s.book ∧ ∀ x, .journalPressure ∈ (t.station x).notices) := by
  intro scan
  obtain ⟨J, code, o, l, answered⟩ := words_freed asked takes run freed
  let v : State := { s.validFrame st with journal := J }
  have room : s.used + s.reserved ≤ 4096 := fits.1
  have other : s.book.deferred.get k.other = false := by
    rw [deferred]
    cases k <;> rfl
  have vreserved : v.reserved = s.reserved := rfl
  -- the words freed call for the formation
  have called : v.noteFreed (s.validFrame st) = v.push (.form k) := by
    have mark : v.book.deferred = (⟨false, false⟩ : PerChamber Bool).set k true := deferred
    by_cases more : s.availableWords < v.availableWords
    · refine (if_pos more).trans ?_
      rw [mark]
      cases k <;> rfl
    · have same : v.noteFreed (s.validFrame st) = v := if_neg more
      rw [show (({ s.validFrame st with journal := J } : State).noteFreed (s.validFrame st)) = v from same,
        State.finish_nil v idle] at answered
      have used : t.used = v.used := by rw [answered]; rfl
      refine absurd ?_ more
      rw [State.availableWords, State.availableWords, vreserved, ← used]
      show 4096 - s.used - s.reserved < 4096 - t.used - s.reserved
      omega
  have scanned : v.scanList k depth (enteringAt e) = scan := State.scanList_congr (s := s) (t := v) rfl rfl rfl k depth _
  have words : v.derive.availableWords = 4096 - v.used - s.reserved := rfl
  cases granted : (v.derive.raiseCounts scan).askReserve (reserveFor scan.members.length) with
  | some w =>
    obtain ⟨b, S, made, ends⟩ := State.finish_form_granted (s := v) (k := k) (e := e) (depth := depth) idle other available rest level
      scanned taken granted
    rw [show ({ s.validFrame st with journal := J } : State).noteFreed (s.validFrame st) = v.push (.form k) from called, ends] at answered
    have journal : t.journal = b.journal := by rw [answered]; rfl
    have subscribed : v.derive.anySubscriber = true := by
      have same : b.anySubscriber = v.derive.anySubscriber := by
        rw [State.anySubscriber, State.anySubscriber]
        simp only [State.subscriber, made.subscribers]
      rw [← same, ← some_, answered]
      rfl
    have used : t.used = v.used := by
      rw [State.used, journal, made.journal subscribed]
      rfl
    have enough : reserveFor scan.members.length ≤ v.derive.availableWords := by
      rw [State.askReserve_subscribed subscribed] at granted
      by_contra short
      rw [if_neg short] at granted
      cases granted
    rw [words, ← used] at enough
    unfold reserveFor at enough
    refine ⟨fun _ => ⟨?_, ?_⟩, fun short => absurd short (by omega)⟩
    · let f : State := { b.becomeEntering k (s.newBatch k (enteringAt e) scan) with signals := S }
      have away : k.other ≠ k := by cases k <;> nofun
      have formed : BatchFormed v.derive f k (enteringAt e) scan .entering :=
        made.formed rfl ((b.setBatch_batch k _ k).trans (if_pos rfl)) ((b.setBatch_batch k _ k.other).trans (if_neg away))
          made.notices
      rw [answered]
      exact { formed with notices := fun x => State.mem_answered_notices (formed.notices x) }
    · have base := made.frame
      have chamber : b.chamber k = s.chamber k := by rw [base]; rfl
      have now : b.now = s.now := by rw [base]; rfl
      have limit : b.settings = s.settings := by rw [base]; rfl
      rw [answered]
      refine (State.setChamber_chamber (b.setBatch k _) k _ k).trans ((if_pos rfl).trans ?_)
      rw [chamber, now, limit]
  | none =>
    have subscribed : v.derive.anySubscriber = true := by
      by_contra silent
      have subs := v.derive.raiseCounts_frame scan
      generalize (v.derive.raiseCounts scan).book.lists = L at subs
      rw [subs] at granted
      have gives := (if_neg silent : (if v.derive.anySubscriber = true then _ else some (State.discardFor _ _)) = _).symm.trans granted
      cases gives
    have short : v.derive.availableWords < reserveFor scan.members.length := by
      rw [State.askReserve_subscribed subscribed] at granted
      by_contra enough
      rw [if_pos (not_lt.mp enough)] at granted
      cases granted
    obtain ⟨S, ends⟩ := State.finish_form_refused (s := v) (k := k) (e := e) (depth := depth) idle other available rest level scanned
      taken subscribed short
    rw [show ({ s.validFrame st with journal := J } : State).noteFreed (s.validFrame st) = v.push (.form k) from called, ends] at answered
    have used : t.used = v.used := by rw [answered]; rfl
    rw [words, ← used] at short
    unfold reserveFor at short
    refine ⟨fun enough => absurd enough (by omega), fun _ => ⟨?_, fun x => ?_⟩⟩
    · rw [answered]
      show ({ s.book with deferred := s.book.deferred.set k true } : Book) = s.book
      have same : s.book.deferred.set k true = s.book.deferred := by
        rw [deferred]
        cases k <;> rfl
      rw [same]
    · rw [answered]
      refine State.mem_answered_notices ?_
      show .journalPressure ∈ ((v.raiseAll .journalPressure).station x).notices
      rw [State.raiseAll_station]
      exact StationRec.mem_notices_raise.mpr (.inl rfl)

/-- Settles O40. -/
theorem bindMakesTheBatch : Obligations.BindMakesTheBatch := by
  refine ⟨fun s st k d e depth takes held present directed rest calm empty level some_ taken room =>
    bind_bound takes held present directed rest calm empty level some_ taken room,
    fun s st who c k e depth asked takes idle fits deferred available rest level t run some_ taken freed => ?_⟩
  have formed := deferred_forms asked takes idle fits deferred available rest level run some_
  cases e with
  | lower => exact formed taken freed
  | upper => exact formed taken freed

end Sys2Proof.Machine
end

section
/-! SUPPORT. The plant: what an order, a report and a fault of an actuator change, and what they leave (R17 to R25, R30). -/

namespace Sys2Proof.Machine

/-! ## The frame of the plant -/

/-- Only the actuators, the orders sent, the bodies' sampling, the journal, the notices and the capture record differ. -/
structure PlantMoved (s t : State) : Prop where
  frame : t = { s with
    drive := t.drive, levels := t.levels, journal := t.journal, stations := t.stations, capture := t.capture }
  core : t.core = s.core
  guards : SameGuards s t
  line : SameLine s t
  sent : s.drive.sent <+: t.drive.sent
  notices : ∀ st n, n ∈ (s.station st).notices → n ∈ (t.station st).notices

theorem PlantMoved.refl (s : State) : PlantMoved s s :=
  ⟨rfl, rfl, ⟨rfl, rfl, rfl⟩, ⟨rfl, rfl⟩, List.prefix_refl _, fun _ _ => id⟩

theorem PlantMoved.trans {s t u : State} (h : PlantMoved s t) (g : PlantMoved t u) : PlantMoved s u where
  frame := by rw [g.frame, h.frame]
  core := g.core.trans h.core
  guards := ⟨g.guards.1.trans h.guards.1, g.guards.2.1.trans h.guards.2.1, g.guards.2.2.trans h.guards.2.2⟩
  line := ⟨g.line.1.trans h.line.1, g.line.2.trans h.line.2⟩
  sent := h.sent.trans g.sent
  notices st n old := g.notices st n (h.notices st n old)

section
variable {s t : State} (h : PlantMoved s t)
include h

theorem PlantMoved.chambers : t.chambers = s.chambers := by rw [h.frame]
theorem PlantMoved.chamber (k : Chamber) : t.chamber k = s.chamber k := congrArg (fun c : PerChamber Sequencer => c.get k) h.chambers
theorem PlantMoved.arbiter : t.arbiter = s.arbiter := by rw [h.frame]
theorem PlantMoved.book : t.book = s.book := by rw [h.frame]
theorem PlantMoved.batch (k : Chamber) : t.batch k = s.batch k := congrArg (fun b : Book => b.batches.get k) h.book
theorem PlantMoved.site : t.site = s.site := by rw [h.frame]
theorem PlantMoved.agenda : t.agenda = s.agenda := by rw [h.frame]
theorem PlantMoved.now : t.now = s.now := by rw [h.frame]
theorem PlantMoved.time : t.time = s.time := by rw [h.frame]; rfl
theorem PlantMoved.settings : t.settings = s.settings := by rw [h.frame]
theorem PlantMoved.sluiceExpiry : t.sluiceExpiry = s.sluiceExpiry := by
  rw [State.sluiceExpiry, State.sluiceExpiry, h.now, h.settings]

end

theorem PlantMoved.of_sampling {s t : State} (h : SamplingOnly s t) (core : t.core = s.core) : PlantMoved s t := by
  have frame := h.rest
  have drive : t.drive = s.drive := by rw [frame]
  refine ⟨?_, core, ⟨congrArg Drive.overflow drive, congrArg Drive.cycleStart drive, h.forceFast⟩,
    ⟨congrArg Drive.queries drive, congrArg Drive.polls drive⟩, by rw [drive], fun st n old => ?_⟩
  · generalize t.levels = L at frame
    rw [frame]
  · rw [frame]
    exact old

theorem State.send_moved (s : State) (a : Actuator) (o : DriveOrder) : PlantMoved s (s.send a o) :=
  ⟨rfl, rfl, ⟨rfl, rfl, rfl⟩, ⟨rfl, rfl⟩, List.prefix_append .., fun _ _ => id⟩

theorem State.putGate_moved (s : State) (k : Chamber) (e : Side) (g : Gate) : PlantMoved s (s.putGate k e g) :=
  ⟨rfl, rfl, ⟨rfl, rfl, rfl⟩, ⟨rfl, rfl⟩, List.prefix_refl _, fun _ _ => id⟩

theorem State.putSluice_moved (s : State) (q : Sluice) (r : SluiceRec) : PlantMoved s (s.putSluice q r) := by
  cases q <;> exact ⟨rfl, rfl, ⟨rfl, rfl, rfl⟩, ⟨rfl, rfl⟩, List.prefix_refl _, fun _ _ => id⟩

theorem State.noteFast_moved (s old : State) : PlantMoved s (s.noteFast old) :=
  .of_sampling (s.noteFast_sampling old) (State.noteFast_core ..)

theorem State.setGate_moved (s : State) (k : Chamber) (e : Side) (g : Gate) : PlantMoved s (s.setGate k e g) :=
  (s.putGate_moved k e _).trans (State.noteFast_moved ..)

theorem State.setSluice_moved (s : State) (q : Sluice) (r : SluiceRec) : PlantMoved s (s.setSluice q r) :=
  (s.putSluice_moved q r).trans (State.noteFast_moved ..)

theorem State.write_moved (s : State) (f : Frame) : PlantMoved s (s.write f) := by
  have frame : s.write f = { s with journal := (s.write f).journal, stations := (s.write f).stations } := State.write_frame ..
  refine ⟨?_, State.write_core .., ⟨?_, ?_, ?_⟩, ⟨?_, ?_⟩, ?_, fun _ _ => State.write_notices⟩ <;> generalize s.write f = t at frame ⊢ <;> rw [frame]

theorem State.moveFrame_moved (s : State) (a : Actuator) (o : MoveOutcome) : PlantMoved s (s.moveFrame a o) := s.write_moved _

theorem State.raiseFault_moved (s : State) (f : FaultKind) (x : Subject) : PlantMoved s (s.raiseFault f x) := by
  have frame : s.raiseFault f x = { s with
      journal := (s.raiseFault f x).journal, stations := (s.raiseFault f x).stations, capture := (s.raiseFault f x).capture } :=
    State.raiseFault_frame ..
  refine ⟨?_, State.raiseFault_core .., ⟨?_, ?_, ?_⟩, ⟨?_, ?_⟩, ?_, fun _ _ => State.raiseFault_notices⟩ <;> generalize s.raiseFault f x = t at frame ⊢ <;> rw [frame]

theorem State.endRamp_moved (s : State) (q : Sluice) : PlantMoved s (s.endRamp q) := s.putSluice_moved q _

theorem State.sendMove_moved (s : State) (q : Sluice) (n : Nat) : PlantMoved s (s.sendMove q n) :=
  (s.send_moved _ _).trans (State.setSluice_moved ..)

/-! ## The sluices' and the gates' records -/

theorem sluice_of_drive {s t : State} (h : t.drive = s.drive) (q : Sluice) : t.sluice q = s.sluice q := by
  cases q <;> simp only [State.sluice, h]

theorem gate_of_drive {s t : State} (h : t.drive = s.drive) (k : Chamber) (e : Side) : t.gate k e = s.gate k e := by
  simp only [State.gate, h]

theorem State.write_drive' (s : State) (f : Frame) : (s.write f).drive = s.drive := by rw [State.write_frame]

theorem State.raiseFault_drive' (s : State) (f : FaultKind) (x : Subject) : (s.raiseFault f x).drive = s.drive := by
  rw [State.raiseFault_frame]

/-! ## MOVE(0) (R23, R33) -/

/-- R23, R33: a sluice's record once MOVE(0) has been asked of it, a timer started then running out at `x`. -/
def SluiceRec.shutBy (r : SluiceRec) (x : Nat) : SluiceRec :=
  if r.stands 0 then { r with ramp := none }
  else
    { r with
      state := .moving, target := some (.step 0), superseded := if r.state = .moving then r.supersede else none
      timer := some x, ramp := none }

theorem State.judge_zero (s : State) (q : Sluice) : s.judge (.sluice q) (.move 0) = none := by
  rcases q with ⟨k, e⟩ | _
  · cases e <;> rfl
  · rfl

/-- R23: MOVE(0) asked of a sluice is complete or sent. -/
theorem State.shutSluice_eq (s : State) (q : Sluice) :
    s.shutSluice q = if (s.sluice q).stands 0 then s.endRamp q else (s.sendMove q 0).endRamp q := by
  unfold State.shutSluice State.orderSluice
  rw [State.moveSluice_eq, State.judge_zero]
  by_cases there : (s.sluice q).stands 0 = true
  · rw [if_pos there, if_pos there]
  · rw [if_neg there, if_neg there]

@[simp] theorem State.shutSluice_sluice (s : State) (q q' : Sluice) :
    (s.shutSluice q).sluice q' = if q' = q then (s.sluice q).shutBy s.sluiceExpiry else s.sluice q' := by
  rw [State.shutSluice_eq]
  unfold SluiceRec.shutBy
  by_cases there : (s.sluice q).stands 0 = true
  · rw [if_pos there, if_pos there, State.endRamp, State.putSluice_sluice]
  · rw [if_neg there, if_neg there, State.endRamp, State.putSluice_sluice, State.sendMove_sluice, State.sendMove_sluice, if_pos rfl]
    by_cases same : q' = q
    · rw [if_pos same, if_pos same]
    · rw [if_neg same, if_neg same, if_neg same]

@[simp] theorem State.shutSluice_gate (s : State) (q : Sluice) (k : Chamber) (e : Side) : (s.shutSluice q).gate k e = s.gate k e := by
  rw [State.shutSluice_eq]
  split
  · rw [State.endRamp, State.putSluice_gate]
  · rw [State.endRamp, State.putSluice_gate, State.sendMove, State.setSluice_gate, State.send_gate]

theorem State.shutSluice_moved (s : State) (q : Sluice) : PlantMoved s (s.shutSluice q) := by
  rw [State.shutSluice_eq]
  split
  · exact s.endRamp_moved q
  · exact (s.sendMove_moved q 0).trans (State.endRamp_moved ..)

theorem State.shutSluice_journal (s : State) (q : Sluice) : (s.shutSluice q).journal = s.journal := by
  have plant := s.shutSluice_plant q
  rw [show s.shutSluice q = _ from plant]

theorem State.shutSluice_capture (s : State) (q : Sluice) : (s.shutSluice q).capture = s.capture := by
  have plant := s.shutSluice_plant q
  rw [show s.shutSluice q = _ from plant]

/-- R50: what MOVE(0) leaves: no ramp, and the sluice at rest at 0 or on its way to it. -/
theorem SluiceRec.shutBy_facts (r : SluiceRec) (x : Nat) :
    (r.shutBy x).ramp = none
      ∧ ((r.state = .shut ∨ r.state = .held) ∧ r.step = some 0 ∧ (r.shutBy x).state = r.state
        ∨ (r.shutBy x).state = .moving ∧ (r.shutBy x).target = some (.step 0)) := by
  unfold SluiceRec.shutBy
  split
  · next there =>
    refine ⟨rfl, ?_⟩
    unfold SluiceRec.stands at there
    split at there
    · next state => exact .inl ⟨.inl state, of_decide_eq_true there, rfl⟩
    · next state => exact .inl ⟨.inr state, of_decide_eq_true there, rfl⟩
    · next state => exact .inr ⟨state, of_decide_eq_true there⟩
    · cases there
  · exact ⟨rfl, .inr ⟨rfl, rfl⟩⟩

/-- R25, R51: a sluice in FAULT is sent to 0 from where it stands. -/
theorem SluiceRec.shutBy_fault {r : SluiceRec} (fault : r.state = .fault) (x : Nat) :
    r.shutBy x = { r with state := .moving, target := some (.step 0), superseded := none, timer := some x, ramp := none } := by
  have away : r.stands 0 = false := by
    unfold SluiceRec.stands
    rw [fault]
  unfold SluiceRec.shutBy
  rw [away, fault]
  rfl

/-! ## STOP asked of a gate (R19) -/

/-- R19, R50: a gate's record once STOP has been asked of it while it moved. -/
def Gate.stoppedBy (g : Gate) : Gate := { g with state := .stopped, outstanding := none, timer := none, surge := false }

theorem GateState.moving_iff (x : GateState) : x.moving = true ↔ x = .opening ∨ x = .closing := by
  cases x <;> simp [GateState.moving]

theorem State.stopGate_eq {s : State} {k : Chamber} {e : Side} (moving : (s.gate k e).state.moving = true) :
    s.stopGate k e = ((s.send (.gate k e) .stop).setGate k e
      { s.gate k e with state := .stopped, outstanding := none, timer := none }).moveFrame (.gate k e) .stopped := by
  unfold State.stopGate
  rcases (GateState.moving_iff _).mp moving with h | h <;> simp only [h]

theorem State.stopMoving_rest {s : State} {k : Chamber} {e : Side} (rest : (s.gate k e).state.moving = false) :
    s.stopMoving k e = s := if_neg (by rw [rest]; nofun)

theorem State.stopMoving_moved (s : State) (k : Chamber) (e : Side) : PlantMoved s (s.stopMoving k e) := by
  unfold State.stopMoving
  split
  · next moving =>
    rw [State.stopGate_eq moving]
    exact ((s.send_moved _ _).trans (State.setGate_moved ..)).trans (State.moveFrame_moved ..)
  · exact .refl s

@[simp] theorem State.stopMoving_sluice (s : State) (k : Chamber) (e : Side) (q : Sluice) : (s.stopMoving k e).sluice q = s.sluice q := by
  unfold State.stopMoving
  split
  · next moving =>
    rw [State.stopGate_eq moving, State.moveFrame, sluice_of_drive (State.write_drive' ..), State.setGate_sluice, State.send_sluice]
  · rfl

@[simp] theorem State.stopMoving_gate (s : State) (k : Chamber) (e : Side) (k' : Chamber) (e' : Side) :
    (s.stopMoving k e).gate k' e' =
      if k' = k ∧ e' = e ∧ (s.gate k e).state.moving = true then (s.gate k e).stoppedBy else s.gate k' e' := by
  unfold State.stopMoving
  split
  · next moving =>
    rw [State.stopGate_eq moving, State.moveFrame, gate_of_drive (State.write_drive' ..), State.setGate_gate, State.send_gate]
    by_cases same : k' = k ∧ e' = e
    · exact (if_pos same).trans ((if_neg (by nofun)).trans (if_pos ⟨same.1, same.2, moving⟩).symm)
    · exact (if_neg same).trans (if_neg fun h => same ⟨h.1, h.2.1⟩).symm
  · next rest => rw [if_neg fun h => rest h.2.2]

theorem State.stopMoving_capture (s : State) (k : Chamber) (e : Side) : (s.stopMoving k e).capture = s.capture := by
  unfold State.stopMoving
  split
  · next moving =>
    rw [State.stopGate_eq moving, State.moveFrame, State.write_capture]
    rw [show State.setGate _ _ _ _ = _ from State.setGate_plant ..]
    rfl
  · rfl

end Sys2Proof.Machine
end

section
/-! SUPPORT. The halt of a chamber with the arbiter free (R50, R51), and the end of an event that nothing kept waits on (R30). -/

namespace Sys2Proof.Machine

/-! ## The plant of a chamber ordered to rest (R50, R39) -/

/-- The plant of chamber k has been ordered to rest, but for the gate `spare`. -/
structure PlantRested (s t : State) (k : Chamber) (spare : Option Side) : Prop extends PlantMoved s t where
  sluices : ∀ e, t.sluice (.chamber k e) = (s.sluice (.chamber k e)).shutBy s.sluiceExpiry
  otherSluices : ∀ q, (∀ e, q ≠ .chamber k e) → t.sluice q = s.sluice q
  gates : ∀ e, t.gate k e =
    if spare ≠ some e ∧ (s.gate k e).state.moving = true then (s.gate k e).stoppedBy else s.gate k e
  otherGates : ∀ e, t.gate k.other e = s.gate k.other e
  unstopped : (∀ e, spare ≠ some e → (s.gate k e).state.moving = false) → t.journal = s.journal
  capture : t.capture = s.capture

theorem State.shutBoth_sluice (s : State) (k : Chamber) (e : Side) :
    (s.shutBoth k).sluice (.chamber k e) = (s.sluice (.chamber k e)).shutBy s.sluiceExpiry := by
  unfold State.shutBoth
  rw [State.shutSluice_sluice, State.shutSluice_sluice, State.shutSluice_sluice, (s.shutSluice_moved _).sluiceExpiry]
  cases e with
  | upper => rw [if_neg (by simp), if_pos rfl]
  | lower => rw [if_pos rfl, if_neg (by simp)]

theorem State.shutBoth_others (s : State) {k : Chamber} {q : Sluice} (out : ∀ e, q ≠ .chamber k e) :
    (s.shutBoth k).sluice q = s.sluice q := by
  unfold State.shutBoth
  rw [State.shutSluice_sluice, if_neg (out _), State.shutSluice_sluice, if_neg (out _)]

/-- R50: the two sluices ordered to 0, then the moving gates stopped. -/
theorem State.plantRested (s : State) (k : Chamber) (spare : Option Side) :
    PlantRested s
      (let t := s.shutBoth k
      let t := if spare = some .upper then t else t.stopMoving k .upper
      if spare = some .lower then t else t.stopMoving k .lower) k spare := by
  let t := s.shutBoth k
  have shut : PlantMoved s t := (s.shutSluice_moved _).trans (State.shutSluice_moved ..)
  have tgate (k' : Chamber) (e : Side) : t.gate k' e = s.gate k' e := by
    show ((s.shutSluice _).shutSluice _).gate k' e = _
    rw [State.shutSluice_gate, State.shutSluice_gate]
  have tjournal : t.journal = s.journal := by
    show ((s.shutSluice _).shutSluice _).journal = _
    rw [State.shutSluice_journal, State.shutSluice_journal]
  have tcapture : t.capture = s.capture := by
    show ((s.shutSluice _).shutSluice _).capture = _
    rw [State.shutSluice_capture, State.shutSluice_capture]
  -- one end after the other
  have stops (v : State) (e : Side) : ∃ w, (if spare = some e then v else v.stopMoving k e) = w ∧ PlantMoved v w
      ∧ (∀ q, w.sluice q = v.sluice q) ∧ (∀ k' e', w.gate k' e' =
        if k' = k ∧ e' = e ∧ spare ≠ some e ∧ (v.gate k e).state.moving = true then (v.gate k e).stoppedBy else v.gate k' e')
      ∧ ((spare ≠ some e → (v.gate k e).state.moving = false) → w.journal = v.journal) ∧ w.capture = v.capture := by
    by_cases spared : spare = some e
    · refine ⟨v, if_pos spared, .refl v, fun _ => rfl, fun k' e' => (if_neg fun h => h.2.2.1 spared).symm, fun _ => rfl, rfl⟩
    · refine ⟨v.stopMoving k e, if_neg spared, v.stopMoving_moved k e, fun q => State.stopMoving_sluice .., fun k' e' => ?_,
        fun rest => by rw [State.stopMoving_rest (rest spared)], v.stopMoving_capture k e⟩
      rw [State.stopMoving_gate]
      simp only [ne_eq, spared, not_false_eq_true, true_and]
  obtain ⟨u, hu, umoved, usluice, ugate, ujournal, ucapture⟩ := stops t .upper
  obtain ⟨w, hw, wmoved, wsluice, wgate, wjournal, wcapture⟩ := stops u .lower
  have eq : (let t := s.shutBoth k
      let t := if spare = some .upper then t else t.stopMoving k .upper
      if spare = some .lower then t else t.stopMoving k .lower) = w := by
    show (if spare = some .lower then (if spare = some .upper then t else t.stopMoving k .upper)
      else (if spare = some .upper then t else t.stopMoving k .upper).stopMoving k .lower) = w
    rw [hu, hw]
  rw [eq]
  have lower : u.gate k .lower = s.gate k .lower := by
    rw [ugate, if_neg (by simp), tgate]
  have away : k.other ≠ k := by cases k <;> nofun
  refine ⟨shut.trans (umoved.trans wmoved), fun e => ?_, fun q out => ?_, fun e => ?_, fun e => ?_, fun rest => ?_, ?_⟩
  · rw [wsluice, usluice, State.shutBoth_sluice]
  · rw [wsluice, usluice, State.shutBoth_others _ out]
  · cases e with
    | upper =>
      rw [wgate, if_neg (by simp), ugate, tgate]
      simp only [true_and]
    | lower =>
      rw [wgate, lower]
      simp only [true_and]
  · rw [wgate, if_neg fun h => away h.1, ugate, if_neg fun h => away h.1, tgate]
  · rw [wjournal fun spared => by rw [lower]; exact rest .lower spared,
      ujournal fun spared => by rw [tgate]; exact rest .upper spared, tjournal]
  · rw [wcapture, ucapture, tcapture]

theorem PlantRested.shut {s t : State} {k : Chamber} {spare : Option Side} (h : PlantRested s t k spare) : PlantShut s t k spare where
  sluices e := by
    rw [h.sluices]
    exact SluiceRec.shutBy_facts ..
  gates e spared := by
    rw [h.gates]
    by_cases moving : (s.gate k e).state.moving = true
    · rw [if_pos ⟨spared, moving⟩, if_pos ((GateState.moving_iff _).mp moving)]
      rfl
    · rw [if_neg fun x => moving x.2, if_neg fun x => moving ((GateState.moving_iff _).mpr x)]

/-! ## The halt (R50) -/

/-- R66, R72: with no phase, no record and no wish, a chamber has nothing to leave. -/
theorem State.leaveCross_free {s : State} (free : s.CrossFree) (k : Chamber) (cause : CrossEnd) : s.leaveCross k cause = s := by
  obtain ⟨idle, unrecorded, unwished⟩ := free
  have kept : s.setWish k none = s := by
    have same : s.arbiter.wishes.set k none = s.arbiter.wishes := by
      rw [unwished]
      cases k <;> rfl
    unfold State.setWish
    rw [same]
  have alone : s.proceedAlone k.other = s := by
    unfold State.proceedAlone
    have none_ : s.wish k.other = none := by
      rw [State.wish, unwished]
      cases k <;> rfl
    rw [none_]
  unfold State.leaveCross
  rw [kept, alone]
  dsimp only
  rw [if_neg (by rw [idle]; nofun)]
  unfold State.deliver
  rw [unrecorded]

/-- R50: a chamber's sequencer once it has been halted. -/
def Sequencer.haltedBy (c : Sequencer) (why : HaltCause) : Sequencer :=
  { c with state := .halted, interrupted := some c.state, haltCause := some why, pendingOrder := none, phase := none }

/-- R50: chamber k has been halted; nothing else of the plant has changed. -/
structure HaltMade (s t : State) (k : Chamber) (why : HaltCause) (spare : Option Side) : Prop where
  frame : t = { s with
    drive := t.drive, levels := t.levels, chambers := t.chambers, journal := t.journal, stations := t.stations }
  core : t.core = s.core
  guards : SameGuards s t
  line : SameLine s t
  sent : s.drive.sent <+: t.drive.sent
  notices : ∀ st n, n ∈ (s.station st).notices → n ∈ (t.station st).notices
  chamber : t.chamber k = (s.chamber k).haltedBy why
  otherChamber : t.chamber k.other = s.chamber k.other
  sluices : ∀ e, t.sluice (.chamber k e) = (s.sluice (.chamber k e)).shutBy s.sluiceExpiry
  otherSluices : ∀ q, (∀ e, q ≠ .chamber k e) → t.sluice q = s.sluice q
  gates : ∀ e, t.gate k e =
    if spare ≠ some e ∧ (s.gate k e).state.moving = true then (s.gate k e).stoppedBy else s.gate k e
  otherGates : ∀ e, t.gate k.other e = s.gate k.other e
  unstopped : (∀ e, spare ≠ some e → (s.gate k e).state.moving = false) → t.journal = s.journal

theorem State.haltChamber_made {s : State} (free : s.CrossFree) (k : Chamber) (why : HaltCause) (spare : Option Side) (cause : CrossEnd) :
    HaltMade s (s.haltChamber k why spare cause) k why spare := by
  let c : Sequencer := { s.chamber k with interrupted := some (s.chamber k).state, haltCause := some why }
  let v := s.setChamber k c
  have rested := v.plantRested k spare
  unfold State.haltChamber
  dsimp only at rested ⊢
  generalize (if spare = some .lower then (if spare = some .upper then v.shutBoth k else (v.shutBoth k).stopMoving k .upper)
    else (if spare = some .upper then v.shutBoth k else (v.shutBoth k).stopMoving k .upper).stopMoving k .lower) = w at rested ⊢
  have still : w.leaveCross k cause = w := by
    refine State.leaveCross_free ?_ k cause
    unfold State.CrossFree
    rw [rested.arbiter]
    exact free
  rw [still]
  have own : w.chamber k = c := (rested.chamber k).trans ((State.setChamber_chamber ..).trans (if_pos rfl))
  have others (j : Chamber) (h : j ≠ k) : w.chamber j = s.chamber j :=
    (rested.chamber j).trans ((State.setChamber_chamber ..).trans (if_neg h))
  have vsluice (q : Sluice) : v.sluice q = s.sluice q := sluice_of_drive rfl q
  have vgate (j : Chamber) (e : Side) : v.gate j e = s.gate j e := gate_of_drive rfl j e
  have away : k.other ≠ k := by cases k <;> nofun
  rw [own]
  refine ⟨?_, ?_, rested.guards, rested.line, rested.sent, rested.notices, ?_, ?_, fun e => ?_, fun q out => ?_, fun e => ?_, fun e => ?_, fun rest => ?_⟩
  · have frame := rested.frame
    rw [rested.capture] at frame
    obtain ⟨x, hx⟩ : ∃ x, w.setChamber k { c with pendingOrder := none, phase := none, state := .halted } = x := ⟨_, rfl⟩
    have ends : x = { w with chambers := x.chambers } := by rw [← hx]; rfl
    rw [hx]
    generalize x.chambers = C at ends ⊢
    rw [ends]
    show ({ w with chambers := C } : State) = { s with
      drive := w.drive, levels := w.levels, chambers := C, journal := w.journal, stations := w.stations }
    generalize w.drive = D at frame ⊢
    generalize w.levels = L at frame ⊢
    generalize w.journal = J at frame ⊢
    generalize w.stations = N at frame ⊢
    rw [frame]
    rfl
  · exact (State.setChamber_core ..).trans (rested.core.trans (State.setChamber_core ..))
  · exact (State.setChamber_chamber ..).trans (if_pos rfl)
  · exact (State.setChamber_chamber ..).trans ((if_neg away).trans (others _ away))
  · refine (State.setChamber_sluice ..).trans ?_
    rw [rested.sluices, vsluice]
    rfl
  · exact (State.setChamber_sluice ..).trans ((rested.otherSluices q out).trans (vsluice q))
  · exact (State.setChamber_gate ..).trans ((rested.gates e).trans (by rw [vgate]))
  · exact (State.setChamber_gate ..).trans ((rested.otherGates e).trans (vgate ..))
  · exact rested.unstopped fun e spared => by rw [vgate]; exact rest e spared

/-! ## What the halt says of an event -/

/-- R50: a halt that follows changes of the plant since `u`: of a gate that goes on moving no word, and of a sluice in FAULT that it is
sent to 0. -/
theorem HaltMade.halted {u w t : State} {k : Chamber} {why : HaltCause} {halts spare : Option Side} (h : HaltMade w t k why halts)
    (chambers : w.chambers = u.chambers) (book : w.book = u.book) (site : w.site = u.site) (guards : SameGuards u w)
    (line : SameLine u w)
    (sluices : ∀ e, w.sluice (.chamber k e) = u.sluice (.chamber k e) ∨ (w.sluice (.chamber k e)).state = .fault)
    (otherSluices : ∀ q, (∀ e, q ≠ .chamber k e) → w.sluice q = u.sluice q)
    (gates : ∀ e, spare ≠ some e → w.gate k e = u.gate k e) (otherGates : ∀ e, w.gate k.other e = u.gate k.other e)
    (spared : halts = none ∨ halts = spare) : HaltedIn u t k (u.chamber k).state why spare where
  chamber := by
    have own : w.chamber k = u.chamber k := congrArg (fun c : PerChamber Sequencer => c.get k) chambers
    rw [h.chamber, own]
    rfl
  otherChamber := h.otherChamber.trans (congrArg (fun c : PerChamber Sequencer => c.get k.other) chambers)
  sluices e := by
    rw [h.sluices]
    obtain ⟨ramp, ends⟩ := (w.sluice (.chamber k e)).shutBy_facts w.sluiceExpiry
    refine ⟨ramp, ?_⟩
    rcases sluices e with same | fault
    · rw [← same]
      exact ends
    · refine .inr (ends.resolve_left fun ⟨rest, _⟩ => ?_)
      rw [fault] at rest
      rcases rest with rest | rest <;> cases rest
  gates e out := by
    have away : halts ≠ some e := by
      rcases spared with rfl | rfl
      · nofun
      · exact out
    rw [h.gates, gates e out]
    by_cases moving : (u.gate k e).state.moving = true
    · rw [if_pos ⟨away, moving⟩, if_pos ((GateState.moving_iff _).mp moving)]
      rfl
    · rw [if_neg fun x => moving x.2, if_neg fun x => moving ((GateState.moving_iff _).mpr x)]
  otherPlant := by
    have away : k.other ≠ k := by cases k <;> nofun
    refine ⟨fun e => (h.otherGates e).trans (otherGates e), fun e => ?_, ?_⟩
    · have out : ∀ i, Sluice.chamber k.other e ≠ .chamber k i := fun i same => away (by injection same)
      exact (h.otherSluices _ out).trans (otherSluices _ out)
    · exact (h.otherSluices .cross fun _ => nofun).trans (otherSluices .cross fun _ => nofun)
  guards := ⟨h.guards.1.trans guards.1, h.guards.2.1.trans guards.2.1, h.guards.2.2.trans guards.2.2⟩
  line := ⟨h.line.1.trans line.1, h.line.2.trans line.2⟩
  book := by
    rw [h.frame]
    exact book
  site := by
    rw [h.frame]
    exact site

theorem HaltMade.haltedIn {s t : State} {k : Chamber} {why : HaltCause} {spare : Option Side} (h : HaltMade s t k why spare) :
    HaltedIn s t k (s.chamber k).state why spare :=
  h.halted rfl rfl rfl ⟨rfl, rfl, rfl⟩ ⟨rfl, rfl⟩ (fun _ => .inl rfl) (fun _ _ => rfl) (fun _ _ => rfl) (fun _ => rfl) (.inr rfl)

/-- The aspects and the stations are none of a halt's. -/
theorem HaltedIn.signalled {s t : State} {k : Chamber} {c : ChamberState} {why : HaltCause} {spare : Option Side}
    (h : HaltedIn s t k c why spare) (S : Signals) (N : PerStation StationRec) :
    HaltedIn s { t with signals := S, stations := N } k c why spare where
  chamber := h.chamber
  otherChamber := h.otherChamber
  sluices e := h.sluices e
  gates e out := h.gates e out
  otherPlant := h.otherPlant
  guards := h.guards
  line := h.line
  book := h.book
  site := h.site

theorem HaltMade.calm {s t : State} {k : Chamber} {why : HaltCause} {spare : Option Side} (h : HaltMade s t k why spare)
    (calm : s.Calm) : t.Calm := by
  unfold State.Calm
  rw [h.frame]
  exact calm

theorem HaltMade.capture {s t : State} {k : Chamber} {why : HaltCause} {spare : Option Side} (h : HaltMade s t k why spare) :
    t.capture = s.capture := by
  rw [h.frame]

/-! ## HALT, GATE STOP and the equalise limit (R50, R51, R58) -/

theorem SameLevels.of_levels {s t s' t' : State} (h : SameLevels s t) (before : s'.levels = s.levels) (after : t'.levels = t.levels) :
    SameLevels s' t' := by
  have body (b : Body) : s'.body b = s.body b ∧ t'.body b = t.body b := by
    simp only [State.body, before, after, and_self]
  have pair (p : Pair) : s'.pair p = s.pair p ∧ t'.pair p = t.pair p := by
    simp only [State.pair, before, after, and_self]
  obtain ⟨bodies, pairs, poll, trail⟩ := h
  refine ⟨fun b => .congr (bodies b) (body b).1 (body b).2, fun p => ?_, ?_, ?_⟩
  · rw [(pair p).1, (pair p).2]
    exact pairs p
  · rw [before, after]
    exact poll
  · rw [before, after]
    exact trail

/-- R50: a request that halts its chamber. -/
theorem State.exchange_halts {s : State} {st : Station} {code : Nat} {judge : State → Judged} {k : Chamber} (takes : s.takes st)
    (calm : s.Calm) (free : s.CrossFree)
    (judged : judge (s.validFrame st) = ((s.validFrame st).haltChamber k .request none (.halt k)).done .ok) :
    ∃ t, s.exchange st code judge = .next t ∧ HaltedIn s t k (s.chamber k).state .request none
      ∧ SameRecords (s.answered st code .ok []) t ∧ SameLevels s t ∧ t.now = s.now ∧ t.capture = s.capture := by
  have made := State.haltChamber_made (s := s.validFrame st) free k .request none (.halt k)
  generalize (s.validFrame st).haltChamber k .request none (.halt k) = u at made judged
  have core : u.derive.core = (s.validFrame st).core := (State.derive_core u).trans made.core
  have ends : u.finish = u.derive := State.finish_calm (made.calm calm)
  have judged' : judge (s.validFrame st) = (u.derive, some (.ok, [])) := judged.trans (by rw [State.done, ends])
  have now : u.derive.now = s.now := now_of_core (s := s.validFrame st) core
  have limit : u.derive.settings.silenceLimit = s.settings.silenceLimit := by
    show u.settings.silenceLimit = _
    rw [made.frame]
    rfl
  have stations := station_core_of_core core
  have halted : HaltedIn s u k (s.chamber k).state .request none :=
    made.halted (u := s) rfl rfl rfl ⟨rfl, rfl, rfl⟩ ⟨rfl, rfl⟩ (fun _ => .inl rfl) (fun _ _ => rfl) (fun _ _ => rfl) (fun _ => rfl)
      (.inl rfl)
  refine ⟨_, State.exchange_answered takes judged' (stations st) now limit, halted.signalled _ _, ?_, ?_, now, made.capture⟩
  · have records := SameRecords.of_core core
    exact {
      loaded := records.loaded, settings := records.settings, vessels := records.vessels, active := records.active
      standby := records.standby, clock := records.clock, tallies := records.tallies, conduct := records.conduct
      store := records.store, pending := records.pending, stations := State.answered_core now limit stations }
  · exact (SameLevels.of_core core).of_levels rfl rfl

theorem ChamberState.live_iff (c : ChamberState) : c.live = true ↔ c ≠ .outOfService ∧ c ≠ .halted := by
  cases c <;> simp [ChamberState.live, ChamberState.inService]

/-- R51: a hard fault of a chamber in service, the arbiter free: the chamber is halted, and nothing else follows. -/
theorem State.faultHalt_made {s : State} {k : Chamber} (free : s.CrossFree) (live : (s.chamber k).state.live = true) (f : FaultKind)
    (spare : Option Side) : HaltMade s (s.faultHalt k f spare) k (.fault f) spare := by
  unfold State.faultHalt
  rw [if_pos live]
  exact State.haltChamber_made free k _ spare _

theorem PlantMoved.crossFree {s t : State} (h : PlantMoved s t) (free : s.CrossFree) : t.CrossFree := by
  unfold State.CrossFree
  rw [h.arbiter]
  exact free

theorem PlantMoved.calm {s t : State} (h : PlantMoved s t) (calm : s.Calm) : t.Calm := by
  unfold State.Calm
  rw [h.agenda, h.book]
  exact calm

/-- R46, R51: the equalise limit runs out in a chamber in service. -/
theorem equaliseTimeout_halts {s : State} {k : Chamber} {p : PhaseTimer} (calm : s.Calm) (free : s.CrossFree)
    (phase : (s.chamber k).phase = some p) (live : (s.chamber k).state.live = true) :
    ∃ t, exec (.equaliseTimeout k) s = .next t
      ∧ HaltedIn s t k (s.chamber k).state (.fault .equaliseTimeout) none ∧ SameRecords s t ∧ SameLevels s t
      ∧ t.now = max s.now (p.start + 2 * p.limit) ∧ t.capture = s.capture.offer (s.captured .equaliseTimeout (.chamber k))
      ∧ ∀ st, .fault ∈ (t.station st).notices := by
  let v := s.reach (p.start + 2 * p.limit)
  have loud := v.loud_of_hard (f := .equaliseTimeout) rfl
  have raised := v.raiseFault_moved .equaliseTimeout (.chamber k)
  have capture := State.raiseFault_capture loud (.chamber k)
  have notice := State.raiseFault_fault_mem loud (.chamber k)
  have drive := v.raiseFault_drive' .equaliseTimeout (.chamber k)
  have run : exec (.equaliseTimeout k) s =
      .next (((v.raiseFault .equaliseTimeout (.chamber k)).faultHalt k .equaliseTimeout none).finish) := by
    show execEqualiseTimeout k s = _
    unfold execEqualiseTimeout
    rw [phase]
  generalize v.raiseFault .equaliseTimeout (.chamber k) = w at raised capture notice drive run
  have made := State.faultHalt_made (raised.crossFree free) (k := k) (by rw [raised.chamber]; exact live) .equaliseTimeout none
  generalize w.faultHalt k .equaliseTimeout none = u at made run
  have ends : u.finish = u.derive := State.finish_calm (made.calm (raised.calm calm))
  have core : u.derive.core = v.core := (State.derive_core u).trans (made.core.trans raised.core)
  have halted : HaltedIn s u k (s.chamber k).state (.fault .equaliseTimeout) none :=
    made.halted (u := s) raised.chambers raised.book raised.site raised.guards raised.line
      (fun e => .inl (sluice_of_drive (s := s) drive _)) (fun q _ => sluice_of_drive (s := s) drive q)
      (fun e _ => gate_of_drive (s := s) drive k e) (fun e => gate_of_drive (s := s) drive _ e) (.inl rfl)
  refine ⟨u.derive, by rw [run, ends], halted.signalled _ _, ?_, ?_, now_of_core (s := v) core, ?_, fun st => ?_⟩
  · exact SameRecords.trans (t := v) ⟨rfl, rfl, rfl, rfl, rfl, rfl, rfl, rfl, rfl, rfl, fun _ => rfl⟩ (SameRecords.of_core core)
  · exact (SameLevels.of_core (s := v) core).of_levels rfl rfl
  · exact made.capture.trans capture
  · exact made.notices st _ (notice st)

/-- Settles O32. -/
theorem haltsShutTheChamber : Obligations.HaltsShutTheChamber := by
  refine ⟨fun s st k takes present calm free service live => ⟨?_, fun held directed moving e => ?_⟩,
    fun s k p calm free phase service live => ?_, fun s st k takes present => ⟨fun out => ?_, fun halted => ?_⟩⟩
  · refine State.exchange_halts takes calm free ((State.judged_anyOf (s := s.validFrame st) present st _).trans ?_)
    show (match (s.chamber k).state with | .outOfService => _ | .halted => _ | _ => _) = _
    cases state : (s.chamber k).state <;> first | rfl | exact absurd state service | exact absurd state live
  · refine State.exchange_halts takes calm free ?_
    have up : (s.chamber k).state.live = true := by
      cases state : (s.chamber k).state <;> first | rfl | exact absurd state service | exact absurd state live
    have stops : ((s.gate k .upper).state.moving || (s.gate k .lower).state.moving) = true := by
      obtain ⟨i, h⟩ := moving
      have moves := (GateState.moving_iff _).mpr h
      cases i <;> simp [moves]
    exact (State.directed_own (s := s.validFrame st) present held directed up _).trans (if_pos stops)
  · exact equaliseTimeout_halts calm free phase ((ChamberState.live_iff _).mpr ⟨service, live⟩)
  · refine State.exchange_report takes ((State.judged_anyOf (s := s.validFrame st) present st _).trans ?_)
    show (match (s.chamber k).state with | .outOfService => _ | .halted => _ | _ => _) = _
    rw [out]
    rfl
  · refine State.exchange_report takes ((State.judged_anyOf (s := s.validFrame st) present st _).trans ?_)
    show (match (s.chamber k).state with | .outOfService => _ | .halted => _ | _ => _) = _
    rw [halted]
    rfl

end Sys2Proof.Machine
end

section
/-! SUPPORT. The orders to gates (R19), and the directed gate requests (R42, R58). -/

namespace Sys2Proof.Machine

/-- R19: an OPEN or a CLOSE has been sent to a gate, which moves; the rest of the plant is as it was. -/
structure GateStarted (s t : State) (k : Chamber) (e : Side) (m : GateMove) : Prop extends PlantMoved s t where
  plant : PlantOnly s t
  gate : t.gate k e =
    { state := m.moves, outstanding := some m, lastMove := some m, timer := some (s.gateExpiry k e)
      surge := decide (m = .opn) && (s.gate k e).surge }
  otherGates : ∀ k' e', ¬(k' = k ∧ e' = e) → t.gate k' e' = s.gate k' e'
  sluices : ∀ q, t.sluice q = s.sluice q
  ordered : t.drive.sent = s.drive.sent ++ [⟨.gate k e, m.order, false⟩]

theorem setGate_sent (s : State) (k : Chamber) (e : Side) (g : Gate) : (s.setGate k e g).drive.sent = s.drive.sent := by
  rw [State.setGate, State.noteFast_drive]
  rfl

theorem State.startGate_started (s : State) (k : Chamber) (e : Side) (m : GateMove) : GateStarted s (s.startGate k e m) k e m := by
  have other (g : Gate) (o : DriveOrder) (k' : Chamber) (e' : Side) (out : ¬(k' = k ∧ e' = e)) :
      ((s.send (.gate k e) o).setGate k e g).gate k' e' = s.gate k' e' := by
    rw [State.setGate_gate, if_neg out]
    rfl
  have sluice (g : Gate) (o : DriveOrder) (q : Sluice) : ((s.send (.gate k e) o).setGate k e g).sluice q = s.sluice q := by
    rw [State.setGate_sluice, State.send_sluice]
  cases m with
  | opn =>
    refine ⟨(s.send_moved _ _).trans (State.setGate_moved ..), s.startGate_plant k e .opn, ?_, other _ _, sluice _ _, setGate_sent ..⟩
    exact (State.setGate_gate ..).trans ((if_pos ⟨rfl, rfl⟩).trans (if_pos rfl))
  | cls =>
    refine ⟨(s.send_moved _ _).trans (State.setGate_moved ..), s.startGate_plant k e .cls, ?_, other _ _, sluice _ _, setGate_sent ..⟩
    exact (State.setGate_gate ..).trans ((if_pos ⟨rfl, rfl⟩).trans (if_neg nofun))

theorem GateStarted.sameOthers {s t : State} {k : Chamber} {e : Side} {m : GateMove} (h : GateStarted s t k e m) :
    SameOthers s t (.gate k e) :=
  ⟨fun k' e' out => h.otherGates k' e' fun ⟨x, y⟩ => out (by rw [x, y]), fun q _ => h.sluices q, h.guards⟩

/-- R19: an OPEN that the interlock lets pass is sent to a gate that is not open and not opening. -/
theorem State.openGate_starts {s : State} {k : Chamber} {e : Side} (opening : (s.gate k e).state ≠ .opening)
    (opened : (s.gate k e).state ≠ .opened) (passes : s.judge (.gate k e) .opn = none) :
    s.openGate k e = (s.startGate k e .opn, .sent) := by
  unfold State.openGate
  cases state : (s.gate k e).state <;> first | exact absurd state opening | exact absurd state opened | simp only [passes]

theorem State.openGate_refused {s : State} {k : Chamber} {e : Side} {c : Clause} (opening : (s.gate k e).state ≠ .opening)
    (opened : (s.gate k e).state ≠ .opened) (refused : s.judge (.gate k e) .opn = some c) : s.openGate k e = (s, .refused c) := by
  unfold State.openGate
  cases state : (s.gate k e).state <;> first | exact absurd state opening | exact absurd state opened | simp only [refused]

theorem State.closeGate_starts {s : State} {k : Chamber} {e : Side} (opened : (s.gate k e).state = .opened) :
    s.closeGate k e = (s.startGate k e .cls, .sent) := by
  unfold State.closeGate
  simp only [opened]

/-! ## GATE OPEN and GATE CLOSE (R58) -/

/-- What an answer leaves beside the port, when the request has changed the plant and the sequencers alone. -/
theorem State.answered_plant {s u : State} {st : Station} {code : Nat} {o : ReplyOutcome} {l : List WireField}
    (shape : u = { s.validFrame st with drive := u.drive, levels := u.levels, chambers := u.chambers, signals := u.signals }) :
    u.answered st code o l = { s.answered st code o l with
      drive := u.drive, levels := u.levels, chambers := u.chambers, signals := u.signals } := by
  rw [← State.answered_validFrame s st code o l]
  generalize s.validFrame st = v at shape ⊢
  generalize u.drive = D at shape ⊢
  generalize u.levels = L at shape ⊢
  generalize u.chambers = C at shape ⊢
  generalize u.signals = G at shape ⊢
  rw [shape]
  rfl

/-- R42, R58: a gate of a chamber ordered by request, the chamber following into a state. -/
theorem State.exchange_gate {s w : State} {st : Station} {k : Chamber} {e : Side} {m : GateMove} {x : ChamberState}
    {judge : State → Judged} (takes : s.takes st) (calm : s.Calm) (started : GateStarted (s.validFrame st) w k e m)
    (judged : judge (s.validFrame st) = (w.setChamberState k x).done .ok) :
    ∃ t, s.exchange st 0x3A judge = .next t
      ∧ t = { s.answered st 0x3A .ok [] with
          drive := t.drive, levels := t.levels, chambers := t.chambers, signals := t.signals }
      ∧ GateOrdered s t k e m ∧ t.chamber k = { s.chamber k with state := x, pendingOrder := none } := by
  obtain ⟨u, hu⟩ : ∃ u, (w.setChamberState k x).derive = u := ⟨_, rfl⟩
  have wcalm : (w.setChamberState k x).Calm := started.calm calm
  have judged' : judge (s.validFrame st) = (u, some (.ok, [])) := by
    rw [judged, State.done, State.finish_calm wcalm, hu]
  have drive : u.drive = w.drive := by rw [← hu]; rfl
  have levels : u.levels = w.levels := by rw [← hu]; rfl
  have shape : u = { s.validFrame st with drive := u.drive, levels := u.levels, chambers := u.chambers, signals := u.signals } := by
    have plant : w = { s.validFrame st with drive := w.drive, levels := w.levels } := started.plant
    rw [drive, levels]
    have ends : u = { w with chambers := u.chambers, signals := u.signals } := by rw [← hu, State.derive_frame]; rfl
    generalize u.chambers = C at ends ⊢
    generalize u.signals = G at ends ⊢
    generalize w.drive = D at plant ⊢
    generalize w.levels = L at plant ⊢
    rw [ends, plant]
  have now : u.now = s.now := by rw [shape]; rfl
  have limit : u.settings.silenceLimit = s.settings.silenceLimit := by rw [shape]; rfl
  have stations (y : Station) : (u.station y).core = ((s.validFrame st).station y).core := by rw [shape]; rfl
  have wchamber (j : Chamber) : w.chamber j = s.chamber j := started.chamber j
  have chamber (j : Chamber) : u.chamber j = if j = k then { s.chamber k with state := x, pendingOrder := none } else s.chamber j := by
    rw [← hu]
    refine (State.setChamber_chamber w k _ j).trans ?_
    rw [wchamber, wchamber]
  have away : k.other ≠ k := by cases k <;> nofun
  refine ⟨_, State.exchange_answered takes judged' (stations st) now limit, State.answered_plant shape, ?_, (chamber k).trans (if_pos rfl)⟩
  have same : SameLevels (s.validFrame st) w := SameLevels.of_core started.core
  obtain ⟨gates, sluices, guards⟩ := started.sameOthers
  refine ⟨?_, ?_, same.of_levels rfl levels, ⟨fun k' e' out => ?_, fun q out => ?_, ?_⟩, ?_, (chamber k.other).trans (if_neg away)⟩
  · refine (gate_of_drive (s := w) drive k e).trans (started.gate.trans ?_)
    show _ = ({ state := m.moves, outstanding := some m, lastMove := some m, timer := some (u.now + _), surge := _ } : Gate)
    rw [now]
    rfl
  · show u.drive.sent = _
    rw [drive]
    exact started.ordered
  · exact (gate_of_drive (s := w) drive k' e').trans (gates k' e' out)
  · exact (sluice_of_drive (s := w) drive q).trans (sluices q out)
  · refine ⟨?_, ?_, ?_⟩
    · show u.drive.overflow = _
      rw [drive]; exact guards.1
    · show u.drive.cycleStart = _
      rw [drive]; exact guards.2.1
    · show u.levels.forceFast = _
      rw [levels]; exact guards.2.2
  · refine ⟨?_, ?_⟩
    · show u.drive.queries = _
      rw [drive]; exact started.line.1
    · show u.drive.polls = _
      rw [drive]; exact started.line.2

/-- Settles O33. -/
theorem directedGatesMove : Obligations.DirectedGatesMove := by
  intro s st k e takes held present directed calm moves
  let v := s.validFrame st
  have shutLive : (shutState e).live = true := by cases e <;> rfl
  have openLive : (openState e).live = true := by cases e <;> rfl
  have own (request : State → Judged) (live : (s.chamber k).state.live = true) : v.directed st k request = request v :=
    State.directed_own (s := v) present held directed live request
  have openAway : ¬ (openState e = closingState e ∨ openState e = shutState e) := by cases e <;> simp [openState, closingState, shutState]
  refine ⟨fun c rest opening opened refused => ?_, fun rest opening opened passes => ?_, fun rest kept => ?_, fun rest unkept opened => ?_⟩
  · refine State.exchange_report takes ((own _ (by rw [rest]; exact shutLive)).trans ((if_pos (.inl rest)).trans ?_))
    have asked : v.openGate k e = (v, .refused c) := State.openGate_refused (s := v) opening opened refused
    rw [asked]
    rfl
  · refine State.exchange_gate takes calm (v.startGate_started k e .opn) ((own _ (by rw [rest]; exact shutLive)).trans
      ((if_pos (.inl rest)).trans ?_))
    have asked : v.openGate k e = (v.startGate k e .opn, .sent) := State.openGate_starts (s := v) opening opened passes
    rw [asked]
    rfl
  · exact State.exchange_report takes ((own _ (by rw [rest]; exact openLive)).trans (if_pos kept))
  · refine State.exchange_gate takes calm (v.startGate_started k e .cls) ((own _ (by rw [rest]; exact openLive)).trans
      ((if_neg (by rw [show v.gateKept k e = false from unkept]; nofun)).trans ((if_pos (.inl rest)).trans ?_)))
    show (v.sequenceClose k e).done .ok = _
    unfold State.sequenceClose
    rw [State.closeGate_starts (s := v) opened]
    rfl

end Sys2Proof.Machine
end

section
/-! SUPPORT. The events of one actuator: what a report, a timer and a failed echo change of it, the fault they raise, and the two ways
such an event ends: with the signals alone, or with the halt of the actuator's chamber (R18, R20 to R25, R30, R51). -/

namespace Sys2Proof.Machine

/-! ## One actuator changed -/

/-- Of the plant one actuator alone has changed. -/
structure ActuatorMoved (s t : State) (a : Actuator) : Prop extends PlantMoved s t where
  gates : ∀ k e, a ≠ .gate k e → t.gate k e = s.gate k e
  sluices : ∀ q, a ≠ .sluice q → t.sluice q = s.sluice q

theorem ActuatorMoved.trans {s t u : State} {a : Actuator} (h : ActuatorMoved s t a) (g : ActuatorMoved t u a) :
    ActuatorMoved s u a :=
  ⟨h.toPlantMoved.trans g.toPlantMoved, fun k e out => (g.gates k e out).trans (h.gates k e out),
    fun q out => (g.sluices q out).trans (h.sluices q out)⟩

theorem ActuatorMoved.sameOthers {s t : State} {a : Actuator} (h : ActuatorMoved s t a) : SameOthers s t a :=
  ⟨h.gates, h.sluices, h.guards⟩

theorem ActuatorMoved.of_drive {s t : State} {a : Actuator} (h : PlantMoved s t) (drive : t.drive = s.drive) : ActuatorMoved s t a :=
  ⟨h, fun k e _ => gate_of_drive drive k e, fun q _ => sluice_of_drive drive q⟩

theorem ActuatorMoved.refl (s : State) (a : Actuator) : ActuatorMoved s s a := .of_drive (.refl s) rfl

theorem State.setGate_actuator (s : State) (k : Chamber) (e : Side) (g : Gate) : ActuatorMoved s (s.setGate k e g) (.gate k e) :=
  ⟨s.setGate_moved k e g,
    fun _ _ out => (State.setGate_gate ..).trans (if_neg fun ⟨hk, he⟩ => out (by rw [hk, he])),
    fun _ _ => State.setGate_sluice ..⟩

theorem State.setSluice_actuator (s : State) (q : Sluice) (r : SluiceRec) : ActuatorMoved s (s.setSluice q r) (.sluice q) :=
  ⟨s.setSluice_moved q r, fun _ _ _ => State.setSluice_gate ..,
    fun _ out => (State.setSluice_sluice ..).trans (if_neg fun same => out (by rw [same]))⟩

theorem State.send_actuator (s : State) (a : Actuator) (o : DriveOrder) : ActuatorMoved s (s.send a o) a :=
  ⟨s.send_moved a o, fun _ _ _ => State.send_gate .., fun _ _ => State.send_sluice ..⟩

theorem State.endRamp_actuator (s : State) (q : Sluice) : ActuatorMoved s (s.endRamp q) (.sluice q) :=
  ⟨s.endRamp_moved q, fun _ _ _ => State.putSluice_gate ..,
    fun _ out => (State.putSluice_sluice ..).trans (if_neg fun same => out (by rw [same]))⟩

theorem State.moveFrame_actuator (s : State) (a b : Actuator) (o : MoveOutcome) : ActuatorMoved s (s.moveFrame b o) a :=
  .of_drive (s.moveFrame_moved b o) (State.write_drive' ..)

theorem State.raiseFault_actuator (s : State) (a : Actuator) (f : FaultKind) (x : Subject) : ActuatorMoved s (s.raiseFault f x) a :=
  .of_drive (s.raiseFault_moved f x) (State.raiseFault_drive' ..)

/-- R173: what a fault captures is none of the plant's. -/
theorem PlantMoved.captured {s t : State} (h : PlantMoved s t) (f : FaultKind) (x : Subject) : t.captured f x = s.captured f x := by
  have levels := SameLevels.of_core h.core
  have view (b : Body) : t.bodyView b = s.bodyView b := by
    rw [State.bodyView, State.bodyView, (levels.1 b).handedLevel, (levels.1 b).handedState]
  have chamber : t.chamber = s.chamber := funext h.chamber
  have near : t.nearest x = s.nearest x := by
    unfold State.nearest
    rw [chamber]
  unfold State.captured
  rw [h.time, near, chamber, show t.bodyView = s.bodyView from funext view]

theorem PlantMoved.reserved {s t : State} (h : PlantMoved s t) : t.reserved = s.reserved := by
  simp only [State.reserved, State.reserveOf, h.batch]

theorem PlantMoved.write_journal {s t : State} (h : PlantMoved s t) (journal : t.journal = s.journal) (f : Frame) :
    (t.write f).journal = (s.write f).journal :=
  State.write_journal_congr journal h.reserved f

/-! ## What the operations leave of their actuator -/

theorem State.setGate_journal (s : State) (k : Chamber) (e : Side) (g : Gate) : (s.setGate k e g).journal = s.journal := by
  rw [State.setGate, (State.noteFast_sampling _ _).rest]
  rfl

theorem State.setGate_capture (s : State) (k : Chamber) (e : Side) (g : Gate) : (s.setGate k e g).capture = s.capture := by
  rw [State.setGate, (State.noteFast_sampling _ _).rest]
  rfl

theorem State.setSluice_journal (s : State) (q : Sluice) (r : SluiceRec) : (s.setSluice q r).journal = s.journal := by
  rw [(s.setSluice_frame q r).1]
  cases q <;> rfl

theorem State.setSluice_capture (s : State) (q : Sluice) (r : SluiceRec) : (s.setSluice q r).capture = s.capture := by
  rw [(s.setSluice_frame q r).1]
  cases q <;> rfl

theorem State.setSluice_sent (s : State) (q : Sluice) (r : SluiceRec) : (s.setSluice q r).drive.sent = s.drive.sent := by
  rw [(s.setSluice_frame q r).1]
  cases q <;> rfl

theorem State.setGate_own {s : State} {k : Chamber} {e : Side} {g : Gate} (rest : g.state ≠ .opening) :
    (s.setGate k e g).gate k e = { g with surge := false } :=
  (State.setGate_gate ..).trans ((if_pos ⟨rfl, rfl⟩).trans (if_neg rest))

theorem State.setSluice_own (s : State) (q : Sluice) (r : SluiceRec) : (s.setSluice q r).sluice q = r :=
  (State.setSluice_sluice ..).trans (if_pos rfl)

/-- An actuator has changed, its one frame written, nothing sent and no fault raised. -/
structure ActuatorTold (s t : State) (a : Actuator) (frames : Journal) : Prop extends ActuatorMoved s t a where
  journal : t.journal = frames
  capture : t.capture = s.capture
  unsent : t.drive.sent = s.drive.sent

/-- An actuator has changed, and its fault has been raised. -/
structure FaultTold (s t : State) (a : Actuator) (f : FaultKind) (x : Subject) (frames : Journal) : Prop
    extends ActuatorMoved s t a where
  journal : t.journal = frames
  capture : t.capture = s.capture.offer (s.captured f x)
  notice : ∀ st, .fault ∈ (t.station st).notices

theorem ActuatorMoved.raiseFault {s t : State} {a : Actuator} (h : ActuatorMoved s t a) {f : FaultKind} (hard : f.hard = true)
    (x : Subject) (capture : t.capture = s.capture) :
    FaultTold s (t.raiseFault f x) a f x (t.write (.fault f x s.time)).journal where
  toActuatorMoved := h.trans (t.raiseFault_actuator a f x)
  journal := by rw [State.raiseFault_journal, h.time]
  capture := by rw [State.raiseFault_capture (t.loud_of_hard hard), capture, h.captured]
  notice := State.raiseFault_fault_mem (t.loud_of_hard hard) x

theorem FaultTold.moveFrame {s t : State} {a : Actuator} {f : FaultKind} {x : Subject} {frames : Journal}
    (h : FaultTold s t a f x frames) (o : MoveOutcome) :
    FaultTold s (t.moveFrame a o) a f x (t.write (.move a o s.time)).journal where
  toActuatorMoved := h.trans (t.moveFrame_actuator a a o)
  journal := by rw [State.moveFrame, h.time]
  capture := (State.write_capture ..).trans h.capture
  notice st := State.write_notices (h.notice st)

/-- Two frames written with the plant's changes between and before them. -/
theorem PlantMoved.write_write {s t u : State} (h : PlantMoved s t) (journal : t.journal = s.journal) (f g : Frame)
    (after : PlantMoved (t.write f) u) (journal' : u.journal = (t.write f).journal) :
    (u.write g).journal = ((s.write f).write g).journal := by
  refine (after.write_journal journal' g).trans (State.write_journal_congr (h.write_journal journal f) ?_ g)
  exact ((t.write_moved f).reserved.trans h.reserved).trans (s.write_moved f).reserved.symm

/-! ### Gates (R20 to R22) -/

/-- R20, R21: the gate's record at a position reached, and its MOVE frame. -/
def State.atPosition (s : State) (k : Chamber) (e : Side) (x : GateState) : State :=
  (s.setGate k e { s.gate k e with state := x, outstanding := none, lastMove := none, timer := none }).moveFrame (.gate k e)
    (reachedOutcome x)

theorem State.gateReaches_eq (s : State) (k : Chamber) (e : Side) (x : GateState) :
    s.gateReaches k e x = (s.atPosition k e x).push (.gateDone k e) := rfl

theorem State.atPosition_told {s : State} {k : Chamber} {e : Side} {x : GateState} (rest : x ≠ .opening) :
    ActuatorTold s (s.atPosition k e x) (.gate k e) (s.write (.move (.gate k e) (reachedOutcome x) s.time)).journal
      ∧ (s.atPosition k e x).gate k e = { state := x } := by
  have gate := s.setGate_actuator k e { s.gate k e with state := x, outstanding := none, lastMove := none, timer := none }
  have own : (s.setGate k e { s.gate k e with state := x, outstanding := none, lastMove := none, timer := none }).gate k e
      = { state := x } := State.setGate_own rest
  have journal := s.setGate_journal k e { s.gate k e with state := x, outstanding := none, lastMove := none, timer := none }
  have capture := s.setGate_capture k e { s.gate k e with state := x, outstanding := none, lastMove := none, timer := none }
  have sent := setGate_sent s k e { s.gate k e with state := x, outstanding := none, lastMove := none, timer := none }
  unfold State.atPosition
  generalize s.setGate k e { s.gate k e with state := x, outstanding := none, lastMove := none, timer := none } = w
    at gate own journal capture sent ⊢
  refine ⟨⟨gate.trans (w.moveFrame_actuator _ _ _), ?_, ?_, ?_⟩, ?_⟩
  · rw [State.moveFrame, gate.time, gate.write_journal journal]
  · exact (State.write_capture ..).trans capture
  · rw [State.moveFrame, State.write_drive', sent]
  · rw [State.moveFrame, gate_of_drive (State.write_drive' ..), own]

theorem State.stallGate_told (s : State) (k : Chamber) (e : Side) :
    FaultTold s (s.stallGate k e) (.gate k e) .gateStall (.gate k e)
        ((s.write (.move (.gate k e) .stalled s.time)).write (.fault .gateStall (.gate k e) s.time)).journal
      ∧ (s.stallGate k e).gate k e = { s.gate k e with state := .stalled, outstanding := none, timer := none, surge := false }
      ∧ (s.stallGate k e).drive.sent = s.drive.sent ++ [⟨.gate k e, .stop, false⟩] := by
  have gate := s.setGate_actuator k e { s.gate k e with state := .stalled, outstanding := none, timer := none }
  have own : (s.setGate k e { s.gate k e with state := .stalled, outstanding := none, timer := none }).gate k e
      = { s.gate k e with state := .stalled, outstanding := none, timer := none, surge := false } := State.setGate_own nofun
  have journal := s.setGate_journal k e { s.gate k e with state := .stalled, outstanding := none, timer := none }
  have capture := s.setGate_capture k e { s.gate k e with state := .stalled, outstanding := none, timer := none }
  have sent := setGate_sent s k e { s.gate k e with state := .stalled, outstanding := none, timer := none }
  unfold State.stallGate
  generalize s.setGate k e { s.gate k e with state := .stalled, outstanding := none, timer := none } = w
    at gate own journal capture sent ⊢
  have ordered : ActuatorMoved s (w.send (.gate k e) .stop) (.gate k e) := gate.trans (w.send_actuator ..)
  have framed := ordered.trans ((w.send (.gate k e) .stop).moveFrame_actuator (.gate k e) (.gate k e) .stalled)
  have told := framed.raiseFault (f := .gateStall) rfl (.gate k e) ((State.write_capture ..).trans capture)
  have frames : (((w.send (.gate k e) .stop).moveFrame (.gate k e) .stalled).write (.fault .gateStall (.gate k e) s.time)).journal
      = ((s.write (.move (.gate k e) .stalled s.time)).write (.fault .gateStall (.gate k e) s.time)).journal := by
    rw [State.moveFrame, ordered.time]
    exact ordered.write_write journal _ _ (.refl _) rfl
  refine ⟨⟨told.toActuatorMoved, told.journal.trans frames, told.capture, told.notice⟩, ?_, ?_⟩
  · rw [gate_of_drive (State.raiseFault_drive' ..), State.moveFrame, gate_of_drive (State.write_drive' ..), State.send_gate, own]
  · rw [State.raiseFault_drive', State.moveFrame, State.write_drive', ← sent]
    rfl

/-- R21: the gate at an unexpected position, its fault and its MOVE frame. -/
def State.strayAt (s : State) (k : Chamber) (e : Side) (x : GateState) : State :=
  ((s.setGate k e { s.gate k e with state := x, lastMove := none }).raiseFault .unexpectedMove (.gate k e)).moveFrame (.gate k e)
    (reachedOutcome x)

/-- R21: the gate stopped off its position, its fault and its MOVE frame. -/
def State.strayLeft (s : State) (k : Chamber) (e : Side) : State :=
  (((s.setGate k e { s.gate k e with state := .stopped }).send (.gate k e) .stop).raiseFault .unexpectedMove
    (.gate k e)).moveFrame (.gate k e) .stopped

theorem State.unexpectedReach_eq (s : State) (k : Chamber) (e : Side) (x : GateState) :
    s.unexpectedReach k e x = ((s.strayAt k e x).push (.gateDone k e)).faultHalt k .unexpectedMove none := rfl

theorem State.unexpectedLeft_eq (s : State) (k : Chamber) (e : Side) :
    s.unexpectedLeft k e = (s.strayLeft k e).faultHalt k .unexpectedMove none := rfl

theorem State.strayAt_told {s : State} {k : Chamber} {e : Side} {x : GateState} (rest : x ≠ .opening) :
    FaultTold s (s.strayAt k e x) (.gate k e) .unexpectedMove (.gate k e)
        ((s.write (.fault .unexpectedMove (.gate k e) s.time)).write (.move (.gate k e) (reachedOutcome x) s.time)).journal
      ∧ (s.strayAt k e x).gate k e = { s.gate k e with state := x, lastMove := none, surge := false } := by
  have gate := s.setGate_actuator k e { s.gate k e with state := x, lastMove := none }
  have own : (s.setGate k e { s.gate k e with state := x, lastMove := none }).gate k e
      = { s.gate k e with state := x, lastMove := none, surge := false } := State.setGate_own rest
  have journal := s.setGate_journal k e { s.gate k e with state := x, lastMove := none }
  have capture := s.setGate_capture k e { s.gate k e with state := x, lastMove := none }
  unfold State.strayAt
  generalize s.setGate k e { s.gate k e with state := x, lastMove := none } = w at gate own journal capture ⊢
  have told := (gate.raiseFault (f := .unexpectedMove) rfl (.gate k e) capture).moveFrame (reachedOutcome x)
  have frames : ((w.raiseFault .unexpectedMove (.gate k e)).write (.move (.gate k e) (reachedOutcome x) s.time)).journal
      = ((s.write (.fault .unexpectedMove (.gate k e) s.time)).write (.move (.gate k e) (reachedOutcome x) s.time)).journal := by
    refine (State.write_journal_congr (s := s.write (.fault .unexpectedMove (.gate k e) s.time)) ?_ ?_ _)
    · rw [State.raiseFault_journal, gate.time, gate.write_journal journal]
    · exact ((w.raiseFault_moved _ _).reserved.trans gate.reserved).trans (s.write_moved _).reserved.symm
  refine ⟨⟨told.toActuatorMoved, told.journal.trans frames, told.capture, told.notice⟩, ?_⟩
  rw [State.moveFrame, gate_of_drive (State.write_drive' ..), gate_of_drive (State.raiseFault_drive' ..), own]

theorem State.strayLeft_told (s : State) (k : Chamber) (e : Side) :
    FaultTold s (s.strayLeft k e) (.gate k e) .unexpectedMove (.gate k e)
        ((s.write (.fault .unexpectedMove (.gate k e) s.time)).write (.move (.gate k e) .stopped s.time)).journal
      ∧ (s.strayLeft k e).gate k e = { s.gate k e with state := .stopped, surge := false }
      ∧ (s.strayLeft k e).drive.sent = s.drive.sent ++ [⟨.gate k e, .stop, false⟩] := by
  have gate := s.setGate_actuator k e { s.gate k e with state := .stopped }
  have own : (s.setGate k e { s.gate k e with state := .stopped }).gate k e
      = { s.gate k e with state := .stopped, surge := false } := State.setGate_own nofun
  have journal := s.setGate_journal k e { s.gate k e with state := .stopped }
  have capture := s.setGate_capture k e { s.gate k e with state := .stopped }
  have sent := setGate_sent s k e { s.gate k e with state := .stopped }
  unfold State.strayLeft
  generalize s.setGate k e { s.gate k e with state := .stopped } = w at gate own journal capture sent ⊢
  have ordered : ActuatorMoved s (w.send (.gate k e) .stop) (.gate k e) := gate.trans (w.send_actuator ..)
  have told := (ordered.raiseFault (f := .unexpectedMove) rfl (.gate k e) capture).moveFrame .stopped
  have frames : (((w.send (.gate k e) .stop).raiseFault .unexpectedMove (.gate k e)).write (.move (.gate k e) .stopped s.time)).journal
      = ((s.write (.fault .unexpectedMove (.gate k e) s.time)).write (.move (.gate k e) .stopped s.time)).journal := by
    refine (State.write_journal_congr (s := s.write (.fault .unexpectedMove (.gate k e) s.time)) ?_ ?_ _)
    · rw [State.raiseFault_journal, ordered.time, ordered.write_journal journal]
    · exact (((w.send (.gate k e) .stop).raiseFault_moved _ _).reserved.trans ordered.reserved).trans (s.write_moved _).reserved.symm
  refine ⟨⟨told.toActuatorMoved, told.journal.trans frames, told.capture, told.notice⟩, ?_, ?_⟩
  · rw [State.moveFrame, gate_of_drive (State.write_drive' ..), gate_of_drive (State.raiseFault_drive' ..), State.send_gate, own]
  · rw [State.moveFrame, State.write_drive', State.raiseFault_drive', ← sent]
    rfl

/-! ### Sluices (R24, R25) -/

theorem State.stallSluice_told (s : State) (q : Sluice) :
    FaultTold s (s.stallSluice q) (.sluice q) .sluiceStall (.sluice q)
        ((s.write (.move (.sluice q) .stalled s.time)).write (.fault .sluiceStall (.sluice q) s.time)).journal
      ∧ (s.stallSluice q).sluice q = { state := .fault, step := (s.sluice q).step }
      ∧ (s.stallSluice q).drive.sent = s.drive.sent ++ [⟨.sluice q, .stop, false⟩] := by
  let r : SluiceRec := { s.sluice q with state := .fault, target := none, superseded := none, timer := none, ramp := none }
  have set := s.setSluice_actuator q r
  have own : (s.setSluice q r).sluice q = r := s.setSluice_own q r
  have journal := s.setSluice_journal q r
  have capture := s.setSluice_capture q r
  have sent := s.setSluice_sent q r
  have stops : (s.setSluice q r).stopSluice q = ((s.setSluice q r).send (.sluice q) .stop).endRamp q := by
    unfold State.stopSluice
    rw [own]
  show FaultTold s (((((s.setSluice q r).stopSluice q).moveFrame (.sluice q) .stalled).raiseFault .sluiceStall (.sluice q))) _ _ _ _
    ∧ ((((s.setSluice q r).stopSluice q).moveFrame (.sluice q) .stalled).raiseFault .sluiceStall (.sluice q)).sluice q = r
    ∧ ((((s.setSluice q r).stopSluice q).moveFrame (.sluice q) .stalled).raiseFault .sluiceStall (.sluice q)).drive.sent = _
  rw [stops]
  generalize s.setSluice q r = w at set own journal capture sent ⊢
  have ordered : ActuatorMoved s ((w.send (.sluice q) .stop).endRamp q) (.sluice q) :=
    (set.trans (w.send_actuator ..)).trans (State.endRamp_actuator ..)
  have journal' : ((w.send (.sluice q) .stop).endRamp q).journal = s.journal := by
    rw [← journal]
    cases q <;> rfl
  have capture' : ((w.send (.sluice q) .stop).endRamp q).capture = s.capture := by
    rw [← capture]
    cases q <;> rfl
  have sent' : ((w.send (.sluice q) .stop).endRamp q).drive.sent = s.drive.sent ++ [⟨.sluice q, .stop, false⟩] := by
    rw [← sent]
    cases q <;> rfl
  have own' : ((w.send (.sluice q) .stop).endRamp q).sluice q = r := by
    rw [State.endRamp, State.putSluice_sluice, if_pos rfl, State.send_sluice, own]
  generalize (w.send (.sluice q) .stop).endRamp q = v at ordered journal' capture' sent' own' ⊢
  have framed := ordered.trans (v.moveFrame_actuator (.sluice q) (.sluice q) .stalled)
  have told := framed.raiseFault (f := .sluiceStall) rfl (.sluice q) ((State.write_capture ..).trans capture')
  have frames : ((v.moveFrame (.sluice q) .stalled).write (.fault .sluiceStall (.sluice q) s.time)).journal
      = ((s.write (.move (.sluice q) .stalled s.time)).write (.fault .sluiceStall (.sluice q) s.time)).journal := by
    rw [State.moveFrame, ordered.time]
    exact ordered.write_write journal' _ _ (.refl _) rfl
  refine ⟨⟨told.toActuatorMoved, told.journal.trans frames, told.capture, told.notice⟩, ?_, ?_⟩
  · rw [sluice_of_drive (State.raiseFault_drive' ..), State.moveFrame, sluice_of_drive (State.write_drive' ..), own']
  · rw [State.raiseFault_drive', State.moveFrame, State.write_drive', sent']

/-- R24: a sluice at a step out of place, its fault and its MOVE frame. -/
def State.outOfPlace (s : State) (q : Sluice) (step : Nat) : State :=
  ((s.setSluice q
      { s.sluice q with
        state := .fault, step := some step, target := none, superseded := none, timer := none, ramp := none }).raiseFault
    .sluicePosition (.sluice q)).moveFrame (.sluice q) (.reachedStep step)

theorem State.sluicePosition_eq (s : State) (q : Sluice) (step : Nat) :
    s.sluicePosition q step = (s.outOfPlace q step).sluiceFault q .sluicePosition := rfl

theorem State.outOfPlace_told (s : State) (q : Sluice) (step : Nat) :
    FaultTold s (s.outOfPlace q step) (.sluice q) .sluicePosition (.sluice q)
        ((s.write (.fault .sluicePosition (.sluice q) s.time)).write (.move (.sluice q) (.reachedStep step) s.time)).journal
      ∧ (s.outOfPlace q step).sluice q = { state := .fault, step := some step }
      ∧ (s.outOfPlace q step).drive.sent = s.drive.sent := by
  let r : SluiceRec :=
    { s.sluice q with state := .fault, step := some step, target := none, superseded := none, timer := none, ramp := none }
  have set := s.setSluice_actuator q r
  have own : (s.setSluice q r).sluice q = r := s.setSluice_own q r
  have journal := s.setSluice_journal q r
  have capture := s.setSluice_capture q r
  have sent := s.setSluice_sent q r
  show FaultTold s (((s.setSluice q r).raiseFault .sluicePosition (.sluice q)).moveFrame (.sluice q) (.reachedStep step)) _ _ _ _
    ∧ (((s.setSluice q r).raiseFault .sluicePosition (.sluice q)).moveFrame (.sluice q) (.reachedStep step)).sluice q = r
    ∧ (((s.setSluice q r).raiseFault .sluicePosition (.sluice q)).moveFrame (.sluice q) (.reachedStep step)).drive.sent = _
  generalize s.setSluice q r = w at set own journal capture sent ⊢
  have told := (set.raiseFault (f := .sluicePosition) rfl (.sluice q) capture).moveFrame (.reachedStep step)
  have frames : ((w.raiseFault .sluicePosition (.sluice q)).write (.move (.sluice q) (.reachedStep step) s.time)).journal
      = ((s.write (.fault .sluicePosition (.sluice q) s.time)).write (.move (.sluice q) (.reachedStep step) s.time)).journal := by
    refine (State.write_journal_congr (s := s.write (.fault .sluicePosition (.sluice q) s.time)) ?_ ?_ _)
    · rw [State.raiseFault_journal, set.time, set.write_journal journal]
    · exact ((w.raiseFault_moved _ _).reserved.trans set.reserved).trans (s.write_moved _).reserved.symm
  refine ⟨⟨told.toActuatorMoved, told.journal.trans frames, told.capture, told.notice⟩, ?_, ?_⟩
  · rw [State.moveFrame, sluice_of_drive (State.write_drive' ..), sluice_of_drive (State.raiseFault_drive' ..), own]
  · rw [State.moveFrame, State.write_drive', State.raiseFault_drive', sent]

/-! ## The end of the event -/

/-- R30: with nothing kept an event asks nothing again. -/
theorem State.retries_kept {s : State} (kept : s.NothingKept) (h : Handed) : s.retries h = s := by
  refine s.retries_unread h (fun q r c ramp waits => absurd waits (kept.2 q r ramp c)) fun k e c pending => ?_
  rw [kept.1 k] at pending
  cases pending

theorem State.gateDone_still {s : State} {k : Chamber} {e : Side} (closing : (s.chamber k).state ≠ closingState e)
    (opening : (s.chamber k).state ≠ openingState e) : s.gateDone k e = s := by
  unfold State.gateDone
  rw [if_neg (by simp [closing]), if_neg (by simp [opening])]

theorem State.phaseDone_still {s : State} {k : Chamber} (fill : (s.chamber k).state ≠ .fill) (empty : (s.chamber k).state ≠ .empty) :
    (s.phaseDone k .fill).phaseDone k .empty = s := by
  have none (kind : WaterKind) (out : (s.chamber k).state ≠ kind.phase) : s.phaseDone k kind = s := by
    unfold State.phaseDone
    rw [if_neg (by simp [out])]
  rw [none .fill fill, none .empty empty]

theorem State.crossDone_still {s : State} (out : s.arbiter.owner ≠ .ending ∨ s.sluiceShut .cross = false) : s.crossDone = s := by
  unfold State.crossDone
  rw [if_neg (by rcases out with out | out <;> simp [out])]

/-- R18: the tasks of a drive report do nothing in this state. -/
def State.Still (s : State) : Task → Prop
  | .gateDone k e => (s.chamber k).state ≠ closingState e ∧ (s.chamber k).state ≠ openingState e
  | .phaseDone k => (s.chamber k).state ≠ .fill ∧ (s.chamber k).state ≠ .empty
  | .crossShut => s.arbiter.owner ≠ .ending ∨ s.sluiceShut .cross = false
  | _ => False

theorem State.runTask_still {s : State} {t : Task} (still : s.Still t) : s.runTask t = s := by
  cases t with
  | gateDone k e => exact State.gateDone_still still.1 still.2
  | phaseDone k => exact State.phaseDone_still still.1 still.2
  | crossShut => exact State.crossDone_still still
  | rest _ => exact still.elim
  | form _ => exact still.elim

/-- An event that leaves at most one consequence, one without effect. -/
theorem State.finish_still {s : State} {tasks : List Task} (calm : s.Calm) (at_most : tasks = [] ∨ ∃ t, tasks = [t] ∧ s.Still t) :
    ({ s with agenda := tasks } : State).finish = s.derive := by
  have empty : ({ s with agenda := [] } : State) = s := by rw [← calm.1]
  rcases at_most with rfl | ⟨t, rfl, still⟩
  · rw [empty, State.finish_calm calm]
  · rw [State.finish_idle { s with agenda := [t] } t rfl]
    · show ({ s with agenda := [] } : State).settled = _
      rw [empty]
      exact State.clearDeferred_self (s := s.derive) calm.2
    · show ({ s with agenda := [] } : State).derive.runTask t = ({ s with agenda := [] } : State).derive
      rw [empty]
      have : s.derive.Still t := by cases t <;> exact still
      exact State.runTask_still this

theorem State.push_calm {s : State} (calm : s.Calm) (t : Task) : s.push t = { s with agenda := [t] } := by
  unfold State.push
  rw [calm.1]
  rfl

theorem PlantMoved.still_gate {s t : State} (h : PlantMoved s t) {k : Chamber} {e : Side} (still : s.Still (.gateDone k e)) :
    t.Still (.gateDone k e) :=
  ⟨by rw [h.chamber]; exact still.1, by rw [h.chamber]; exact still.2⟩

theorem PlantMoved.still_phase {s t : State} (h : PlantMoved s t) {k : Chamber} (still : s.Still (.phaseDone k)) :
    t.Still (.phaseDone k) :=
  ⟨by rw [h.chamber]; exact still.1, by rw [h.chamber]; exact still.2⟩

theorem NothingKept.of_moved {s t : State} {a : Actuator} (kept : s.NothingKept) (h : ActuatorMoved s t a)
    (own : ∀ q r, a = .sluice q → (t.sluice q).ramp = some r → ∀ c, r.waiting ≠ .retry c) : t.NothingKept := by
  refine ⟨fun k => by rw [h.chamber]; exact kept.1 k, fun q r ramp => ?_⟩
  by_cases same : a = .sluice q
  · exact own q r same ramp
  · rw [h.sluices q same] at ramp
    exact kept.2 q r ramp

/-- R18: an event of an actuator that nothing follows. -/
theorem ActuatorMoved.ends {s t : State} {a : Actuator} (h : ActuatorMoved s t a) (calm : s.Calm) (kept : t.NothingKept)
    {tasks : List Task} (at_most : tasks = [] ∨ ∃ x, tasks = [x] ∧ t.Still x) :
    ({ t with agenda := tasks } : State).finish = t.derive
      ∧ ∀ b, ({ t with agenda := tasks } : State).driveEvent b = t.derive := by
  have ends : ({ t with agenda := tasks } : State).finish = t.derive := State.finish_still (h.calm calm) at_most
  refine ⟨ends, fun b => ?_⟩
  have asked : ({ t with agenda := tasks } : State).NothingKept := kept
  rw [State.driveEvent, State.retries_kept asked, ends]

theorem State.shutSluice_sent (s : State) (q : Sluice) :
    (s.shutSluice q).drive.sent =
      s.drive.sent ++ if (s.sluice q).stands 0 then [] else [⟨.sluice q, .move 0, false⟩] := by
  rw [State.shutSluice_eq]
  split
  · rw [List.append_nil, State.endRamp]
    cases q <;> rfl
  · have sent : (s.sendMove q 0).drive.sent = s.drive.sent ++ [⟨.sluice q, .move 0, false⟩] := State.setSluice_sent ..
    rw [← sent, State.endRamp]
    cases q <;> rfl

/-- R50: a sluice that does not stand at 0 is sent there when its chamber is ordered to rest. -/
theorem State.shutBoth_orders {s : State} {k : Chamber} {e : Side} (away : (s.sluice (.chamber k e)).stands 0 = false) :
    ⟨.sluice (.chamber k e), .move 0, false⟩ ∈ (s.shutBoth k).drive.sent.drop s.drive.sent.length := by
  have other : Sluice.chamber k .lower ≠ .chamber k .upper := by nofun
  rw [State.shutBoth, State.shutSluice_sent, State.shutSluice_sent, List.append_assoc, List.drop_left, State.shutSluice_sluice,
    if_neg other]
  cases e <;> simp [away]

theorem drop_mem_of_prefix {α : Type} {x : α} {l m n : List α} (h : l <+: m) (mem : x ∈ l.drop n.length) : x ∈ m.drop n.length := by
  obtain ⟨r, rfl⟩ := h
  rw [List.drop_append]
  exact List.mem_append_left _ mem

theorem drop_mem_of_le {α : Type} {x : α} {l : List α} {m n : Nat} (h : n ≤ m) (mem : x ∈ l.drop m) : x ∈ l.drop n := by
  obtain ⟨d, rfl⟩ := Nat.exists_eq_add_of_le h
  rw [← List.drop_drop] at mem
  exact List.mem_of_mem_drop mem

theorem State.haltChamber_orders {s : State} (free : s.CrossFree) {k : Chamber} {e : Side} (why : HaltCause) (spare : Option Side)
    (cause : CrossEnd) (away : (s.sluice (.chamber k e)).stands 0 = false) :
    ⟨.sluice (.chamber k e), .move 0, false⟩ ∈ (s.haltChamber k why spare cause).drive.sent.drop s.drive.sent.length := by
  let v := s.setChamber k { s.chamber k with interrupted := some (s.chamber k).state, haltCause := some why }
  have vsluice : v.sluice (.chamber k e) = s.sluice (.chamber k e) := sluice_of_drive rfl _
  have shut := State.shutBoth_orders (s := v) (k := k) (e := e) (by rw [vsluice]; exact away)
  have moved : PlantMoved v (v.shutBoth k) := (v.shutSluice_moved _).trans (State.shutSluice_moved ..)
  have stop (i : Side) (w : State) : PlantMoved w (if spare = some i then w else w.stopMoving k i) := by
    split
    · exact .refl w
    · exact w.stopMoving_moved k i
  have stops := (stop .upper (v.shutBoth k)).trans (stop .lower _)
  unfold State.haltChamber
  dsimp only at stops ⊢
  generalize (if spare = some .lower then (if spare = some .upper then v.shutBoth k else (v.shutBoth k).stopMoving k .upper)
    else (if spare = some .upper then v.shutBoth k else (v.shutBoth k).stopMoving k .upper).stopMoving k .lower) = w at stops ⊢
  rw [State.leaveCross_free ((moved.trans stops).crossFree free)]
  exact drop_mem_of_prefix stops.sent shut

/-- R51: the halt of its chamber by the fault of an actuator. -/
structure FaultHalted (u w t : State) (k : Chamber) (f : FaultKind) (x : Subject) (frames : Journal) (spare : Option Side) : Prop where
  halted : HaltedIn u t k (u.chamber k).state (.fault f) spare
  core : t.core = u.core
  capture : t.capture = u.capture.offer (u.captured f x)
  notice : ∀ st, .fault ∈ (t.station st).notices
  sent : w.drive.sent <+: t.drive.sent
  ordered : ∀ e, (w.sluice (.chamber k e)).stands 0 = false →
    ⟨.sluice (.chamber k e), .move 0, false⟩ ∈ t.drive.sent.drop w.drive.sent.length
  journal : (∀ e, (w.gate k e).state.moving = false) → t.journal = frames
  gates : ∀ e, (w.gate k e).state.moving = false → t.gate k e = w.gate k e
  sluices : ∀ e, t.sluice (.chamber k e) = (w.sluice (.chamber k e)).shutBy u.sluiceExpiry

/-- The actuator of chamber k whose fault halts it, with the gate of which the halt says nothing. -/
inductive OwnFault (w : State) (k : Chamber) : Actuator → Option Side → Prop where
  | gate (e : Side) : OwnFault w k (.gate k e) (some e)
  | sluice (e : Side) (fault : (w.sluice (.chamber k e)).state = .fault) : OwnFault w k (.sluice (.chamber k e)) none

theorem FaultTold.halts {u w : State} {a : Actuator} {f : FaultKind} {x : Subject} {frames : Journal} {k : Chamber}
    {spare : Option Side} (told : FaultTold u w a f x frames) (own : OwnFault w k a spare) (calm : u.Calm) (free : u.CrossFree)
    (kept : u.KeptOnlyBy k) (live : (u.chamber k).state.live = true) {tasks : List Task}
    (at_most : tasks = [] ∨ ∃ e, tasks = [.gateDone k e]) :
    ∃ t, (({ w with agenda := tasks } : State).faultHalt k f none).finish = t
      ∧ (∀ b, (({ w with agenda := tasks } : State).faultHalt k f none).driveEvent b = t) ∧ FaultHalted u w t k f x frames spare := by
  let v : State := { w with agenda := tasks }
  have made := State.faultHalt_made (s := v) (told.crossFree free) (k := k) (by
    show (w.chamber k).state.live = true
    rw [told.chamber]
    exact live) f none
  have ordered (e : Side) (away : (w.sluice (.chamber k e)).stands 0 = false) :
      ⟨.sluice (.chamber k e), .move 0, false⟩ ∈ (v.faultHalt k f none).drive.sent.drop w.drive.sent.length := by
    unfold State.faultHalt
    rw [if_pos (by show (w.chamber k).state.live = true; rw [told.chamber]; exact live)]
    exact State.haltChamber_orders (s := v) (told.crossFree free) _ _ _ away
  obtain ⟨z, hz⟩ : ∃ z, v.faultHalt k f none = z := ⟨_, rfl⟩
  show ∃ t, (v.faultHalt k f none).finish = t ∧ (∀ b, (v.faultHalt k f none).driveEvent b = t) ∧ _
  rw [hz] at made ordered ⊢
  -- which actuators have stayed
  have gates (e : Side) (out : spare ≠ some e) : w.gate k e = u.gate k e :=
    told.gates k e fun same => by
      cases own with
      | gate e' => injection same with _ he; exact out (by rw [he])
      | sluice _ _ => cases same
  have away : k.other ≠ k := by cases k <;> nofun
  have otherGates (e : Side) : w.gate k.other e = u.gate k.other e :=
    told.gates k.other e fun same => by
      cases own with
      | gate e' => injection same with hk _; exact away hk.symm
      | sluice _ _ => cases same
  have sluices (e : Side) : w.sluice (.chamber k e) = u.sluice (.chamber k e) ∨ (w.sluice (.chamber k e)).state = .fault := by
    by_cases same : a = .sluice (.chamber k e)
    · refine .inr ?_
      cases own with
      | gate e' => cases same
      | sluice e' fault => injection same with h; rw [← h]; exact fault
    · exact .inl (told.sluices _ same)
  have otherSluices (q : Sluice) (out : ∀ e, q ≠ .chamber k e) : w.sluice q = u.sluice q :=
    told.sluices q fun same => by
      cases own with
      | gate _ => cases same
      | sluice e _ => injection same with h; exact out e h.symm
  have halted : HaltedIn u z k (u.chamber k).state (.fault f) spare :=
    made.halted (u := u) (w := v) told.chambers told.book told.site told.guards told.line sluices otherSluices gates otherGates (.inl rfl)
  have core : z.core = u.core := made.core.trans told.core
  have capture : z.capture = u.capture.offer (u.captured f x) := made.capture.trans told.capture
  have own' : (z.chamber k).state = .halted := by rw [made.chamber]; rfl
  -- nothing is kept in the state it leaves
  have nothing : z.NothingKept := by
    refine ⟨fun j => ?_, fun q r ramp => ?_⟩
    · by_cases same : j = k
      · rw [same, made.chamber]; rfl
      · have other : j = k.other := by revert same; cases j <;> cases k <;> simp [Chamber.other]
        rw [other, made.otherChamber]
        show (w.chamber k.other).pendingOrder = none
        rw [told.chamber]
        exact kept.1
    · by_cases mine : ∃ e, q = .chamber k e
      · obtain ⟨e, rfl⟩ := mine
        rw [made.sluices, (SluiceRec.shutBy_facts _ _).1] at ramp
        cases ramp
      · have out : ∀ e, q ≠ .chamber k e := fun e h => mine ⟨e, h⟩
        rw [made.otherSluices q out] at ramp
        have ramp' : (u.sluice q).ramp = some r := by rw [← otherSluices q out]; exact ramp
        exact kept.2 q r (out .upper) (out .lower) ramp'
  have agenda : z.agenda = tasks := by rw [made.frame]
  have deferred : z.book = w.book := by rw [made.frame]
  let y : State := { z with agenda := [] }
  have ycalm : y.Calm := ⟨rfl, by show z.book.deferred = _; rw [deferred]; exact (told.calm calm).2⟩
  have ends : z.finish = y.derive := by
    have same : z = { y with agenda := tasks } := by rw [← agenda]
    rw [same]
    refine State.finish_still ycalm (at_most.imp_right fun ⟨e, eq⟩ => ⟨_, eq, ?_⟩)
    refine ⟨?_, ?_⟩
    · show (z.chamber k).state ≠ _
      rw [own']
      cases e <;> nofun
    · show (z.chamber k).state ≠ _
      rw [own']
      cases e <;> nofun
  refine ⟨y.derive, ends, fun b => by rw [State.driveEvent, State.retries_kept nothing, ends], ?_⟩
  have signalled := halted.signalled y.derive.signals y.derive.stations
  exact {
    halted := {
      sluices := signalled.sluices, gates := signalled.gates, chamber := signalled.chamber, otherPlant := signalled.otherPlant
      guards := signalled.guards, line := signalled.line, otherChamber := signalled.otherChamber, book := signalled.book
      site := signalled.site }
    core := (State.derive_core y).trans core
    capture := capture
    notice := fun st => made.notices st _ (told.notice st)
    sent := made.sent
    ordered := ordered
    journal := fun rest => (made.unstopped fun e _ => rest e).trans told.journal
    gates := fun e rest => (made.gates e).trans (if_neg fun h => by
      have rest' : (v.gate k e).state.moving = false := rest
      rw [rest'] at h
      exact nomatch h.2)
    sluices := fun e => (made.sluices e).trans (by
      have expiry : v.sluiceExpiry = u.sluiceExpiry := told.sluiceExpiry
      rw [expiry]
      rfl) }

end Sys2Proof.Machine
end

section
/-! SUPPORT. The reports of gates (R18, R20 to R22, R26, R42). -/

namespace Sys2Proof.Machine

/-! ## A report taken -/

/-- R18: an actuator's report, in answer to its drive's poll, has been taken: beside its actuator nothing but the levels' sampling, the
journal with its notices, and the signals. -/
structure ReportTaken (s t : State) (a : Actuator) (frames : Journal) : Prop where
  frame : t = { s with
    drive := t.drive, levels := t.levels, signals := t.signals, journal := t.journal, stations := t.stations }
  records : SameRecords s t
  levels : SameLevels s t
  others : SameOthers s t a
  sent : t.drive.sent = s.drive.sent
  queries : t.drive.queries = s.drive.queries
  polls : t.drive.polls = s.drive.polls.tail
  journal : t.journal = frames

theorem ActuatorTold.taken {s w : State} {a : Actuator} {frames : Journal} (h : ActuatorTold s.pollClosed w a frames) :
    ReportTaken s w.derive a frames where
  frame := by
    have frame := h.frame
    rw [h.capture] at frame
    obtain ⟨z, hz⟩ : ∃ z, w.derive = z := ⟨_, rfl⟩
    have ends : z = { w with signals := z.signals } := by rw [← hz, State.derive_frame]
    have drive : z.drive = w.drive := by rw [ends]
    have levels : z.levels = w.levels := by rw [ends]
    have journal : z.journal = w.journal := by rw [ends]
    have stations : z.stations = w.stations := by rw [ends]
    rw [hz, drive, levels, journal, stations]
    generalize z.signals = G at ends ⊢
    generalize w.drive = D at frame ⊢
    generalize w.levels = L at frame ⊢
    generalize w.journal = J at frame ⊢
    generalize w.stations = N at frame ⊢
    rw [ends, frame]
    rfl
  records := SameRecords.trans (t := s.pollClosed) ⟨rfl, rfl, rfl, rfl, rfl, rfl, rfl, rfl, rfl, rfl, fun _ => rfl⟩
    (SameRecords.of_core ((State.derive_core w).trans h.core))
  levels := (SameLevels.of_core h.core).of_levels rfl rfl
  others := ⟨h.gates, h.sluices, h.guards⟩
  sent := h.unsent
  queries := h.line.1
  polls := h.line.2
  journal := h.journal

/-- A report that leaves the plant as it is. -/
theorem ActuatorTold.refl (s : State) (a : Actuator) : ActuatorTold s s a s.journal := ⟨.refl s a, rfl, rfl, rfl⟩

theorem State.polled_iff {s : State} {a : Actuator} (present : s.actuatorPresent a = true) (head : s.drive.polls.head? = some a) :
    s.polled a = true := by
  unfold State.polled
  rw [present, head]
  simp

theorem exec_gateReport {s : State} {k : Chamber} {e : Side} (present : s.chamberPresent k = true)
    (head : s.drive.polls.head? = some (.gate k e)) (r : GateReport) :
    exec (.gateReport k e r) s = .next ((s.pollClosed.applyGateReport k e r).driveEvent (.gate k e)) :=
  if_pos (State.polled_iff (s := s) (a := .gate k e) present head)

/-! ## With an order outstanding (R20) -/

/-- R20: a report of a gate with an order outstanding completes it, or changes nothing. -/
theorem State.applyGateReport_ordered {s : State} {k : Chamber} {e : Side} {m : GateMove} {r : GateReport}
    (ordered : (s.gate k e).outstanding = some m) (known : (s.gate k e).state ≠ .unknown) (fault : r ≠ .driveFault) :
    s.applyGateReport k e r = if gatePosition r = some m.ends then s.gateReaches k e m.ends else s := by
  show (if (s.gate k e).state = .unknown then s else if r = .driveFault then _ else match (s.gate k e).outstanding with
    | some m => _ | none => _) = _
  rw [if_neg known, if_neg fault, ordered]

theorem State.Calm.pollClosed {s : State} (calm : s.Calm) : s.pollClosed.Calm := calm

theorem GateMove.ends_ne_opening (m : GateMove) : m.ends ≠ .opening := by cases m <;> nofun

/-- R18: a report that leaves the plant as it is, and one that takes a position, where nothing waits and the chamber is not the
gate's. -/
theorem State.report_takes {s v w : State} {a : Actuator} {frames : Journal} (told : ActuatorTold s.pollClosed w a frames)
    (calm : s.Calm) (kept : w.NothingKept) (tasks : w = v ∨ ∃ x, v = w.push x ∧ w.Still x) :
    v.driveEvent a = w.derive ∧ ReportTaken s w.derive a frames := by
  refine ⟨?_, told.taken⟩
  rcases tasks with rfl | ⟨x, rfl, still⟩
  · have same : w = { w with agenda := [] } := by
      have idle : w.agenda = [] := (told.calm calm.pollClosed).1
      rw [← idle]
    have ends := (told.ends (tasks := []) calm.pollClosed kept (.inl rfl)).2 a
    rw [← same] at ends
    exact ends
  · rw [State.push_calm (told.calm calm.pollClosed)]
    exact (told.ends (tasks := [x]) calm.pollClosed kept (.inr ⟨x, rfl, still⟩)).2 a

theorem State.Quiet.nothingKept {s : State} (quiet : s.Quiet) : s.NothingKept :=
  ⟨fun k => (quiet.2.1 k).2, fun q r ramp => by rw [quiet.2.2.1 q] at ramp; cases ramp⟩

theorem State.Quiet.still_gate {s : State} (quiet : s.Quiet) (k : Chamber) (e : Side) : s.Still (.gateDone k e) := by
  have out := (quiet.2.1 k).1
  refine ⟨?_, ?_⟩ <;> rw [out] <;> cases e <;> nofun

/-- R26: the outcome of the MOVE frame at the end of a movement. -/
def GateMove.outcome : GateMove → MoveOutcome
  | .opn => .reachedOpen
  | .cls => .reachedClosed

theorem reachedOutcome_ends (m : GateMove) : reachedOutcome m.ends = m.outcome := by cases m <;> rfl

/-- R20: the report that completes an order in a chamber that it is not for. -/
theorem gateReport_completes {s : State} {k : Chamber} {e : Side} {m : GateMove} {r : GateReport} (calm : s.Calm)
    (kept : s.NothingKept) (still : s.Still (.gateDone k e)) (present : s.chamberPresent k = true)
    (head : s.drive.polls.head? = some (.gate k e)) (ordered : (s.gate k e).outstanding = some m)
    (known : (s.gate k e).state ≠ .unknown) (expected : gatePosition r = some m.ends) (fault : r ≠ .driveFault) :
    ∃ t, exec (.gateReport k e r) s = .next t
      ∧ ReportTaken s t (.gate k e) (s.write (.move (.gate k e) m.outcome s.time)).journal ∧ t.gate k e = { state := m.ends } := by
  obtain ⟨told, own⟩ := s.pollClosed.atPosition_told (k := k) (e := e) m.ends_ne_opening
  rw [reachedOutcome_ends] at told
  have kept' : (s.pollClosed.atPosition k e m.ends).NothingKept :=
    NothingKept.of_moved (s := s.pollClosed) kept told.toActuatorMoved fun _ _ same => nomatch same
  obtain ⟨ends, taken⟩ := State.report_takes told calm kept' (.inr ⟨_, rfl, told.still_gate (s := s.pollClosed) still⟩)
  refine ⟨_, ?_, ⟨taken.frame, taken.records, taken.levels, taken.others, taken.sent, taken.queries, taken.polls, ?_⟩, own⟩
  · rw [exec_gateReport present head, State.applyGateReport_ordered (s := s.pollClosed) ordered known fault, if_pos expected,
      State.gateReaches_eq, ends]
  · exact taken.journal.trans (State.write_journal_congr (s := s) (t := s.pollClosed) rfl rfl _)

/-- R18: a report that changes nothing but the poll it answers. -/
theorem gateReport_nothing {s : State} {k : Chamber} {e : Side} {r : GateReport} (calm : s.Calm) (kept : s.NothingKept)
    (present : s.chamberPresent k = true) (head : s.drive.polls.head? = some (.gate k e))
    (nothing : s.pollClosed.applyGateReport k e r = s.pollClosed) :
    ∃ t, exec (.gateReport k e r) s = .next t ∧ ReportTaken s t (.gate k e) s.journal ∧ t.gate k e = s.gate k e := by
  obtain ⟨ends, taken⟩ := State.report_takes (ActuatorTold.refl s.pollClosed (.gate k e)) calm kept (.inl rfl)
  exact ⟨_, by rw [exec_gateReport present head, nothing, ends], taken, rfl⟩

/-- Settles O19. -/
theorem gateReportsCompleteMovements : Obligations.GateReportsCompleteMovements := by
  intro s k e m r quiet present head ordered known fault
  have kept := quiet.nothingKept
  have calm := quiet.1
  by_cases expected : gatePosition r = some m.ends
  · obtain ⟨t, run, taken, own⟩ := gateReport_completes calm kept (quiet.still_gate k e) present head ordered known expected fault
    refine ⟨t, run, taken.frame, taken.records, taken.levels, taken.others, taken.sent, taken.queries, taken.polls, ?_⟩
    cases m <;> cases r <;> first | exact ⟨own, taken.journal⟩ | cases expected
  · obtain ⟨t, run, taken, own⟩ := gateReport_nothing calm kept present head
      ((State.applyGateReport_ordered (s := s.pollClosed) ordered known fault).trans (if_neg expected))
    refine ⟨t, run, taken.frame, taken.records, taken.levels, taken.others, taken.sent, taken.queries, taken.polls, ?_⟩
    cases m <;> cases r <;> first | exact ⟨own, taken.journal⟩ | exact absurd rfl expected

end Sys2Proof.Machine
end

section
/-! SUPPORT. The movement timers of gates and sluices (R22, R25, R51, R73). -/

namespace Sys2Proof.Machine

theorem PlantMoved.derived {s w : State} (h : PlantMoved s w) :
    w.derive = { s with
      drive := w.drive, levels := w.levels, signals := w.derive.signals, journal := w.journal, stations := w.stations
      capture := w.capture } := by
  have frame := h.frame
  obtain ⟨z, hz⟩ : ∃ z, w.derive = z := ⟨_, rfl⟩
  have ends : z = { w with signals := z.signals } := by rw [← hz, State.derive_frame]
  rw [hz]
  generalize z.signals = G at ends ⊢
  generalize w.drive = D at frame ⊢
  generalize w.levels = L at frame ⊢
  generalize w.journal = J at frame ⊢
  generalize w.stations = N at frame ⊢
  generalize w.capture = C at frame ⊢
  rw [ends, frame]

theorem State.reach_records (s : State) (x : Nat) : SameRecords s (s.reach x) :=
  ⟨rfl, rfl, rfl, rfl, rfl, rfl, rfl, rfl, rfl, rfl, fun _ => rfl⟩

theorem State.two_frames_reach (s : State) (x : Nat) (f g : Frame) :
    (((s.reach x).write f).write g).journal = ((s.write f).write g).journal :=
  State.write_journal_congr (State.write_journal_congr (s := s) (t := s.reach x) rfl rfl f)
    ((((s.reach x).write_moved f).reserved.trans rfl).trans (s.write_moved f).reserved.symm) g

theorem State.Quiet.out {s : State} (quiet : s.Quiet) (k : Chamber) : (s.chamber k).state.live = false := by
  rw [(quiet.2.1 k).1]
  rfl

theorem State.faultHalt_out {s : State} {k : Chamber} (out : (s.chamber k).state.live = false) (f : FaultKind) (spare : Option Side) :
    s.faultHalt k f spare = s := by
  unfold State.faultHalt
  rw [out]
  rfl

/-- R22: a gate's movement timer, both chambers out of service. -/
theorem gateTimer_stalls {s : State} {k : Chamber} {e : Side} {x : Nat} (quiet : s.Quiet) (timer : (s.gate k e).timer = some x) :
    ∃ t, exec (.gateMovementTimeout k e) s = .next t
      ∧ t = { s with
          now := max s.now x, drive := t.drive, levels := t.levels, signals := t.signals, journal := t.journal
          stations := t.stations, capture := t.capture }
      ∧ SameRecords s t ∧ SameLevels s t ∧ SameOthers s t (.gate k e) ∧ SameLine s t
      ∧ t.gate k e = { s.gate k e with state := .stalled, outstanding := none, timer := none, surge := false }
      ∧ t.drive.sent = s.drive.sent ++ [⟨.gate k e, .stop, false⟩]
      ∧ t.journal = ((s.write (.move (.gate k e) .stalled s.time)).write (.fault .gateStall (.gate k e) s.time)).journal
      ∧ t.capture = s.capture.offer (s.captured .gateStall (.gate k e)) ∧ ∀ st, .fault ∈ (t.station st).notices := by
  obtain ⟨told, own, sent⟩ := (s.reach x).stallGate_told k e
  have run : exec (.gateMovementTimeout k e) s = .next ((((s.reach x).stallGate k e).faultHalt k .gateStall none).finish) := by
    show execGateMovementTimeout k e s = _
    unfold execGateMovementTimeout
    rw [timer]
  generalize (s.reach x).stallGate k e = w at told own sent run
  have out : (w.chamber k).state.live = false := by
    rw [told.chamber]
    exact quiet.out k
  rw [State.faultHalt_out out, State.finish_calm (told.calm quiet.1)] at run
  refine ⟨_, run, told.derived, (s.reach_records x).trans (SameRecords.of_core ((State.derive_core w).trans told.core)),
    (SameLevels.of_core told.core).of_levels rfl rfl, told.sameOthers, told.line, own, sent, ?_, told.capture, told.notice⟩
  exact told.journal.trans (s.two_frames_reach x _ _)

theorem SluiceRec.stands_fault {r : SluiceRec} (fault : r.state = .fault) : r.stands 0 = false := by
  unfold SluiceRec.stands
  rw [fault]

/-- R25: a chamber sluice's movement timer, both chambers out of service. -/
theorem sluiceTimer_stalls {s : State} {k : Chamber} {e : Side} {x : Nat} (quiet : s.Quiet)
    (timer : (s.sluice (.chamber k e)).timer = some x) :
    ∃ t, exec (.sluiceMovementTimeout (.chamber k e)) s = .next t
      ∧ t = { s with
          now := max s.now x, drive := t.drive, levels := t.levels, signals := t.signals, journal := t.journal
          stations := t.stations, capture := t.capture }
      ∧ SameRecords s t ∧ SameLevels s t ∧ SameOthers s t (.sluice (.chamber k e)) ∧ SameLine s t
      ∧ t.journal = ((s.write (.move (.sluice (.chamber k e)) .stalled s.time)).write
          (.fault .sluiceStall (.sluice (.chamber k e)) s.time)).journal
      ∧ t.sluice (.chamber k e) = { state := .fault, step := (s.sluice (.chamber k e)).step }
      ∧ t.drive.sent = s.drive.sent ++ [⟨.sluice (.chamber k e), .stop, false⟩] := by
  obtain ⟨told, own, sent⟩ := (s.reach x).stallSluice_told (.chamber k e)
  have run : exec (.sluiceMovementTimeout (.chamber k e)) s =
      .next ((((s.reach x).stallSluice (.chamber k e)).faultHalt k .sluiceStall none).finish) := by
    show execSluiceMovementTimeout (.chamber k e) s = _
    unfold execSluiceMovementTimeout
    rw [timer]
    rfl
  generalize (s.reach x).stallSluice (.chamber k e) = w at told own sent run
  have out : (w.chamber k).state.live = false := by
    rw [told.chamber]
    exact quiet.out k
  rw [State.faultHalt_out out, State.finish_calm (told.calm quiet.1)] at run
  refine ⟨_, run, told.derived, (s.reach_records x).trans (SameRecords.of_core ((State.derive_core w).trans told.core)),
    (SameLevels.of_core told.core).of_levels rfl rfl, told.sameOthers, told.line, ?_, own, sent⟩
  exact told.journal.trans (s.two_frames_reach x _ _)

/-! ## The cross sluice ordered to 0 by the arbiter (R73) -/

theorem State.crossHalt_out {s : State} {k : Chamber} (out : (s.chamber k).state.live = false) (f : FaultKind) : s.crossHalt k f = s := by
  unfold State.crossHalt
  rw [out]
  rfl

/-- R73: the cross sluice ordered to 0, the arbiter ENDING. -/
def State.crossShutting (s : State) : State := { s.shutSluice .cross with arbiter.owner := .ending }

theorem State.crossFault_out {s : State} (out : ∀ k, (s.chamber k).state.live = false) (idle : s.arbiter.owner ≠ .engaged)
    (f : FaultKind) : s.crossFault f = s.crossShutting.push .crossShut := by
  unfold State.crossFault
  rw [State.crossHalt_out (out .c1), State.crossHalt_out (out .c2), if_neg idle]
  rfl

/-- R73: what the order to 0 leaves of the state in which a cross sluice in FAULT was handed to the arbiter. -/
theorem State.crossShutting_fault {s : State} (fault : (s.sluice .cross).state = .fault) :
    s.crossShutting.sluice .cross =
        { s.sluice .cross with
          state := .moving, target := some (.step 0), superseded := none, timer := some s.sluiceExpiry, ramp := none }
      ∧ s.crossShutting.drive.sent = s.drive.sent ++ [⟨.sluice .cross, .move 0, false⟩] := by
  refine ⟨?_, ?_⟩
  · exact (State.shutSluice_sluice s .cross .cross).trans ((if_pos rfl).trans (SluiceRec.shutBy_fault fault _))
  · exact (s.shutSluice_sent .cross).trans (by rw [SluiceRec.stands_fault fault]; rfl)

/-- R73: an arbiter ENDING waits for a cross sluice that is not SHUT. -/
theorem State.crossShutting_finish {s : State} (calm : s.Calm) (open_ : (s.crossShutting.sluice .cross).state ≠ .shut) :
    (s.crossShutting.push .crossShut).finish = s.crossShutting.derive := by
  have calm' : s.crossShutting.Calm := (s.shutSluice_moved .cross).calm calm
  rw [State.push_calm calm']
  exact State.finish_still calm' (.inr ⟨_, rfl, .inr (by unfold State.sluiceShut; simp [open_])⟩)

theorem crossTimer_stalls {s : State} {x : Nat} (quiet : s.Quiet) (timer : (s.sluice .cross).timer = some x) :
    ∃ t, exec (.sluiceMovementTimeout .cross) s = .next t
      ∧ t = { s with
          now := max s.now x, drive := t.drive, levels := t.levels, signals := t.signals, journal := t.journal
          stations := t.stations, capture := t.capture, arbiter.owner := t.arbiter.owner }
      ∧ SameRecords s t ∧ SameLevels s t ∧ SameOthers s t (.sluice .cross) ∧ SameLine s t
      ∧ (t.sluice .cross).step = (s.sluice .cross).step
      ∧ t.journal = ((s.write (.move (.sluice .cross) .stalled s.time)).write (.fault .sluiceStall (.sluice .cross) s.time)).journal
      ∧ (t.sluice .cross).state = .moving ∧ (t.sluice .cross).target = some (.step 0) ∧ t.arbiter.owner = .ending
      ∧ t.drive.sent = s.drive.sent ++ [⟨.sluice .cross, .stop, false⟩, ⟨.sluice .cross, .move 0, false⟩] := by
  obtain ⟨told, own, sent⟩ := (s.reach x).stallSluice_told .cross
  have run : exec (.sluiceMovementTimeout .cross) s =
      .next ((((s.reach x).stallSluice .cross).crossFault .sluiceStall).finish) := by
    show execSluiceMovementTimeout .cross s = _
    unfold execSluiceMovementTimeout
    rw [timer]
    rfl
  generalize (s.reach x).stallSluice .cross = w at told own sent run
  have out (k : Chamber) : (w.chamber k).state.live = false := by
    rw [told.chamber]
    exact quiet.out k
  have idle : w.arbiter.owner ≠ .engaged := by
    rw [told.arbiter, show (s.reach x).arbiter.owner = .idle from quiet.2.2.2]
    nofun
  have fault : (w.sluice .cross).state = .fault := by rw [own]
  obtain ⟨cross, ordered⟩ := State.crossShutting_fault fault
  have shut : ActuatorMoved (s.reach x) (w.shutSluice .cross) (.sluice .cross) :=
    told.toActuatorMoved.trans ⟨w.shutSluice_moved .cross, fun _ _ _ => State.shutSluice_gate ..,
      fun q away => (State.shutSluice_sluice ..).trans (if_neg fun same => away (by rw [same]))⟩
  rw [State.crossFault_out out idle, State.crossShutting_finish (told.calm quiet.1) (by rw [cross]; nofun)] at run
  refine ⟨_, run, ?_, (s.reach_records x).trans (SameRecords.of_core ((State.derive_core _).trans shut.core)),
    (SameLevels.of_core (s := s.reach x) (t := w.shutSluice .cross) shut.core).of_levels rfl rfl, shut.sameOthers, shut.line, ?_, ?_,
    ?_, ?_, rfl, ?_⟩
  · have frame := shut.frame
    obtain ⟨y, hy⟩ : ∃ y, w.crossShutting.derive = y := ⟨_, rfl⟩
    have ends : y = { w.shutSluice .cross with signals := y.signals, arbiter.owner := .ending } := by rw [← hy]; rfl
    rw [hy]
    generalize w.shutSluice .cross = v at frame ends
    have drive : y.drive = v.drive := by rw [ends]
    have levels : y.levels = v.levels := by rw [ends]
    have journal : y.journal = v.journal := by rw [ends]
    have stations : y.stations = v.stations := by rw [ends]
    have capture : y.capture = v.capture := by rw [ends]
    have owner : y.arbiter.owner = .ending := by rw [ends]
    rw [drive, levels, journal, stations, capture, owner]
    generalize y.signals = G at ends ⊢
    generalize v.drive = D at frame ⊢
    generalize v.levels = L at frame ⊢
    generalize v.journal = J at frame ⊢
    generalize v.stations = N at frame ⊢
    generalize v.capture = C at frame ⊢
    rw [ends, frame]
    rfl
  · have step : (w.sluice .cross).step = (s.sluice .cross).step := by rw [own]; rfl
    exact (congrArg SluiceRec.step cross).trans step
  · exact ((w.shutSluice_journal .cross).trans told.journal).trans (s.two_frames_reach x _ _)
  · exact congrArg SluiceRec.state cross
  · exact congrArg SluiceRec.target cross
  · refine ordered.trans ?_
    rw [sent, List.append_assoc]
    rfl

/-- Settles O21. -/
theorem movementTimersStallTheirActuator : Obligations.MovementTimersStallTheirActuator := by
  refine ⟨fun s x quiet => ⟨fun k e timer => gateTimer_stalls quiet timer, fun q timer => ?_⟩,
    fun s k e x calm free kept service unhalted timer => ?_⟩
  · cases q with
    | cross =>
      obtain ⟨t, run, frame, records, levels, others, line, step, journal, moving, target, owner, sent⟩ := crossTimer_stalls quiet timer
      exact ⟨t, run, frame, records, levels, others, line, step, journal, fun away => absurd rfl away,
        fun _ => ⟨moving, target, owner, sent⟩⟩
    | chamber k e =>
      obtain ⟨t, run, frame, records, levels, others, line, journal, own, sent⟩ := sluiceTimer_stalls quiet timer
      have arbiter : t.arbiter = s.arbiter := by rw [frame]
      refine ⟨t, run, ?_, records, levels, others, line, by rw [own], journal, fun _ => ⟨own, sent, arbiter⟩, fun same => nomatch same⟩
      rw [arbiter]
      exact frame
  · have live : (s.chamber k).state.live = true := (ChamberState.live_iff _).mpr ⟨service, unhalted⟩
    obtain ⟨told, own, sent⟩ := (s.reach x).stallSluice_told (.chamber k e)
    have fault : (((s.reach x).stallSluice (.chamber k e)).sluice (.chamber k e)).state = .fault := by rw [own]
    obtain ⟨t, ends, _, halted⟩ := told.halts (tasks := []) (.sluice e fault) calm free kept live (.inl rfl)
    have run : exec (.sluiceMovementTimeout (.chamber k e)) s = .next t := by
      show execSluiceMovementTimeout (.chamber k e) s = _
      unfold execSluiceMovementTimeout
      rw [timer, ← ends]
      have idle : ((s.reach x).stallSluice (.chamber k e)).agenda = [] := (told.calm calm).1
      rw [← idle]
      rfl
    have sluice := (halted.sluices e).trans (SluiceRec.shutBy_fault fault _)
    refine ⟨t, run, halted.halted, (s.reach_records x).trans (SameRecords.of_core halted.core),
      (SameLevels.of_core halted.core).of_levels rfl rfl, now_of_core halted.core, congrArg SluiceRec.state sluice,
      congrArg SluiceRec.target sluice, ?_, ?_, ?_, halted.capture, halted.notice, fun rest => ?_⟩
    · have step : (((s.reach x).stallSluice (.chamber k e)).sluice (.chamber k e)).step = (s.sluice (.chamber k e)).step := by
        rw [own]
        rfl
      exact (congrArg SluiceRec.step sluice).trans step
    · refine drop_mem_of_prefix halted.sent ?_
      rw [sent]
      show _ ∈ (s.drive.sent ++ _).drop _
      rw [List.drop_left]
      exact List.mem_singleton_self _
    · refine drop_mem_of_le ?_ (halted.ordered e (SluiceRec.stands_fault fault))
      rw [sent]
      show _ ≤ (s.drive.sent ++ _).length
      simp
    · refine (halted.journal fun i => ?_).trans (s.two_frames_reach x _ _)
      rw [told.gates k i (by nofun)]
      exact rest i

end Sys2Proof.Machine
end

section
/-! SUPPORT. The reports of sluices (R18, R24, R51). -/

namespace Sys2Proof.Machine

theorem exec_sluiceReport {s : State} {q : Sluice} {n : Nat} (present : s.sluicePresent q = true)
    (head : s.drive.polls.head? = some (.sluice q)) (step : n ≤ 8) :
    exec (.sluiceReport q n) s = .next ((s.pollClosed.applySluiceReport q n).driveEvent (.sluice q)) := by
  show execSluiceReport q n s = _
  unfold execSluiceReport
  rw [if_pos (State.polled_iff (s := s) (a := .sluice q) (by cases q <;> exact present) head), if_pos step]

theorem State.setSluice_told (s : State) (q : Sluice) (r : SluiceRec) : ActuatorTold s (s.setSluice q r) (.sluice q) s.journal :=
  ⟨s.setSluice_actuator q r, s.setSluice_journal q r, s.setSluice_capture q r, s.setSluice_sent q r⟩

theorem State.setSluice_stations (s : State) (q : Sluice) (r : SluiceRec) : (s.setSluice q r).stations = s.stations := by
  rw [(s.setSluice_frame q r).1]
  cases q <;> rfl

/-- R24: the sluice's record at a step reached, and its MOVE frame. -/
def State.atStep (s : State) (q : Sluice) (step : Nat) : State :=
  (s.setSluice q
      { s.sluice q with
        state := sluiceAt step, step := some step, target := none, superseded := none, timer := none }).moveFrame (.sluice q)
    (.reachedStep step)

theorem State.atStep_told {s : State} {q : Sluice} (unramped : (s.sluice q).ramp = none) (n : Nat) :
    ActuatorTold s (s.atStep q n) (.sluice q) (s.write (.move (.sluice q) (.reachedStep n) s.time)).journal
      ∧ (s.atStep q n).sluice q = { state := sluiceAt n, step := some n } := by
  have told := s.setSluice_told q
    { s.sluice q with state := sluiceAt n, step := some n, target := none, superseded := none, timer := none }
  have own := s.setSluice_own q
    { s.sluice q with state := sluiceAt n, step := some n, target := none, superseded := none, timer := none }
  unfold State.atStep
  generalize s.setSluice q _ = w at told own ⊢
  refine ⟨⟨told.trans (w.moveFrame_actuator _ _ _), ?_, ?_, ?_⟩, ?_⟩
  · rw [State.moveFrame, told.time, told.write_journal told.journal]
  · exact (State.write_capture ..).trans told.capture
  · rw [State.moveFrame, State.write_drive', told.unsent]
  · rw [State.moveFrame, sluice_of_drive (State.write_drive' ..), own]
    show ({ state := _, step := _, ramp := (s.sluice q).ramp } : SluiceRec) = _
    rw [unramped]

/-- R24: a movement without a ramp completes. -/
theorem State.sluiceReaches_eq {s : State} {q : Sluice} (unramped : (s.sluice q).ramp = none) (n : Nat) :
    s.sluiceReaches q n = (s.atStep q n).noteSluice q := by
  have own := (s.atStep_told unramped n).2
  show ((s.atStep q n).rampReached q n).noteSluice q = _
  have still : (s.atStep q n).rampReached q n = s.atStep q n := by
    unfold State.rampReached
    rw [own]
  rw [still]

theorem State.applySluiceReport_reaches {s : State} {q : Sluice} {n : Nat} (moving : (s.sluice q).state = .moving)
    (expected : (s.sluice q).target = some (.step n) ∨ (s.sluice q).target = some .stop) :
    s.applySluiceReport q n = s.sluiceReaches q n := by
  unfold State.applySluiceReport
  simp only [moving]
  exact if_pos expected.symm

theorem State.applySluiceReport_late {s : State} {q : Sluice} {n : Nat} (moving : (s.sluice q).state = .moving)
    (target : (s.sluice q).target ≠ some (.step n)) (stop : (s.sluice q).target ≠ some .stop)
    (late : (s.sluice q).superseded = some n) :
    s.applySluiceReport q n = s.setSluice q { s.sluice q with step := some n, superseded := none } := by
  unfold State.applySluiceReport
  simp only [moving]
  exact (if_neg (fun h => h.elim stop target)).trans (if_pos late)

/-- R24: the reports out of place. -/
def SluiceRec.Misplaces (r : SluiceRec) (n : Nat) : Prop :=
  r.state = .moving ∧ r.target ≠ some (.step n) ∧ r.target ≠ some .stop ∧ r.superseded ≠ some n
    ∨ (r.state = .shut ∨ r.state = .held) ∧ r.step ≠ some n

theorem State.applySluiceReport_misplaced {s : State} {q : Sluice} {n : Nat} (misplaced : (s.sluice q).Misplaces n) :
    s.applySluiceReport q n = s.sluicePosition q n := by
  unfold State.applySluiceReport
  rcases misplaced with ⟨moving, target, stop, late⟩ | ⟨rest | rest, step⟩
  · simp only [moving]
    exact (if_neg (fun h => h.elim stop target)).trans (if_neg late)
  · simp only [rest]
    exact if_neg step
  · simp only [rest]
    exact if_neg step

/-- R24: a report at rest of the step reported before changes nothing; one in FAULT sets the step. -/
theorem State.applySluiceReport_rest {s : State} {q : Sluice} {n : Nat}
    (rest : ((s.sluice q).state = .shut ∨ (s.sluice q).state = .held) ∧ (s.sluice q).step = some n) : s.applySluiceReport q n = s := by
  unfold State.applySluiceReport
  rcases rest with ⟨rest | rest, step⟩ <;> simp only [rest] <;> exact if_pos step

theorem State.applySluiceReport_fault {s : State} {q : Sluice} {n : Nat} (fault : (s.sluice q).state = .fault) :
    s.applySluiceReport q n = s.setSluice q { s.sluice q with step := some n } := by
  unfold State.applySluiceReport
  simp only [fault]

/-! ## With both chambers out of service -/

theorem State.Quiet.still_sluice {s : State} (quiet : s.Quiet) (q : Sluice) :
    ∃ x, (∀ w : State, w.noteSluice q = w.push x) ∧ ∀ w, PlantMoved s w → w.Still x := by
  cases q with
  | cross =>
    refine ⟨.crossShut, fun _ => rfl, fun w moved => .inl ?_⟩
    rw [moved.arbiter, quiet.2.2.2]
    nofun
  | chamber k e =>
    refine ⟨.phaseDone k, fun _ => rfl, fun w moved => moved.still_phase (s := s) ?_⟩
    have out := (quiet.2.1 k).1
    exact ⟨by rw [out]; nofun, by rw [out]; nofun⟩

/-- A report whose sluice has no ramp leaves nothing kept. -/
theorem State.Quiet.kept_after {s w : State} {q : Sluice} (quiet : s.Quiet) (moved : ActuatorMoved s.pollClosed w (.sluice q))
    (unramped : (w.sluice q).ramp = none) : w.NothingKept := by
  refine NothingKept.of_moved (s := s.pollClosed) quiet.nothingKept moved fun q' r same ramp => ?_
  injection same with same
  rw [← same, unramped] at ramp
  cases ramp

theorem sluiceReport_completes {s : State} {q : Sluice} {n : Nat} (quiet : s.Quiet) (present : s.sluicePresent q = true) (step : n ≤ 8)
    (head : s.drive.polls.head? = some (.sluice q)) (moving : (s.sluice q).state = .moving)
    (expected : (s.sluice q).target = some (.step n) ∨ (s.sluice q).target = some .stop) :
    ∃ t, exec (.sluiceReport q n) s = .next t
      ∧ ReportTaken s t (.sluice q) (s.write (.move (.sluice q) (.reachedStep n) s.time)).journal
      ∧ t.sluice q = { state := if n = 0 then .shut else .held, step := some n } := by
  have unramped : (s.pollClosed.sluice q).ramp = none := quiet.2.2.1 q
  obtain ⟨told, own⟩ := s.pollClosed.atStep_told unramped n
  obtain ⟨x, note, still⟩ := State.Quiet.still_sluice (s := s.pollClosed) quiet q
  obtain ⟨ends, taken⟩ := State.report_takes told quiet.1 (quiet.kept_after told.toActuatorMoved (by rw [own]))
    (.inr ⟨x, rfl, still _ told.toPlantMoved⟩)
  refine ⟨_, ?_, ⟨taken.frame, taken.records, taken.levels, taken.others, taken.sent, taken.queries, taken.polls, ?_⟩, own⟩
  · rw [exec_sluiceReport present head step, State.applySluiceReport_reaches (s := s.pollClosed) moving expected,
      State.sluiceReaches_eq unramped, note, ends]
  · exact taken.journal.trans (State.write_journal_congr (s := s) (t := s.pollClosed) rfl rfl _)

/-- R24: a report that changes its sluice's record alone, without a frame. -/
theorem sluiceReport_takes {s w : State} {q : Sluice} {n : Nat} (quiet : s.Quiet) (present : s.sluicePresent q = true) (step : n ≤ 8)
    (head : s.drive.polls.head? = some (.sluice q)) (applied : s.pollClosed.applySluiceReport q n = w)
    (told : ActuatorTold s.pollClosed w (.sluice q) s.journal) (stations : w.stations = s.stations)
    (unramped : (w.sluice q).ramp = none) :
    ∃ t, exec (.sluiceReport q n) s = .next t ∧ t = { s with drive := t.drive, levels := t.levels, signals := t.signals }
      ∧ SameLevels s t ∧ SameOthers s t (.sluice q) ∧ t.drive.sent = s.drive.sent ∧ t.drive.queries = s.drive.queries
      ∧ t.drive.polls = s.drive.polls.tail ∧ t.sluice q = w.sluice q := by
  obtain ⟨ends, taken⟩ := State.report_takes told quiet.1 (quiet.kept_after told.toActuatorMoved unramped) (.inl rfl)
  refine ⟨w.derive, by rw [exec_sluiceReport present head step, applied, ends], ?_, taken.levels, taken.others, taken.sent,
    taken.queries, taken.polls, rfl⟩
  have frame := taken.frame
  have journal : w.derive.journal = s.journal := taken.journal
  have stations' : w.derive.stations = s.stations := stations
  rw [journal, stations'] at frame
  exact frame

/-! ## In service -/

theorem sluiceReport_halts {s : State} {k : Chamber} {e : Side} {n : Nat} (calm : s.Calm) (free : s.CrossFree) (kept : s.KeptOnlyBy k)
    (present : s.chamberPresent k = true) (step : n ≤ 8) (head : s.drive.polls.head? = some (.sluice (.chamber k e)))
    (live : (s.chamber k).state.live = true) (misplaced : (s.sluice (.chamber k e)).Misplaces n) :
    ∃ t, exec (.sluiceReport (.chamber k e) n) s = .next t
      ∧ FaultHalted s.pollClosed (s.pollClosed.outOfPlace (.chamber k e) n) t k .sluicePosition (.sluice (.chamber k e))
        ((s.pollClosed.write (.fault .sluicePosition (.sluice (.chamber k e)) s.time)).write
          (.move (.sluice (.chamber k e)) (.reachedStep n) s.time)).journal none := by
  obtain ⟨told, own, sent⟩ := s.pollClosed.outOfPlace_told (.chamber k e) n
  obtain ⟨t, _, ends, halted⟩ := told.halts (tasks := []) (.sluice e (by rw [own])) calm free kept live (.inl rfl)
  refine ⟨t, ?_, halted⟩
  rw [exec_sluiceReport (q := .chamber k e) present head step,
    State.applySluiceReport_misplaced (s := s.pollClosed) (q := .chamber k e) misplaced, State.sluicePosition_eq, ← ends (.sluice (.chamber k e))]
  have idle : (s.pollClosed.outOfPlace (.chamber k e) n).agenda = [] := (told.calm calm).1
  rw [← idle]
  rfl

/-- Settles O22. -/
theorem sluiceReportsCompleteMovements : Obligations.SluiceReportsCompleteMovements := by
  refine ⟨fun s q n quiet present step head => ⟨fun moving expected => ?_, fun moving target stop late => ?_, fun rest => ?_⟩,
    fun s k e r n hr calm free kept present step head service unhalted misplaced => ?_⟩
  · obtain ⟨t, run, taken, own⟩ := sluiceReport_completes quiet present step head moving expected
    exact ⟨t, run, taken.frame, taken.records, taken.levels, taken.others, taken.sent, taken.queries, taken.polls, own, taken.journal⟩
  · have own := s.pollClosed.setSluice_own q { s.pollClosed.sluice q with step := some n, superseded := none }
    obtain ⟨t, run, frame, levels, others, sent, queries, polls, sluice⟩ := sluiceReport_takes quiet present step head
      (State.applySluiceReport_late (s := s.pollClosed) moving target stop late) (State.setSluice_told ..)
      (State.setSluice_stations ..) (by rw [own]; exact quiet.2.2.1 q)
    exact ⟨t, run, frame, levels, others, sent, queries, polls, sluice.trans own⟩
  · rcases rest with rest | fault
    · obtain ⟨t, run, frame, levels, others, sent, queries, polls, sluice⟩ := sluiceReport_takes quiet present step head
        (State.applySluiceReport_rest (s := s.pollClosed) rest) (ActuatorTold.refl s.pollClosed _) rfl (quiet.2.2.1 q)
      refine ⟨t, run, frame, levels, others, sent, queries, polls, sluice.trans ?_⟩
      rw [← rest.2]
      rfl
    · have own := s.pollClosed.setSluice_own q { s.pollClosed.sluice q with step := some n }
      obtain ⟨t, run, frame, levels, others, sent, queries, polls, sluice⟩ := sluiceReport_takes quiet present step head
        (State.applySluiceReport_fault (s := s.pollClosed) fault) (State.setSluice_told ..)
        (State.setSluice_stations ..) (by rw [own]; exact quiet.2.2.1 q)
      exact ⟨t, run, frame, levels, others, sent, queries, polls, sluice.trans own⟩
  · subst hr
    have live := (ChamberState.live_iff _).mpr ⟨service, unhalted⟩
    obtain ⟨t, run, halted⟩ := sluiceReport_halts calm free kept present step head live misplaced
    obtain ⟨told, own, sent⟩ := s.pollClosed.outOfPlace_told (.chamber k e) n
    have fault : ((s.pollClosed.outOfPlace (.chamber k e) n).sluice (.chamber k e)).state = .fault := by rw [own]
    have records : SameRecords s s.pollClosed := ⟨rfl, rfl, rfl, rfl, rfl, rfl, rfl, rfl, rfl, rfl, fun _ => rfl⟩
    refine ⟨t, run, halted.halted, records.trans (SameRecords.of_core halted.core), (SameLevels.of_core halted.core).of_levels rfl rfl,
      now_of_core halted.core, ?_, ?_, halted.capture, halted.notice, fun rest => ?_⟩
    · refine (halted.sluices e).trans ((SluiceRec.shutBy_fault fault _).trans ?_)
      rw [own]
      rfl
    · have away := halted.ordered e (SluiceRec.stands_fault fault)
      rw [sent] at away
      exact away
    · refine (halted.journal fun i => ?_).trans ?_
      · rw [told.gates k i (by nofun)]
        exact rest i
      · exact State.write_journal_congr (State.write_journal_congr (s := s) (t := s.pollClosed) rfl rfl _)
          (((s.pollClosed.write_moved _).reserved.trans rfl).trans (s.write_moved _).reserved.symm) _

end Sys2Proof.Machine
end

section
/-! SUPPORT. A halt while the arbiter holds a record, and the faults of the cross sluice (R50, R70, R72, R73). -/

namespace Sys2Proof.Machine

/-! ## The halt before its chamber leaves the arbiter, and after (R50) -/

/-- R50: chamber k's state and the cause noted, and its plant ordered to rest. -/
def State.haltRest (s : State) (k : Chamber) (why : HaltCause) (spare : Option Side) : State :=
  let t := s.setChamber k { s.chamber k with interrupted := some (s.chamber k).state, haltCause := some why }
  let t := t.shutBoth k
  let t := if spare = some .upper then t else t.stopMoving k .upper
  if spare = some .lower then t else t.stopMoving k .lower

/-- R50: the chamber HALTED. -/
def State.haltEnd (s : State) (k : Chamber) : State :=
  s.setChamber k { s.chamber k with pendingOrder := none, phase := none, state := .halted }

theorem State.haltChamber_eq (s : State) (k : Chamber) (why : HaltCause) (spare : Option Side) (cause : CrossEnd) :
    s.haltChamber k why spare cause = ((s.haltRest k why spare).leaveCross k cause).haltEnd k := rfl

structure HaltRested (s t : State) (k : Chamber) (why : HaltCause) (spare : Option Side) : Prop where
  frame : t = { s with
    drive := t.drive, levels := t.levels, chambers := t.chambers, journal := t.journal, stations := t.stations }
  core : t.core = s.core
  guards : SameGuards s t
  line : SameLine s t
  sent : s.drive.sent <+: t.drive.sent
  notices : ∀ st n, n ∈ (s.station st).notices → n ∈ (t.station st).notices
  chamber : t.chamber k = { s.chamber k with interrupted := some (s.chamber k).state, haltCause := some why }
  otherChamber : t.chamber k.other = s.chamber k.other
  sluices : ∀ e, t.sluice (.chamber k e) = (s.sluice (.chamber k e)).shutBy s.sluiceExpiry
  otherSluices : ∀ q, (∀ e, q ≠ .chamber k e) → t.sluice q = s.sluice q
  gates : ∀ e, t.gate k e =
    if spare ≠ some e ∧ (s.gate k e).state.moving = true then (s.gate k e).stoppedBy else s.gate k e
  otherGates : ∀ e, t.gate k.other e = s.gate k.other e
  unstopped : (∀ e, spare ≠ some e → (s.gate k e).state.moving = false) → t.journal = s.journal

theorem State.haltRest_rested (s : State) (k : Chamber) (why : HaltCause) (spare : Option Side) :
    HaltRested s (s.haltRest k why spare) k why spare := by
  let c : Sequencer := { s.chamber k with interrupted := some (s.chamber k).state, haltCause := some why }
  let v := s.setChamber k c
  have rested : PlantRested v (s.haltRest k why spare) k spare := v.plantRested k spare
  generalize s.haltRest k why spare = w at rested ⊢
  have away : k.other ≠ k := by cases k <;> nofun
  have vsluice (q : Sluice) : v.sluice q = s.sluice q := sluice_of_drive rfl q
  have vgate (j : Chamber) (e : Side) : v.gate j e = s.gate j e := gate_of_drive rfl j e
  refine ⟨?_, rested.core.trans (State.setChamber_core ..), rested.guards, rested.line, rested.sent, rested.notices,
    (rested.chamber k).trans ((State.setChamber_chamber ..).trans (if_pos rfl)),
    (rested.chamber _).trans ((State.setChamber_chamber ..).trans (if_neg away)),
    fun e => (rested.sluices e).trans (by rw [vsluice]; rfl), fun q out => (rested.otherSluices q out).trans (vsluice q),
    fun e => (rested.gates e).trans (by rw [vgate]), fun e => (rested.otherGates e).trans (vgate ..),
    fun rest => rested.unstopped fun e spared => by rw [vgate]; exact rest e spared⟩
  have frame := rested.frame
  rw [rested.capture] at frame
  have chambers : w.chambers = v.chambers := rested.chambers
  rw [chambers]
  generalize w.drive = D at frame ⊢
  generalize w.levels = L at frame ⊢
  generalize w.journal = J at frame ⊢
  generalize w.stations = N at frame ⊢
  rw [frame]
  rfl

/-! ## The record delivered (R71, R72) -/

/-- R71: the record once it has been delivered to chamber k. -/
def CrossRec.taken (r : CrossRec) (k : Chamber) : CrossRec := { r with delivered := r.delivered.set k true }

/-- R71, R72: the delivery to a chamber, which marks the record. -/
theorem State.deliver_eq (s : State) (k : Chamber) :
    s.deliver k =
      { s.setChamber k { s.chamber k with water := takenWater k (s.chamber k).water s.arbiter.record } with
        arbiter.record := s.arbiter.record.map (·.taken k) } := by
  unfold State.deliver
  cases record : s.arbiter.record with
  | none =>
    show s = { s.setChamber k (s.chamber k) with arbiter.record := none }
    rw [State.setChamber_self, ← record]
  | some r =>
    dsimp only
    by_cases done : r.delivered.get k = true
    · have same : r.taken k = r := by
        unfold CrossRec.taken
        have : r.delivered.set k true = r.delivered := by rw [← done, PerChamber.set_get]
        rw [this]
      have kept : takenWater k (s.chamber k).water (some r) = (s.chamber k).water := if_pos done
      rw [if_pos done, kept, State.setChamber_self, Option.map_some, same, ← record]
    · have takes : takenWater k (s.chamber k).water (some r) = (s.chamber k).water.map (fun w => w.takeCross r k) := if_neg done
      rw [if_neg done, takes]
      rfl

/-! ## A chamber that has a record delivered as it is halted (R72) -/

/-- Of a state the cross sluice, its orders, the bodies' sampling and the arbiter alone differ. -/
structure CrossOrdered (s t : State) : Prop where
  frame : t = { s with drive := t.drive, levels := t.levels, arbiter := t.arbiter }
  core : t.core = s.core
  guards : SameGuards s t
  line : SameLine s t
  sent : s.drive.sent <+: t.drive.sent
  gates : ∀ k e, t.gate k e = s.gate k e
  sluices : ∀ q, q ≠ .cross → t.sluice q = s.sluice q

theorem CrossOrdered.refl (s : State) : CrossOrdered s s :=
  ⟨rfl, rfl, ⟨rfl, rfl, rfl⟩, ⟨rfl, rfl⟩, List.prefix_refl _, fun _ _ => rfl, fun _ _ => rfl⟩

/-- R70: the end of the phase. -/
theorem State.endCross_ordered (s : State) (cause : CrossEnd) : CrossOrdered s (s.endCross cause) := by
  let r := s.arbiter.record.map (fun x => { x with stop := ⟨s.level .c1, s.level .c2⟩, cause := some cause })
  let v : State := { s with arbiter.record := r, arbiter.timer := none }
  have moved := v.shutSluice_moved .cross
  have plant : v.shutSluice .cross = { v with drive := (v.shutSluice .cross).drive, levels := (v.shutSluice .cross).levels } :=
    v.shutSluice_plant .cross
  have gates (k : Chamber) (e : Side) : (v.shutSluice .cross).gate k e = v.gate k e := State.shutSluice_gate ..
  have sluices (q : Sluice) (out : q ≠ .cross) : (v.shutSluice .cross).sluice q = v.sluice q :=
    (State.shutSluice_sluice ..).trans (if_neg out)
  have ends : s.endCross cause = { v.shutSluice .cross with arbiter.owner := .ending } := rfl
  rw [ends]
  generalize v.shutSluice .cross = y at moved plant gates sluices
  refine ⟨?_, moved.core, moved.guards, moved.line, moved.sent, fun k e => (gates k e).trans (gate_of_drive rfl k e),
    fun q out => (sluices q out).trans (sluice_of_drive rfl q)⟩
  generalize y.drive = D at plant ⊢
  generalize y.levels = L at plant ⊢
  rw [plant]

/-- R70: what the end of the phase leaves of the cross sluice and of the arbiter. -/
theorem State.endCross_facts (s : State) (cause : CrossEnd) :
    (s.endCross cause).sluice .cross = (s.sluice .cross).shutBy s.sluiceExpiry
      ∧ (s.endCross cause).arbiter = { s.arbiter with
          owner := .ending, timer := none
          record := s.arbiter.record.map (fun x => { x with stop := ⟨s.level .c1, s.level .c2⟩, cause := some cause }) }
      ∧ (s.endCross cause).drive.sent =
        s.drive.sent ++ if (s.sluice .cross).stands 0 then [] else [⟨.sluice .cross, .move 0, false⟩] := by
  let r := s.arbiter.record.map (fun x => { x with stop := ⟨s.level .c1, s.level .c2⟩, cause := some cause })
  let v : State := { s with arbiter.record := r, arbiter.timer := none }
  refine ⟨(v.shutSluice_sluice .cross .cross).trans (if_pos rfl), ?_, v.shutSluice_sent .cross⟩
  show ({ (v.shutSluice .cross).arbiter with owner := .ending } : Arbiter) = _
  rw [(v.shutSluice_moved .cross).arbiter]

/-- R50, R72: chamber k has been halted, taking the record `x` of the phase that has ended. -/
structure HaltTook (s t : State) (k : Chamber) (why : HaltCause) (x : Option CrossRec) : Prop where
  frame : t = { s with
    drive := t.drive, levels := t.levels, chambers := t.chambers, arbiter := t.arbiter, journal := t.journal
    stations := t.stations }
  core : t.core = s.core
  guards : SameGuards s t
  line : SameLine s t
  sent : s.drive.sent <+: t.drive.sent
  notices : ∀ st n, n ∈ (s.station st).notices → n ∈ (t.station st).notices
  chamber : t.chamber k =
    Sequencer.haltedBy { s.chamber k with water := takenWater k (s.chamber k).water x } why
  otherChamber : t.chamber k.other = s.chamber k.other
  sluices : ∀ e, t.sluice (.chamber k e) = (s.sluice (.chamber k e)).shutBy s.sluiceExpiry
  otherSluices : ∀ e, t.sluice (.chamber k.other e) = s.sluice (.chamber k.other e)
  gates : ∀ e, t.gate k e = if (s.gate k e).state.moving = true then (s.gate k e).stoppedBy else s.gate k e
  otherGates : ∀ e, t.gate k.other e = s.gate k.other e
  unstopped : (∀ e, (s.gate k e).state.moving = false) → t.journal = s.journal

theorem HaltRested.took {s w y : State} {k : Chamber} {why : HaltCause} (rested : HaltRested s w k why none) (ordered : CrossOrdered w y) :
    HaltTook s ((y.deliver k).haltEnd k) k why y.arbiter.record
      ∧ ((y.deliver k).haltEnd k).sluice .cross = y.sluice .cross
      ∧ ((y.deliver k).haltEnd k).arbiter = { y.arbiter with record := y.arbiter.record.map (·.taken k) }
      ∧ ((y.deliver k).haltEnd k).drive = y.drive := by
  have chambers : y.chambers = w.chambers := by rw [ordered.frame]
  have chamber (j : Chamber) : y.chamber j = w.chamber j := congrArg (fun c : PerChamber Sequencer => c.get j) chambers
  have journal : y.journal = w.journal := by rw [ordered.frame]
  have stations : y.stations = w.stations := by rw [ordered.frame]
  have frame : y = { s with
      drive := y.drive, levels := y.levels, chambers := y.chambers, arbiter := y.arbiter, journal := y.journal
      stations := y.stations } := by
    have f := ordered.frame
    have g := rested.frame
    rw [chambers, journal, stations]
    generalize y.drive = D at f ⊢
    generalize y.levels = L at f ⊢
    generalize y.arbiter = A at f ⊢
    generalize w.drive = D' at g
    generalize w.levels = L' at g
    generalize w.chambers = C at g ⊢
    generalize w.journal = J at g ⊢
    generalize w.stations = N at g ⊢
    rw [f, g]
  rw [State.deliver_eq]
  let c : Sequencer := { y.chamber k with water := takenWater k (y.chamber k).water y.arbiter.record }
  let z : State := { y.setChamber k c with arbiter.record := y.arbiter.record.map (·.taken k) }
  show HaltTook s (z.haltEnd k) k why y.arbiter.record ∧ (z.haltEnd k).sluice .cross = y.sluice .cross ∧ _
  have away : k.other ≠ k := by cases k <;> nofun
  have zk : z.chamber k = c := (State.setChamber_chamber ..).trans (if_pos rfl)
  have zo : z.chamber k.other = y.chamber k.other := (State.setChamber_chamber ..).trans (if_neg away)
  have zs (q : Sluice) : (z.haltEnd k).sluice q = y.sluice q := sluice_of_drive rfl q
  have zg (j : Chamber) (e : Side) : (z.haltEnd k).gate j e = y.gate j e := gate_of_drive rfl j e
  refine ⟨⟨?_, ordered.core.trans rested.core, ?_, ?_, rested.sent.trans ordered.sent, fun st n old => ?_, ?_, ?_, fun e => ?_, fun e => ?_,
    fun e => ?_, fun e => ?_, fun rest => ?_⟩, zs .cross, rfl, rfl⟩
  · obtain ⟨x, hx⟩ : ∃ x, z.haltEnd k = x := ⟨_, rfl⟩
    have ends : x = { y with chambers := x.chambers, arbiter := x.arbiter } := by rw [← hx]; rfl
    have drive : x.drive = y.drive := by rw [ends]
    have levels : x.levels = y.levels := by rw [ends]
    have journal' : x.journal = y.journal := by rw [ends]
    have stations' : x.stations = y.stations := by rw [ends]
    rw [hx, drive, levels, journal', stations']
    generalize x.chambers = C at ends ⊢
    generalize x.arbiter = A at ends ⊢
    generalize y.drive = D at frame ⊢
    generalize y.levels = L at frame ⊢
    generalize y.chambers = C' at frame
    generalize y.arbiter = A' at frame
    generalize y.journal = J at frame ⊢
    generalize y.stations = N at frame ⊢
    rw [ends, frame]
  · exact ⟨ordered.guards.1.trans rested.guards.1, ordered.guards.2.1.trans rested.guards.2.1,
      ordered.guards.2.2.trans rested.guards.2.2⟩
  · exact ⟨ordered.line.1.trans rested.line.1, ordered.line.2.trans rested.line.2⟩
  · have same : (z.haltEnd k).stations = w.stations := stations
    show n ∈ ((z.haltEnd k).stations.get st).notices
    rw [same]
    exact rested.notices st n old
  · have own : (z.haltEnd k).chamber k = { z.chamber k with pendingOrder := none, phase := none, state := .halted } :=
      (State.setChamber_chamber ..).trans (if_pos rfl)
    rw [own, zk]
    show ({ c with pendingOrder := none, phase := none, state := .halted } : Sequencer) = _
    have yk : y.chamber k = { s.chamber k with interrupted := some (s.chamber k).state, haltCause := some why } :=
      (chamber k).trans rested.chamber
    show ({ y.chamber k with
      water := takenWater k (y.chamber k).water y.arbiter.record, pendingOrder := none, phase := none, state := .halted }
        : Sequencer) = _
    rw [yk]
    rfl
  · exact (State.setChamber_chamber ..).trans ((if_neg away).trans (zo.trans ((chamber _).trans rested.otherChamber)))
  · exact (zs _).trans ((ordered.sluices (.chamber k e) nofun).trans (rested.sluices e))
  · exact (zs _).trans ((ordered.sluices (.chamber k.other e) nofun).trans (rested.otherSluices _ fun i same => away (by injection same)))
  · exact (zg k e).trans ((ordered.gates k e).trans ((rested.gates e).trans (by simp)))
  · exact (zg _ e).trans ((ordered.gates _ e).trans (rested.otherGates e))
  · exact journal.trans (rested.unstopped fun e _ => rest e)

/-! ## Leaving the arbiter (R66, R72) -/

/-- R66: with no wish a chamber that leaves takes the record of the phase. -/
theorem State.leaveCross_unwished {s : State} (unwished : s.arbiter.wishes = ⟨none, none⟩) (k : Chamber) (cause : CrossEnd) :
    s.leaveCross k cause = if s.arbiter.owner = .engaged then s.quitCross k cause else s.deliver k := by
  have kept : s.setWish k none = s := by
    have same : s.arbiter.wishes.set k none = s.arbiter.wishes := by
      rw [unwished]
      cases k <;> rfl
    unfold State.setWish
    rw [same]
  have alone : s.proceedAlone k.other = s := by
    unfold State.proceedAlone State.wish
    rw [unwished]
    cases k <;> rfl
  unfold State.leaveCross
  rw [kept, alone]

/-- R50, R72: a halt while no phase is engaged. -/
theorem State.haltChamber_took {s : State} (unwished : s.arbiter.wishes = ⟨none, none⟩) (unengaged : s.arbiter.owner ≠ .engaged)
    (k : Chamber) (why : HaltCause) (cause : CrossEnd) :
    HaltTook s (s.haltChamber k why none cause) k why s.arbiter.record
      ∧ (s.haltChamber k why none cause).sluice .cross = s.sluice .cross
      ∧ (s.haltChamber k why none cause).arbiter = { s.arbiter with record := s.arbiter.record.map (·.taken k) } := by
  have rested := s.haltRest_rested k why none
  rw [State.haltChamber_eq]
  generalize s.haltRest k why none = w at rested ⊢
  have arbiter : w.arbiter = s.arbiter := by rw [rested.frame]
  rw [State.leaveCross_unwished (by rw [arbiter]; exact unwished), if_neg (by rw [arbiter]; exact unengaged)]
  obtain ⟨took, cross, own, _⟩ := rested.took (.refl w)
  rw [arbiter] at took own
  exact ⟨took, cross.trans (rested.otherSluices .cross fun _ => nofun), own⟩

/-- R50, R70, R72: a halt that ends the phase engaged, the cross sluice not at 0. -/
theorem State.haltChamber_quits {s : State} (unwished : s.arbiter.wishes = ⟨none, none⟩) (engaged : s.arbiter.owner = .engaged)
    (open_ : (s.sluice .cross).stands 0 = false) (k : Chamber) (why : HaltCause) (cause : CrossEnd) :
    let x := s.arbiter.record.map (fun x => { x with stop := ⟨s.level .c1, s.level .c2⟩, cause := some cause })
    HaltTook s (s.haltChamber k why none cause) k why x
      ∧ (s.haltChamber k why none cause).sluice .cross = (s.sluice .cross).shutBy s.sluiceExpiry
      ∧ (s.haltChamber k why none cause).arbiter =
        { s.arbiter with owner := .ending, timer := none, record := x.map (·.taken k) }
      ∧ ⟨.sluice .cross, .move 0, false⟩ ∈ (s.haltChamber k why none cause).drive.sent.drop s.drive.sent.length := by
  have rested := s.haltRest_rested k why none
  rw [State.haltChamber_eq]
  generalize s.haltRest k why none = w at rested ⊢
  have arbiter : w.arbiter = s.arbiter := by rw [rested.frame]
  have cross : w.sluice .cross = s.sluice .cross := rested.otherSluices .cross fun _ => nofun
  have expiry : w.sluiceExpiry = s.sluiceExpiry := by
    have now : w.now = s.now := by rw [rested.frame]
    have settings : w.settings = s.settings := by rw [rested.frame]
    rw [State.sluiceExpiry, State.sluiceExpiry, now, settings]
  have levels (b : Body) : w.level b = s.level b := ((SameLevels.of_core rested.core).1 b).handedLevel
  obtain ⟨own, ends, sent⟩ := w.endCross_facts cause
  have ordered := w.endCross_ordered cause
  rw [State.leaveCross_unwished (by rw [arbiter]; exact unwished), if_pos (by rw [arbiter]; exact engaged)]
  have moving : (((w.endCross cause).deliver k).sluice .cross).state = .moving := by
    have drive : ((w.endCross cause).deliver k).drive = (w.endCross cause).drive := by rw [State.deliver_eq]; rfl
    rw [sluice_of_drive drive, own, cross]
    unfold SluiceRec.shutBy
    rw [open_]
    rfl
  have still : ((w.endCross cause).deliver k).crossDone = (w.endCross cause).deliver k :=
    State.crossDone_still (.inr (by unfold State.sluiceShut; rw [moving]; rfl))
  show let x := _; HaltTook s ((((w.endCross cause).deliver k).crossDone).haltEnd k) k why x ∧ _
  obtain ⟨took, cross', own', drive⟩ := rested.took ordered
  simp only [State.quitCross]
  rw [still]
  rw [ends, arbiter, levels, levels] at took own'
  refine ⟨took, ?_, own', ?_⟩
  · rw [cross', own, cross, expiry]
  · rw [drive, sent, cross, open_]
    refine drop_mem_of_le rested.sent.length_le ?_
    show _ ∈ (w.drive.sent ++ _).drop _
    rw [List.drop_left]
    exact List.mem_singleton_self _

end Sys2Proof.Machine
end

section
/-! SUPPORT. A fault of the cross sluice handed to the arbiter (R73): the chambers in service halted one after the other, and the cross
sluice ordered to 0. -/

namespace Sys2Proof.Machine

/-! ## One chamber after the other -/

/-- R73: chamber k, halted when it is in service and not HALTED, takes the record `x`; nothing else has changed. -/
structure CrossStep (s t : State) (k : Chamber) (f : FaultKind) (x : Option CrossRec) : Prop where
  frame : t = { s with
    drive := t.drive, levels := t.levels, chambers := t.chambers, arbiter := t.arbiter, journal := t.journal
    stations := t.stations }
  core : t.core = s.core
  guards : SameGuards s t
  line : SameLine s t
  sent : s.drive.sent <+: t.drive.sent
  notices : ∀ st n, n ∈ (s.station st).notices → n ∈ (t.station st).notices
  halted : (s.chamber k).state.live = true →
    t.chamber k = Sequencer.haltedBy { s.chamber k with water := takenWater k (s.chamber k).water x } (.fault f)
      ∧ (∀ e, t.sluice (.chamber k e) = (s.sluice (.chamber k e)).shutBy s.sluiceExpiry)
      ∧ ∀ e, t.gate k e = if (s.gate k e).state.moving = true then (s.gate k e).stoppedBy else s.gate k e
  kept : (s.chamber k).state.live = false → SameChamber s t k
  other : SameChamber s t k.other
  unstopped : (∀ e, (s.gate k e).state.moving = false) → t.journal = s.journal

theorem SameChamber.refl (s : State) (k : Chamber) : SameChamber s s k := ⟨rfl, fun _ => rfl, fun _ => rfl⟩

theorem HaltTook.step {s t : State} {k : Chamber} {f : FaultKind} {x : Option CrossRec} (h : HaltTook s t k (.fault f) x)
    (live : (s.chamber k).state.live = true) : CrossStep s t k f x where
  frame := h.frame
  core := h.core
  guards := h.guards
  line := h.line
  sent := h.sent
  notices := h.notices
  halted _ := ⟨h.chamber, h.sluices, h.gates⟩
  kept out := by rw [live] at out; cases out
  other := ⟨h.otherChamber, h.otherGates, h.otherSluices⟩
  unstopped := h.unstopped

theorem CrossStep.refl {s : State} {k : Chamber} (out : (s.chamber k).state.live = false) (f : FaultKind) (x : Option CrossRec) :
    CrossStep s s k f x where
  frame := rfl
  core := rfl
  guards := ⟨rfl, rfl, rfl⟩
  line := ⟨rfl, rfl⟩
  sent := List.prefix_refl _
  notices _ _ := id
  halted live := by rw [live] at out; cases out
  kept _ := .refl s k
  other := .refl s _
  unstopped _ := rfl

/-- R72: the record as it stands once it has been delivered to chamber k when that is in service and not HALTED. -/
def CrossRec.offered (r : CrossRec) (k : Chamber) (live : Bool) : CrossRec :=
  { r with delivered := r.delivered.set k (r.delivered.get k || live) }

theorem CrossRec.offered_live (r : CrossRec) (k : Chamber) : r.offered k true = r.taken k := by
  unfold CrossRec.offered CrossRec.taken
  rw [Bool.or_true]

theorem CrossRec.offered_out (r : CrossRec) (k : Chamber) : r.offered k false = r := by
  unfold CrossRec.offered
  rw [Bool.or_false, PerChamber.set_get]

/-- R73: a chamber's step while no phase is engaged. -/
theorem State.crossHalt_step {s : State} (unwished : s.arbiter.wishes = ⟨none, none⟩) (unengaged : s.arbiter.owner ≠ .engaged)
    (k : Chamber) (f : FaultKind) :
    CrossStep s (s.crossHalt k f) k f s.arbiter.record ∧ (s.crossHalt k f).sluice .cross = s.sluice .cross
      ∧ (s.crossHalt k f).arbiter =
        { s.arbiter with record := s.arbiter.record.map (·.offered k (s.chamber k).state.live) } := by
  by_cases live : (s.chamber k).state.live = true
  · obtain ⟨took, cross, arbiter⟩ := State.haltChamber_took unwished unengaged k (.fault f) (.fault f)
    have halts : s.crossHalt k f = s.haltChamber k (.fault f) none (.fault f) := if_pos live
    rw [halts, live]
    exact ⟨took.step live, cross, by rw [arbiter]; simp only [CrossRec.offered_live]⟩
  · have out : (s.chamber k).state.live = false := by simpa using live
    rw [State.crossHalt_out out, out]
    refine ⟨.refl out f _, rfl, ?_⟩
    simp only [CrossRec.offered_out, Option.map_id']

/-- R73: the record as it stands for chamber 2 is the one chamber 1 took. -/
theorem takenWater_offered (w : Option WaterRec) (x : Option CrossRec) (live : Bool) :
    takenWater .c2 w (x.map (·.offered .c1 live)) = takenWater .c2 w x := by
  cases x <;> rfl

/-! ## Both chambers -/

/-- R73: both chambers told of the fault. -/
structure CrossPlant (s t : State) (f : FaultKind) (x : Option CrossRec) : Prop where
  frame : t = { s with
    drive := t.drive, levels := t.levels, chambers := t.chambers, arbiter := t.arbiter, journal := t.journal
    stations := t.stations }
  core : t.core = s.core
  guards : SameGuards s t
  line : SameLine s t
  sent : s.drive.sent <+: t.drive.sent
  notices : ∀ st n, n ∈ (s.station st).notices → n ∈ (t.station st).notices
  halted : ∀ k, (s.chamber k).state.live = true →
    t.chamber k = Sequencer.haltedBy { s.chamber k with water := takenWater k (s.chamber k).water x } (.fault f)
      ∧ (∀ e, t.sluice (.chamber k e) = (s.sluice (.chamber k e)).shutBy s.sluiceExpiry)
      ∧ ∀ e, t.gate k e = if (s.gate k e).state.moving = true then (s.gate k e).stoppedBy else s.gate k e
  kept : ∀ k, (s.chamber k).state.live = false → SameChamber s t k
  unstopped : (∀ k e, (s.gate k e).state.moving = false) → t.journal = s.journal

theorem CrossStep.both {s t u : State} {f : FaultKind} {x : Option CrossRec} {live : Bool} (h : CrossStep s t .c1 f x)
    (g : CrossStep t u .c2 f (x.map (·.offered .c1 live))) : CrossPlant s u f x := by
  have far : SameChamber s t .c2 := h.other
  have near : SameChamber t u .c1 := g.other
  have expiry : t.sluiceExpiry = s.sluiceExpiry := by
    have now : t.now = s.now := by rw [h.frame]
    have settings : t.settings = s.settings := by rw [h.frame]
    rw [State.sluiceExpiry, State.sluiceExpiry, now, settings]
  refine ⟨?_, g.core.trans h.core, ⟨g.guards.1.trans h.guards.1, g.guards.2.1.trans h.guards.2.1, g.guards.2.2.trans h.guards.2.2⟩,
    ⟨g.line.1.trans h.line.1, g.line.2.trans h.line.2⟩, h.sent.trans g.sent, fun st n old => g.notices st n (h.notices st n old),
    fun k live => ?_, fun k out => ?_, fun rest => ?_⟩
  · rw [g.frame, h.frame]
  · cases k with
    | c1 =>
      obtain ⟨chamber, sluices, gates⟩ := h.halted live
      exact ⟨near.chamber.trans chamber, fun e => (near.sluices e).trans (sluices e), fun e => (near.gates e).trans (gates e)⟩
    | c2 =>
      obtain ⟨chamber, sluices, gates⟩ := g.halted (by rw [far.chamber]; exact live)
      rw [far.chamber, takenWater_offered] at chamber
      refine ⟨chamber, fun e => ?_, fun e => ?_⟩
      · rw [sluices, far.sluices, expiry]
      · rw [gates, far.gates]
  · cases k with
    | c1 =>
      have same := h.kept out
      exact ⟨near.chamber.trans same.chamber, fun e => (near.gates e).trans (same.gates e),
        fun e => (near.sluices e).trans (same.sluices e)⟩
    | c2 =>
      have same := g.kept (by rw [far.chamber]; exact out)
      exact ⟨same.chamber.trans far.chamber, fun e => (same.gates e).trans (far.gates e),
        fun e => (same.sluices e).trans (far.sluices e)⟩
  · exact (g.unstopped fun e => by rw [far.gates]; exact rest .c2 e).trans (h.unstopped fun e => rest .c1 e)

/-- R73: the record once each chamber in service and not HALTED has taken it. -/
def State.crossTaken (s : State) (x : Option CrossRec) : Option CrossRec :=
  x.map fun r => { r with
    delivered := ⟨r.delivered.c1 || (s.chamber .c1).state.live, r.delivered.c2 || (s.chamber .c2).state.live⟩ }

theorem State.crossTaken_eq (s : State) (x : Option CrossRec) :
    (x.map (·.offered .c1 (s.chamber .c1).state.live)).map (·.offered .c2 (s.chamber .c2).state.live) = s.crossTaken x := by
  cases x <;> rfl

theorem State.crossShutting_ordered (s : State) : CrossOrdered s s.crossShutting := by
  have moved := s.shutSluice_moved .cross
  have plant : s.shutSluice .cross = { s with drive := (s.shutSluice .cross).drive, levels := (s.shutSluice .cross).levels } :=
    s.shutSluice_plant .cross
  have gates (k : Chamber) (e : Side) : (s.shutSluice .cross).gate k e = s.gate k e := State.shutSluice_gate ..
  have sluices (q : Sluice) (out : q ≠ .cross) : (s.shutSluice .cross).sluice q = s.sluice q :=
    (State.shutSluice_sluice ..).trans (if_neg out)
  unfold State.crossShutting
  generalize s.shutSluice .cross = y at moved plant gates sluices ⊢
  refine ⟨?_, moved.core, moved.guards, moved.line, moved.sent, gates, sluices⟩
  generalize y.drive = D at plant ⊢
  generalize y.levels = L at plant ⊢
  rw [plant]

/-- R73: what the fault of the cross sluice, handed to the arbiter in state `s`, leaves. -/
structure CrossHandled (s t : State) (f : FaultKind) (x : Option CrossRec) : Prop where
  plant : ∃ v, CrossPlant s v f x ∧ CrossOrdered v t
  cross : t.sluice .cross = (s.sluice .cross).shutBy s.sluiceExpiry
  arbiter : t.arbiter = { s.arbiter with owner := .ending, timer := none, record := s.crossTaken x }
  ordered : ⟨.sluice .cross, .move 0, false⟩ ∈ t.drive.sent.drop s.drive.sent.length

/-- R73: with no phase engaged. -/
theorem State.crossFault_unengaged {s : State} (unwished : s.arbiter.wishes = ⟨none, none⟩) (unengaged : s.arbiter.owner ≠ .engaged)
    (untimed : s.arbiter.timer = none) (fault : (s.sluice .cross).state = .fault) (f : FaultKind) :
    ∃ t, s.crossFault f = t.push .crossShut ∧ CrossHandled s t f s.arbiter.record := by
  obtain ⟨first, cross1, arbiter1⟩ := State.crossHalt_step unwished unengaged .c1 f
  have second := State.crossHalt_step (s := s.crossHalt .c1 f) (by rw [arbiter1]; exact unwished) (by rw [arbiter1]; exact unengaged) .c2 f
  have handed : s.crossFault f = ((s.crossHalt .c1 f).crossHalt .c2 f).crossShutting.push .crossShut := by
    unfold State.crossFault
    exact if_neg unengaged
  generalize s.crossHalt .c1 f = u at first cross1 arbiter1 second handed
  obtain ⟨second, cross2, arbiter2⟩ := second
  generalize u.crossHalt .c2 f = v at second cross2 arbiter2 handed
  rw [arbiter1] at second arbiter2
  have plant : CrossPlant s v f s.arbiter.record := first.both second
  have cross : v.sluice .cross = s.sluice .cross := cross2.trans cross1
  obtain ⟨own, sent⟩ := State.crossShutting_fault (s := v) (by rw [cross]; exact fault)
  have arbiter := (v.shutSluice_moved .cross).arbiter
  refine ⟨v.crossShutting, handed, ⟨v, plant, v.crossShutting_ordered⟩, ?_, ?_, ?_⟩
  · have expiry : v.sluiceExpiry = s.sluiceExpiry := by
      have now : v.now = s.now := by rw [plant.frame]
      have settings : v.settings = s.settings := by rw [plant.frame]
      rw [State.sluiceExpiry, State.sluiceExpiry, now, settings]
    rw [own, cross, expiry, SluiceRec.shutBy_fault fault]
  · have far : u.chamber .c2 = s.chamber .c2 := first.other.chamber
    show ({ (v.shutSluice .cross).arbiter with owner := .ending } : Arbiter) = _
    rw [arbiter, arbiter2, far, ← untimed]
    show ({ s.arbiter with owner := .ending, record := (s.arbiter.record.map _).map _ } : Arbiter) = _
    rw [State.crossTaken_eq]
  · rw [sent]
    refine drop_mem_of_le plant.sent.length_le ?_
    rw [List.drop_left]
    exact List.mem_singleton_self _

/-- R70, R73: with a phase engaged, which ends. -/
theorem State.crossFault_engaged {s : State} (unwished : s.arbiter.wishes = ⟨none, none⟩) (engaged : s.arbiter.owner = .engaged)
    (live : (s.chamber .c1).state.live = true) (fault : (s.sluice .cross).state = .fault) (f : FaultKind) :
    CrossHandled s (s.crossFault f) f
      (s.arbiter.record.map fun x => { x with stop := ⟨s.level .c1, s.level .c2⟩, cause := some (.fault f) }) := by
  obtain ⟨took, cross1, arbiter1, ordered⟩ := State.haltChamber_quits unwished engaged (SluiceRec.stands_fault fault) .c1 (.fault f)
    (.fault f)
  have halts : s.crossHalt .c1 f = s.haltChamber .c1 (.fault f) none (.fault f) := if_pos live
  have first := took.step live
  rw [← halts] at first cross1 arbiter1 ordered
  have second := State.crossHalt_step (s := s.crossHalt .c1 f) (by rw [arbiter1]; exact unwished) (by rw [arbiter1]; nofun) .c2 f
  have handed : s.crossFault f = (s.crossHalt .c1 f).crossHalt .c2 f := by
    unfold State.crossFault
    exact if_pos engaged
  rw [handed]
  generalize s.crossHalt .c1 f = u at first cross1 arbiter1 second ordered ⊢
  obtain ⟨second, cross2, arbiter2⟩ := second
  generalize u.crossHalt .c2 f = v at second cross2 arbiter2 ⊢
  rw [arbiter1] at second arbiter2
  dsimp only at second arbiter2
  generalize (s.arbiter.record.map fun x => { x with stop := ⟨s.level .c1, s.level .c2⟩, cause := some (.fault f) }) = x
    at first second arbiter2 ⊢
  simp only [← CrossRec.offered_live] at second arbiter2
  refine ⟨⟨v, first.both second, .refl v⟩, cross2.trans cross1, ?_, drop_mem_of_prefix second.sent ordered⟩
  have far : u.chamber .c2 = s.chamber .c2 := first.other.chamber
  rw [arbiter2, far, ← State.crossTaken_eq, live]

end Sys2Proof.Machine
end

section
/-! SUPPORT. What a fault of the cross sluice leaves, its fault raised and handed to the arbiter (R24, R25, R70, R72, R73). -/

namespace Sys2Proof.Machine

/-- The blocks that a fault of the cross sluice is told of. -/
structure SamePlant (s t : State) : Prop where
  drive : t.drive = s.drive
  chambers : t.chambers = s.chambers
  levels : t.levels = s.levels
  settings : t.settings = s.settings
  arbiter : t.arbiter = s.arbiter
  book : t.book = s.book
  site : t.site = s.site

/-- R73: the event's end. -/
structure CrossEnded (u w t : State) (f : FaultKind) (x : Option CrossRec) (frames : Journal) : Prop where
  faulted : ∀ b, SamePlant u b → CrossFaulted b t f (w.sluice .cross).step x
  core : t.core = u.core
  capture : t.capture = u.capture.offer (u.captured f (.sluice .cross))
  notice : ∀ st, .fault ∈ (t.station st).notices
  sent : w.drive.sent <+: t.drive.sent
  journal : (∀ k e, (u.gate k e).state.moving = false) → t.journal = frames

theorem CrossHandled.ends {u w z : State} {f : FaultKind} {x : Option CrossRec} {frames : Journal} {n : Option Nat}
    (told : FaultTold u w (.sluice .cross) f (.sluice .cross) frames) (own : w.sluice .cross = { state := .fault, step := n })
    (handled : CrossHandled w z f x) (calm : u.Calm) (kept : u.NothingKept) {tasks : List Task}
    (at_most : tasks = [] ∨ tasks = [.crossShut]) :
    ({ z with agenda := tasks } : State).finish = z.derive ∧ (∀ a, ({ z with agenda := tasks } : State).driveEvent a = z.derive)
      ∧ CrossEnded u w z.derive f x frames := by
  obtain ⟨⟨v, plant, after⟩, cross, arbiter, ordered⟩ := handled
  have chambers : z.chambers = v.chambers := by rw [after.frame]
  have chamber (k : Chamber) : z.chamber k = v.chamber k := congrArg (fun c : PerChamber Sequencer => c.get k) chambers
  have wchamber := told.chamber
  have wgate (k : Chamber) (e : Side) : w.gate k e = u.gate k e := told.gates k e (by nofun)
  have wsluice (k : Chamber) (e : Side) : w.sluice (.chamber k e) = u.sluice (.chamber k e) := told.sluices _ (by nofun)
  have expiry : w.sluiceExpiry = u.sluiceExpiry := told.sluiceExpiry
  have zsluice (k : Chamber) (e : Side) : z.sluice (.chamber k e) = v.sluice (.chamber k e) := after.sluices _ (by nofun)
  -- what each chamber has become
  have halted (k : Chamber) (live : (u.chamber k).state.live = true) :
      z.chamber k = Sequencer.haltedBy { u.chamber k with water := takenWater k (u.chamber k).water x } (.fault f)
        ∧ (∀ e, z.sluice (.chamber k e) = (u.sluice (.chamber k e)).shutBy u.sluiceExpiry)
        ∧ ∀ e, z.gate k e = if (u.gate k e).state.moving = true then (u.gate k e).stoppedBy else u.gate k e := by
    obtain ⟨hc, hs, hg⟩ := plant.halted k (by rw [wchamber]; exact live)
    refine ⟨?_, fun e => ?_, fun e => ?_⟩
    · rw [chamber, hc, wchamber]
    · rw [zsluice, hs, wsluice, expiry]
    · rw [after.gates, hg, wgate]
  have same (k : Chamber) (out : (u.chamber k).state.live = false) : SameChamber u z k := by
    have h := plant.kept k (by rw [wchamber]; exact out)
    exact ⟨(chamber k).trans (h.chamber.trans (wchamber k)), fun e => (after.gates k e).trans ((h.gates e).trans (wgate k e)),
      fun e => (zsluice k e).trans ((h.sluices e).trans (wsluice k e))⟩
  have moving : z.sluice .cross = { state := .moving, step := n, target := some (.step 0), timer := some u.sluiceExpiry } := by
    rw [cross, SluiceRec.shutBy_fault (by rw [own]), own, expiry]
  have core : z.core = u.core := after.core.trans (plant.core.trans told.core)
  have calmz : z.Calm := by
    have agenda : z.agenda = w.agenda := by rw [after.frame]; show v.agenda = _; rw [plant.frame]
    have book : z.book = w.book := by rw [after.frame]; show v.book = _; rw [plant.frame]
    unfold State.Calm
    rw [agenda, book]
    exact told.calm calm
  have nothing : z.NothingKept := by
    refine ⟨fun k => ?_, fun q r ramp => ?_⟩
    · cases live : (u.chamber k).state.live with
      | true => rw [(halted k live).1]; rfl
      | false => rw [(same k live).chamber]; exact kept.1 k
    · cases q with
      | cross => rw [moving] at ramp; cases ramp
      | chamber k e =>
        cases live : (u.chamber k).state.live with
        | true =>
          rw [(halted k live).2.1, (SluiceRec.shutBy_facts _ _).1] at ramp
          cases ramp
        | false =>
          rw [(same k live).sluices] at ramp
          exact kept.2 _ r ramp
  have ends : ({ z with agenda := tasks } : State).finish = z.derive := by
    have still : z.Still .crossShut := Or.inr (by unfold State.sluiceShut; rw [moving]; rfl)
    exact State.finish_still calmz (at_most.imp_right fun h => ⟨_, h, still⟩)
  have asked : ({ z with agenda := tasks } : State).NothingKept := nothing
  refine ⟨ends, fun a => by rw [State.driveEvent, State.retries_kept asked, ends], ⟨fun b shared => ?_, (State.derive_core z).trans core,
    ?_, fun st => ?_, plant.sent.trans after.sent, fun rest => ?_⟩⟩
  · have bchamber (k : Chamber) : b.chamber k = u.chamber k := by simp only [State.chamber, shared.chambers]
    have bgate (k : Chamber) (e : Side) : b.gate k e = u.gate k e := gate_of_drive shared.drive k e
    have bsluice (q : Sluice) : b.sluice q = u.sluice q := sluice_of_drive shared.drive q
    have guards : SameGuards u z :=
      ⟨after.guards.1.trans (plant.guards.1.trans told.guards.1), after.guards.2.1.trans (plant.guards.2.1.trans told.guards.2.1),
        after.guards.2.2.trans (plant.guards.2.2.trans told.guards.2.2)⟩
    have line : SameLine u z :=
      ⟨after.line.1.trans (plant.line.1.trans told.line.1), after.line.2.trans (plant.line.2.trans told.line.2)⟩
    have now : z.now = u.now := now_of_core core
    exact {
      halted := fun k live => by
        rw [bchamber] at live
        obtain ⟨hc, hs, hg⟩ := halted k live
        exact {
          chamber := by
            refine hc.trans ?_
            rw [State.setChamber_chamber, if_pos rfl, bchamber]
            rfl
          sluices := fun e => by
            rw [State.setChamber_sluice, bsluice]
            show (z.sluice (.chamber k e)).ramp = none ∧ (_ ∨ (z.sluice (.chamber k e)).state = _ ∧ _)
            have facts := (u.sluice (.chamber k e)).shutBy_facts u.sluiceExpiry
            rw [← hs] at facts
            exact ⟨facts.1, facts.2.imp_left fun h => ⟨h.1, h.2.1, h.2.2⟩⟩
          gates := fun e _ => by
            rw [State.setChamber_gate, bgate]
            show (z.gate k e).state = _
            rw [hg]
            by_cases moves : (u.gate k e).state.moving = true
            · rw [if_pos moves, if_pos ((GateState.moving_iff _).mp moves)]
              rfl
            · rw [if_neg moves, if_neg fun h => moves ((GateState.moving_iff _).mpr h)] }
      kept := fun k out => by
        rw [bchamber] at out
        have h := same k out
        exact ⟨h.chamber.trans (bchamber k).symm, fun e => (h.gates e).trans (bgate k e).symm,
          fun e => (h.sluices e).trans (bsluice _).symm⟩
      cross := by
        have step : (w.sluice .cross).step = n := by rw [own]
        rw [step, shared.settings]
        refine moving.trans ?_
        show _ = ({ state := _, step := _, target := _, timer := some (z.now + _) } : SluiceRec)
        rw [now]
        rfl
      ordered := by
        rw [shared.drive]
        exact drop_mem_of_le told.sent.length_le ordered
      arbiter := by
        refine arbiter.trans ?_
        rw [told.arbiter, shared.arbiter, bchamber, bchamber]
        unfold State.crossTaken
        rw [wchamber, wchamber]
      levels := (SameLevels.of_core (s := u) (t := z) core).of_levels shared.levels rfl
      guards := by
        unfold SameGuards
        rw [shared.drive, shared.levels]
        exact guards
      line := by
        unfold SameLine
        rw [shared.drive]
        exact line
      book := by
        rw [shared.book, ← told.book]
        show z.book = _
        rw [after.frame]
        show v.book = _
        rw [plant.frame]
      site := by
        rw [shared.site, ← told.site]
        show z.site = _
        rw [after.frame]
        show v.site = _
        rw [plant.frame] }
  · refine Eq.trans ?_ told.capture
    show z.capture = _
    rw [after.frame]
    show v.capture = _
    rw [plant.frame]
  · have stations : z.stations = v.stations := by rw [after.frame]
    show .fault ∈ (z.stations.get st).notices
    rw [stations]
    exact plant.notices st _ (told.notice st)
  · refine Eq.trans ?_ told.journal
    show z.journal = _
    rw [after.frame]
    exact plant.unstopped fun k e => by rw [wgate]; exact rest k e

/-- R73: the three ways in which the arbiter may stand: no phase engaged, or the phase engaged in chambers of which the first is in
service and not HALTED. -/
theorem FaultTold.crossFault_ends {u w : State} {f : FaultKind} {frames : Journal} {n : Option Nat}
    (told : FaultTold u w (.sluice .cross) f (.sluice .cross) frames) (own : w.sluice .cross = { state := .fault, step := n })
    (calm : u.Calm) (kept : u.NothingKept) (unwished : u.arbiter.wishes = ⟨none, none⟩) :
    (u.arbiter.owner ≠ .engaged → u.arbiter.timer = none →
      ∃ t, (w.crossFault f).finish = t ∧ (∀ a, (w.crossFault f).driveEvent a = t) ∧ CrossEnded u w t f u.arbiter.record frames)
    ∧ (u.arbiter.owner = .engaged → (u.chamber .c1).state.live = true →
      ∃ t, (w.crossFault f).finish = t ∧ (∀ a, (w.crossFault f).driveEvent a = t) ∧ CrossEnded u w t f
        (u.arbiter.record.map fun x => { x with stop := ⟨u.level .c1, u.level .c2⟩, cause := some (.fault f) }) frames) := by
  have fault : (w.sluice .cross).state = .fault := by rw [own]
  have arbiter := told.arbiter
  refine ⟨fun unengaged untimed => ?_, fun engaged live => ?_⟩
  · obtain ⟨z, handed, handled⟩ := State.crossFault_unengaged (s := w) (by rw [arbiter]; exact unwished)
      (by rw [arbiter]; exact unengaged) (by rw [arbiter]; exact untimed) fault f
    rw [arbiter] at handled
    obtain ⟨⟨v, plant, after⟩, _⟩ := id handled
    have calmz : z.Calm := by
      have agenda : z.agenda = w.agenda := by rw [after.frame]; show v.agenda = _; rw [plant.frame]
      have book : z.book = w.book := by rw [after.frame]; show v.book = _; rw [plant.frame]
      unfold State.Calm
      rw [agenda, book]
      exact told.calm calm
    obtain ⟨ends, events, ended⟩ := handled.ends told own calm kept (.inr rfl)
    rw [handed, State.push_calm calmz]
    exact ⟨_, ends, events, ended⟩
  · have handled := State.crossFault_engaged (s := w) (by rw [arbiter]; exact unwished) (by rw [arbiter]; exact engaged)
      (by rw [told.chamber]; exact live) fault f
    have levels (b : Body) : w.level b = u.level b := ((SameLevels.of_core told.core).1 b).handedLevel
    rw [arbiter, levels, levels] at handled
    obtain ⟨⟨v, plant, after⟩, _⟩ := id handled
    obtain ⟨ends, events, ended⟩ := handled.ends told own calm kept (.inl rfl)
    have idle : (w.crossFault f).agenda = [] := by
      rw [after.frame]
      show v.agenda = _
      rw [plant.frame]
      exact (told.calm calm).1
    rw [← idle] at ends events
    exact ⟨_, ends, events, ended⟩

/-! ## O23 -/

/-- R73: what holds of the state an event leaves by a fault of the cross sluice, its drive at `step` and its frames those of
`frames`. -/
theorem CrossEnded.taken {s u w t : State} {f : FaultKind} {x : Option CrossRec} {frames : Journal} (ended : CrossEnded u w t f x frames)
    (records : SameRecords s u) : SameRecords s t ∧ t.now = u.now :=
  ⟨records.trans (SameRecords.of_core ended.core), now_of_core ended.core⟩

/-- Settles O23. -/
theorem crossSluiceFaultsHaltTheChambers : Obligations.CrossSluiceFaultsHaltTheChambers := by
  intro s calm kept unwished
  -- the three arbiter states, the fault told in state `w`
  have split {u w : State} {kind : FaultKind} {frames : Journal} {n : Option Nat} {run : State → Prop}
      (told : FaultTold u w (.sluice .cross) kind (.sluice .cross) frames) (own : w.sluice .cross = { state := .fault, step := n })
      (calm' : u.Calm) (kept' : u.NothingKept) (arbiter : u.arbiter = s.arbiter) (chambers : u.chambers = s.chambers)
      (levels : ∀ b, u.level b = s.level b)
      (runs : ∀ t, (w.crossFault kind).finish = t → (∀ a, (w.crossFault kind).driveEvent a = t) → run t) :
      (s.arbiter.owner = .idle → s.arbiter.record = none → s.arbiter.timer = none →
        ∃ t, run t ∧ CrossEnded u w t kind none frames)
      ∧ (∀ x, s.arbiter.owner = .ending → s.arbiter.record = some x → s.arbiter.timer = none →
        ∃ t, run t ∧ CrossEnded u w t kind (some x) frames)
      ∧ ∀ x, s.arbiter.owner = .engaged → s.arbiter.record = some x → x.delivered = ⟨false, false⟩ →
        (∀ k, (s.chamber k).state = .fillCross ∨ (s.chamber k).state = .emptyCross) →
        ∃ t, run t ∧ CrossEnded u w t kind (some { x with stop := ⟨s.level .c1, s.level .c2⟩, cause := some (.fault kind) }) frames := by
    obtain ⟨unengaged, engaged⟩ := told.crossFault_ends own calm' kept' (by rw [arbiter]; exact unwished)
    rw [arbiter] at unengaged engaged
    refine ⟨fun owner record timer => ?_, fun x owner record timer => ?_, fun x owner record _ cross => ?_⟩
    · obtain ⟨t, ends, events, ended⟩ := unengaged (by rw [owner]; nofun) timer
      rw [record] at ended
      exact ⟨t, runs t ends events, ended⟩
    · obtain ⟨t, ends, events, ended⟩ := unengaged (by rw [owner]; nofun) timer
      rw [record] at ended
      exact ⟨t, runs t ends events, ended⟩
    · have live : (u.chamber .c1).state.live = true := by
        simp only [State.chamber, chambers]
        rcases cross .c1 with h | h <;> exact (congrArg ChamberState.live h).trans rfl
      obtain ⟨t, ends, events, ended⟩ := engaged owner live
      rw [record, levels, levels] at ended
      exact ⟨t, runs t ends events, ended⟩
  refine ⟨fun x timer => ?_, fun n present head step misplaced => ?_⟩
  · obtain ⟨told, own, sent⟩ := (s.reach x).stallSluice_told .cross
    have run (t : State) (ends : (((s.reach x).stallSluice .cross).crossFault .sluiceStall).finish = t) :
        exec (.sluiceMovementTimeout .cross) s = .next t := by
      rw [← ends]
      show execSluiceMovementTimeout .cross s = _
      unfold execSluiceMovementTimeout
      rw [timer]
      rfl
    have close (t : State) (y : Option CrossRec)
        (h : exec (.sluiceMovementTimeout .cross) s = .next t ∧ CrossEnded (s.reach x) ((s.reach x).stallSluice .cross) t .sluiceStall y
          (((s.reach x).write (.move (.sluice .cross) .stalled s.time)).write (.fault .sluiceStall (.sluice .cross) s.time)).journal) :
        exec (.sluiceMovementTimeout .cross) s = .next t
          ∧ CrossFaulted { s with drive.polls := s.drive.polls } t .sluiceStall (s.sluice .cross).step y ∧ SameRecords s t
          ∧ t.now = max s.now x
          ∧ (true = true → ⟨.sluice .cross, .stop, false⟩ ∈ t.drive.sent.drop s.drive.sent.length)
          ∧ t.capture = s.capture.offer (s.captured .sluiceStall (.sluice .cross)) ∧ (∀ st, .fault ∈ (t.station st).notices)
          ∧ ((∀ k e, (s.gate k e).state.moving = false) → t.journal =
            ((s.write (.move (.sluice .cross) .stalled s.time)).write (.fault .sluiceStall (.sluice .cross) s.time)).journal) := by
      obtain ⟨runs, ended⟩ := h
      obtain ⟨records, now⟩ := ended.taken (s.reach_records x)
      have faulted := ended.faulted { s with drive.polls := s.drive.polls } ⟨rfl, rfl, rfl, rfl, rfl, rfl, rfl⟩
      rw [own] at faulted
      refine ⟨runs, faulted, records, now, fun _ => ?_, ended.capture, ended.notice, fun rest =>
        (ended.journal rest).trans (s.two_frames_reach x _ _)⟩
      refine drop_mem_of_prefix ended.sent ?_
      rw [sent]
      show _ ∈ (s.drive.sent ++ _).drop _
      rw [List.drop_left]
      exact List.mem_singleton_self _
    obtain ⟨idle, ending, engaged⟩ := split told own calm kept rfl rfl (fun _ => rfl) (fun t ends _ => run t ends)
    refine ⟨fun owner record time => ?_, fun y owner record time => ?_, fun y owner record fresh cross => ?_⟩
    · exact (idle owner record time).imp fun t => close t _
    · exact (ending y owner record time).imp fun t => close t _
    · exact (engaged y owner record fresh cross).imp fun t => close t _
  · obtain ⟨told, own, sent⟩ := s.pollClosed.outOfPlace_told .cross n
    have run (t : State) (ends : ((s.pollClosed.outOfPlace .cross n).crossFault .sluicePosition).driveEvent (.sluice .cross) = t) :
        exec (.sluiceReport .cross n) s = .next t := by
      rw [← ends, exec_sluiceReport (q := .cross) present head step,
        State.applySluiceReport_misplaced (s := s.pollClosed) (q := .cross) misplaced, State.sluicePosition_eq]
      rfl
    have close (t : State) (y : Option CrossRec)
        (h : exec (.sluiceReport .cross n) s = .next t ∧ CrossEnded s.pollClosed (s.pollClosed.outOfPlace .cross n) t .sluicePosition y
          ((s.pollClosed.write (.fault .sluicePosition (.sluice .cross) s.time)).write
            (.move (.sluice .cross) (.reachedStep n) s.time)).journal) :
        exec (.sluiceReport .cross n) s = .next t
          ∧ CrossFaulted { s with drive.polls := s.drive.polls.tail } t .sluicePosition (some n) y ∧ SameRecords s t ∧ t.now = s.now
          ∧ (false = true → ⟨.sluice .cross, .stop, false⟩ ∈ t.drive.sent.drop s.drive.sent.length)
          ∧ t.capture = s.capture.offer (s.captured .sluicePosition (.sluice .cross)) ∧ (∀ st, .fault ∈ (t.station st).notices)
          ∧ ((∀ k e, (s.gate k e).state.moving = false) → t.journal =
            ((s.write (.fault .sluicePosition (.sluice .cross) s.time)).write
              (.move (.sluice .cross) (.reachedStep n) s.time)).journal) := by
      obtain ⟨runs, ended⟩ := h
      obtain ⟨records, now⟩ := ended.taken (s := s) ⟨rfl, rfl, rfl, rfl, rfl, rfl, rfl, rfl, rfl, rfl, fun _ => rfl⟩
      have faulted := ended.faulted { s with drive.polls := s.drive.polls.tail } ⟨rfl, rfl, rfl, rfl, rfl, rfl, rfl⟩
      rw [own] at faulted
      refine ⟨runs, faulted, records, now, nofun, ended.capture, ended.notice, fun rest => (ended.journal rest).trans ?_⟩
      exact State.write_journal_congr (State.write_journal_congr (s := s) (t := s.pollClosed) rfl rfl _)
        (((s.pollClosed.write_moved _).reserved.trans rfl).trans (s.write_moved _).reserved.symm) _
    obtain ⟨idle, ending, engaged⟩ := split told own calm kept rfl rfl (fun _ => rfl) (fun t _ events => run t (events _))
    refine ⟨fun owner record time => ?_, fun y owner record time => ?_, fun y owner record fresh cross => ?_⟩
    · exact (idle owner record time).imp fun t => close t _
    · exact (ending y owner record time).imp fun t => close t _
    · exact (engaged y owner record fresh cross).imp fun t => close t _

end Sys2Proof.Machine
end

section
/-! SUPPORT. Gate reports and gate movement timers of a chamber in service (R20 to R22, R42, R51). -/

namespace Sys2Proof.Machine

/-! ## The rest state's step in DIRECTED (R41) -/

/-- R41: in DIRECTED the table's step is a batch change, or the pending order dropped. -/
theorem State.restStep_in_directed {s : State} {k : Chamber} {e : Side} {isOpen : Bool} (rest : (s.chamber k).state.rest = some (e, isOpen))
    (directed : (s.chamber k).mode = .directed) :
    s.restStep k =
      match s.batch k with
      | none => s.dropPending k
      | some b =>
        if isOpen = true ∧ b.state = .bound ∧ b.direction.entryEnd = e then s.becomeEntering k b
        else if isOpen = true ∧ b.state = .secured ∧ b.direction.exitEnd = e then s.becomeLeaving k b
        else s.dropPending k := by
  have unavailable : s.available k = false := by
    unfold State.available
    rw [directed]
    simp
  have manual : (s.chamber k).mode ≠ .automatic := by rw [directed]; nofun
  unfold State.restStep
  rw [rest]
  dsimp only
  cases batch : s.batch k with
  | none =>
    dsimp only
    rw [unavailable]
    rfl
  | some b =>
    dsimp only
    unfold restTable
    cases state : b.state with
    | bound =>
      cases isOpen with
      | true =>
        by_cases entry : b.direction.entryEnd = e
        · simp only [entry, and_self, if_true]
          rfl
        · simp only [entry, and_false, if_false, State.takeRest, manual, reduceCtorEq, false_and]
      | false =>
        by_cases entry : b.direction.entryEnd = e <;> simp [entry, State.takeRest, manual]
    | secured =>
      cases isOpen with
      | true =>
        by_cases exit : b.direction.exitEnd = e
        · simp only [exit, and_self, if_true, reduceCtorEq, false_and, and_false, if_false]
          rfl
        · simp only [exit, and_false, if_false, State.takeRest, manual, reduceCtorEq, false_and]
      | false =>
        by_cases exit : b.direction.exitEnd = e <;> simp [exit, State.takeRest, manual]
    | entering => simp [State.takeRest]
    | leaving => simp [State.takeRest]

/-! ## The movement that brings the chamber to rest (R20, R42) -/

/-- R42: the state of the chamber's sequencer that the end of an ordered movement ends. -/
def GateMove.underway : GateMove → Side → ChamberState
  | .opn, e => openingState e
  | .cls, e => closingState e

/-- R42: the rest state it comes to. -/
def GateMove.restsIn : GateMove → Side → ChamberState
  | .opn, e => openState e
  | .cls, e => shutState e

theorem GateMove.restsIn_rest (m : GateMove) (e : Side) : (m.restsIn e).rest = some (e, decide (m = .opn)) := by
  cases m <;> cases e <;> rfl

theorem State.gateDone_rests {s : State} {k : Chamber} {e : Side} {m : GateMove} (under : (s.chamber k).state = m.underway e)
    (gate : (s.gate k e).state = m.ends) : s.gateDone k e = (s.setChamberState k (m.restsIn e)).push (.rest k) := by
  unfold State.gateDone
  cases m with
  | cls =>
    have closed : s.gateClosed k e = true := decide_eq_true gate
    rw [if_pos (by rw [closed, under]; simp [GateMove.underway])]
    rfl
  | opn =>
    have away : openingState e ≠ closingState e := by cases e <;> nofun
    have opened : (s.gate k e).state = .opened := gate
    rw [if_neg (by rw [under]; simp [GateMove.underway, away]), if_pos (by rw [under, opened]; simp [GateMove.underway])]
    rfl

/-- R42: the end of an ordered movement, its chamber in the state that waits for it: the rest state, and its step. -/
theorem State.gateDone_finish {w : State} {k : Chamber} {e : Side} {m : GateMove} (calm : w.Calm)
    (under : (w.chamber k).state = m.underway e) (gate : (w.gate k e).state = m.ends) {v : State}
    (step : ((w.derive.setChamberState k (m.restsIn e)).derive).restStep k = v) (calm' : v.Calm) :
    (w.push (.gateDone k e)).finish = v.derive := by
  have bare : ({ w with agenda := [] } : State) = w := by rw [← calm.1]
  let u := w.derive.setChamberState k (m.restsIn e)
  have ucalm : u.Calm := calm
  have bareu : ({ u with agenda := [] } : State) = u := by
    have idle : u.agenda = [] := ucalm.1
    rw [← idle]
  have ends := State.finish_two (s := { w with agenda := [.gateDone k e] }) (a := .gateDone k e) (b := .rest k)
    (u := { u with agenda := [.rest k] }) (v := v) rfl
    (by
      show ({ w with agenda := [] } : State).derive.gateDone k e = _
      rw [bare, State.gateDone_rests (s := w.derive) under gate]
      exact State.push_calm ucalm _)
    rfl
    (by
      show ({ u with agenda := [] } : State).derive.restStep k = v
      rw [bareu]
      exact step)
    calm'.1
  rw [State.push_calm calm, ends]
  exact State.clearDeferred_self (s := v.derive) calm'.2

/-- R41, R47, R49: a DIRECTED chamber has come to the rest state `x` of its end `e`; `isOpen` says whether that gate stands open. -/
structure RestTaken (s t : State) (k : Chamber) (e : Side) (isOpen : Bool) (x : ChamberState) : Prop where
  otherChamber : t.chamber k.other = s.chamber k.other
  otherBatch : t.batch k.other = s.batch k.other
  own : match s.batch k with
    | none => t.chamber k = { s.chamber k with state := x } ∧ t.batch k = none
    | some b =>
      if isOpen = true ∧ b.state = .bound ∧ b.direction.entryEnd = e then
        t.batch k = some { b with state := .entering }
          ∧ t.chamber k =
            { s.chamber k with state := x, entry := some (s.now + seconds s.settings.entryLimit), entryOverdue := false }
      else if isOpen = true ∧ b.state = .secured ∧ b.direction.exitEnd = e then
        t.batch k = some { b with state := .leaving }
          ∧ t.chamber k =
            { s.chamber k with
              state := x, leave := some s.newLeave, clearOut := decide (s.settings.leaveLimit ≤ s.settings.clearOutLead)
              leaveOverdue := false }
      else t.batch k = some b ∧ t.chamber k = { s.chamber k with state := x }

/-- The chambers' records, their batches and the signals alone differ. -/
def RestOnly (s t : State) : Prop :=
  t = { s with chambers := t.chambers, book.batches := t.book.batches, signals := t.signals }

/-- A chamber's batch and its sequencer replaced. -/
def State.batchAt (s : State) (k : Chamber) (b : Batch) (c : Sequencer) : State := (s.setBatch k (some b)).setChamber k c

theorem RestOnly.batchAt {s t : State} (h : RestOnly s t) (k : Chamber) (b : Batch) (c : Sequencer) : RestOnly s (t.batchAt k b c) := by
  unfold RestOnly at *
  obtain ⟨z, hz⟩ : ∃ z, t.batchAt k b c = z := ⟨_, rfl⟩
  have ends : z = { t with chambers := z.chambers, book.batches := z.book.batches } := by rw [← hz]; rfl
  have signals : z.signals = t.signals := by rw [ends]
  rw [hz, signals]
  generalize z.chambers = C at ends ⊢
  generalize z.book.batches = B at ends ⊢
  generalize t.chambers = C' at h
  generalize t.signals = G at h ⊢
  generalize t.book.batches = B' at h
  rw [ends, h]

/-- R41: what a batch change of the rest state's step leaves. -/
theorem State.batchAt_facts (s : State) (k : Chamber) (b : Batch) (c : Sequencer) :
    (s.batchAt k b c).chamber k = c ∧ (s.batchAt k b c).chamber k.other = s.chamber k.other ∧ (s.batchAt k b c).batch k = some b
      ∧ (s.batchAt k b c).batch k.other = s.batch k.other := by
  have away : k.other ≠ k := by cases k <;> nofun
  exact ⟨(State.setChamber_chamber ..).trans (if_pos rfl), (State.setChamber_chamber ..).trans (if_neg away),
    (State.setBatch_batch ..).trans (if_pos rfl), (State.setBatch_batch ..).trans (if_neg away)⟩

/-- R41: the step of a rest state in which no order is kept, in DIRECTED. -/
theorem State.restStep_taken {y : State} {k : Chamber} {e : Side} {isOpen : Bool} (rest : (y.chamber k).state.rest = some (e, isOpen))
    (directed : (y.chamber k).mode = .directed) (unkept : (y.chamber k).pendingOrder = none) :
    y.restStep k =
      match y.batch k with
      | none => y
      | some b =>
        if isOpen = true ∧ b.state = .bound ∧ b.direction.entryEnd = e then
          y.batchAt k { b with state := .entering }
            { y.chamber k with entry := some (y.now + seconds y.settings.entryLimit), entryOverdue := false }
        else if isOpen = true ∧ b.state = .secured ∧ b.direction.exitEnd = e then
          y.batchAt k { b with state := .leaving }
            { y.chamber k with
              leave := some y.newLeave, clearOut := decide (y.settings.leaveLimit ≤ y.settings.clearOutLead), leaveOverdue := false }
        else y := by
  have dropped : y.dropPending k = y := by
    unfold State.dropPending
    have same : ({ y.chamber k with pendingOrder := none } : Sequencer) = y.chamber k := by rw [← unkept]
    rw [same, State.setChamber_self]
  rw [State.restStep_in_directed rest directed, dropped]
  have enters (b : Batch) : y.becomeEntering k b = y.batchAt k { b with state := .entering }
      { y.chamber k with entry := some (y.now + seconds y.settings.entryLimit), entryOverdue := false } := by
    show y.batchAt k _
      { y.chamber k with
        entry := some (y.now + seconds y.settings.entryLimit), entryOverdue := false, pendingOrder := none } = _
    rw [← unkept]
  have leaves (b : Batch) : y.becomeLeaving k b = y.batchAt k { b with state := .leaving }
      { y.chamber k with
        leave := some y.newLeave, clearOut := decide (y.settings.leaveLimit ≤ y.settings.clearOutLead), leaveOverdue := false } := by
    show y.batchAt k _
      { y.chamber k with
        leave := some y.newLeave, clearOut := decide (y.settings.leaveLimit ≤ y.settings.clearOutLead), leaveOverdue := false
        pendingOrder := none } = _
    rw [← unkept]
  cases y.batch k with
  | none => rfl
  | some b =>
    dsimp only
    rw [enters, leaves]

/-- The rest state entered and its step taken, in DIRECTED. -/
theorem State.restTaken {w : State} {k : Chamber} {e : Side} {isOpen : Bool} {x : ChamberState} (rest : x.rest = some (e, isOpen))
    (directed : (w.chamber k).mode = .directed) (unkept : (w.chamber k).pendingOrder = none) (calm : w.Calm) :
    ∃ v, ((w.derive.setChamberState k x).derive).restStep k = v ∧ v.Calm ∧ RestTaken w v k e isOpen x ∧ RestOnly w v := by
  obtain ⟨y, hy⟩ : ∃ y, (w.derive.setChamberState k x).derive = y := ⟨_, rfl⟩
  have away : k.other ≠ k := by cases k <;> nofun
  have entered : w.derive.setChamberState k x =
      { w with chambers := w.chambers.set k { w.chamber k with state := x, pendingOrder := none }, signals := w.derive.signals } := rfl
  have frame : y = { w with
      chambers := w.chambers.set k { w.chamber k with state := x, pendingOrder := none }, signals := y.signals } := by
    rw [← hy, State.derive_frame, entered]
  have chamber (j : Chamber) : y.chamber j = if j = k then { w.chamber k with state := x, pendingOrder := none } else w.chamber j := by
    rw [frame]
    exact PerChamber.get_set ..
  have own : y.chamber k = { w.chamber k with state := x } := by
    rw [chamber, if_pos rfl, ← unkept]
  have other : y.chamber k.other = w.chamber k.other := (chamber _).trans (if_neg away)
  have batch (j : Chamber) : y.batch j = w.batch j := by rw [frame]; rfl
  have ycalm : y.Calm := by rw [frame]; exact calm
  have only : RestOnly w y := by
    unfold RestOnly
    have book : y.book = w.book := by rw [frame]
    have chambers : y.chambers = w.chambers.set k { w.chamber k with state := x, pendingOrder := none } := by rw [frame]
    rw [book, chambers]
    exact frame
  have now : y.now = w.now := by rw [frame]
  have settings : y.settings = w.settings := by rw [frame]
  have step := State.restStep_taken (y := y) (k := k) (by rw [own]; exact rest) (by rw [own]; exact directed) (by rw [own]; exact unkept)
  rw [hy, step]
  clear hy step frame entered
  rw [batch, own]
  have lead : y.newLeave = w.newLeave := by rw [State.newLeave, State.newLeave, now, settings]
  rw [lead, now, settings]
  cases held : w.batch k with
  | none =>
    refine ⟨y, rfl, ycalm, ⟨other, batch _, ?_⟩, only⟩
    rw [held]
    exact ⟨own, (batch k).trans held⟩
  | some b =>
    dsimp only
    by_cases enters : isOpen = true ∧ b.state = .bound ∧ b.direction.entryEnd = e
    · rw [if_pos enters]
      refine ⟨_, rfl, ycalm, ?_, only.batchAt ..⟩
      obtain ⟨hc, ho, hb, hbo⟩ := y.batchAt_facts k { b with state := .entering }
        { w.chamber k with state := x, entry := some (w.now + seconds w.settings.entryLimit), entryOverdue := false }
      refine ⟨ho.trans other, hbo.trans (batch _), ?_⟩
      rw [held]
      exact (if_pos enters).mpr ⟨hb, hc⟩
    · rw [if_neg enters]
      by_cases leaves : isOpen = true ∧ b.state = .secured ∧ b.direction.exitEnd = e
      · rw [if_pos leaves]
        refine ⟨_, rfl, ycalm, ?_, only.batchAt ..⟩
        obtain ⟨hc, ho, hb, hbo⟩ := y.batchAt_facts k { b with state := .leaving }
          { w.chamber k with
            state := x, leave := some w.newLeave, clearOut := decide (w.settings.leaveLimit ≤ w.settings.clearOutLead)
            leaveOverdue := false }
        refine ⟨ho.trans other, hbo.trans (batch _), ?_⟩
        rw [held]
        exact (if_neg enters).mpr ((if_pos leaves).mpr ⟨hb, hc⟩)
      · rw [if_neg leaves]
        refine ⟨y, rfl, ycalm, ⟨other, batch _, ?_⟩, only⟩
        rw [held]
        exact (if_neg enters).mpr ((if_neg leaves).mpr ⟨(batch k).trans held, own⟩)

/-- R20, R42: the expected REACHED of a gate whose chamber waits for it. -/
theorem gateReport_rests {s : State} {k : Chamber} {e : Side} {m : GateMove} {r : GateReport} (calm : s.Calm) (kept : s.NothingKept)
    (present : s.chamberPresent k = true) (head : s.drive.polls.head? = some (.gate k e)) (ordered : (s.gate k e).outstanding = some m)
    (known : (s.gate k e).state ≠ .unknown) (expected : gatePosition r = some m.ends) (fault : r ≠ .driveFault)
    (directed : (s.chamber k).mode = .directed) (under : (s.chamber k).state = m.underway e) :
    ∃ t, exec (.gateReport k e r) s = .next t ∧ SameLevels s t ∧ SameOthers s t (.gate k e)
      ∧ t = { s with
          drive := t.drive, levels := t.levels, chambers := t.chambers, book.batches := t.book.batches
          signals := t.signals, journal := t.journal, stations := t.stations }
      ∧ t.gate k e = { state := m.ends } ∧ t.journal = (s.write (.move (.gate k e) m.outcome s.time)).journal
      ∧ RestTaken s t k e (decide (m = .opn)) (m.restsIn e) := by
  obtain ⟨told, own⟩ := s.pollClosed.atPosition_told (k := k) (e := e) m.ends_ne_opening
  rw [reachedOutcome_ends] at told
  have kept' : (s.pollClosed.atPosition k e m.ends).NothingKept :=
    NothingKept.of_moved (s := s.pollClosed) kept told.toActuatorMoved fun _ _ same => nomatch same
  have run : exec (.gateReport k e r) s =
      .next (((s.pollClosed.atPosition k e m.ends).push (.gateDone k e)).driveEvent (.gate k e)) := by
    rw [exec_gateReport present head, State.applyGateReport_ordered (s := s.pollClosed) ordered known fault, if_pos expected,
      State.gateReaches_eq]
  generalize s.pollClosed.atPosition k e m.ends = w at told own kept' run
  have chamber (j : Chamber) : w.chamber j = s.chamber j := told.chamber j
  have batch (j : Chamber) : w.batch j = s.batch j := told.batch j
  have wcalm : w.Calm := told.calm calm.pollClosed
  obtain ⟨v, step, vcalm, rests, frame⟩ := State.restTaken (w := w) (k := k) (m.restsIn_rest e) (by rw [chamber]; exact directed)
    (by rw [chamber]; exact kept.1 k) wcalm
  have ends : (w.push (.gateDone k e)).finish = v.derive :=
    State.gateDone_finish wcalm (by rw [chamber]; exact under) (by rw [own]) step vcalm
  have asked : (w.push (.gateDone k e)).NothingKept := by
    rw [State.push_calm wcalm]
    exact kept'
  rw [State.driveEvent, State.retries_kept asked, ends] at run
  unfold RestOnly at frame
  have drive : v.drive = w.drive := by rw [frame]
  have levels : v.levels = w.levels := by rw [frame]
  have journal : v.journal = w.journal := by rw [frame]
  refine ⟨v.derive, run, (SameLevels.of_core told.core).of_levels rfl levels, ⟨fun k' e' out => ?_, fun q out => ?_, ?_⟩, ?_, ?_, ?_,
    ⟨rests.otherChamber.trans (chamber _), rests.otherBatch.trans (batch _), ?_⟩⟩
  · exact (gate_of_drive (s := w) drive k' e').trans (told.gates k' e' out)
  · exact (sluice_of_drive (s := w) drive q).trans (told.sluices q out)
  · have guards : SameGuards s w := told.guards
    unfold SameGuards
    show v.drive.overflow = _ ∧ v.drive.cycleStart = _ ∧ v.levels.forceFast = _
    rw [drive, levels]
    exact guards
  · have f := told.frame
    rw [told.capture] at f
    obtain ⟨z, hz⟩ : ∃ z, v.derive = z := ⟨_, rfl⟩
    have derived : z = { v with signals := z.signals } := by rw [← hz, State.derive_frame]
    have zd : z.drive = w.drive := by rw [derived]; exact drive
    have zl : z.levels = w.levels := by rw [derived]; exact levels
    have zj : z.journal = w.journal := by rw [derived]; exact journal
    have zs : z.stations = w.stations := by rw [derived]; show v.stations = _; rw [frame]
    have zc : z.chambers = v.chambers := by rw [derived]
    have zb : z.book.batches = v.book.batches := by rw [derived]
    rw [hz, zd, zl, zj, zs, zc, zb]
    generalize z.signals = G at derived ⊢
    generalize v.chambers = C at frame ⊢
    generalize v.book.batches = B at frame ⊢
    generalize v.signals = G' at frame
    generalize w.drive = D at f ⊢
    generalize w.levels = L at f ⊢
    generalize w.journal = J at f ⊢
    generalize w.stations = N at f ⊢
    rw [derived, frame, f]
    rfl
  · exact (gate_of_drive (s := w) drive k e).trans own
  · refine journal.trans (told.journal.trans ?_)
    exact State.write_journal_congr (s := s) (t := s.pollClosed) rfl rfl _
  · have now : w.now = s.now := told.now
    have settings : w.settings = s.settings := told.settings
    have result := rests.own
    unfold State.newLeave at result ⊢
    rw [batch, chamber, now, settings] at result
    exact result

end Sys2Proof.Machine
end

section
/-! SUPPORT. The gate reports of a chamber in service that halt it, are taken late, or change nothing (R20 to R22, R51). -/

namespace Sys2Proof.Machine

/-! ## What a report of a gate without an order does (R21) -/

theorem State.applyGateReport_idle {s : State} {k : Chamber} {e : Side} {r : GateReport} (unordered : (s.gate k e).outstanding = none)
    (known : (s.gate k e).state ≠ .unknown) (fault : r ≠ .driveFault) : s.applyGateReport k e r = s.idleReport k e r := by
  show (if (s.gate k e).state = .unknown then s else if r = .driveFault then _ else match (s.gate k e).outstanding with
    | some m => _ | none => _) = _
  rw [if_neg known, if_neg fault, unordered]

/-- R22: a DRIVE_FAULT of a gate that is not STALLED. -/
theorem State.applyGateReport_fault {s : State} {k : Chamber} {e : Side} (known : (s.gate k e).state ≠ .unknown)
    (stalled : (s.gate k e).state ≠ .stalled) :
    s.applyGateReport k e .driveFault = (s.stallGate k e).faultHalt k .gateStall none := by
  show (if (s.gate k e).state = .unknown then s else if GateReport.driveFault = .driveFault then s.gateDriveFault k e else _) = _
  rw [if_neg known, if_pos rfl]
  unfold State.gateDriveFault
  cases state : (s.gate k e).state <;> first | rfl | exact absurd state stalled

/-- R21: a position that the gate was not held at, and had not been on its way to. -/
theorem State.idleReport_stray {s : State} {k : Chamber} {e : Side} {r : GateReport} {m : GateMove}
    (position : gatePosition r = some m.ends) (elsewhere : (s.gate k e).state ≠ m.ends)
    (held : (s.gate k e).state = .closed ∨ (s.gate k e).state = .opened
      ∨ (s.gate k e).state = .stopped ∧ (s.gate k e).lastMove = none) :
    s.idleReport k e r = s.unexpectedReach k e m.ends := by
  unfold State.idleReport
  rcases held with held | held | ⟨held, fresh⟩
  · simp only [held, position]
    rw [held] at elsewhere
    cases m with
    | opn => rfl
    | cls => exact absurd rfl elsewhere
  · simp only [held, position]
    rw [held] at elsewhere
    cases m with
    | opn => exact absurd rfl elsewhere
    | cls => rfl
  · simp only [held, position, fresh]
    rfl

/-- R21: a report that the gate has left its end, where it had been held. -/
theorem State.idleReport_left {s : State} {k : Chamber} {e : Side} {r : GateReport} (left : r = .leftClosed ∨ r = .leftOpen)
    (held : (s.gate k e).state = .closed ∨ (s.gate k e).state = .opened
      ∨ (s.gate k e).state = .stopped
        ∧ ¬((s.gate k e).lastMove = some .opn ∧ r = .leftClosed ∨ (s.gate k e).lastMove = some .cls ∧ r = .leftOpen)) :
    s.idleReport k e r = s.unexpectedLeft k e := by
  have nowhere : gatePosition r = none := by rcases left with rfl | rfl <;> rfl
  unfold State.idleReport
  rcases held with held | held | ⟨held, fresh⟩
  · simp only [held, nowhere]
  · simp only [held, nowhere]
  · simp only [held, nowhere]
    refine if_neg fun late => fresh ?_
    cases last : (s.gate k e).lastMove with
    | none => rw [last] at late; cases late
    | some m =>
      rw [last] at late
      cases m with
      | opn => injection late with late; exact .inl ⟨rfl, late.symm⟩
      | cls => injection late with late; exact .inr ⟨rfl, late.symm⟩

/-- R21: the position that a gate stopped, or stalled, on its way was sent to, or another. -/
theorem State.idleReport_late {s : State} {k : Chamber} {e : Side} {r : GateReport} {m : GateMove}
    (position : gatePosition r = some m.ends)
    (moved : (s.gate k e).state = .stalled ∨ (s.gate k e).state = .stopped ∧ (s.gate k e).lastMove ≠ none) :
    s.idleReport k e r = s.gateReaches k e m.ends := by
  unfold State.idleReport
  rcases moved with stalled | ⟨stopped, moved⟩
  · simp only [stalled, position]
  · simp only [stopped, position]
    exact if_pos (Option.isSome_iff_ne_none.mpr moved)

/-- R21: the reports that change nothing. -/
theorem State.idleReport_nothing {s : State} {k : Chamber} {e : Side} {r : GateReport}
    (same : (s.gate k e).state = .closed ∧ r = .closedReached ∨ (s.gate k e).state = .opened ∧ r = .openReached
      ∨ (s.gate k e).state = .stopped
        ∧ ((s.gate k e).lastMove = some .opn ∧ r = .leftClosed ∨ (s.gate k e).lastMove = some .cls ∧ r = .leftOpen)
      ∨ (s.gate k e).state = .stalled ∧ (r = .leftClosed ∨ r = .leftOpen)) : s.idleReport k e r = s := by
  unfold State.idleReport
  rcases same with ⟨held, rfl⟩ | ⟨held, rfl⟩ | ⟨held, late⟩ | ⟨held, left⟩
  · simp only [held, gatePosition]
  · simp only [held, gatePosition]
  · rcases late with ⟨last, rfl⟩ | ⟨last, rfl⟩
    · simp only [held, gatePosition]
      exact if_pos (by rw [last]; rfl)
    · simp only [held, gatePosition]
      exact if_pos (by rw [last]; rfl)
  · rcases left with rfl | rfl <;> simp only [held, gatePosition]

/-! ## A gate's fault in service (R21, R22, R51) -/

/-- What a fault of a gate leaves, told from the state `s` before the event. -/
theorem FaultHalted.gate {s u w t : State} {k : Chamber} {e : Side} {f : FaultKind} {x : Gate} {frames frames' : Journal}
    (halted : FaultHalted u w t k f (.gate k e) frames (some e)) (told : FaultTold u w (.gate k e) f (.gate k e) frames)
    (own : w.gate k e = x) (rest : x.state.moving = false) (records : SameRecords s u) (levels : u.levels = s.levels)
    (drive : u.drive.gates = s.drive.gates) (same : frames = frames') :
    SameRecords s t ∧ SameLevels s t ∧ t.gate k e = x ∧ t.now = u.now
      ∧ ((s.gate k e.other).state.moving = false → t.journal = frames') := by
  have gates (k' : Chamber) (e' : Side) : u.gate k' e' = s.gate k' e' := by simp only [State.gate, drive]
  refine ⟨records.trans (SameRecords.of_core halted.core), (SameLevels.of_core halted.core).of_levels levels.symm rfl, ?_,
    now_of_core halted.core, fun other => (halted.journal fun i => ?_).trans same⟩
  · rw [halted.gates e (by rw [own]; exact rest), own]
  · by_cases here : i = e
    · rw [here, own]
      exact rest
    · have there : i = e.other := by revert here; cases i <;> cases e <;> simp [Side.other]
      rw [there, told.gates k e.other (by cases e <;> nofun), gates]
      exact other

theorem SameRecords.pollClosed (s : State) : SameRecords s s.pollClosed :=
  ⟨rfl, rfl, rfl, rfl, rfl, rfl, rfl, rfl, rfl, rfl, fun _ => rfl⟩

theorem State.two_frames_polled (s : State) (f g : Frame) :
    ((s.pollClosed.write f).write g).journal = ((s.write f).write g).journal :=
  State.write_journal_congr (State.write_journal_congr (s := s) (t := s.pollClosed) rfl rfl f)
    (((s.pollClosed.write_moved f).reserved.trans rfl).trans (s.write_moved f).reserved.symm) g

section
variable {s : State} {k : Chamber} {e : Side} (calm : s.Calm) (free : s.CrossFree) (kept : s.KeptOnlyBy k)
include calm free kept

/-- R22: the movement timer of a gate of a chamber in service. -/
theorem gateTimer_halts {x : Nat} (timer : (s.gate k e).timer = some x) (live : (s.chamber k).state.live = true) :
    ∃ t, exec (.gateMovementTimeout k e) s = .next t
      ∧ FaultHalted (s.reach x) ((s.reach x).stallGate k e) t k .gateStall (.gate k e)
        (((s.reach x).write (.move (.gate k e) .stalled s.time)).write (.fault .gateStall (.gate k e) s.time)).journal (some e) := by
  obtain ⟨told, own, sent⟩ := (s.reach x).stallGate_told k e
  obtain ⟨t, ends, _, halted⟩ := told.halts (tasks := []) (.gate e) calm free kept live (.inl rfl)
  refine ⟨t, ?_, halted⟩
  show execGateMovementTimeout k e s = _
  unfold execGateMovementTimeout
  rw [timer, ← ends]
  have idle : ((s.reach x).stallGate k e).agenda = [] := (told.calm calm).1
  rw [← idle]

variable (present : s.chamberPresent k = true) (head : s.drive.polls.head? = some (.gate k e))
include present head

/-- R22: a DRIVE_FAULT of a gate of a chamber in service. -/
theorem gateFault_halts (known : (s.gate k e).state ≠ .unknown) (stalled : (s.gate k e).state ≠ .stalled)
    (live : (s.chamber k).state.live = true) :
    ∃ t, exec (.gateReport k e .driveFault) s = .next t
      ∧ FaultHalted s.pollClosed (s.pollClosed.stallGate k e) t k .gateStall (.gate k e)
        ((s.pollClosed.write (.move (.gate k e) .stalled s.time)).write (.fault .gateStall (.gate k e) s.time)).journal (some e) := by
  obtain ⟨told, own, sent⟩ := s.pollClosed.stallGate_told k e
  obtain ⟨t, _, ends, halted⟩ := told.halts (tasks := []) (.gate e) calm free kept live (.inl rfl)
  refine ⟨t, ?_, halted⟩
  rw [exec_gateReport present head, State.applyGateReport_fault (s := s.pollClosed) known stalled, ← ends (.gate k e)]
  have idle : (s.pollClosed.stallGate k e).agenda = [] := (told.calm calm).1
  rw [← idle]

/-- R21: an unexpected position. -/
theorem gateStray_halts {m : GateMove} {r : GateReport} (position : gatePosition r = some m.ends) (fault : r ≠ .driveFault)
    (unordered : (s.gate k e).outstanding = none) (elsewhere : (s.gate k e).state ≠ m.ends)
    (held : (s.gate k e).state = .closed ∨ (s.gate k e).state = .opened
      ∨ (s.gate k e).state = .stopped ∧ (s.gate k e).lastMove = none) (live : (s.chamber k).state.live = true) :
    ∃ t, exec (.gateReport k e r) s = .next t
      ∧ FaultHalted s.pollClosed (s.pollClosed.strayAt k e m.ends) t k .unexpectedMove (.gate k e)
        ((s.pollClosed.write (.fault .unexpectedMove (.gate k e) s.time)).write (.move (.gate k e) m.outcome s.time)).journal
        (some e) := by
  obtain ⟨told, own⟩ := s.pollClosed.strayAt_told (k := k) (e := e) m.ends_ne_opening
  rw [reachedOutcome_ends] at told
  obtain ⟨t, _, ends, halted⟩ := told.halts (tasks := [.gateDone k e]) (.gate e) calm free kept live (.inr ⟨e, rfl⟩)
  have known : (s.gate k e).state ≠ .unknown := by rcases held with h | h | ⟨h, _⟩ <;> rw [h] <;> nofun
  refine ⟨t, ?_, halted⟩
  rw [exec_gateReport present head, State.applyGateReport_idle (s := s.pollClosed) unordered known fault,
    State.idleReport_stray (s := s.pollClosed) position elsewhere held, State.unexpectedReach_eq,
    State.push_calm (told.calm calm.pollClosed), ends]

/-- R21: a gate that has left its position. -/
theorem gateLeft_halts {r : GateReport} (left : r = .leftClosed ∨ r = .leftOpen) (unordered : (s.gate k e).outstanding = none)
    (held : (s.gate k e).state = .closed ∨ (s.gate k e).state = .opened
      ∨ (s.gate k e).state = .stopped
        ∧ ¬((s.gate k e).lastMove = some .opn ∧ r = .leftClosed ∨ (s.gate k e).lastMove = some .cls ∧ r = .leftOpen))
    (live : (s.chamber k).state.live = true) :
    ∃ t, exec (.gateReport k e r) s = .next t
      ∧ FaultHalted s.pollClosed (s.pollClosed.strayLeft k e) t k .unexpectedMove (.gate k e)
        ((s.pollClosed.write (.fault .unexpectedMove (.gate k e) s.time)).write (.move (.gate k e) .stopped s.time)).journal
        (some e) := by
  obtain ⟨told, own, sent⟩ := s.pollClosed.strayLeft_told k e
  obtain ⟨t, _, ends, halted⟩ := told.halts (tasks := []) (.gate e) calm free kept live (.inl rfl)
  have known : (s.gate k e).state ≠ .unknown := by rcases held with h | h | ⟨h, _⟩ <;> rw [h] <;> nofun
  have fault : r ≠ .driveFault := by rcases left with rfl | rfl <;> nofun
  refine ⟨t, ?_, halted⟩
  rw [exec_gateReport present head, State.applyGateReport_idle (s := s.pollClosed) unordered known fault,
    State.idleReport_left (s := s.pollClosed) left held, State.unexpectedLeft_eq, ← ends (.gate k e)]
  have idle : (s.pollClosed.strayLeft k e).agenda = [] := (told.calm calm).1
  rw [← idle]

end

/-- R21: a late position taken, in a chamber that waits for no movement of that gate. -/
theorem gateReport_late {s : State} {k : Chamber} {e : Side} {m : GateMove} {r : GateReport} (calm : s.Calm) (kept : s.NothingKept)
    (still : s.Still (.gateDone k e)) (present : s.chamberPresent k = true) (head : s.drive.polls.head? = some (.gate k e))
    (unordered : (s.gate k e).outstanding = none) (position : gatePosition r = some m.ends) (fault : r ≠ .driveFault)
    (moved : (s.gate k e).state = .stalled ∨ (s.gate k e).state = .stopped ∧ (s.gate k e).lastMove ≠ none) :
    ∃ t, exec (.gateReport k e r) s = .next t
      ∧ ReportTaken s t (.gate k e) (s.write (.move (.gate k e) m.outcome s.time)).journal ∧ t.gate k e = { state := m.ends } := by
  obtain ⟨told, own⟩ := s.pollClosed.atPosition_told (k := k) (e := e) m.ends_ne_opening
  rw [reachedOutcome_ends] at told
  have kept' : (s.pollClosed.atPosition k e m.ends).NothingKept :=
    NothingKept.of_moved (s := s.pollClosed) kept told.toActuatorMoved fun _ _ same => nomatch same
  obtain ⟨ends, taken⟩ := State.report_takes told calm kept' (.inr ⟨_, rfl, told.still_gate (s := s.pollClosed) still⟩)
  have known : (s.gate k e).state ≠ .unknown := by rcases moved with h | ⟨h, _⟩ <;> rw [h] <;> nofun
  refine ⟨_, ?_, ⟨taken.frame, taken.records, taken.levels, taken.others, taken.sent, taken.queries, taken.polls, ?_⟩, own⟩
  · rw [exec_gateReport present head, State.applyGateReport_idle (s := s.pollClosed) unordered known fault,
      State.idleReport_late (s := s.pollClosed) position moved, State.gateReaches_eq, ends]
  · exact taken.journal.trans (State.write_journal_congr (s := s) (t := s.pollClosed) rfl rfl _)

/-- R20: the REACHED report of the end of a movement. -/
def GateMove.report : GateMove → GateReport
  | .opn => .openReached
  | .cls => .closedReached

theorem GateMove.report_ends (m : GateMove) : gatePosition m.report = some m.ends ∧ m.report ≠ .driveFault := by
  cases m <;> exact ⟨rfl, nofun⟩

theorem GateMove.ends_rest (m : GateMove) : m.ends.moving = false := by cases m <;> rfl

/-- Settles O20. -/
theorem gateReportsInService : Obligations.GateReportsInService := by
  intro s k e calm free kept present
  dsimp only
  refine ⟨fun head => ⟨fun m r ordered known all directed movement => ?_, fun unordered service unhalted => ⟨?_, ?_⟩,
    fun unordered all => ⟨?_, ?_⟩, fun known stalled service unhalted => ?_⟩, fun x timer service unhalted => ?_⟩
  · have expected : gatePosition r = some m.ends := by rcases movement with ⟨rfl, rfl, _⟩ | ⟨rfl, rfl, _⟩ <;> rfl
    have fault : r ≠ .driveFault := by rcases movement with ⟨_, rfl, _⟩ | ⟨_, rfl, _⟩ <;> nofun
    have under : (s.chamber k).state = m.underway e := by rcases movement with ⟨rfl, _, h⟩ | ⟨rfl, _, h⟩ <;> exact h
    obtain ⟨t, run, levels, others, frame, gate, journal, rests⟩ :=
      gateReport_rests calm all present head ordered known expected fault directed under
    refine ⟨t, run, levels, others, frame, ?_, ?_, rests.otherChamber, rests.otherBatch, ?_⟩
    · cases m <;> exact gate
    · cases m <;> exact journal
    · have result := rests.own
      unfold State.newLeave at result
      cases held : s.batch k with
      | none =>
        rw [held] at result
        cases m <;> exact result
      | some b =>
        rw [held] at result
        dsimp only at result ⊢
        by_cases enters : m = .opn ∧ b.state = .bound ∧ b.direction.entryEnd = e
        · rw [if_pos (by simpa using enters)] at result
          rw [if_pos enters]
          cases m <;> exact result
        · rw [if_neg (by simpa using enters)] at result
          rw [if_neg enters]
          by_cases leaves : m = .opn ∧ b.state = .secured ∧ b.direction.exitEnd = e
          · rw [if_pos (by simpa using leaves)] at result
            rw [if_pos leaves]
            cases m <;> exact result
          · rw [if_neg (by simpa using leaves)] at result
            rw [if_neg leaves]
            cases m <;> exact result
  · intro m r reached elsewhere held
    have reports : r = m.report := by cases m <;> exact reached
    obtain ⟨position, fault⟩ := m.report_ends
    rw [← reports] at position fault
    have elsewhere' : (s.gate k e).state ≠ m.ends := by cases m <;> exact elsewhere
    obtain ⟨t, run, halted⟩ := gateStray_halts calm free kept present head position fault unordered elsewhere' held
      ((ChamberState.live_iff _).mpr ⟨service, unhalted⟩)
    obtain ⟨told, own⟩ := s.pollClosed.strayAt_told (k := k) (e := e) m.ends_ne_opening
    rw [reachedOutcome_ends] at told
    obtain ⟨records, levels, gate, now, journal⟩ :=
      halted.gate told own m.ends_rest (SameRecords.pollClosed s) rfl rfl (s.two_frames_polled _ _)
    refine ⟨t, run, halted.halted, records, levels, ?_, halted.capture, halted.notice, now, nofun, ?_⟩
    · cases m <;> exact gate
    · cases m <;> exact journal
  · intro r left held
    obtain ⟨t, run, halted⟩ := gateLeft_halts calm free kept present head left unordered held
      ((ChamberState.live_iff _).mpr ⟨service, unhalted⟩)
    obtain ⟨told, own, sent⟩ := s.pollClosed.strayLeft_told k e
    obtain ⟨records, levels, gate, now, journal⟩ :=
      halted.gate told own rfl (SameRecords.pollClosed s) rfl rfl (s.two_frames_polled _ _)
    refine ⟨t, run, halted.halted, records, levels, gate, halted.capture, halted.notice, now, fun _ => ?_, journal⟩
    refine drop_mem_of_prefix halted.sent ?_
    rw [sent]
    show _ ∈ (s.drive.sent ++ _).drop _
    rw [List.drop_left]
    exact List.mem_singleton_self _
  · intro m r reached moved opening closing
    have reports : r = m.report := by cases m <;> exact reached
    obtain ⟨position, fault⟩ := m.report_ends
    rw [← reports] at position fault
    obtain ⟨t, run, taken, own⟩ := gateReport_late calm all ⟨closing, opening⟩ present head unordered position fault moved
    refine ⟨t, run, taken.frame, taken.levels, taken.others, ?_, ?_, taken.sent⟩
    · cases m <;> exact own
    · cases m <;> exact taken.journal
  · intro r same
    have known : (s.gate k e).state ≠ .unknown := by rcases same with ⟨h, _⟩ | ⟨h, _⟩ | ⟨h, _⟩ | ⟨h, _⟩ <;> rw [h] <;> nofun
    have fault : r ≠ .driveFault := by
      rcases same with ⟨_, rfl⟩ | ⟨_, rfl⟩ | ⟨_, ⟨_, rfl⟩ | ⟨_, rfl⟩⟩ | ⟨_, rfl | rfl⟩ <;> nofun
    obtain ⟨t, run, taken, own⟩ := gateReport_nothing calm all present head
      ((State.applyGateReport_idle (s := s.pollClosed) unordered known fault).trans (State.idleReport_nothing (s := s.pollClosed) same))
    exact ⟨t, run, taken.frame, taken.levels, taken.others, own, taken.journal, taken.sent⟩
  · obtain ⟨t, run, halted⟩ := gateFault_halts calm free kept present head known stalled
      ((ChamberState.live_iff _).mpr ⟨service, unhalted⟩)
    obtain ⟨told, own, sent⟩ := s.pollClosed.stallGate_told k e
    obtain ⟨records, levels, gate, now, journal⟩ :=
      halted.gate told own rfl (SameRecords.pollClosed s) rfl rfl (s.two_frames_polled _ _)
    refine ⟨t, run, halted.halted, records, levels, gate, halted.capture, halted.notice, now, fun _ => ?_, journal⟩
    refine drop_mem_of_prefix halted.sent ?_
    rw [sent]
    show _ ∈ (s.drive.sent ++ _).drop _
    rw [List.drop_left]
    exact List.mem_singleton_self _
  · obtain ⟨t, run, halted⟩ := gateTimer_halts calm free kept timer ((ChamberState.live_iff _).mpr ⟨service, unhalted⟩)
    obtain ⟨told, own, sent⟩ := (s.reach x).stallGate_told k e
    obtain ⟨records, levels, gate, now, journal⟩ :=
      halted.gate told own rfl (s.reach_records x) rfl rfl (s.two_frames_reach x _ _)
    refine ⟨t, run, halted.halted, records, levels, gate, halted.capture, halted.notice, now, fun _ => ?_, journal⟩
    refine drop_mem_of_prefix halted.sent ?_
    rw [sent]
    show _ ∈ (s.drive.sent ++ _).drop _
    rw [List.drop_left]
    exact List.mem_singleton_self _

end Sys2Proof.Machine
end

section
/-! SUPPORT. The drive line: its polls, its discarded reports and its echoes (R17, R27). -/

namespace Sys2Proof.Machine

/-! ## The orders sent -/

/-- R17: the oldest sending of a drive, and the others. -/
theorem takeSent_oldest {a : Actuator} {x : Sent} {l r : List Sent} (own : x.actuator = a) (older : ∀ y ∈ l, y.actuator ≠ a) :
    takeSent a (l ++ x :: r) = some (x, l ++ r) := by
  induction l with
  | nil => exact if_pos own
  | cons y ys ih =>
    have rest := ih fun z mem => older z (List.mem_cons_of_mem _ mem)
    rw [List.cons_append, takeSent, if_neg (older y List.mem_cons_self), rest]
    rfl

/-- R17: a state whose orders sent are those without one that has been given up. -/
def State.unsent (s : State) (l : List Sent) : State := { s with drive.sent := l }

theorem State.unsent_records (s : State) (l : List Sent) : SameRecords s (s.unsent l) :=
  ⟨rfl, rfl, rfl, rfl, rfl, rfl, rfl, rfl, rfl, rfl, fun _ => rfl⟩

section
variable {s : State} {a : Actuator} {x : Sent} {l r : List Sent} (sent : s.drive.sent = l ++ x :: r) (own : x.actuator = a)
  (older : ∀ y ∈ l, y.actuator ≠ a)
include sent own older

theorem exec_orderEcho : exec (.orderEcho a) s = .next { s with drive.sent := l ++ r } := by
  show execOrderEcho a s = _
  unfold execOrderEcho
  rw [sent, takeSent_oldest own older]

theorem exec_echoTimeout :
    exec (.echoTimeout a) s =
      if x.resent then .next (((s.unsent (l ++ r)).echoFailed a).driveEvent a)
      else .next { s with drive.sent := l ++ r ++ [{ x with resent := true }] } := by
  show execEchoTimeout a s = _
  unfold execEchoTimeout
  rw [sent, takeSent_oldest own older]
  rfl

end

/-! ## A second failed echo (R17, R22, R25) -/

/-- R17: where the drive is already known to have failed, or its actuator is UNKNOWN, nothing follows. -/
theorem State.driveEvent_nothing {u : State} (calm : u.Calm) (kept : u.NothingKept) (a : Actuator) : u.driveEvent a = u.settled := by
  rw [State.driveEvent, State.retries_kept kept, State.finish_nil u calm.1]

theorem State.echoFailed_gate {u : State} {k : Chamber} {e : Side} (known : (u.gate k e).state ≠ .unknown)
    (stalled : (u.gate k e).state ≠ .stalled) : u.echoFailed (.gate k e) = (u.stallGate k e).faultHalt k .gateStall none :=
  State.applyGateReport_fault known stalled

theorem State.echoFailed_gate_nothing {u : State} {k : Chamber} {e : Side}
    (failed : (u.gate k e).state = .unknown ∨ (u.gate k e).state = .stalled) : u.echoFailed (.gate k e) = u := by
  show (if (u.gate k e).state = .unknown then u else if GateReport.driveFault = .driveFault then u.gateDriveFault k e else _) = u
  rcases failed with unknown | stalled
  · rw [if_pos unknown]
  · rw [if_neg (by rw [stalled]; nofun), if_pos rfl]
    unfold State.gateDriveFault
    rw [stalled]

theorem State.echoFailed_sluice {u : State} {q : Sluice} (known : (u.sluice q).state ≠ .unknown) (fault : (u.sluice q).state ≠ .fault) :
    u.echoFailed (.sluice q) = (u.stallSluice q).sluiceFault q .sluiceStall := by
  unfold State.echoFailed
  cases state : (u.sluice q).state <;> first | exact absurd state known | exact absurd state fault | simp only [state]

theorem State.echoFailed_sluice_nothing {u : State} {q : Sluice}
    (failed : (u.sluice q).state = .unknown ∨ (u.sluice q).state = .fault) : u.echoFailed (.sluice q) = u := by
  unfold State.echoFailed
  rcases failed with h | h <;> simp only [h]

/-- A fault of which no chamber's sequencer takes notice. -/
theorem FaultTold.alone {u w : State} {a : Actuator} {f : FaultKind} {x : Subject} {frames : Journal} {k : Chamber}
    (told : FaultTold u w a f x frames) (calm : u.Calm) (kept : w.NothingKept) (out : (u.chamber k).state.live = false) :
    (w.faultHalt k f none).driveEvent a = w.derive := by
  rw [State.faultHalt_out (by rw [told.chamber]; exact out)]
  have bare : w = { w with agenda := [] } := by rw [← (told.calm calm).1]
  have ends := (told.ends (tasks := []) calm kept (.inl rfl)).2 a
  rw [← bare] at ends
  exact ends

theorem State.live_of_not {s : State} {k : Chamber}
    (out : ¬((s.chamber k).state ≠ .outOfService ∧ (s.chamber k).state ≠ .halted)) : (s.chamber k).state.live = false := by
  cases h : (s.chamber k).state.live with
  | false => rfl
  | true => exact absurd ((ChamberState.live_iff _).mp h) out

/-- What every second failed echo leaves. -/
def EchoFails (s u t : State) (a : Actuator) (f : FaultKind) (y : Subject) : Prop :=
  exec (.echoTimeout a) s = .next t ∧ SameRecords s t ∧ SameLevels s t ∧ t.now = s.now
    ∧ ⟨a, .stop, false⟩ ∈ t.drive.sent.drop u.drive.sent.length
    ∧ t.capture = s.capture.offer (s.captured f y) ∧ ∀ st, .fault ∈ (t.station st).notices

/-- What a second failed echo that no chamber's sequencer takes notice of leaves beside its actuator. -/
def EchoAlone (u t : State) (a : Actuator) : Prop :=
  t = { u with
      drive := t.drive, levels := t.levels, signals := t.signals, journal := t.journal, stations := t.stations
      capture := t.capture }
    ∧ SameOthers u t a ∧ SameLine u t ∧ t.drive.sent = u.drive.sent ++ [⟨a, .stop, false⟩]

theorem stop_mem_of_sent {s w t : State} {a : Actuator} (sent : w.drive.sent = s.drive.sent ++ [⟨a, .stop, false⟩])
    (after : w.drive.sent <+: t.drive.sent) : ⟨a, .stop, false⟩ ∈ t.drive.sent.drop s.drive.sent.length := by
  refine drop_mem_of_prefix after ?_
  rw [sent, List.drop_left]
  exact List.mem_singleton_self _

section
variable {s : State} {a : Actuator} {l : List Sent}
  (run : exec (.echoTimeout a) s = .next (((s.unsent l).echoFailed a).driveEvent a)) (calm : s.Calm)
include run calm

/-- R22, R51: of a gate of a chamber in service. -/
theorem echoFailed_gate_halts {k : Chamber} {e : Side} (gate : a = .gate k e) (known : (s.gate k e).state ≠ .unknown)
    (stalled : (s.gate k e).state ≠ .stalled) (live : (s.chamber k).state.live = true) (free : s.CrossFree) (kept : s.KeptOnlyBy k) :
    ∃ t, (EchoFails s (s.unsent l) t a .gateStall (.gate k e)
        ∧ t.gate k e = { s.gate k e with state := .stalled, outstanding := none, timer := none, surge := false })
      ∧ HaltedIn (s.unsent l) t k (s.chamber k).state (.fault .gateStall) (some e)
      ∧ ((s.gate k e.other).state.moving = false → t.journal =
        (((s.unsent l).write (.move a .stalled s.time)).write (.fault .gateStall (.gate k e) s.time)).journal) := by
  subst gate
  obtain ⟨told, own, sent⟩ := (s.unsent l).stallGate_told k e
  obtain ⟨t, _, ends, halted⟩ := told.halts (tasks := []) (.gate e) calm free kept live (.inl rfl)
  obtain ⟨records, levels, gate, now, journal⟩ := halted.gate told own rfl (s.unsent_records l) rfl rfl rfl
  have bare : ({ (s.unsent l).stallGate k e with agenda := [] } : State) = (s.unsent l).stallGate k e := by
    rw [← (told.calm calm).1]
  rw [State.echoFailed_gate (u := s.unsent l) known stalled, ← bare, ends] at run
  exact ⟨t, ⟨⟨run, records, levels, now, stop_mem_of_sent sent halted.sent, halted.capture, halted.notice⟩, gate⟩, halted.halted, journal⟩

/-- R22: of a gate of another chamber. -/
theorem echoFailed_gate_alone {k : Chamber} {e : Side} (gate : a = .gate k e) (known : (s.gate k e).state ≠ .unknown)
    (stalled : (s.gate k e).state ≠ .stalled) (out : (s.chamber k).state.live = false) (kept : s.NothingKept) :
    ∃ t, (EchoFails s (s.unsent l) t a .gateStall (.gate k e)
        ∧ t.gate k e = { s.gate k e with state := .stalled, outstanding := none, timer := none, surge := false })
      ∧ EchoAlone (s.unsent l) t a
      ∧ t.journal = (((s.unsent l).write (.move a .stalled s.time)).write (.fault .gateStall (.gate k e) s.time)).journal := by
  subst gate
  obtain ⟨told, own, sent⟩ := (s.unsent l).stallGate_told k e
  have nothing : ((s.unsent l).stallGate k e).NothingKept :=
    NothingKept.of_moved (s := s.unsent l) kept told.toActuatorMoved fun _ _ same => nomatch same
  rw [State.echoFailed_gate (u := s.unsent l) known stalled, told.alone calm nothing out] at run
  refine ⟨_, ⟨⟨run, (s.unsent_records l).trans (SameRecords.of_core ((State.derive_core _).trans told.core)),
    (SameLevels.of_core told.core).of_levels rfl rfl, told.now, ?_, told.capture, told.notice⟩, own⟩,
    ⟨told.derived, told.sameOthers, told.line, sent⟩, told.journal⟩
  exact stop_mem_of_sent (t := ((s.unsent l).stallGate k e).derive) sent (List.prefix_refl _)

/-- R25, R51: of a sluice of a chamber in service. -/
theorem echoFailed_sluice_halts {k : Chamber} {e : Side} (sluice : a = .sluice (.chamber k e))
    (known : (s.sluice (.chamber k e)).state ≠ .unknown) (unfailed : (s.sluice (.chamber k e)).state ≠ .fault)
    (live : (s.chamber k).state.live = true) (free : s.CrossFree) (kept : s.KeptOnlyBy k) :
    ∃ t, EchoFails s (s.unsent l) t a .sluiceStall (.sluice (.chamber k e))
      ∧ HaltedIn (s.unsent l) t k (s.chamber k).state (.fault .sluiceStall) none
      ∧ t.sluice (.chamber k e) =
        { state := .moving, step := (s.sluice (.chamber k e)).step, target := some (.step 0)
          timer := some (s.now + seconds s.settings.sluiceLimit) }
      ∧ ⟨a, .move 0, false⟩ ∈ t.drive.sent.drop (s.unsent l).drive.sent.length
      ∧ ((∀ i, (s.gate k i).state.moving = false) → t.journal =
        (((s.unsent l).write (.move a .stalled s.time)).write (.fault .sluiceStall (.sluice (.chamber k e)) s.time)).journal) := by
  subst sluice
  obtain ⟨told, own, sent⟩ := (s.unsent l).stallSluice_told (.chamber k e)
  have fault : (((s.unsent l).stallSluice (.chamber k e)).sluice (.chamber k e)).state = .fault := by rw [own]
  obtain ⟨t, _, ends, halted⟩ := told.halts (tasks := []) (.sluice e fault) calm free kept live (.inl rfl)
  have bare : ({ (s.unsent l).stallSluice (.chamber k e) with agenda := [] } : State) = (s.unsent l).stallSluice (.chamber k e) := by
    rw [← (told.calm calm).1]
  have failed : (s.unsent l).echoFailed (.sluice (.chamber k e)) =
      ((s.unsent l).stallSluice (.chamber k e)).faultHalt k .sluiceStall none :=
    State.echoFailed_sluice (u := s.unsent l) (q := .chamber k e) known unfailed
  rw [failed, ← bare, ends] at run
  refine ⟨t, ⟨run, (s.unsent_records l).trans (SameRecords.of_core halted.core), (SameLevels.of_core halted.core).of_levels rfl rfl,
    now_of_core halted.core, stop_mem_of_sent sent halted.sent, halted.capture, halted.notice⟩, halted.halted, ?_, ?_, fun rest => ?_⟩
  · refine (halted.sluices e).trans ((SluiceRec.shutBy_fault fault _).trans ?_)
    rw [own]
    rfl
  · exact drop_mem_of_le told.sent.length_le (halted.ordered e (SluiceRec.stands_fault fault))
  · refine halted.journal fun i => ?_
    rw [told.gates k i (by nofun)]
    exact rest i

/-- R25: of a sluice of another chamber. -/
theorem echoFailed_sluice_alone {k : Chamber} {e : Side} (sluice : a = .sluice (.chamber k e))
    (known : (s.sluice (.chamber k e)).state ≠ .unknown) (unfailed : (s.sluice (.chamber k e)).state ≠ .fault)
    (out : (s.chamber k).state.live = false) (kept : s.NothingKept) :
    ∃ t, EchoFails s (s.unsent l) t a .sluiceStall (.sluice (.chamber k e)) ∧ EchoAlone (s.unsent l) t a
      ∧ t.sluice (.chamber k e) = { state := .fault, step := (s.sluice (.chamber k e)).step }
      ∧ t.journal =
        (((s.unsent l).write (.move a .stalled s.time)).write (.fault .sluiceStall (.sluice (.chamber k e)) s.time)).journal := by
  subst sluice
  obtain ⟨told, own, sent⟩ := (s.unsent l).stallSluice_told (.chamber k e)
  have nothing : ((s.unsent l).stallSluice (.chamber k e)).NothingKept := by
    refine NothingKept.of_moved (s := s.unsent l) kept told.toActuatorMoved fun q r same ramp => ?_
    injection same with same
    rw [← same, own] at ramp
    cases ramp
  have failed : (s.unsent l).echoFailed (.sluice (.chamber k e)) =
      ((s.unsent l).stallSluice (.chamber k e)).faultHalt k .sluiceStall none :=
    State.echoFailed_sluice (u := s.unsent l) (q := .chamber k e) known unfailed
  rw [failed, told.alone calm nothing out] at run
  refine ⟨_, ⟨run, (s.unsent_records l).trans (SameRecords.of_core ((State.derive_core _).trans told.core)),
    (SameLevels.of_core told.core).of_levels rfl rfl, told.now, ?_, told.capture, told.notice⟩,
    ⟨told.derived, told.sameOthers, told.line, sent⟩, own, told.journal⟩
  exact stop_mem_of_sent (t := ((s.unsent l).stallSluice (.chamber k e)).derive) sent (List.prefix_refl _)

/-- R73: of the cross sluice, the arbiter free. -/
theorem echoFailed_cross (cross : a = .sluice .cross) (known : (s.sluice .cross).state ≠ .unknown)
    (unfailed : (s.sluice .cross).state ≠ .fault) (kept : s.NothingKept) (free : s.CrossFree) (untimed : s.arbiter.timer = none) :
    ∃ t, EchoFails s (s.unsent l) t a .sluiceStall (.sluice .cross)
      ∧ CrossFaulted (s.unsent l) t .sluiceStall (s.sluice .cross).step none
      ∧ ((∀ k e, (s.gate k e).state.moving = false) → t.journal =
        (((s.unsent l).write (.move a .stalled s.time)).write (.fault .sluiceStall (.sluice .cross) s.time)).journal) := by
  subst cross
  obtain ⟨told, own, sent⟩ := (s.unsent l).stallSluice_told .cross
  obtain ⟨idle, unrecorded, unwished⟩ := free
  obtain ⟨t, _, ends, ended⟩ := (told.crossFault_ends own calm kept unwished).1
    (by rw [show (s.unsent l).arbiter.owner = .idle from idle]; nofun) untimed
  have failed : (s.unsent l).echoFailed (.sluice .cross) = ((s.unsent l).stallSluice .cross).crossFault .sluiceStall :=
    State.echoFailed_sluice (u := s.unsent l) (q := .cross) known unfailed
  rw [failed, ends] at run
  have faulted := ended.faulted (s.unsent l) ⟨rfl, rfl, rfl, rfl, rfl, rfl, rfl⟩
  rw [own, show (s.unsent l).arbiter.record = none from unrecorded] at faulted
  obtain ⟨records, now⟩ := ended.taken (s.unsent_records l)
  exact ⟨t, ⟨run, records, (SameLevels.of_core ended.core).of_levels rfl rfl, now, stop_mem_of_sent sent ended.sent, ended.capture,
    ended.notice⟩, faulted, ended.journal⟩

end

/-- Settles O18. -/
theorem driveLineExchangesAndDiscards : Obligations.DriveLineExchangesAndDiscards := by
  refine ⟨fun s => ⟨fun left idle => ?_, fun a rest polls => ⟨?_, ?_⟩, fun k e r out => ?_, fun q n out => ?_⟩,
    fun s a x l r sent own older => ⟨exec_orderEcho sent own older, fun fresh => ?_, fun resent calm => ?_⟩⟩
  · show execDrivePollCycle s = _
    unfold execDrivePollCycle
    rw [left, idle]
    rfl
  · show Host.Outcome.next s.pollClosed = _
    unfold State.pollClosed
    rw [polls]
    rfl
  · show Host.Outcome.next s.pollClosed = _
    unfold State.pollClosed
    rw [polls]
    rfl
  · have unpolled : s.polled (.gate k e) = false := by
      unfold State.polled
      simp [out]
    show execGateReport k e r s = _
    unfold execGateReport
    rw [unpolled]
    rfl
  · have unpolled : s.polled (.sluice q) = false := by
      unfold State.polled
      simp [out]
    show execSluiceReport q n s = _
    unfold execSluiceReport
    rw [unpolled]
    rfl
  · exact (exec_echoTimeout sent own older).trans (by rw [fresh]; rfl)
  · have run : exec (.echoTimeout a) s = .next (((s.unsent (l ++ r)).echoFailed a).driveEvent a) :=
      (exec_echoTimeout sent own older).trans (if_pos resent)
    refine ⟨fun k e gate failed kept => ?_, fun q sluice failed kept => ?_, fun k e gate known stalled => ⟨fun live free kept => ?_,
      fun out kept => ?_⟩, fun k e sluice known unfailed => ⟨fun live free kept => ?_, fun out kept => ?_⟩,
      fun cross known unfailed kept free untimed => ?_⟩
    · subst gate
      rw [run, State.echoFailed_gate_nothing (u := s.unsent (l ++ r)) failed, State.driveEvent_nothing (u := s.unsent (l ++ r)) calm kept]
      rfl
    · subst sluice
      rw [run, State.echoFailed_sluice_nothing (u := s.unsent (l ++ r)) failed,
        State.driveEvent_nothing (u := s.unsent (l ++ r)) calm kept]
      rfl
    · exact echoFailed_gate_halts run calm gate known stalled ((ChamberState.live_iff _).mpr live) free kept
    · exact echoFailed_gate_alone run calm gate known stalled (State.live_of_not out) kept
    · exact echoFailed_sluice_halts run calm sluice known unfailed ((ChamberState.live_iff _).mpr live) free kept
    · exact echoFailed_sluice_alone run calm sluice known unfailed (State.live_of_not out) kept
    · exact echoFailed_cross run calm cross known unfailed kept free untimed

end Sys2Proof.Machine
end

section
/-! SUPPORT. The STATUS query and its answers (R15, R27, R73, R74). -/

namespace Sys2Proof.Machine

/-! ## The open queries -/

theorem State.query_dropQuery (s : State) (a : Actuator) :
    (s.dropQuery a).query a = none ∧ ∀ b, b ≠ a → (s.dropQuery a).query b = s.query b := by
  refine ⟨?_, fun b out => ?_⟩
  · refine List.find?_eq_none.mpr fun q mem => ?_
    have kept := (List.mem_filter.mp mem).2
    simpa using kept
  · show (s.drive.queries.filter _).find? _ = s.drive.queries.find? _
    rw [List.find?_filter]
    congr 1
    funext q
    by_cases own : q.actuator = b
    · simp [own, out]
    · simp [own]

/-- R27: the query asked once more. -/
theorem State.query_repeated {s : State} {a : Actuator} {q : Query} (asked : s.query a = some q) {t : State}
    (queries : t.drive.queries = s.drive.queries.map fun x => if x.actuator = a then { x with repeated := true } else x) :
    t.query a = some { q with repeated := true } ∧ ∀ b, b ≠ a → t.query b = s.query b := by
  have same (b : Actuator) : (fun q : Query => decide (q.actuator = b)) ∘ (fun x => if x.actuator = a then { x with repeated := true } else x)
      = fun q : Query => decide (q.actuator = b) := by
    funext x
    show decide ((if x.actuator = a then { x with repeated := true } else x).actuator = b) = _
    split <;> rfl
  have found (b : Actuator) : t.query b = (s.query b).map fun x => if x.actuator = a then { x with repeated := true } else x := by
    unfold State.query
    rw [queries, List.find?_map, same]
  refine ⟨?_, fun b out => ?_⟩
  · have own : q.actuator = a := by simpa using List.find?_some asked
    rw [found, asked, Option.map_some, if_pos own]
  · rw [found]
    cases mine : s.query b with
    | none => rfl
    | some x =>
      have own : x.actuator = b := by simpa using List.find?_some mine
      rw [Option.map_some, if_neg (by rw [own]; exact out)]

theorem State.statusAnswered_of_query {s : State} {b : Actuator} (asked : (s.query b).isSome = true) : s.statusAnswered = false := by
  unfold State.statusAnswered
  unfold State.query at asked
  cases queries : s.drive.queries with
  | nil => rw [queries] at asked; cases asked
  | cons _ _ => rfl

/-! ## The answers that set an actuator (R27) -/

/-- R27: the answers that set an actuator, each with the record it gives. -/
def StatusSets (s : State) (a : Actuator) (x : StatusAnswer) (u : State) : Prop :=
  (∃ k e g,
    let expiry := some (s.now + seconds ((s.settings.chamber.get k).gateLimit.get e))
    a = .gate k e ∧ u = s.putGate k e g
      ∧ (x, g) ∈
        [(StatusAnswer.closed, ({ state := .closed } : Gate)), (.opened, { state := .opened }),
          (.intermediate, { state := .stopped }),
          (.movingOpen, { state := .opening, outstanding := some .opn, timer := expiry }),
          (.movingClosed, { state := .closing, outstanding := some .cls, timer := expiry })])
  ∨ ∃ w r m n, a = .sluice w ∧ u = s.putSluice w r ∧ m ≤ 8 ∧ n ≤ 8
    ∧ (x, r) ∈
      [(StatusAnswer.atRest n, ({ state := if n = 0 then .shut else .held, step := some n } : SluiceRec)),
        (.moving m n,
          { state := .moving, step := some n, target := some (.step m)
            timer := some (s.now + seconds s.settings.sluiceLimit) })]

/-- Of a state one actuator's record alone differs. -/
structure ActuatorPut (s u : State) (a : Actuator) : Prop extends ActuatorMoved s u a where
  only : u = { s with drive := u.drive }
  unsent : u.drive.sent = s.drive.sent
  ramps : ∀ q, a = .sluice q → (u.sluice q).ramp = none

theorem State.putGate_put (s : State) (k : Chamber) (e : Side) (g : Gate) : ActuatorPut s (s.putGate k e g) (.gate k e) :=
  ⟨⟨s.putGate_moved k e g, fun _ _ out => (State.putGate_gate ..).trans (if_neg fun ⟨hk, he⟩ => out (by rw [hk, he])),
    fun _ _ => State.putGate_sluice ..⟩, rfl, rfl, fun _ same => nomatch same⟩

theorem State.putSluice_put (s : State) (q : Sluice) {r : SluiceRec} (unramped : r.ramp = none) :
    ActuatorPut s (s.putSluice q r) (.sluice q) :=
  ⟨⟨s.putSluice_moved q r, fun _ _ _ => State.putSluice_gate ..,
    fun _ out => (State.putSluice_sluice ..).trans (if_neg fun same => out (by rw [same]))⟩, by cases q <;> rfl, by cases q <;> rfl,
    fun q' same => by injection same with same; rw [← same, State.putSluice_sluice, if_pos rfl, unramped]⟩

/-- R27: with the query open, an actuator set is its record alone replaced. -/
theorem State.setGate_open {s : State} (unanswered : s.statusAnswered = false) (k : Chamber) (e : Side) (g : Gate) :
    s.setGate k e g = s.putGate k e (if g.state = .opening then g else { g with surge := false }) :=
  State.noteFast_open (s.putGate k e _) s unanswered unanswered

theorem State.setSluice_open {s : State} (unanswered : s.statusAnswered = false) (q : Sluice) (r : SluiceRec) :
    s.setSluice q r = s.putSluice q r := by
  have same : (s.putSluice q r).statusAnswered = false := by
    rw [← unanswered]
    cases q <;> rfl
  exact State.noteFast_open _ s same unanswered

theorem State.statusOf_sets {s u : State} {a : Actuator} {x : StatusAnswer} (unanswered : s.statusAnswered = false)
    (sets : StatusSets s a x u) : s.statusOf a x = some u ∧ ActuatorPut s u a ∧ u.unknownActuator a = false := by
  rcases sets with ⟨k, e, g, rfl, rfl, mem⟩ | ⟨w, r, m, n, rfl, rfl, hm, hn, mem⟩
  · refine ⟨?_, s.putGate_put k e g, ?_⟩
    · simp only [List.mem_cons, Prod.mk.injEq, List.not_mem_nil, or_false] at mem
      rcases mem with ⟨rfl, rfl⟩ | ⟨rfl, rfl⟩ | ⟨rfl, rfl⟩ | ⟨rfl, rfl⟩ | ⟨rfl, rfl⟩ <;>
        exact congrArg some (State.setGate_open unanswered k e _)
    · have own : (s.putGate k e g).gate k e = g := (State.putGate_gate ..).trans (if_pos ⟨rfl, rfl⟩)
      show decide (((s.putGate k e g).gate k e).state = .unknown) = false
      rw [own]
      simp only [List.mem_cons, Prod.mk.injEq, List.not_mem_nil, or_false] at mem
      rcases mem with ⟨_, rfl⟩ | ⟨_, rfl⟩ | ⟨_, rfl⟩ | ⟨_, rfl⟩ | ⟨_, rfl⟩ <;> rfl
  · have own : (s.putSluice w r).sluice w = r := (State.putSluice_sluice ..).trans (if_pos rfl)
    simp only [List.mem_cons, Prod.mk.injEq, List.not_mem_nil, or_false] at mem
    rcases mem with ⟨rfl, rfl⟩ | ⟨rfl, rfl⟩
    · refine ⟨?_, s.putSluice_put w rfl, ?_⟩
      · show (if n ≤ 8 then some (s.setSluice w { state := sluiceAt n, step := some n }) else none) = _
        rw [if_pos hn, State.setSluice_open unanswered]
        rfl
      · show decide (((s.putSluice w _).sluice w).state = .unknown) = false
        rw [own]
        dsimp only
        split <;> rfl
    · refine ⟨?_, s.putSluice_put w rfl, ?_⟩
      · show (if m ≤ 8 ∧ n ≤ 8 then some (s.setSluice w { state := .moving, step := some n, target := some (.step m), timer := some s.sluiceExpiry }) else none) = _
        rw [if_pos ⟨hm, hn⟩, State.setSluice_open unanswered]
        rfl
      · show decide (((s.putSluice w _).sluice w).state = .unknown) = false
        rw [own]
        rfl

/-! ## While another query is open -/

theorem State.dropQuery_open {s : State} {a b : Actuator} (other : b ≠ a) (asked : (s.query b).isSome = true) :
    (s.dropQuery a).statusAnswered = false :=
  State.statusAnswered_of_query (b := b) (by rw [(s.query_dropQuery a).2 b other]; exact asked)

theorem State.query_of_queries {s t : State} (queries : t.drive.queries = s.drive.queries) (b : Actuator) : t.query b = s.query b := by
  unfold State.query
  rw [queries]

/-- The report of an answer, or its want, that nothing follows. -/
theorem State.calm_event {u : State} (calm : u.Calm) (kept : u.NothingKept) (a : Actuator) : u.driveEvent a = u.derive := by
  rw [State.driveEvent, State.retries_kept kept, State.finish_calm calm]

/-- R27: an answer that sets its actuator, another drive's query still open. -/
theorem statusAnswer_open {s u : State} {a b : Actuator} {q : Query} {x : StatusAnswer} (quiet : s.Quiet) (asked : s.query a = some q)
    (other : b ≠ a) (open_ : (s.query b).isSome = true) (sets : StatusSets s a x u) :
    exec (.statusAnswer a x) s = .next (u.dropQuery a).derive := by
  obtain ⟨statusOf, put, _⟩ := State.statusOf_sets (State.statusAnswered_of_query open_) sets
  have still : (u.query b).isSome = true := by
    rw [State.query_of_queries put.line.1]
    exact open_
  have calm : (u.dropQuery a).Calm := put.calm quiet.1
  have kept : u.NothingKept := NothingKept.of_moved quiet.nothingKept put.toActuatorMoved fun w r own ramp => by
    rw [put.ramps w own] at ramp
    cases ramp
  show execStatusAnswer a x s = _
  unfold execStatusAnswer
  rw [asked, statusOf]
  show Host.Outcome.next (u.closeQuery a) = _
  rw [State.closeQuery_open u a (State.dropQuery_open other still), State.calm_event calm kept]

/-- R27: no answer to a first query. -/
theorem statusTimeout_repeats {s : State} {a : Actuator} {q : Query} (quiet : s.Quiet) (asked : s.query a = some q)
    (first : q.repeated = false) :
    exec (.statusTimeout a) s = .next
      ({ s with drive.queries := s.drive.queries.map fun x => if x.actuator = a then { x with repeated := true } else x } : State).derive := by
  show execStatusTimeout a s = _
  unfold execStatusTimeout
  rw [asked]
  show Host.Outcome.next (s.noStatus a q) = _
  unfold State.noStatus
  rw [first]
  exact congrArg Host.Outcome.next (State.finish_calm (s := { s with
    drive.queries := s.drive.queries.map fun x => if x.actuator = a then { x with repeated := true } else x }) quiet.1)

/-! ## The answer "fault" (R27) -/

theorem State.statusFault_gate {s : State} {k : Chamber} {e : Side} (unanswered : s.statusAnswered = false) (step : Option Nat)
    (out : (s.chamber k).state.live = false) :
    s.statusFault (.gate k e) step = (s.putGate k e { state := .stalled }).raiseFault .gateStall (.gate k e) := by
  show ((s.setGate k e { state := .stalled }).raiseFault .gateStall (.gate k e)).faultHalt k .gateStall none = _
  rw [State.setGate_open unanswered]
  refine State.faultHalt_out ?_ _ _
  rw [(State.raiseFault_moved ..).chamber]
  exact out

theorem State.statusFault_sluice {s : State} {w : Sluice} (unanswered : s.statusAnswered = false) (step : Option Nat) :
    s.statusFault (.sluice w) step =
      ((s.putSluice w { state := .fault, step := step }).raiseFault .sluiceStall (.sluice w)).sluiceFault w .sluiceStall := by
  show ((s.setSluice w { state := .fault, step := step }).raiseFault .sluiceStall (.sluice w)).sluiceFault w .sluiceStall = _
  rw [State.setSluice_open unanswered]

/-- R27: a failed drive's actuator, its fault raised. -/
theorem ActuatorPut.raiseFault {s v : State} {a : Actuator} (put : ActuatorPut s v a) {f : FaultKind} (hard : f.hard = true) (x : Subject) :
    FaultTold s (v.raiseFault f x) a f x (s.write (.fault f x s.time)).journal
      ∧ v.raiseFault f x = { s with
          drive := v.drive, journal := (v.raiseFault f x).journal, stations := (v.raiseFault f x).stations
          capture := (v.raiseFault f x).capture } := by
  have journal : v.journal = s.journal := by rw [put.only]
  have capture : v.capture = s.capture := by rw [put.only]
  have told := put.toActuatorMoved.raiseFault hard x capture
  refine ⟨⟨told.toActuatorMoved, told.journal.trans (put.write_journal journal _), told.capture, told.notice⟩, ?_⟩
  have frame : v.raiseFault f x = { v with
      journal := (v.raiseFault f x).journal, stations := (v.raiseFault f x).stations, capture := (v.raiseFault f x).capture } :=
    State.raiseFault_frame ..
  have only := put.only
  generalize v.raiseFault f x = y at frame ⊢
  generalize y.journal = J at frame ⊢
  generalize y.stations = N at frame ⊢
  generalize y.capture = C at frame ⊢
  generalize v.drive = D at only ⊢
  rw [frame, only]

theorem NothingKept.of_put {s v w : State} {a : Actuator} (kept : s.NothingKept) (put : ActuatorPut s v a) (moved : ActuatorMoved s w a)
    (drive : w.drive = v.drive) : w.NothingKept :=
  NothingKept.of_moved kept moved fun q r own ramp => by
    rw [sluice_of_drive (s := v) drive, put.ramps q own] at ramp
    cases ramp

/-- R27: what the answer "fault" leaves, beside what it says of its actuator. -/
structure StatusFaulted (s t : State) (a : Actuator) : Prop where
  records : SameRecords s t
  others : SameOthers s t a
  frame : t = { s with
    drive := t.drive, journal := t.journal, stations := t.stations, capture := t.capture, signals := t.signals
    arbiter.owner := t.arbiter.owner }
  query : t.query a = none
  queries : ∀ b, b ≠ a → t.query b = s.query b
  polls : t.drive.polls = s.drive.polls
  notice : ∀ st, .fault ∈ (t.station st).notices

theorem FaultTold.statusFaulted {s v w : State} {a : Actuator} {f : FaultKind} {x : Subject} {frames : Journal}
    (told : FaultTold s w a f x frames)
    (frame : w = { s with drive := v.drive, journal := w.journal, stations := w.stations, capture := w.capture }) :
    StatusFaulted s (w.dropQuery a).derive a := by
  have queries : w.drive.queries = s.drive.queries := told.line.1
  obtain ⟨closed, others⟩ := w.query_dropQuery a
  refine ⟨SameRecords.of_core ((State.derive_core _).trans ((w.dropQuery_core a).trans told.core)), ⟨told.gates, told.sluices, told.guards⟩, ?_, closed,
    fun b out => (others b out).trans (State.query_of_queries queries b), told.line.2, told.notice⟩
  obtain ⟨z, hz⟩ : ∃ z, (w.dropQuery a).derive = z := ⟨_, rfl⟩
  have ends : z = { w with drive := z.drive, signals := z.signals } := by rw [← hz]; rfl
  have journal : z.journal = w.journal := by rw [ends]
  have stations : z.stations = w.stations := by rw [ends]
  have capture : z.capture = w.capture := by rw [ends]
  have arbiter : z.arbiter = s.arbiter := by rw [ends]; show w.arbiter = _; rw [frame]
  rw [hz, journal, stations, capture, arbiter]
  generalize z.drive = D at ends ⊢
  generalize z.signals = G at ends ⊢
  generalize w.journal = J at frame ⊢
  generalize w.stations = N at frame ⊢
  generalize w.capture = C at frame ⊢
  rw [ends, frame]

end Sys2Proof.Machine
end

section
/-! SUPPORT. The answer "fault" of a drive (R27, R73). -/

namespace Sys2Proof.Machine

/-- R27: the answers taken for "fault". -/
def FaultAnswer (a : Actuator) (q : Query) (c : Instr) (step : Option Nat) : Prop :=
  c = .statusTimeout a ∧ q.repeated = true ∧ step = none
    ∨ c = .statusAnswer a (.fault step) ∧ ∀ n, step = some n → n ≤ 8 ∧ ∃ w, a = .sluice w

theorem exec_faultAnswer {s : State} {a : Actuator} {q : Query} {c : Instr} {step : Option Nat} (asked : s.query a = some q)
    (answer : FaultAnswer a q c step) : exec c s = .next ((s.statusFault a step).closeQuery a) := by
  rcases answer with ⟨rfl, repeated, rfl⟩ | ⟨rfl, valid⟩
  · show execStatusTimeout a s = _
    unfold execStatusTimeout
    rw [asked]
    show Host.Outcome.next (s.noStatus a q) = _
    unfold State.noStatus
    rw [repeated]
    rfl
  · have statusOf : s.statusOf a (.fault step) = some (s.statusFault a step) := by
      cases step with
      | none =>
        rcases a with ⟨k, e⟩ | w
        · rfl
        · rfl
      | some n =>
        obtain ⟨small, w, rfl⟩ := valid n rfl
        show (if n ≤ 8 then some (s.statusFault (.sluice w) (some n)) else none) = _
        rw [if_pos small]
    show execStatusAnswer a (.fault step) s = _
    unfold execStatusAnswer
    rw [asked, statusOf]

/-- R27: a state in which the fault has been raised, the query then closed. -/
theorem closeQuery_fault {s : State} {a b : Actuator} (quiet : s.Quiet) (other : b ≠ a) (open_ : (s.query b).isSome = true) {f : FaultKind} {x : Subject} {frames : Journal} {v w : State} (put : ActuatorPut s v a)
    (told : FaultTold s w a f x frames) (drive : w.drive = v.drive) : w.closeQuery a = (w.dropQuery a).derive := by
  have still : (w.query b).isSome = true := by
    rw [State.query_of_queries told.line.1]
    exact open_
  have calm : (w.dropQuery a).Calm := told.calm quiet.1
  have kept : w.NothingKept := NothingKept.of_put quiet.nothingKept put told.toActuatorMoved drive
  rw [State.closeQuery_open w a (State.dropQuery_open other still), State.calm_event calm kept]

section
variable {s : State} {a b : Actuator} {q : Query} {c : Instr} {step : Option Nat} (quiet : s.Quiet) (asked : s.query a = some q)
  (other : b ≠ a) (open_ : (s.query b).isSome = true) (answer : FaultAnswer a q c step)
include quiet asked other open_ answer

theorem statusFault_gate {k : Chamber} {e : Side} (gate : a = .gate k e) :
    ∃ t, exec c s = .next t ∧ StatusFaulted s t a ∧ t.gate k e = { state := .stalled } ∧ t.drive.sent = s.drive.sent
      ∧ t.arbiter = s.arbiter ∧ t.journal = (s.write (.fault .gateStall (.gate k e) s.time)).journal
      ∧ t.capture = s.capture.offer (s.captured .gateStall (.gate k e)) := by
  subst gate
  have put := s.putGate_put k e { state := .stalled }
  have own : (s.putGate k e { state := .stalled }).gate k e = { state := .stalled } :=
    (State.putGate_gate ..).trans (if_pos ⟨rfl, rfl⟩)
  obtain ⟨told, frame⟩ := put.raiseFault (f := .gateStall) rfl (.gate k e)
  have drive := (s.putGate k e { state := .stalled }).raiseFault_drive' .gateStall (.gate k e)
  have run := exec_faultAnswer asked answer
  rw [State.statusFault_gate (State.statusAnswered_of_query open_) step (quiet.out k)] at run
  have closed := closeQuery_fault quiet other open_ put told drive
  rw [closed] at run
  have arbiter := told.arbiter
  exact ⟨_, run, told.statusFaulted frame, (gate_of_drive drive k e).trans own, (congrArg Drive.sent drive).trans put.unsent, arbiter,
    told.journal, told.capture⟩

theorem statusFault_sluice {k : Chamber} {e : Side} (sluice : a = .sluice (.chamber k e)) :
    ∃ t, exec c s = .next t ∧ StatusFaulted s t a ∧ t.sluice (.chamber k e) = { state := .fault, step := step }
      ∧ t.drive.sent = s.drive.sent ∧ t.arbiter = s.arbiter
      ∧ t.journal = (s.write (.fault .sluiceStall (.sluice (.chamber k e)) s.time)).journal
      ∧ t.capture = s.capture.offer (s.captured .sluiceStall (.sluice (.chamber k e))) := by
  subst sluice
  have put := s.putSluice_put (.chamber k e) (r := { state := .fault, step := step }) rfl
  have own : (s.putSluice (.chamber k e) { state := .fault, step := step }).sluice (.chamber k e) = { state := .fault, step := step } :=
    (State.putSluice_sluice ..).trans (if_pos rfl)
  obtain ⟨told, frame⟩ := put.raiseFault (f := .sluiceStall) rfl (.sluice (.chamber k e))
  have drive := (s.putSluice (.chamber k e) { state := .fault, step := step }).raiseFault_drive' .sluiceStall (.sluice (.chamber k e))
  have run := exec_faultAnswer asked answer
  rw [State.statusFault_sluice (State.statusAnswered_of_query open_) step] at run
  have unhalted : ((s.putSluice (.chamber k e) { state := .fault, step := step }).raiseFault .sluiceStall
        (.sluice (.chamber k e))).sluiceFault (.chamber k e) .sluiceStall
      = (s.putSluice (.chamber k e) { state := .fault, step := step }).raiseFault .sluiceStall (.sluice (.chamber k e)) :=
    State.faultHalt_out (by rw [told.chamber]; exact quiet.out k) _ _
  rw [unhalted, closeQuery_fault quiet other open_ put told drive] at run
  have arbiter := told.arbiter
  exact ⟨_, run, told.statusFaulted frame, (sluice_of_drive drive _).trans own, (congrArg Drive.sent drive).trans put.unsent, arbiter,
    told.journal, told.capture⟩

end

/-! ## The cross sluice (R73) -/

/-- With the query open MOVE(0) touches the drive line alone. -/
theorem State.shutSluice_open {s : State} (unanswered : s.statusAnswered = false) (q : Sluice) :
    s.shutSluice q = { s with drive := (s.shutSluice q).drive } := by
  rw [State.shutSluice_eq]
  split
  · unfold State.endRamp
    cases q <;> rfl
  · unfold State.sendMove State.endRamp
    dsimp only
    rw [State.setSluice_open (s := s.send (.sluice q) (.move 0)) unanswered]
    cases q <;> rfl

theorem State.crossShutting_open {w : State} (unanswered : w.statusAnswered = false) :
    w.crossShutting = { w with drive := w.crossShutting.drive, arbiter.owner := .ending } := by
  have only := State.shutSluice_open unanswered .cross
  unfold State.crossShutting
  generalize w.shutSluice .cross = v at only ⊢
  generalize v.drive = D at only ⊢
  rw [only]

/-- The cross sluice's query closed, another drive's still open, the sluice not SHUT. -/
theorem closeQuery_shutting {v : State} {b : Actuator} (calm : v.Calm) (kept : v.NothingKept) (other : b ≠ .sluice .cross)
    (open_ : (v.query b).isSome = true) (moving : (v.sluice .cross).state = .moving) :
    (v.push .crossShut).closeQuery (.sluice .cross) = (v.dropQuery (.sluice .cross)).derive := by
  have still : ((v.push .crossShut).query b).isSome = true := by
    rw [State.query_of_queries (s := v) (t := v.push .crossShut) (by rw [State.push_calm calm])]
    exact open_
  have asked : ({ v.dropQuery (.sluice .cross) with agenda := [.crossShut] } : State).NothingKept := kept
  have shut : (v.dropQuery (.sluice .cross)).Still .crossShut := Or.inr (by
    show v.sluiceShut .cross = false
    unfold State.sluiceShut
    rw [moving]
    rfl)
  rw [State.closeQuery_open _ _ (State.dropQuery_open other still), State.push_calm calm]
  show ({ v.dropQuery (.sluice .cross) with agenda := [.crossShut] } : State).driveEvent _ = _
  rw [State.driveEvent, State.retries_kept asked]
  exact State.finish_still (s := v.dropQuery (.sluice .cross)) calm (.inr ⟨_, rfl, shut⟩)

/-- The frame of a state in which a fault has been raised and the cross sluice ordered to 0. -/
theorem frame_shutting {s w v : State} {D : Drive} {a : Actuator}
    (raised : w = { s with drive := D, journal := w.journal, stations := w.stations, capture := w.capture })
    (shutting : v = { w with drive := v.drive, arbiter.owner := .ending }) :
    (v.dropQuery a).derive = { s with
      drive := (v.dropQuery a).derive.drive, journal := w.journal, stations := w.stations, capture := w.capture
      signals := (v.dropQuery a).derive.signals, arbiter.owner := .ending } := by
  obtain ⟨z, hz⟩ : ∃ z, (v.dropQuery a).derive = z := ⟨_, rfl⟩
  have dropped : v.dropQuery a = { v with drive := (v.dropQuery a).drive } := rfl
  have derived : z = { v with drive := z.drive, signals := z.signals } := by
    have drive : z.drive = (v.dropQuery a).drive := by rw [← hz, State.derive_frame]
    rw [drive, ← hz, State.derive_frame, dropped]
  rw [hz]
  generalize z.drive = D' at derived ⊢
  generalize z.signals = G at derived ⊢
  generalize v.drive = D'' at shutting
  generalize w.journal = J at raised ⊢
  generalize w.stations = N at raised ⊢
  generalize w.capture = C at raised ⊢
  rw [derived, shutting, raised]

theorem statusFault_cross {s : State} {b : Actuator} {q : Query} {c : Instr} {step : Option Nat} (quiet : s.Quiet)
    (asked : s.query (.sluice .cross) = some q) (other : b ≠ .sluice .cross) (open_ : (s.query b).isSome = true)
    (answer : FaultAnswer (.sluice .cross) q c step) :
    ∃ t, exec c s = .next t ∧ StatusFaulted s t (.sluice .cross)
      ∧ t.arbiter.owner = .ending
      ∧ t.sluice .cross =
        { state := .moving, step := step, target := some (.step 0), timer := some (s.now + seconds s.settings.sluiceLimit) }
      ∧ t.drive.sent = s.drive.sent ++ [⟨.sluice .cross, .move 0, false⟩]
      ∧ t.journal = (s.write (.fault .sluiceStall (.sluice .cross) s.time)).journal
      ∧ t.capture = s.capture.offer (s.captured .sluiceStall (.sluice .cross)) := by
  have put := s.putSluice_put .cross (r := { state := .fault, step := step }) rfl
  have own : (s.putSluice .cross { state := .fault, step := step }).sluice .cross = { state := .fault, step := step } :=
    (State.putSluice_sluice ..).trans (if_pos rfl)
  obtain ⟨told, frame⟩ := put.raiseFault (f := .sluiceStall) rfl (.sluice .cross)
  have drive := (s.putSluice .cross { state := .fault, step := step }).raiseFault_drive' .sluiceStall (.sluice .cross)
  have run := exec_faultAnswer asked answer
  rw [State.statusFault_sluice (State.statusAnswered_of_query open_) step] at run
  have cross' := sluice_of_drive drive .cross
  generalize (s.putSluice .cross { state := .fault, step := step }).raiseFault .sluiceStall (.sluice .cross) = w
    at told frame drive run cross'
  rw [own] at cross'
  have out (k : Chamber) : (w.chamber k).state.live = false := by
    rw [told.chamber]
    exact quiet.out k
  have idle : w.arbiter.owner ≠ .engaged := by
    rw [told.arbiter, quiet.2.2.2]
    nofun
  have handed : w.sluiceFault .cross .sluiceStall = w.crossShutting.push .crossShut := State.crossFault_out out idle _
  obtain ⟨moving, sent⟩ := State.crossShutting_fault (s := w) (by rw [cross'])
  have after := w.crossShutting_ordered
  have unanswered : w.statusAnswered = false :=
    State.statusAnswered_of_query (b := b) (by rw [State.query_of_queries told.line.1]; exact open_)
  have shutting := State.crossShutting_open unanswered
  have calm : w.crossShutting.Calm := (w.shutSluice_moved .cross).calm (told.calm quiet.1)
  rw [handed] at run
  have sent' : w.drive.sent = s.drive.sent := (congrArg Drive.sent drive).trans put.unsent
  have expiry := told.sluiceExpiry
  rw [cross', expiry] at moving
  rw [sent'] at sent
  clear drive put own handed idle out
  generalize w.crossShutting = v at run moving sent after shutting calm
  have queries : v.drive.queries = s.drive.queries := after.line.1.trans told.line.1
  have chambers : v.chambers = s.chambers := by rw [after.frame]; exact told.chambers
  have kept : v.NothingKept := by
    refine ⟨fun k => ?_, fun q r ramp => ?_⟩
    · rw [show v.chamber k = s.chamber k from congrArg (fun c : PerChamber Sequencer => c.get k) chambers]
      exact quiet.nothingKept.1 k
    · cases q with
      | cross => rw [moving] at ramp; cases ramp
      | chamber k e =>
        rw [after.sluices (.chamber k e) (by nofun), told.sluices (.chamber k e) (by nofun)] at ramp
        exact quiet.nothingKept.2 _ r ramp
  rw [closeQuery_shutting calm kept other (by rw [State.query_of_queries queries]; exact open_) (by rw [moving])] at run
  obtain ⟨closed, others⟩ := v.query_dropQuery (.sluice .cross)
  have journal : v.journal = w.journal := by rw [after.frame]
  have stations : v.stations = w.stations := by rw [after.frame]
  have capture : v.capture = w.capture := by rw [after.frame]
  have owner : v.arbiter.owner = .ending := by rw [shutting]
  have framed := frame_shutting (a := .sluice .cross) frame shutting
  obtain ⟨z, hz⟩ : ∃ z, (v.dropQuery (.sluice .cross)).derive = z := ⟨_, rfl⟩
  have derived : z = { v.dropQuery (.sluice .cross) with signals := z.signals } := by rw [← hz, State.derive_frame]
  have drive : z.drive = (v.dropQuery (.sluice .cross)).drive := by rw [derived]
  have core : z.core = s.core := by
    rw [← hz]
    exact (State.derive_core _).trans ((State.dropQuery_core ..).trans (after.core.trans told.core))
  have zj : z.journal = w.journal := by rw [derived]; exact journal
  have zs : z.stations = w.stations := by rw [derived]; exact stations
  have zc : z.capture = w.capture := by rw [derived]; exact capture
  have zo : z.arbiter.owner = .ending := by rw [derived]; exact owner
  have zf : z.levels.forceFast = v.levels.forceFast := by rw [derived]; rfl
  have guards : SameGuards s v :=
    ⟨after.guards.1.trans told.guards.1, after.guards.2.1.trans told.guards.2.1, after.guards.2.2.trans told.guards.2.2⟩
  rw [hz] at run framed
  refine ⟨z, run, ⟨SameRecords.of_core core, ⟨fun k e out => ?_, fun q out => ?_, ?_⟩, ?_, ?_, fun b' out => ?_, ?_, fun st => ?_⟩, zo,
    ?_, ?_, zj.trans told.journal, zc.trans told.capture⟩
  · exact (gate_of_drive (s := v.dropQuery (.sluice .cross)) drive k e).trans ((after.gates k e).trans (told.gates k e out))
  · have away : q ≠ .cross := fun same => out (by rw [same])
    exact (sluice_of_drive (s := v.dropQuery (.sluice .cross)) drive q).trans ((after.sluices q away).trans (told.sluices q out))
  · unfold SameGuards
    rw [drive, zf]
    exact guards
  · rw [zj, zs, zc, zo]
    exact framed
  · rw [State.query_of_queries (s := v.dropQuery (.sluice .cross)) (by rw [drive])]
    exact closed
  · rw [State.query_of_queries (s := v.dropQuery (.sluice .cross)) (by rw [drive]), others b' out]
    exact State.query_of_queries queries b'
  · rw [drive]
    exact after.line.2.trans told.line.2
  · show .fault ∈ (z.stations.get st).notices
    rw [zs]
    exact told.notice st
  · exact (sluice_of_drive (s := v.dropQuery (.sluice .cross)) drive .cross).trans moving
  · rw [drive]
    exact sent

end Sys2Proof.Machine
end

section
/-! SUPPORT. The last STATUS answer: the fast causes counted, the cross sluice sent to 0, the polling free to start (R3, R15, R27, R74). -/

namespace Sys2Proof.Machine

/-! ## The bodies' sampling (R3) -/

theorem State.enqueue_body (s : State) (b b' : Body) : (s.enqueue b).body b' = s.body b' := by
  unfold State.enqueue
  split <;> rfl

theorem State.dueAfter_mode (s : State) (b b' : Body) (n : Nat) : ((s.dueAfter b n).body b').sampling = (s.body b').sampling := by
  unfold State.dueAfter
  split
  · rfl
  · split
    · rw [State.enqueue_body]
    · rw [State.setBody_body]
      split
      · next same => rw [same]
      · rfl

theorem State.gainCause_mode (s : State) (b b' : Body) :
    ((s.gainCause b).body b').sampling = if b' = b then .fast else (s.body b').sampling := by
  have held : ((s.setBody b { s.body b with hold := none }).body b).sampling = (s.body b).sampling := by
    rw [State.setBody_body, if_pos rfl]
  unfold State.gainCause State.becomeFast
  rw [held]
  cases mode : (s.body b).sampling with
  | primary =>
    dsimp only
    rw [State.dueAfter_mode, State.setBody_body]
    by_cases same : b' = b
    · rw [if_pos same, if_pos same]
    · rw [if_neg same, if_neg same, State.setBody_body, if_neg same]
  | fast =>
    dsimp only
    rw [State.setBody_body]
    by_cases same : b' = b
    · rw [if_pos same, if_pos same]
      exact mode
    · rw [if_neg same, if_neg same]

/-- R3: a body counts what its sluices and gates do. -/
theorem State.fastCause_congr {s t : State} {b : Body} (answered : t.statusAnswered = s.statusAnswered) (loaded : t.loaded = s.loaded)
    (gates : ∀ k e, (t.gate k e).state = (s.gate k e).state) (sluices : ∀ q, (t.sluice q).counts = (s.sluice q).counts) :
    t.fastCause b = s.fastCause b := by
  have chambers : t.chamberPresent = s.chamberPresent := by
    funext k
    cases k <;> simp only [State.chamberPresent, loaded]
  have present : t.sluicePresent = s.sluicePresent := by
    funext q
    cases q <;> simp only [State.sluicePresent, chambers, State.crossPresent, loaded]
  unfold State.fastCause
  rw [answered]
  simp only [chambers, present, gates, sluices]

theorem SamplingOnly.bodyPresent {s t : State} (h : SamplingOnly s t) (b : Body) : t.bodyPresent b = s.bodyPresent b := by
  have loaded : t.loaded = s.loaded := by rw [h.rest]
  cases b <;> simp only [State.bodyPresent, loaded]

/-- R3: where no cause is lost, a body that gains one is FAST, and the others stay. -/
theorem State.noteFastAt_mode {s old : State} {b : Body} (gains : old.fastCause b = true → s.fastCause b = true) (b' : Body) :
    ((s.noteFastAt old b).body b').sampling =
      if b' = b ∧ s.bodyPresent b = true ∧ old.fastCause b = false ∧ s.fastCause b = true then .fast else (s.body b').sampling := by
  unfold State.noteFastAt
  by_cases gain : s.bodyPresent b = true ∧ old.fastCause b = false ∧ s.fastCause b = true
  · obtain ⟨present, before, after⟩ := gain
    rw [present, before, after]
    refine (State.gainCause_mode ..).trans ?_
    simp
  · have kept : (s.bodyPresent b && !old.fastCause b && s.fastCause b) = false := by
      cases present : s.bodyPresent b <;> cases before : old.fastCause b <;> cases after : s.fastCause b <;> simp_all
    have unlost : (s.bodyPresent b && old.fastCause b && !s.fastCause b) = false := by
      cases before : old.fastCause b with
      | false => simp
      | true => simp [gains before]
    rw [kept, unlost]
    exact (if_neg fun h => gain h.2).symm

theorem State.noteFast_mode {s old : State} (gains : ∀ b, old.fastCause b = true → s.fastCause b = true) (b : Body) :
    ((s.noteFast old).body b).sampling =
      if s.bodyPresent b = true ∧ old.fastCause b = false ∧ s.fastCause b = true then .fast else (s.body b).sampling := by
  have first := s.noteFastAt_sampling old .up
  have second := first.trans (State.noteFastAt_sampling _ old .lp)
  have third := second.trans (State.noteFastAt_sampling _ old .c1)
  unfold State.noteFast
  rw [State.noteFastAt_mode (by rw [third.fastCause]; exact gains .c2), third.fastCause, third.bodyPresent,
    State.noteFastAt_mode (by rw [second.fastCause]; exact gains .c1), second.fastCause, second.bodyPresent,
    State.noteFastAt_mode (by rw [first.fastCause]; exact gains .lp), first.fastCause, first.bodyPresent,
    State.noteFastAt_mode (gains .up)]
  cases b <;> simp

/-! ## The cross sluice sent to 0 at start-up (R74) -/

/-- R3: a cross sluice sent to 0 counts, so that no body loses a cause by it. -/
theorem State.shutSluice_mode {s : State} (b : Body) :
    ((s.shutSluice .cross).body b).sampling =
      if s.bodyPresent b = true ∧ s.fastCause b = false ∧ (s.shutSluice .cross).fastCause b = true then .fast
      else (s.body b).sampling := by
  rw [State.shutSluice_eq]
  by_cases there : (s.sluice .cross).stands 0 = true
  · rw [if_pos there]
    have same : (s.endRamp .cross).fastCause b = s.fastCause b :=
      State.fastCause_congr rfl rfl (fun _ _ => rfl) fun q => by
        rw [State.endRamp, State.putSluice_sluice]
        split
        · next own => rw [own]; rfl
        · rfl
    rw [same]
    have body : (s.endRamp .cross).body b = s.body b := rfl
    rw [body, if_neg fun h => by rw [h.2.1] at h; exact nomatch h.2.2]
  · rw [if_neg there]
    let r : SluiceRec := { s.sluice .cross with
      state := .moving, target := some (.step 0)
      superseded := if (s.sluice .cross).state = .moving then (s.sluice .cross).supersede else none, timer := some s.sluiceExpiry }
    let old := s.send (.sluice .cross) (.move 0)
    let new := old.putSluice .cross r
    have sent : s.sendMove .cross 0 = new.noteFast old := rfl
    have before : old.fastCause b = s.fastCause b := rfl
    have newSluice (q : Sluice) : new.sluice q = if q = .cross then r else s.sluice q := State.putSluice_sluice ..
    have gains (b : Body) (cause : old.fastCause b = true) : new.fastCause b = true := by
      unfold State.fastCause at cause ⊢
      simp only [Bool.and_eq_true, Bool.or_eq_true, List.any_eq_true] at cause ⊢
      obtain ⟨answered, causes⟩ := cause
      refine ⟨answered, causes.imp (fun ⟨q, mem, present, counts⟩ => ⟨q, mem, present, ?_⟩) id⟩
      rw [newSluice]
      split
      · rfl
      · exact counts
    have after : ((s.sendMove .cross 0).endRamp .cross).fastCause b = new.fastCause b := by
      have noted : (s.sendMove .cross 0).fastCause b = new.fastCause b := by
        rw [sent]
        exact (new.noteFast_sampling old).fastCause b
      rw [← noted]
      refine State.fastCause_congr rfl rfl (fun _ _ => rfl) fun q => ?_
      rw [State.endRamp, State.putSluice_sluice]
      split
      · next own => rw [own]; rfl
      · rfl
    have body : ((s.sendMove .cross 0).endRamp .cross).body b = (new.noteFast old).body b := rfl
    rw [after, body, State.noteFast_mode gains, before]
    rfl

/-- R27, R74: with the last answer the cross sluice, when it is present and not SHUT, is ordered to 0. -/
theorem State.crossStartup_late {s : State} (late : s.crossPresent = true ∧ (s.sluice .cross).state ≠ .shut) :
    s.crossStartup = s.crossShutting.push .crossShut := by
  unfold State.crossStartup
  have open_ : s.sluiceShut .cross = false := by
    unfold State.sluiceShut
    exact decide_eq_false late.2
  rw [late.1, open_]
  rfl

theorem State.crossStartup_done {s : State} (done : ¬(s.crossPresent = true ∧ (s.sluice .cross).state ≠ .shut)) : s.crossStartup = s := by
  unfold State.crossStartup
  refine if_neg fun h => done ?_
  simp only [Bool.and_eq_true, Bool.not_eq_true'] at h
  exact ⟨h.1, of_decide_eq_false h.2⟩

end Sys2Proof.Machine
end

section
/-! SUPPORT. The event of the last STATUS answer (R15, R27, R74). -/

namespace Sys2Proof.Machine

theorem SluiceRec.stands_iff {r : SluiceRec} (shut : r.state ≠ .shut) (held : r.state = .held → r.step ≠ some 0) :
    r.stands 0 = true ↔ r.state = .moving ∧ r.target = some (.step 0) := by
  unfold SluiceRec.stands
  cases state : r.state with
  | shut => exact absurd state shut
  | held => simp [held state]
  | moving => simp
  | fault => simp
  | unknown => simp

theorem SluiceRec.shutBy_step (r : SluiceRec) (x : Nat) : (r.shutBy x).step = r.step := by
  unfold SluiceRec.shutBy
  split <;> rfl

/-- R27: once every actuator present has left UNKNOWN, and no poll is outstanding, a polling cycle may start. -/
theorem exec_drivePollCycle_starts {t : State} (known : ∀ b, t.actuatorPresent b = true → t.unknownActuator b = false)
    (idle : t.drive.polls = []) :
    exec .drivePollCycle t = .next { t with drive.polls := t.presentActuators, drive.cycleStart := some t.now } := by
  have left : t.leftUnknown = true := List.all_eq_true.mpr fun b mem => by
    rw [known b (List.mem_filter.mp mem).2]
    rfl
  show execDrivePollCycle t = _
  unfold execDrivePollCycle
  rw [left, idle]
  rfl

theorem mem_allActuators (a : Actuator) : a ∈ allActuators := by
  rcases a with ⟨k, e⟩ | ⟨k, e⟩ | _
  · cases k <;> cases e <;> simp [allActuators]
  · cases k <;> cases e <;> simp [allActuators]
  · simp [allActuators]

/-- R27: with an actuator UNKNOWN that is present no polling cycle starts. -/
theorem exec_drivePollCycle_waits {s : State} {a : Actuator} (present : s.actuatorPresent a = true)
    (unknown : s.unknownActuator a = true) : exec .drivePollCycle s = .next s := by
  have waits : s.leftUnknown = false := by
    refine Bool.eq_false_iff.mpr fun left => ?_
    have known := List.all_eq_true.mp left a (List.mem_filter.mpr ⟨mem_allActuators a, present⟩)
    rw [unknown] at known
    cases known
  show execDrivePollCycle s = _
  unfold execDrivePollCycle
  rw [waits]
  rfl

/-- R15: the state in which the last query has closed and the bodies have taken their fast causes. -/
def State.answeredLast (u : State) (a : Actuator) : State := (u.dropQuery a).noteFast u

structure LastAnswered (u v : State) : Prop where
  frame : v = { u with drive := v.drive, levels := v.levels }
  core : v.core = u.core
  guards : SameGuards u v
  sent : v.drive.sent = u.drive.sent
  polls : v.drive.polls = u.drive.polls
  queries : v.drive.queries = []
  gates : ∀ k e, v.gate k e = u.gate k e
  sluices : ∀ q, v.sluice q = u.sluice q
  modes : ∀ b, u.bodyPresent b = true →
    (v.body b).sampling = if v.fastCause b = true then .fast else (u.body b).sampling

theorem State.answeredLast_made {u : State} {a : Actuator} (open_ : u.statusAnswered = false)
    (last : ∀ y ∈ u.drive.queries, y.actuator = a) : LastAnswered u (u.answeredLast a) := by
  have noted := (u.dropQuery a).noteFast_sampling u
  have before (b : Body) : u.fastCause b = false := u.fastCause_open b open_
  have modes := State.noteFast_mode (s := u.dropQuery a) (old := u) fun b cause => by rw [before] at cause; cases cause
  unfold State.answeredLast
  have drive : ((u.dropQuery a).noteFast u).drive = (u.dropQuery a).drive := State.noteFast_drive ..
  have core : ((u.dropQuery a).noteFast u).core = (u.dropQuery a).core := State.noteFast_core ..
  generalize (u.dropQuery a).noteFast u = v at noted modes drive core ⊢
  refine ⟨?_, core, ⟨?_, ?_, noted.forceFast⟩, ?_, ?_, ?_, fun k e => gate_of_drive (s := u.dropQuery a) drive k e,
    fun q => sluice_of_drive (s := u.dropQuery a) drive q, fun b present => ?_⟩
  · have frame := noted.rest
    rw [drive]
    generalize v.levels = L at frame ⊢
    rw [frame]
    rfl
  · rw [drive]; rfl
  · rw [drive]; rfl
  · rw [drive]; rfl
  · rw [drive]; rfl
  · rw [drive]
    exact List.filter_eq_nil_iff.mpr fun y mem => by simp [last y mem]
  · have own := modes b
    rw [before, noted.fastCause] at *
    rw [own]
    have here : (u.dropQuery a).bodyPresent b = true := present
    rw [here]
    simp only [true_and]
    rfl

/-- What the last answer leaves. -/
structure StatusDone (u t : State) : Prop where
  frame : t = { u with drive := t.drive, levels := t.levels, signals := t.signals, arbiter.owner := t.arbiter.owner }
  core : t.core = u.core
  queries : t.drive.queries = []
  polls : t.drive.polls = u.drive.polls
  gates : ∀ k e, t.gate k e = u.gate k e
  sluices : ∀ k e, t.sluice (.chamber k e) = u.sluice (.chamber k e)
  modes : ∀ b, u.bodyPresent b = true → (t.body b).sampling = if t.fastCause b = true then .fast else (u.body b).sampling

/-- R74: with the cross sluice SHUT, or absent, nothing follows. -/
theorem LastAnswered.done {u v : State} (h : LastAnswered u v) :
    StatusDone u v.derive ∧ v.derive.sluice .cross = u.sluice .cross ∧ v.derive.drive.sent = u.drive.sent
      ∧ v.derive.arbiter = u.arbiter := by
  have arbiter : v.arbiter = u.arbiter := by rw [h.frame]
  refine ⟨⟨?_, (State.derive_core v).trans h.core, h.queries, h.polls, h.gates, fun k e => h.sluices (.chamber k e), h.modes⟩, h.sluices .cross, h.sent, arbiter⟩
  obtain ⟨z, hz⟩ : ∃ z, v.derive = z := ⟨_, rfl⟩
  have ends : z = { v with signals := z.signals } := by rw [← hz, State.derive_frame]
  have drive : z.drive = v.drive := by rw [ends]
  have levels : z.levels = v.levels := by rw [ends]
  have owner : z.arbiter.owner = u.arbiter.owner := by rw [ends]; exact congrArg Arbiter.owner arbiter
  have frame := h.frame
  rw [hz, drive, levels, owner]
  generalize z.signals = G at ends ⊢
  generalize v.drive = D at frame ⊢
  generalize v.levels = L at frame ⊢
  rw [ends, frame]

/-- R74: a cross sluice that is not SHUT is ordered to 0. -/
theorem LastAnswered.late {u v : State} (h : LastAnswered u v) (shut : (u.sluice .cross).state ≠ .shut)
    (held : (u.sluice .cross).state = .held → (u.sluice .cross).step ≠ some 0) :
    StatusDone u v.crossShutting.derive ∧ v.crossShutting.derive.arbiter.owner = .ending
      ∧ (v.crossShutting.derive.sluice .cross).state = .moving ∧ (v.crossShutting.derive.sluice .cross).target = some (.step 0)
      ∧ (v.crossShutting.derive.sluice .cross).step = (u.sluice .cross).step ∧ (v.crossShutting.sluice .cross).ramp = none
      ∧ (¬((u.sluice .cross).state = .moving ∧ (u.sluice .cross).target = some (.step 0)) →
        v.crossShutting.derive.drive.sent = u.drive.sent ++ [⟨.sluice .cross, .move 0, false⟩]) := by
  have after := v.crossShutting_ordered
  have own : v.crossShutting.sluice .cross = (u.sluice .cross).shutBy v.sluiceExpiry := by
    refine (State.shutSluice_sluice v .cross .cross).trans ((if_pos rfl).trans ?_)
    rw [h.sluices]
  have sent : v.crossShutting.drive.sent = _ := v.shutSluice_sent .cross
  have modes (b : Body) := v.shutSluice_mode b
  obtain ⟨unramped, place⟩ := (u.sluice .cross).shutBy_facts v.sluiceExpiry
  rw [← own] at unramped place
  have moving : (v.crossShutting.sluice .cross).state = .moving ∧ (v.crossShutting.sluice .cross).target = some (.step 0) :=
    place.resolve_left fun ⟨rest, step, _⟩ => rest.elim shut fun isHeld => held isHeld step
  have step : (v.crossShutting.sluice .cross).step = (u.sluice .cross).step := by rw [own, SluiceRec.shutBy_step]
  change ∀ b, (v.crossShutting.body b).sampling =
    if v.bodyPresent b = true ∧ v.fastCause b = false ∧ v.crossShutting.fastCause b = true then .fast else (v.body b).sampling at modes
  have mono (b : Body) (cause : v.fastCause b = true) : v.crossShutting.fastCause b = true := by
    unfold State.fastCause at cause ⊢
    have loaded : v.crossShutting.loaded = v.loaded := by rw [after.frame]
    have chambers : v.crossShutting.chamberPresent = v.chamberPresent := by
      funext k
      cases k <;> simp only [State.chamberPresent, loaded]
    have present : v.crossShutting.sluicePresent = v.sluicePresent := by
      funext q
      cases q <;> simp only [State.sluicePresent, chambers, State.crossPresent, loaded]
    have answered : v.crossShutting.statusAnswered = v.statusAnswered := by
      unfold State.statusAnswered
      rw [after.line.1]
    rw [answered, chambers, present]
    simp only [Bool.and_eq_true, Bool.or_eq_true, List.any_eq_true] at cause ⊢
    obtain ⟨answered, causes⟩ := cause
    refine ⟨answered, causes.imp (fun ⟨q, mem, present, counts⟩ => ⟨q, mem, present, ?_⟩)
      fun ⟨g, mem, present, moves⟩ => ⟨g, mem, present, by rw [after.gates]; exact moves⟩⟩
    by_cases cross : q = .cross
    · rw [cross]
      unfold SluiceRec.counts
      rw [moving.1]
    · rw [after.sluices q cross]
      exact counts
  have frame : v.crossShutting = { u with
      drive := v.crossShutting.drive, levels := v.crossShutting.levels, arbiter.owner := .ending } := by
    have plant : v.shutSluice .cross = { v with drive := (v.shutSluice .cross).drive, levels := (v.shutSluice .cross).levels } :=
      v.shutSluice_plant .cross
    have f := h.frame
    unfold State.crossShutting
    generalize v.shutSluice .cross = y at plant ⊢
    generalize y.drive = D at plant ⊢
    generalize y.levels = L at plant ⊢
    generalize v.drive = D' at f
    generalize v.levels = L' at f
    rw [plant, f]
  rw [h.sent, h.sluices] at sent
  generalize v.crossShutting = y at after own sent modes unramped place moving step mono frame ⊢
  refine ⟨⟨?_, (State.derive_core y).trans (after.core.trans h.core), after.line.1.trans h.queries, after.line.2.trans h.polls,
    fun k e => (after.gates k e).trans (h.gates k e), fun k e => (after.sluices (.chamber k e) nofun).trans (h.sluices _), fun b present => ?_⟩, ?_,
    moving.1, moving.2, step, unramped, fun unreversed => ?_⟩
  · obtain ⟨z, hz⟩ : ∃ z, y.derive = z := ⟨_, rfl⟩
    have ends : z = { y with signals := z.signals } := by rw [← hz, State.derive_frame]
    have drive : z.drive = y.drive := by rw [ends]
    have levels : z.levels = y.levels := by rw [ends]
    have owner : z.arbiter.owner = .ending := by rw [ends]; show y.arbiter.owner = _; rw [frame]
    rw [hz, drive, levels, owner]
    generalize z.signals = G at ends ⊢
    generalize y.drive = D at frame ⊢
    generalize y.levels = L at frame ⊢
    rw [ends, frame]
  · have here : v.bodyPresent b = true := by
      have loaded : v.loaded = u.loaded := by rw [h.frame]
      have same : v.bodyPresent b = u.bodyPresent b := by cases b <;> simp only [State.bodyPresent, loaded]
      rw [same]
      exact present
    have first := h.modes b present
    have second := modes b
    show (y.body b).sampling = if y.fastCause b = true then _ else _
    rw [second, here, first]
    cases before : v.fastCause b with
    | true => simp [mono b before]
    | false => simp
  · show y.arbiter.owner = _
    rw [frame]
  · refine Eq.trans sent ?_
    rw [if_neg fun there => unreversed ((SluiceRec.stands_iff shut held).mp there)]

end Sys2Proof.Machine
end

section
/-! SUPPORT. The STATUS answers settled (R15, R27, R73, R74). -/

namespace Sys2Proof.Machine

/-- R27, R74: what holds of the state that the last answer, an actuator set by it, leaves. -/
theorem statusAnswer_last {s u : State} {a : Actuator} {q : Query} {x : StatusAnswer} (quiet : s.Quiet) (asked : s.query a = some q)
    (last : ∀ y ∈ s.drive.queries, y.actuator = a)
    (known : ∀ b, b ≠ a → s.actuatorPresent b = true → s.unknownActuator b = false) (sets : StatusSets s a x u)
    (held : (u.sluice .cross).state = .held → (u.sluice .cross).step ≠ some 0) :
    let late := s.crossPresent = true ∧ (u.sluice .cross).state ≠ .shut
    let reversed := (u.sluice .cross).state = .moving ∧ (u.sluice .cross).target = some (.step 0)
    ∃ t, exec (.statusAnswer a x) s = .next t ∧ StatusDone u t
      ∧ (¬late → t.sluice .cross = u.sluice .cross ∧ t.drive.sent = s.drive.sent ∧ t.arbiter = s.arbiter)
      ∧ (late → t.arbiter.owner = .ending ∧ (t.sluice .cross).state = .moving
        ∧ (t.sluice .cross).target = some (.step 0) ∧ (t.sluice .cross).step = (u.sluice .cross).step
        ∧ (¬reversed → t.drive.sent = s.drive.sent ++ [⟨.sluice .cross, .move 0, false⟩]))
      ∧ ∀ b, t.actuatorPresent b = true → t.unknownActuator b = false := by
  intro late reversed
  have unanswered : s.statusAnswered = false := State.statusAnswered_of_query (b := a) (by rw [asked]; rfl)
  obtain ⟨statusOf, put, set⟩ := State.statusOf_sets unanswered sets
  have open_ : u.statusAnswered = false := by
    unfold State.statusAnswered at unanswered ⊢
    rw [put.line.1]
    exact unanswered
  have made := State.answeredLast_made (a := a) open_ (by rw [put.line.1]; exact last)
  have run : exec (.statusAnswer a x) s = .next ((u.answeredLast a).crossStartup.driveEvent a) := by
    have answered : (u.answeredLast a).statusAnswered = true := by
      unfold State.statusAnswered
      rw [made.queries]
      rfl
    show execStatusAnswer a x s = _
    unfold execStatusAnswer
    rw [asked, statusOf]
    show Host.Outcome.next (((if (u.answeredLast a).statusAnswered then (u.answeredLast a).crossStartup else u.answeredLast a)).driveEvent a) = _
    rw [if_pos answered]
  generalize u.answeredLast a = v at made run
  have crossPresent : v.crossPresent = s.crossPresent := by
    have loaded : v.loaded = s.loaded := by rw [made.frame]; show u.loaded = _; rw [put.only]
    simp only [State.crossPresent, loaded]
  have arbiter : u.arbiter = s.arbiter := put.arbiter
  have chambers : v.chambers = s.chambers := by rw [made.frame]; exact put.chambers
  have chamber (k : Chamber) : v.chamber k = s.chamber k := congrArg (fun c : PerChamber Sequencer => c.get k) chambers
  have calm : v.Calm := by
    have agenda : v.agenda = u.agenda := by rw [made.frame]
    have book : v.book = u.book := by rw [made.frame]
    unfold State.Calm
    rw [agenda, book]
    exact put.calm quiet.1
  have ramps (w : Sluice) : (u.sluice w).ramp = none := by
    by_cases own : a = .sluice w
    · exact put.ramps w own
    · rw [put.sluices w own]
      exact quiet.2.2.1 w
  have kept : v.NothingKept := ⟨fun k => by rw [chamber]; exact quiet.nothingKept.1 k, fun w r ramp => by
    rw [made.sluices, ramps] at ramp
    cases ramp⟩
  -- no actuator present is UNKNOWN any longer
  have uknown (b : Actuator) (present : s.actuatorPresent b = true) : u.unknownActuator b = false := by
    by_cases own : b = a
    · rw [own]
      exact set
    · have before := known b own present
      rcases b with ⟨k, e⟩ | w
      · show decide ((u.gate k e).state = .unknown) = false
        rw [put.gates k e fun h => own h.symm]
        exact before
      · show decide ((u.sluice w).state = .unknown) = false
        rw [put.sluices w fun h => own h.symm]
        exact before
  have tknown {t : State} (done : StatusDone u t)
      (cross : (t.sluice .cross).state = .moving ∨ t.sluice .cross = u.sluice .cross) (b : Actuator)
      (present : t.actuatorPresent b = true) : t.unknownActuator b = false := by
    have loaded : t.loaded = s.loaded := by rw [done.frame]; show u.loaded = _; rw [put.only]
    have here : s.actuatorPresent b = true := by
      rw [← present]
      rcases b with ⟨k, e⟩ | ⟨k, e⟩ | _
      · cases k <;> simp only [State.actuatorPresent, State.chamberPresent, loaded]
      · cases k <;> simp only [State.actuatorPresent, State.sluicePresent, State.chamberPresent, loaded]
      · simp only [State.actuatorPresent, State.sluicePresent, State.crossPresent, loaded]
    have before := uknown b here
    rcases b with ⟨k, e⟩ | ⟨k, e⟩ | _
    · show decide ((t.gate k e).state = .unknown) = false
      rw [done.gates]
      exact before
    · show decide ((t.sluice (.chamber k e)).state = .unknown) = false
      rw [done.sluices]
      exact before
    · show decide ((t.sluice .cross).state = .unknown) = false
      rcases cross with moving | same
      · rw [moving]
        rfl
      · rw [same]
        exact before
  by_cases isLate : late
  · obtain ⟨done, owner, moving, target, step, unramped, sent⟩ := made.late isLate.2 held
    have starts := State.crossStartup_late (s := v) (by rw [crossPresent, made.sluices]; exact isLate)
    have calm' : v.crossShutting.Calm := (v.shutSluice_moved .cross).calm calm
    have kept' : v.crossShutting.NothingKept := by
      have after := v.crossShutting_ordered
      refine ⟨fun k => ?_, fun w r ramp => ?_⟩
      · have same : v.crossShutting.chambers = v.chambers := by rw [after.frame]
        rw [show v.crossShutting.chamber k = v.chamber k from congrArg (fun c : PerChamber Sequencer => c.get k) same]
        exact kept.1 k
      · by_cases cross : w = .cross
        · rw [cross, unramped] at ramp
          cases ramp
        · rw [after.sluices w cross] at ramp
          exact kept.2 w r ramp
    have asked' : ({ v.crossShutting with agenda := [.crossShut] } : State).NothingKept := kept'
    have shut : v.crossShutting.Still .crossShut := Or.inr (by
      have moves : (v.crossShutting.sluice .cross).state = .moving := moving
      unfold State.sluiceShut
      rw [moves]
      rfl)
    have ends : (v.crossShutting.push .crossShut).driveEvent a = v.crossShutting.derive := by
      rw [State.push_calm calm', State.driveEvent, State.retries_kept asked']
      exact State.finish_still calm' (.inr ⟨_, rfl, shut⟩)
    rw [starts, ends] at run
    refine ⟨_, run, done, fun early => absurd isLate early, fun _ => ⟨owner, moving, target, step, fun unreversed => ?_⟩,
      tknown done (.inl moving)⟩
    rw [← put.unsent]
    exact sent unreversed
  · obtain ⟨done, cross, sent, arbiter'⟩ := made.done
    rw [State.crossStartup_done (s := v) (by rw [crossPresent, made.sluices]; exact isLate), State.calm_event calm kept] at run
    exact ⟨_, run, done, fun _ => ⟨cross, sent.trans put.unsent, arbiter'.trans arbiter⟩, fun now => absurd now isLate,
      tknown done (.inr cross)⟩

/-- Settles O24. -/
theorem statusAnswersSetTheActuator : Obligations.StatusAnswersSetTheActuator := by
  intro s a q quiet asked
  dsimp only
  refine ⟨fun b other open_ => ⟨fun x u sets => ?_, fun first => ?_, fun c step answer => ?_⟩,
    fun present unknown last known => ⟨exec_drivePollCycle_waits present unknown, fun x u sets held => ?_⟩⟩
  · obtain ⟨_, put, _⟩ := State.statusOf_sets (State.statusAnswered_of_query open_) (x := x) (u := u) sets
    obtain ⟨closed, others⟩ := u.query_dropQuery a
    refine ⟨_, statusAnswer_open quiet asked other open_ sets, ?_, closed, fun b' out =>
      (others b' out).trans (State.query_of_queries put.line.1 b')⟩
    rfl
  · obtain ⟨own, others⟩ := State.query_repeated asked (t := ({ s with
      drive.queries := s.drive.queries.map fun x => if x.actuator = a then { x with repeated := true } else x } : State).derive) rfl
    exact ⟨_, statusTimeout_repeats quiet asked first, rfl, own, others⟩
  · rcases a with ⟨k, e⟩ | ⟨k, e⟩ | _
    · obtain ⟨t, run, made, gate, sent, arbiter, journal, capture⟩ := statusFault_gate quiet asked other open_ answer rfl
      exact ⟨t, run, made.records, made.others, made.frame, made.query, made.queries, made.polls, made.notice, gate, sent, arbiter, journal,
        capture⟩
    · obtain ⟨t, run, made, sluice, sent, arbiter, journal, capture⟩ := statusFault_sluice quiet asked other open_ answer rfl
      exact ⟨t, run, made.records, made.others, made.frame, made.query, made.queries, made.polls, made.notice, journal, capture,
        fun _ => ⟨sluice, sent, arbiter⟩, fun same => nomatch same⟩
    · obtain ⟨t, run, made, owner, sluice, sent, journal, capture⟩ := statusFault_cross quiet asked other open_ answer
      exact ⟨t, run, made.records, made.others, made.frame, made.query, made.queries, made.polls, made.notice, journal, capture,
        fun away => absurd rfl away, fun _ => ⟨owner, sluice, sent⟩⟩
  · have unanswered : s.statusAnswered = false := State.statusAnswered_of_query (b := a) (by rw [asked]; rfl)
    obtain ⟨_, put, _⟩ := State.statusOf_sets unanswered (x := x) (u := u) sets
    obtain ⟨t, run, done, early, late, tknown⟩ := statusAnswer_last quiet asked last known sets held
    refine ⟨t, run, done.frame, SameLevels.of_core (done.core.trans put.core), done.queries, done.polls.trans put.line.2, done.gates,
      done.sluices, early, late, fun b here => ?_, fun idle => exec_drivePollCycle_starts tknown (by rw [done.polls, put.line.2]; exact idle)⟩
    have loaded : u.loaded = s.loaded := by rw [put.only]
    have same : u.bodyPresent b = s.bodyPresent b := by cases b <;> simp only [State.bodyPresent, loaded]
    have body : u.body b = s.body b := by rw [put.only]; rfl
    rw [← body]
    exact done.modes b (by rw [same]; exact here)

end Sys2Proof.Machine
end

section
/-! SUPPORT. Conduct claimed, released and lost (R62, R164 to R167). -/

namespace Sys2Proof.Machine

/-! ## Who may ask (R167) -/

/-- A command whose request is judged under a permission. -/
def Asks (c : Instr) (code : Nat) (st : Station) (p : Permission) : Prop :=
  ∃ own : State → Judged, ∀ s : State, exec c s = s.exchange st code fun u => u.judged st p own

/-- R167: a request that its first two stages bar. -/
theorem Asks.barred {c : Instr} {code : Nat} {st : Station} {p : Permission} (asks : Asks c code st p) {s : State} (takes : s.takes st)
    {o : ReplyOutcome} {l : List WireField} (bars : s.barred st p = some (o, l)) : exec c s = .next (s.answered st code o l) := by
  obtain ⟨own, request⟩ := asks
  rw [request]
  refine State.exchange_report takes ?_
  have bars' : (s.validFrame st).barred st p = some (o, l) := bars
  unfold State.judged
  rw [bars']

theorem State.barred_absent {s : State} {k : Chamber} (absent : s.chamberPresent k = false) (st : Station) {p : Permission}
    (names : p.chamber = some k) : s.barred st p = some (.range, [.half 1]) := by
  unfold State.barred
  rw [names]
  dsimp only
  rw [absent]
  rfl

theorem State.barred_conductor {s : State} {k : Chamber} (present : s.chamberPresent k = true) {st : Station}
    (other : s.holder k ≠ some st) : s.barred st (.conductor k) = some (.noConduct, [holderField (s.holder k)]) := by
  unfold State.barred State.notPermitted
  rw [show (Permission.conductor k).chamber = some k from rfl]
  dsimp only
  rw [if_pos present, if_neg other]

theorem State.barred_confirm {s : State} {k : Chamber} (present : s.chamberPresent k = true) {st y : Station} (held : s.holder k = some y)
    (other : y ≠ st) : s.barred st (.confirm k) = some (.noConduct, [.byte y.code]) := by
  unfold State.barred State.notPermitted
  rw [show (Permission.confirm k).chamber = some k from rfl]
  dsimp only
  rw [if_pos present, if_neg (by rw [held]; simp [other]), held]
  rfl

theorem State.barred_tc (s : State) {st : Station} (other : st ≠ .tc) : s.barred st .tc = some (.notPermitted, []) := if_neg other

section
variable {st : Station} {k : Chamber}

theorem asks_conductor {m : Mode} {d : Direction} {e : Side} {x : Bool} {w : SluiceChoice} {p : Nat} {c : Instr} {n : Nat}
    (mem : (c, n) ∈
      [(Instr.setMode st k m, 0x32), (.serviceOn st k, 0x33), (.serviceOff st k, 0x33), (.resume st k, 0x35),
        (.abandonBatch st k, 0x36), (.bind st k d, 0x39), (.gateOpen st k e, 0x3A), (.gateClose st k e, 0x3A),
        (.gateStop st k e, 0x3A), (.fill st k x, 0x3B), (.empty st k x, 0x3C), (.sluice st k w p, 0x3D)]) :
    Asks c n st (.conductor k) := by
  simp only [List.mem_cons, Prod.mk.injEq, List.not_mem_nil, or_false] at mem
  rcases mem with ⟨rfl, rfl⟩ | ⟨rfl, rfl⟩ | ⟨rfl, rfl⟩ | ⟨rfl, rfl⟩ | ⟨rfl, rfl⟩ | ⟨rfl, rfl⟩ | ⟨rfl, rfl⟩ | ⟨rfl, rfl⟩ | ⟨rfl, rfl⟩
    | ⟨rfl, rfl⟩ | ⟨rfl, rfl⟩ | ⟨rfl, rfl⟩ <;> exact ⟨_, fun _ => rfl⟩

theorem asks_confirm {l : Option (List Nat)} {c : Instr} {n : Nat} (mem : (c, n) ∈ [(Instr.confirmIn st k l, 0x37), (.confirmClear st k, 0x38)]) :
    Asks c n st (.confirm k) := by
  simp only [List.mem_cons, Prod.mk.injEq, List.not_mem_nil, or_false] at mem
  rcases mem with ⟨rfl, rfl⟩ | ⟨rfl, rfl⟩ <;> exact ⟨_, fun _ => rfl⟩

theorem asks_anyOf {c : Instr} {n : Nat}
    (mem : (c, n) ∈
      [(Instr.claim st k, 0x30), (.releaseConduct st k, 0x31), (.halt st k, 0x34), (.readChamber st k, 0x40),
        (.lampTest st k, 0x43), (.readBatch st k, 0x23)]) : Asks c n st (.anyOf k) := by
  simp only [List.mem_cons, Prod.mk.injEq, List.not_mem_nil, or_false] at mem
  rcases mem with ⟨rfl, rfl⟩ | ⟨rfl, rfl⟩ | ⟨rfl, rfl⟩ | ⟨rfl, rfl⟩ | ⟨rfl, rfl⟩ | ⟨rfl, rfl⟩ <;> exact ⟨_, fun _ => rfl⟩

theorem asks_tc {who : Station} (other : who ≠ st) {a b : Nat} {c : Instr} {n : Nat}
    (mem : (c, n) ∈ [(Instr.setClock st a b, 0x51), (.swapTariff st, 0x50), (.settle st a b, 0x16), (.settleSite st, 0x58),
        (.storeSettings st, 0x70), (.restart st, 0x71), (.unsubscribe st who, 0x53)]) : Asks c n st .tc := by
  simp only [List.mem_cons, Prod.mk.injEq, List.not_mem_nil, or_false] at mem
  rcases mem with ⟨rfl, rfl⟩ | ⟨rfl, rfl⟩ | ⟨rfl, rfl⟩ | ⟨rfl, rfl⟩ | ⟨rfl, rfl⟩ | ⟨rfl, rfl⟩ | ⟨rfl, rfl⟩
  · exact ⟨_, fun _ => rfl⟩
  · exact ⟨_, fun _ => rfl⟩
  · exact ⟨_, fun _ => rfl⟩
  · exact ⟨_, fun _ => rfl⟩
  · exact ⟨_, fun _ => rfl⟩
  · exact ⟨_, fun _ => rfl⟩
  · have asked : (if st = who then Permission.any else .tc) = .tc := if_neg fun same => other same.symm
    refine ⟨fun u => ((((u.setSubscriber who none).free).noteFreed u)).done .ok, fun s => ?_⟩
    rw [← asked]
    rfl

end

/-! ## A change of conduct (R165, R166) -/

/-- R165, R166: what a change of conduct that is answered leaves. -/
structure ConductChanged (s t : State) (st : Station) (k : Chamber) (n : Nat) (l : List WireField) (new : Option Station)
    (why : ConductCause) : Prop where
  frame : t = { s.answered st n .ok l with
    conduct := s.conduct.set k new, journal := t.journal, stations := t.stations, signals := t.signals }
  cores : ∀ x, (t.station x).core = ((s.answered st n .ok l).station x).core
  journal : t.journal = (s.write (.conduct k (s.holder k) new why)).journal
  told : why = .takeOver → ∀ old, s.holder k = some old → .conductTaken ∈ (t.station old).notices

/-- The conduct record changed and its frame written, with the notice of a take-over. -/
theorem State.exchange_conduct {s w : State} {st : Station} {k : Chamber} {code : Nat} {l : List WireField} {new : Option Station}
    {why : ConductCause} {judge : State → Judged} (takes : s.takes st) (calm : s.Calm)
    (judged : judge (s.validFrame st) = w.done .ok l)
    (frame : w = { (s.validFrame st).changeHolder k new why with stations := w.stations })
    (cores : ∀ x, (w.station x).core = (((s.validFrame st).changeHolder k new why).station x).core)
    (told : why = .takeOver → ∀ old, s.holder k = some old → .conductTaken ∈ (w.station old).notices) :
    ∃ t, s.exchange st code judge = .next t ∧ ConductChanged s t st k code l new why := by
  have written : (s.validFrame st).changeHolder k new why = { s.validFrame st with
      conduct := s.conduct.set k new, journal := ((s.validFrame st).changeHolder k new why).journal
      stations := ((s.validFrame st).changeHolder k new why).stations } := State.write_frame ..
  have journal : ((s.validFrame st).changeHolder k new why).journal = (s.write (.conduct k (s.holder k) new why)).journal :=
    State.write_journal_congr (s := s) (t := (s.validFrame st).setHolder k new) rfl rfl _
  have cores' (x : Station) : (w.station x).core = ((s.validFrame st).station x).core :=
    (cores x).trans (State.write_station_core ..)
  generalize (s.validFrame st).changeHolder k new why = v at frame written journal
  have shape : w = { s.validFrame st with conduct := s.conduct.set k new, journal := w.journal, stations := w.stations } := by
    have same : w.journal = v.journal := by rw [frame]
    rw [same]
    generalize w.stations = N at frame ⊢
    generalize v.journal = J at written ⊢
    generalize v.stations = N' at written
    rw [frame, written]
  have wjournal : w.journal = v.journal := by rw [frame]
  have calm' : w.Calm := by rw [State.Calm, shape]; exact calm
  have now : w.now = s.now := by rw [shape]; rfl
  have limit : w.settings.silenceLimit = s.settings.silenceLimit := by rw [shape]; rfl
  refine ⟨_, State.exchange_done takes judged calm' (cores' st) now limit, ?_, State.answered_core now limit cores',
    wjournal.trans journal, fun taken old held => State.mem_answered_notices (s := w.derive) (told taken old held)⟩
  rw [State.derive_frame]
  generalize w.derive.signals = S
  generalize w.journal = J at shape
  generalize w.stations = N at shape
  rw [shape]
  rfl

theorem State.exchange_changeHolder {s : State} {st : Station} {k : Chamber} {code : Nat} {l : List WireField} {new : Option Station}
    {why : ConductCause} {judge : State → Judged} (takes : s.takes st) (calm : s.Calm) (kind : why ≠ .takeOver)
    (judged : judge (s.validFrame st) = ((s.validFrame st).changeHolder k new why).done .ok l) :
    ∃ t, s.exchange st code judge = .next t ∧ ConductChanged s t st k code l new why :=
  State.exchange_conduct takes calm judged rfl (fun _ => rfl) fun taken => absurd taken kind

theorem State.exchange_takeOver {s : State} {st old : Station} {k : Chamber} {code : Nat} {judge : State → Judged} (takes : s.takes st)
    (calm : s.Calm) (held : s.holder k = some old) (judged : judge (s.validFrame st) = (s.validFrame st).takeOver k old st) :
    ∃ t, s.exchange st code judge = .next t ∧ ConductChanged s t st k code [.byte st.code] (some st) .takeOver := by
  refine State.exchange_conduct (w := ((s.validFrame st).changeHolder k (some st) .takeOver).raiseAt old .conductTaken) takes calm judged
    (State.raiseAt_frame ..) (fun x => station_core_of_core (State.raiseAt_core ..) x) fun _ who same => ?_
  have own : who = old := by
    rw [held] at same
    injection same with same
    exact same.symm
  rw [own]
  unfold State.raiseAt
  rw [State.setStation_station, if_pos rfl]
  exact StationRec.mem_notices_raise.mpr (.inl rfl)

end Sys2Proof.Machine
end

section
/-! SUPPORT. The loss of a station (R62, R164). -/

namespace Sys2Proof.Machine

/-! ## The conduct given up -/

/-- R164: the station LOST, and the conduct it held given up. -/
def State.conductLost (s : State) (st : Station) : State :=
  ((s.setStation st { s.station st with link := .lost, silence := none }).loseConduct st .c1).loseConduct st .c2

theorem State.loseConduct_facts (s : State) (st : Station) (k : Chamber) :
    s.loseConduct st k = { s with
        conduct := (s.loseConduct st k).conduct, journal := (s.loseConduct st k).journal, stations := (s.loseConduct st k).stations }
      ∧ (∀ j, (s.loseConduct st k).holder j = if j = k ∧ s.holder k = some st then none else s.holder j)
      ∧ (∀ y, ((s.loseConduct st k).station y).core = (s.station y).core)
      ∧ (s.loseConduct st k).journal = (if s.holder k = some st then s.write (.conduct k (some st) none .lost) else s).journal := by
  unfold State.loseConduct
  by_cases held : s.holder k = some st
  · rw [if_pos held, if_pos held]
    have frame : s.changeHolder k none .lost = { s.setHolder k none with
        journal := (s.changeHolder k none .lost).journal, stations := (s.changeHolder k none .lost).stations } := State.write_frame ..
    have journal : (s.changeHolder k none .lost).journal = (s.write (.conduct k (some st) none .lost)).journal := by
      unfold State.changeHolder
      rw [held]
      exact State.write_journal_congr (s := s) (t := s.setHolder k none) rfl rfl _
    have cores (y : Station) : ((s.changeHolder k none .lost).station y).core = (s.station y).core := State.write_station_core ..
    generalize s.changeHolder k none .lost = w at frame journal cores ⊢
    have conduct : w.conduct = s.conduct.set k none := by rw [frame]; rfl
    refine ⟨?_, fun j => ?_, cores, journal⟩
    · rw [conduct]
      exact frame
    · unfold State.holder
      rw [conduct, PerChamber.get_set]
      by_cases same : j = k
      · rw [if_pos same, if_pos ⟨same, held⟩]
      · rw [if_neg same, if_neg fun h => same h.1]
  · rw [if_neg held, if_neg held]
    exact ⟨rfl, fun j => (if_neg fun h => held h.2).symm, fun _ => rfl, rfl⟩

/-- R164: the CONDUCT frames of a loss. -/
def State.lossFrames (s : State) (st : Station) : State :=
  let given := fun (u : State) k => if s.holder k = some st then u.write (.conduct k (some st) none .lost) else u
  given (given s .c1) .c2

structure ConductGiven (s u : State) (st : Station) : Prop where
  frame : u = { s with conduct := u.conduct, journal := u.journal, stations := u.stations }
  holders : ∀ k, u.holder k = if s.holder k = some st then none else s.holder k
  own : (u.station st).core = { (s.station st).core with link := .lost, silence := none }
  others : ∀ y, y ≠ st → (u.station y).core = (s.station y).core
  journal : u.journal = (s.lossFrames st).journal

theorem State.conductLost_given (s : State) (st : Station) : ConductGiven s (s.conductLost st) st := by
  let v := s.setStation st { s.station st with link := .lost, silence := none }
  obtain ⟨frame1, holders1, cores1, journal1⟩ := v.loseConduct_facts st .c1
  have second := (v.loseConduct st .c1).loseConduct_facts st .c2
  unfold State.conductLost
  generalize v.loseConduct st .c1 = w at frame1 holders1 cores1 journal1 second ⊢
  obtain ⟨frame2, holders2, cores2, journal2⟩ := second
  generalize w.loseConduct st .c2 = u at frame2 holders2 cores2 journal2 ⊢
  have far : w.holder .c2 = s.holder .c2 := (holders1 .c2).trans (if_neg fun h => nomatch h.1)
  refine ⟨?_, fun k => ?_, ?_, fun y out => ?_, ?_⟩
  · generalize u.conduct = C at frame2 ⊢
    generalize u.journal = J at frame2 ⊢
    generalize u.stations = N at frame2 ⊢
    generalize w.conduct = C' at frame1
    generalize w.journal = J' at frame1
    generalize w.stations = N' at frame1
    rw [frame2, frame1]
    rfl
  · cases k with
    | c1 =>
      refine (holders2 .c1).trans ((if_neg fun h => nomatch h.1).trans ((holders1 .c1).trans ?_))
      by_cases held : s.holder .c1 = some st
      · rw [if_pos held]
        exact if_pos ⟨rfl, held⟩
      · rw [if_neg held]
        exact if_neg fun h => held h.2
    | c2 =>
      refine (holders2 .c2).trans ?_
      rw [far]
      by_cases held : s.holder .c2 = some st
      · rw [if_pos held]
        exact if_pos ⟨rfl, held⟩
      · rw [if_neg held]
        exact if_neg fun h => held h.2
  · rw [cores2, cores1, State.setStation_station, if_pos rfl]
    rfl
  · rw [cores2, cores1, State.setStation_station, if_neg out]
  · rw [journal2, far]
    unfold State.lossFrames
    dsimp only
    have first : w.journal = (if s.holder .c1 = some st then s.write (.conduct .c1 (some st) none .lost) else s).journal := by
      rw [journal1, show v.holder .c1 = s.holder .c1 from rfl]
      by_cases held : s.holder .c1 = some st
      · rw [if_pos held, if_pos held]
        exact State.write_journal_congr (s := s) (t := v) rfl rfl _
      · rw [if_neg held, if_neg held]
        rfl
    have wreserved : w.reserved = s.reserved := by
      rw [frame1]
      rfl
    have reserved : w.reserved = (if s.holder .c1 = some st then s.write (.conduct .c1 (some st) none .lost) else s).reserved := by
      rw [wreserved]
      split
      · exact (s.write_moved _).reserved.symm
      · rfl
    by_cases held : s.holder .c2 = some st
    · rw [if_pos held, if_pos held]
      exact State.write_journal_congr first reserved _
    · rw [if_neg held, if_neg held]
      exact first

/-! ## The chambers it conducted (R62) -/

/-- R62: chamber k, halted when `lost` says so; nothing else has changed. -/
structure LossStep (s t : State) (k : Chamber) (lost : Bool) : Prop where
  frame : t = { s with
    drive := t.drive, levels := t.levels, chambers := t.chambers, journal := t.journal, stations := t.stations }
  core : t.core = s.core
  guards : SameGuards s t
  line : SameLine s t
  halted : lost = true → ChamberHalted s t k (s.chamber k).state .linkLost none
  kept : lost = false → SameChamber s t k
  other : SameChamber s t k.other
  cross : t.sluice .cross = s.sluice .cross
  unstopped : (∀ e, (s.gate k e).state.moving = false) → t.journal = s.journal

theorem LossStep.refl (s : State) (k : Chamber) : LossStep s s k false :=
  ⟨rfl, rfl, ⟨rfl, rfl, rfl⟩, ⟨rfl, rfl⟩, nofun, fun _ => .refl s k, .refl s _, rfl, fun _ => rfl⟩

theorem HaltMade.lossStep {s t : State} {k : Chamber} (h : HaltMade s t k .linkLost none) : LossStep s t k true := by
  have halted := h.haltedIn
  have away : k.other ≠ k := by cases k <;> nofun
  exact ⟨h.frame, h.core, h.guards, h.line, fun _ => halted.toChamberHalted, nofun,
    ⟨h.otherChamber, h.otherGates, fun e => h.otherSluices _ fun i same => away (by injection same)⟩,
    h.otherSluices .cross fun _ => nofun, fun rest => h.unstopped fun e _ => rest e⟩

/-- R62: whether chamber k is halted by the loss of station `st`, its holders read in `old`. -/
def State.losesTo (s old : State) (st : Station) (k : Chamber) : Bool :=
  decide (old.holder k = some st) && decide ((s.chamber k).mode = .directed) && (s.chamber k).state.live

theorem State.lostHalt_step {s : State} (free : s.CrossFree) (old : State) (st : Station) (k : Chamber) :
    LossStep s (s.lostHalt old st k) k (s.losesTo old st k) := by
  unfold State.lostHalt State.losesTo
  cases lost : (decide (old.holder k = some st) && decide ((s.chamber k).mode = .directed) && (s.chamber k).state.live) with
  | true => exact (State.haltChamber_made free k .linkLost none (.halt k)).lossStep
  | false => exact .refl s k

/-- R62: both chambers told of the loss. -/
structure LossTold (s t : State) (lost : Chamber → Bool) : Prop where
  frame : t = { s with
    drive := t.drive, levels := t.levels, chambers := t.chambers, journal := t.journal, stations := t.stations }
  core : t.core = s.core
  guards : SameGuards s t
  line : SameLine s t
  halted : ∀ k, lost k = true → ChamberHalted s t k (s.chamber k).state .linkLost none
  kept : ∀ k, lost k = false → SameChamber s t k
  cross : t.sluice .cross = s.sluice .cross
  unstopped : (∀ k e, (s.gate k e).state.moving = false) → t.journal = s.journal

/-- A chamber that another one's step has left as it was. -/
theorem ChamberHalted.congr {s t s' t' : State} {k : Chamber} {c : ChamberState} {why : HaltCause} {spare : Option Side}
    (h : ChamberHalted s t k c why spare) (before : SameChamber s s' k) (after : SameChamber t t' k) :
    ChamberHalted s' t' k c why spare where
  chamber := by rw [after.chamber, before.chamber]; exact h.chamber
  sluices e := by rw [after.sluices, before.sluices]; exact h.sluices e
  gates e out := by rw [after.gates, before.gates]; exact h.gates e out

theorem SameChamber.symm {s t : State} {k : Chamber} (h : SameChamber s t k) : SameChamber t s k :=
  ⟨h.chamber.symm, fun e => (h.gates e).symm, fun e => (h.sluices e).symm⟩

theorem SameChamber.trans {s t u : State} {k : Chamber} (h : SameChamber s t k) (g : SameChamber t u k) : SameChamber s u k :=
  ⟨g.chamber.trans h.chamber, fun e => (g.gates e).trans (h.gates e), fun e => (g.sluices e).trans (h.sluices e)⟩

theorem LossStep.both {s t u : State} {lost : Chamber → Bool} (h : LossStep s t .c1 (lost .c1)) (g : LossStep t u .c2 (lost .c2)) :
    LossTold s u lost := by
  have far : SameChamber s t .c2 := h.other
  have near : SameChamber t u .c1 := g.other
  refine ⟨?_, g.core.trans h.core, ⟨g.guards.1.trans h.guards.1, g.guards.2.1.trans h.guards.2.1, g.guards.2.2.trans h.guards.2.2⟩,
    ⟨g.line.1.trans h.line.1, g.line.2.trans h.line.2⟩, fun k yes => ?_, fun k no => ?_, g.cross.trans h.cross, fun rest => ?_⟩
  · rw [g.frame, h.frame]
  · cases k with
    | c1 => exact (h.halted yes).congr (.refl s _) near
    | c2 =>
      have own := (g.halted yes).congr far.symm (.refl u _)
      rw [far.chamber] at own
      exact own
  · cases k with
    | c1 => exact (h.kept no).trans near
    | c2 => exact far.trans (g.kept no)
  · exact (g.unstopped fun e => by rw [far.gates]; exact rest .c2 e).trans (h.unstopped fun e => rest .c1 e)

theorem State.lostHalts_told {s : State} (free : s.CrossFree) (old : State) (st : Station) :
    LossTold s ((s.lostHalt old st .c1).lostHalt old st .c2) (s.losesTo old st) := by
  have first := State.lostHalt_step free old st .c1
  have free' : (s.lostHalt old st .c1).CrossFree := by
    unfold State.CrossFree
    rw [first.frame]
    exact free
  have second := State.lostHalt_step free' old st .c2
  have same : (s.lostHalt old st .c1).losesTo old st .c2 = s.losesTo old st .c2 := by
    have far : (s.lostHalt old st .c1).chamber .c2 = s.chamber .c2 := first.other.chamber
    unfold State.losesTo
    rw [far]
  rw [same] at second
  exact first.both second

end Sys2Proof.Machine
end

section
/-! SUPPORT. The loss of a station settled, with the claims and releases of conduct (R62, R164 to R167). -/

namespace Sys2Proof.Machine

/-! ## LINK_LOST -/

/-- R164: what the loss of a station leaves of the conduct, the stations and the journal. -/
structure LinkGone (s t : State) (st : Station) : Prop where
  holders : ∀ k, t.holder k = if s.holder k = some st then none else s.holder k
  own : (t.station st).core = { (s.station st).core with link := .lost, silence := none }
  others : ∀ y, y ≠ st → (t.station y).core = (s.station y).core
  journal : (∀ k e, (s.gate k e).state.moving = false) →
    t.journal = ((s.lossFrames st).write (.fault .linkLost (.station st) s.time)).journal

/-- R164: the end of the event, the chambers it conducted having been told. -/
theorem linkLost_ends {s u v : State} {st : Station} {x : Nat} {lost : Chamber → Bool} (calm : s.Calm)
    (link : (s.station st).link = .present) (silence : (s.station st).silence = some x) (given : ConductGiven (s.reach x) u st)
    (told : LossTold u v lost) (halts : ((s.reach x).conductLost st) = u)
    (tells : (u.lostHalt (s.reach x) st .c1).lostHalt (s.reach x) st .c2 = v) :
    exec (.linkLost st) s = .next ((v.raiseFault .linkLost (.station st)).derive)
      ∧ LinkGone s (v.raiseFault .linkLost (.station st)).derive st
      ∧ (v.raiseFault .linkLost (.station st)).derive = { s with
          now := max s.now x, conduct := u.conduct, journal := (v.raiseFault .linkLost (.station st)).journal
          stations := (v.raiseFault .linkLost (.station st)).stations, capture := (v.raiseFault .linkLost (.station st)).capture
          signals := (v.raiseFault .linkLost (.station st)).derive.signals, drive := v.drive, levels := v.levels
          chambers := v.chambers }
      ∧ (v.raiseFault .linkLost (.station st)).drive = v.drive ∧ (v.raiseFault .linkLost (.station st)).levels = v.levels
      ∧ (v.raiseFault .linkLost (.station st)).chambers = v.chambers := by
  have raised := v.raiseFault_frame .linkLost (.station st)
  have journal : (v.raiseFault .linkLost (.station st)).journal = (v.write (.fault .linkLost (.station st) v.time)).journal :=
    State.raiseFault_journal ..
  have rcore : (v.raiseFault .linkLost (.station st)).core = v.core := State.raiseFault_core ..
  have run : exec (.linkLost st) s = .next ((v.raiseFault .linkLost (.station st)).finish) := by
    show execLinkLost st s = _
    unfold execLinkLost
    rw [link, silence]
    show Host.Outcome.next ((((((s.reach x).conductLost st).lostHalt (s.reach x) st .c1).lostHalt (s.reach x) st .c2).raiseFault .linkLost (.station st)).finish) = _
    rw [halts, tells]
  change v.raiseFault .linkLost (.station st) = { v with
    journal := (v.raiseFault .linkLost (.station st)).journal, stations := (v.raiseFault .linkLost (.station st)).stations
    capture := (v.raiseFault .linkLost (.station st)).capture } at raised
  generalize v.raiseFault .linkLost (.station st) = w at raised journal rcore run ⊢
  have agenda : w.agenda = s.agenda := by rw [raised]; show v.agenda = _; rw [told.frame]; show u.agenda = _; rw [given.frame]; rfl
  have book : w.book = s.book := by rw [raised]; show v.book = _; rw [told.frame]; show u.book = _; rw [given.frame]; rfl
  have wcalm : w.Calm := by unfold State.Calm; rw [agenda, book]; exact calm
  have conduct : w.conduct = u.conduct := by rw [raised]; show v.conduct = _; rw [told.frame]
  have cores (y : Station) : (w.station y).core = (u.station y).core := station_core_of_core (rcore.trans told.core) y
  have time : v.time = s.time := by
    have clock : v.clock = s.clock := by rw [told.frame]; show u.clock = _; rw [given.frame]; rfl
    rw [State.time, State.time, clock]
  have ugate (k : Chamber) (e : Side) : u.gate k e = s.gate k e := by
    have drive : u.drive = s.drive := by rw [given.frame]; rfl
    exact gate_of_drive drive k e
  refine ⟨by rw [run, State.finish_calm wcalm], ⟨fun k => ?_, (cores st).trans given.own, fun y out => (cores y).trans (given.others y out),
    fun rest => ?_⟩, ?_, by rw [raised], by rw [raised], by rw [raised]⟩
  · refine Eq.trans ?_ (given.holders k)
    show w.conduct.get k = u.conduct.get k
    rw [conduct]
  · refine Eq.trans journal ?_
    rw [time]
    have vjournal : v.journal = (s.lossFrames st).journal := by
      refine (told.unstopped fun k e => by rw [ugate]; exact rest k e).trans (given.journal.trans ?_)
      unfold State.lossFrames
      dsimp only
      have first : (if (s.reach x).holder .c1 = some st then (s.reach x).write (.conduct .c1 (some st) none .lost) else s.reach x).journal
          = (if s.holder .c1 = some st then s.write (.conduct .c1 (some st) none .lost) else s).journal := by
        rw [show (s.reach x).holder .c1 = s.holder .c1 from rfl]
        split
        · exact State.write_journal_congr (s := s) (t := s.reach x) rfl rfl _
        · rfl
      have reserved : (if (s.reach x).holder .c1 = some st then (s.reach x).write (.conduct .c1 (some st) none .lost) else s.reach x).reserved
          = (if s.holder .c1 = some st then s.write (.conduct .c1 (some st) none .lost) else s).reserved := by
        rw [show (s.reach x).holder .c1 = s.holder .c1 from rfl]
        split
        · exact (((s.reach x).write_moved _).reserved.trans rfl).trans (s.write_moved _).reserved.symm
        · rfl
      rw [show (s.reach x).holder .c2 = s.holder .c2 from rfl]
      by_cases held : s.holder .c2 = some st
      · rw [if_pos held, if_pos held]
        exact State.write_journal_congr first reserved _
      · rw [if_neg held, if_neg held]
        exact first
    have reserved : v.reserved = (s.lossFrames st).reserved := by
      have left : v.reserved = s.reserved := by
        have same : v.book = s.book := by rw [told.frame]; show u.book = _; rw [given.frame]; rfl
        simp only [State.reserved, State.reserveOf, State.batch, same]
      rw [left]
      unfold State.lossFrames
      dsimp only
      split
      · refine Eq.trans ?_ (State.write_moved _ _).reserved.symm
        split
        · exact (s.write_moved _).reserved.symm
        · rfl
      · split
        · exact (s.write_moved _).reserved.symm
        · rfl
    exact State.write_journal_congr vjournal reserved _
  · obtain ⟨z, hz⟩ : ∃ z, w.derive = z := ⟨_, rfl⟩
    have ends : z = { w with signals := z.signals } := by rw [← hz, State.derive_frame]
    have f := told.frame
    have g := given.frame
    rw [hz]
    generalize z.signals = G at ends ⊢
    generalize w.journal = J at raised ⊢
    generalize w.stations = N at raised ⊢
    generalize w.capture = C at raised ⊢
    generalize v.drive = D at f ⊢
    generalize v.levels = L at f ⊢
    generalize v.chambers = K at f ⊢
    generalize v.journal = J' at f
    generalize v.stations = N' at f
    generalize u.conduct = H at g ⊢
    generalize u.journal = J'' at g
    generalize u.stations = N'' at g
    rw [ends, raised, f, g]
    rfl

theorem LossTold.refl (s : State) : LossTold s s fun _ => false :=
  ⟨rfl, rfl, ⟨rfl, rfl, rfl⟩, ⟨rfl, rfl⟩, fun _ => nofun, fun k _ => .refl s k, rfl, fun _ => rfl⟩

/-- R164: no chamber to halt. -/
theorem linkLost_quiet {s : State} {st : Station} {x : Nat} (calm : s.Calm) (link : (s.station st).link = .present)
    (silence : (s.station st).silence = some x) (automatic : ∀ k, s.holder k = some st → (s.chamber k).mode = .automatic) :
    ∃ t, exec (.linkLost st) s = .next t ∧ LinkGone s t st
      ∧ t = { s with
          now := max s.now x, conduct := t.conduct, journal := t.journal, stations := t.stations, capture := t.capture
          signals := t.signals } := by
  have given := (s.reach x).conductLost_given st
  obtain ⟨u, hu⟩ : ∃ u, (s.reach x).conductLost st = u := ⟨_, rfl⟩
  rw [hu] at given
  have chamber (k : Chamber) : u.chamber k = s.chamber k := by rw [given.frame]; rfl
  have unhalted (k : Chamber) : u.lostHalt (s.reach x) st k = u := by
    unfold State.lostHalt
    refine if_neg fun h => ?_
    simp only [Bool.and_eq_true, decide_eq_true_eq] at h
    obtain ⟨⟨held, directed⟩, _⟩ := h
    rw [chamber, automatic k held] at directed
    cases directed
  obtain ⟨run, gone, frame, drive, levels, chambers⟩ := linkLost_ends (v := u) calm link silence given (LossTold.refl u) hu (by rw [unhalted, unhalted])
  refine ⟨_, run, gone, ?_⟩
  have ud : u.drive = s.drive := by rw [given.frame]; rfl
  have ul : u.levels = s.levels := by rw [given.frame]; rfl
  have uc : u.chambers = s.chambers := by rw [given.frame]; rfl
  rw [ud, ul, uc] at frame
  obtain ⟨z, hz⟩ : ∃ z, (u.raiseFault .linkLost (.station st)).derive = z := ⟨_, rfl⟩
  have conduct : z.conduct = u.conduct := by rw [← hz, frame]
  have journal : z.journal = (u.raiseFault .linkLost (.station st)).journal := by rw [← hz]; rfl
  have stations : z.stations = (u.raiseFault .linkLost (.station st)).stations := by rw [← hz]; rfl
  have capture : z.capture = (u.raiseFault .linkLost (.station st)).capture := by rw [← hz]; rfl
  rw [hz] at frame ⊢
  rw [conduct, journal, stations, capture]
  exact frame

/-- R62, R164: the arbiter free. -/
theorem linkLost_halts {s : State} {st : Station} {x : Nat} (calm : s.Calm) (link : (s.station st).link = .present)
    (silence : (s.station st).silence = some x) (free : s.CrossFree) :
    let lost := fun k => s.holder k = some st ∧ (s.chamber k).mode = .directed ∧ (s.chamber k).state.live = true
    ∃ t, exec (.linkLost st) s = .next t ∧ LinkGone s t st
      ∧ t = { s with
          now := max s.now x, conduct := t.conduct, journal := t.journal, stations := t.stations, capture := t.capture
          signals := t.signals, drive := t.drive, levels := t.levels, chambers := t.chambers }
      ∧ (∀ k, lost k → ChamberHalted s t k (s.chamber k).state .linkLost none) ∧ (∀ k, ¬lost k → SameChamber s t k)
      ∧ t.sluice .cross = s.sluice .cross ∧ SameLevels s t ∧ SameGuards s t ∧ SameLine s t := by
  intro lost
  have given := (s.reach x).conductLost_given st
  obtain ⟨u, hu⟩ : ∃ u, (s.reach x).conductLost st = u := ⟨_, rfl⟩
  rw [hu] at given
  have drive : u.drive = s.drive := by rw [given.frame]; rfl
  have levels : u.levels = s.levels := by rw [given.frame]; rfl
  have chamber (k : Chamber) : u.chamber k = s.chamber k := by rw [given.frame]; rfl
  have ufree : u.CrossFree := by rw [State.CrossFree, given.frame]; exact free
  have told := State.lostHalts_told ufree (s.reach x) st
  obtain ⟨v, hv⟩ : ∃ v, (u.lostHalt (s.reach x) st .c1).lostHalt (s.reach x) st .c2 = v := ⟨_, rfl⟩
  rw [hv] at told
  have decided (k : Chamber) : u.losesTo (s.reach x) st k = true ↔ lost k := by
    unfold State.losesTo
    rw [chamber]
    simp only [Bool.and_eq_true, decide_eq_true_eq, and_assoc]
    exact Iff.rfl
  obtain ⟨run, gone, frame, wd, wl, wc⟩ := linkLost_ends calm link silence given told hu hv
  obtain ⟨z, hz⟩ : ∃ z, (v.raiseFault .linkLost (.station st)).derive = z := ⟨_, rfl⟩
  have conduct : z.conduct = u.conduct := by rw [← hz, frame]
  have journal : z.journal = (v.raiseFault .linkLost (.station st)).journal := by rw [← hz]; rfl
  have stations : z.stations = (v.raiseFault .linkLost (.station st)).stations := by rw [← hz]; rfl
  have capture : z.capture = (v.raiseFault .linkLost (.station st)).capture := by rw [← hz]; rfl
  have zd : z.drive = v.drive := by rw [← hz]; exact wd
  have zl : z.levels = v.levels := by rw [← hz]; exact wl
  have zc : z.chambers = v.chambers := by rw [← hz]; exact wc
  rw [hz] at run gone frame
  have before (k : Chamber) : SameChamber u s k :=
    ⟨(chamber k).symm, fun e => (gate_of_drive drive k e).symm, fun e => (sluice_of_drive drive _).symm⟩
  have after (k : Chamber) : SameChamber v z k :=
    ⟨congrArg (fun c : PerChamber Sequencer => c.get k) zc, fun e => gate_of_drive zd k e, fun e => sluice_of_drive zd _⟩
  refine ⟨z, run, gone, ?_, fun k yes => ?_, fun k no => ?_, ?_, ?_, ?_, ?_⟩
  · rw [conduct, journal, stations, capture, zd, zl, zc]
    exact frame
  · have halted := (told.halted k ((decided k).mpr yes)).congr (before k) (after k)
    rw [chamber] at halted
    exact halted
  · have no' : u.losesTo (s.reach x) st k = false := Bool.eq_false_iff.mpr fun yes => no ((decided k).mp yes)
    exact (before k).symm.trans ((told.kept k no').trans (after k))
  · exact (sluice_of_drive zd .cross).trans (told.cross.trans (sluice_of_drive drive .cross))
  · exact (SameLevels.of_core told.core).of_levels levels.symm zl
  · unfold SameGuards
    rw [zd, zl]
    refine ⟨told.guards.1.trans (by rw [drive]), told.guards.2.1.trans (by rw [drive]), told.guards.2.2.trans (by rw [levels])⟩
  · unfold SameLine
    rw [zd]
    exact ⟨told.line.1.trans (by rw [drive]), told.line.2.trans (by rw [drive])⟩

/-! ## CLAIM and RELEASE CONDUCT (R165, R166) -/

section
variable {s : State} {st : Station} {k : Chamber} (takes : s.takes st) (calm : s.Calm) (present : s.chamberPresent k = true)
include takes present

omit takes in
theorem claim_judged {a : Judged} (own : (match (s.validFrame st).holder k with
      | none => ((s.validFrame st).changeHolder k (some st) .claim).done .ok [holderField (some st)]
      | some old =>
        if old = st then (s.validFrame st).report [holderField (some st)]
        else if old = .tc then (s.validFrame st).takeOver k old st
        else if st = .tc then (s.validFrame st).refuse .noConduct [holderField (some old)]
        else if (s.validFrame st).chamberMoving k then (s.validFrame st).refuse .busy [holderField (some old)]
        else (s.validFrame st).takeOver k old st) = a) :
    judgeClaim st k (s.validFrame st) = a :=
  (State.judged_anyOf (s := s.validFrame st) present st _).trans own

include calm

theorem claim_free (free : s.holder k = none) :
    ∃ t, exec (.claim st k) s = .next t ∧ ConductChanged s t st k 0x30 [.byte st.code] (some st) .claim :=
  State.exchange_changeHolder takes calm nofun (claim_judged present (by
    rw [show (s.validFrame st).holder k = none from free]
    rfl))

omit calm in
theorem claim_own (own : s.holder k = some st) : exec (.claim st k) s = .next (s.answered st 0x30 .ok [.byte st.code]) :=
  State.exchange_report takes (claim_judged present (by
    rw [show (s.validFrame st).holder k = some st from own]
    exact if_pos rfl))

theorem claim_takes {old : Station} (held : s.holder k = some old) (other : old ≠ st)
    (given : old = .tc ∨ st ≠ .tc ∧ s.chamberMoving k = false) :
    ∃ t, exec (.claim st k) s = .next t ∧ ConductChanged s t st k 0x30 [.byte st.code] (some st) .takeOver := by
  refine State.exchange_takeOver takes calm held (claim_judged present ?_)
  rw [show (s.validFrame st).holder k = some old from held]
  dsimp only
  rw [if_neg other]
  by_cases centre : old = .tc
  · rw [if_pos centre]
  · obtain ⟨cabin, still⟩ := given.resolve_left centre
    rw [if_neg centre, if_neg cabin, show (s.validFrame st).chamberMoving k = false from still]
    rfl

omit calm in
theorem claim_refused_centre {old : Station} (held : s.holder k = some old) (other : old ≠ st) (centre : st = .tc) :
    exec (.claim st k) s = .next (s.answered st 0x30 .noConduct [.byte old.code]) := by
  refine State.exchange_report takes (claim_judged present ?_)
  rw [show (s.validFrame st).holder k = some old from held]
  dsimp only
  rw [if_neg other, if_neg fun h => other (h.trans centre.symm), if_pos centre]
  rfl

omit calm in
theorem claim_busy {old : Station} (held : s.holder k = some old) (other : old ≠ st) (centre : old ≠ .tc) (cabin : st ≠ .tc)
    (moving : s.chamberMoving k = true) : exec (.claim st k) s = .next (s.answered st 0x30 .busy [.byte old.code]) := by
  refine State.exchange_report takes (claim_judged present ?_)
  rw [show (s.validFrame st).holder k = some old from held]
  dsimp only
  rw [if_neg other, if_neg centre, if_neg cabin, show (s.validFrame st).chamberMoving k = true from moving]
  rfl

theorem release_own (own : s.holder k = some st) :
    ∃ t, exec (.releaseConduct st k) s = .next t ∧ ConductChanged s t st k 0x31 [] none .release :=
  State.exchange_changeHolder takes calm nofun
    ((State.judged_anyOf (s := s.validFrame st) present st _).trans (if_pos (show (s.validFrame st).holder k = some st from own)))

omit calm in
theorem release_refused (other : s.holder k ≠ some st) :
    exec (.releaseConduct st k) s = .next (s.answered st 0x31 .noConduct [holderField (s.holder k)]) :=
  State.exchange_report takes
    ((State.judged_anyOf (s := s.validFrame st) present st _).trans (if_neg (show (s.validFrame st).holder k ≠ some st from other)))

end

/-- Settles O58. -/
theorem conductIsClaimedReleasedAndLost : Obligations.ConductIsClaimedReleasedAndLost := by
  refine ⟨fun s st k takes calm present => ?_, fun s st k m d e x w p l takes => ⟨fun absent c n mem => ?_, fun present => ⟨fun c n mem =>
    ⟨fun free => ?_, fun y held other => ?_⟩, fun c n y mem held other => ?_⟩⟩, fun s st who a b takes centre other c n mem => ?_,
    fun s st x calm link silence => ⟨fun automatic => ?_, fun free => ?_⟩⟩
  · have taken {c : Instr} {n : Nat} {l : List WireField} {new : Option Station} {why : ConductCause}
        (h : ∃ t, exec c s = .next t ∧ ConductChanged s t st k n l new why) :
        ∃ t, exec c s = .next t
          ∧ t = { s.answered st n .ok l with
              conduct := s.conduct.set k new, journal := t.journal, stations := t.stations, signals := t.signals }
          ∧ (∀ x, (t.station x).core = ((s.answered st n .ok l).station x).core)
          ∧ t.journal = (s.write (.conduct k (s.holder k) new why)).journal
          ∧ (why = .takeOver → ∀ old, s.holder k = some old → .conductTaken ∈ (t.station old).notices) :=
      h.imp fun t ⟨run, made⟩ => ⟨run, made.frame, made.cores, made.journal, made.told⟩
    refine ⟨fun free => taken (claim_free takes calm present free), fun own => ⟨claim_own takes present own,
      taken (release_own takes calm present own)⟩, fun other => ⟨_, release_refused takes present other, ?_⟩,
      fun old held other => ⟨fun centre => taken (claim_takes takes calm present held other (.inl centre)),
        fun centre => claim_refused_centre takes present held other centre, fun centre cabin =>
          ⟨fun moving => claim_busy takes present held other centre cabin moving,
            fun still => taken (claim_takes takes calm present held other (.inr ⟨cabin, still⟩))⟩⟩⟩
    cases s.holder k <;> rfl
  · rcases List.mem_append.mp mem with mem | mem
    · rcases List.mem_append.mp mem with mem | mem
      · exact (asks_conductor mem).barred takes (State.barred_absent absent st rfl)
      · exact (asks_confirm mem).barred takes (State.barred_absent absent st rfl)
    · exact (asks_anyOf mem).barred takes (State.barred_absent absent st rfl)
  · have bars := State.barred_conductor present (st := st) (by rw [free]; nofun)
    rw [free] at bars
    exact (asks_conductor mem).barred takes bars
  · have bars := State.barred_conductor present (st := st) (by rw [held]; simpa using other)
    rw [held] at bars
    exact (asks_conductor mem).barred takes bars
  · exact (asks_confirm mem).barred takes (State.barred_confirm present held other)
  · exact (asks_tc other mem).barred takes (s.barred_tc centre)
  · obtain ⟨t, run, gone, frame⟩ := linkLost_quiet calm link silence automatic
    exact ⟨t, run, ⟨gone.holders, gone.own, gone.others, gone.journal⟩, frame⟩
  · obtain ⟨t, run, gone, frame, halted, kept, cross, levels, guards, line⟩ := linkLost_halts calm link silence free
    exact ⟨t, run, ⟨gone.holders, gone.own, gone.others, gone.journal⟩, frame, halted, kept, cross, levels, guards, line⟩

end Sys2Proof.Machine
end

section
/-! SUPPORT. The chamber's timers (R46, R47, R49), and the formation timer (R98, R99, R104). -/

namespace Sys2Proof.Machine

/-! ## The timers of a chamber -/

theorem notice_raiseAll (s : State) (n : NoticeKind) (x : Station) : n ∈ ((s.raiseAll n).station x).notices := by
  rw [State.raiseAll_station]
  exact StationRec.mem_notices_raise.mpr (.inl rfl)

/-- A timer of chamber k runs out: its time is reached, and the sequencer's record changes. -/
theorem State.timer_finish {s : State} (calm : s.Calm) (x : Nat) (k : Chamber) (c : Sequencer) :
    ∃ t, ((s.reach x).setChamber k c).finish = t
      ∧ t = { s with now := max s.now x, chambers := t.chambers, signals := t.signals }
      ∧ t.chamber k = c ∧ t.chamber k.other = s.chamber k.other := by
  have calm' : ((s.reach x).setChamber k c).Calm := calm
  have away : k.other ≠ k := by cases k <;> nofun
  exact ⟨_, State.finish_calm calm', rfl, (State.setChamber_chamber _ k c k).trans (if_pos rfl),
    (State.setChamber_chamber _ k c k.other).trans (if_neg away)⟩

/-- A timer of chamber k runs out, and every station is told. -/
theorem State.timer_told {s : State} (calm : s.Calm) (x : Nat) (k : Chamber) (c : Sequencer) (n : NoticeKind) :
    ∃ t, (((s.reach x).setChamber k c).raiseAll n).finish = t ∧ SameRecords s t
      ∧ t = { s with now := max s.now x, chambers := t.chambers, stations := t.stations, signals := t.signals }
      ∧ t.chamber k = c ∧ t.chamber k.other = s.chamber k.other ∧ ∀ st, n ∈ (t.station st).notices := by
  have calm' : (((s.reach x).setChamber k c).raiseAll n).Calm := calm
  have away : k.other ≠ k := by cases k <;> nofun
  have core : (((s.reach x).setChamber k c).raiseAll n).derive.core = (s.reach x).core := by simp
  exact ⟨_, State.finish_calm calm', ⟨rfl, rfl, rfl, rfl, rfl, rfl, rfl, rfl, rfl, rfl, fun st => station_core_of_core core st⟩, rfl,
    (State.setChamber_chamber _ k c k).trans (if_pos rfl), (State.setChamber_chamber _ k c k.other).trans (if_neg away),
    notice_raiseAll _ n⟩

/-! ## A batch formed from the other end's list (R99) -/

/-- R98: with one chamber available, it alone attempts a formation. -/
theorem State.pushAvailable_one {s : State} {k : Chamber} (one : s.available k = true) (other : s.available k.other = false) :
    s.pushAvailable = s.push (.form k) := by
  unfold State.pushAvailable State.pushForms
  cases k with
  | c1 =>
    have two : s.available .c2 = false := other
    rw [one, two]
    rfl
  | c2 =>
    have two : s.available .c1 = false := other
    rw [one, two]
    rfl

theorem State.pushAvailable_none {s : State} (none_ : ∀ k, s.available k = false) : s.pushAvailable = s := by
  unfold State.pushAvailable State.pushForms
  rw [none_, none_]
  rfl

/-- R99: the age that a list's only oldest WAITING order gives it. -/
theorem State.oldEnough_eq {s : State} {l : List Order} {o : Order} (mem : o ∈ l) (waiting : o.state = .waiting)
    (first : ∀ y ∈ l, y.state = .waiting → y ≠ o → o.sequence < y.sequence) :
    s.oldEnough l = decide (seconds s.settings.turnWait ≤ s.now - o.entered) := by
  have least : (l.filter (fun o => decide (o.state = .waiting))).argmin (·.sequence) = some o := by
    refine List.argmin_eq_some_iff.mpr ⟨List.mem_filter.mpr ⟨mem, decide_eq_true waiting⟩, fun y hy => ?_, fun y hy below => ?_⟩
    · obtain ⟨inside, stands⟩ := List.mem_filter.mp hy
      by_cases same : y = o
      · rw [same]
      · exact (first y inside (of_decide_eq_true stands) same).le
    · obtain ⟨inside, stands⟩ := List.mem_filter.mp hy
      by_cases same : y = o
      · rw [same]
      · exact absurd below (not_le.mpr (first y inside (of_decide_eq_true stands) same))
  unfold State.oldEnough
  rw [least]

/-- R99: a chamber whose own end's list gives no one, resting open, scans the other list once that is old enough. -/
theorem State.form_other {s : State} {k : Chamber} {e : Side} {depth : Int} (available : s.available k = true)
    (rest : (s.chamber k).state = openState e) (level : s.depth = some depth)
    (own : (s.scanList k depth (enteringAt e)).members = []) :
    s.form k =
      if s.oldEnough (s.book.lists.get (enteringAt e).other)
          && !(s.scanList k depth (enteringAt e).other).members.isEmpty then
        (s.bindScan k (enteringAt e).other (s.scanList k depth (enteringAt e).other)).1
      else s := by
  unfold State.form
  rw [if_pos available, level, rest, openState_rest]
  dsimp only
  rw [own]
  rfl

theorem available_automatic {s : State} {k : Chamber} (available : s.available k = true) : (s.chamber k).mode = .automatic := by
  simp only [State.available, Bool.and_eq_true, decide_eq_true_eq] at available
  exact available.1.2

/-- R41, R42: an AUTOMATIC chamber whose table gives CLOSE closes its gate. -/
theorem State.restStep_close {s : State} {k : Chamber} {b : Batch} {e : Side} (batch : s.batch k = some b)
    (rest : (s.chamber k).state = openState e) (table : restTable e true b = .close)
    (automatic : (s.chamber k).mode = .automatic) (opened : (s.gate k e).state = .opened) :
    s.restStep k = (s.startGate k e .cls).setChamberState k (closingState e) := by
  unfold State.restStep
  rw [rest, openState_rest]
  dsimp only
  rw [batch]
  dsimp only
  rw [table]
  refine (if_pos automatic).trans ?_
  unfold State.sequenceClose
  rw [State.closeGate_starts opened]
  rfl

theorem entryEnd_other (d : Direction) : d.other.entryEnd ≠ d.entryEnd := by cases d <;> nofun

/-- R41: a BOUND batch in the open rest state of its exit end calls for CLOSE. -/
theorem restTable_bound_away {e : Side} {b : Batch} (bound : b.state = .bound) (away : b.direction.entryEnd ≠ e) :
    restTable e true b = .close := by
  unfold restTable
  rw [bound]
  exact if_neg away

/-- R19: the order that a sequencer has sent to its gate, seen from a state with the same plant. -/
theorem GateStarted.gateOrdered {s b w u : State} {k : Chamber} {e : Side} {m : GateMove} (started : GateStarted b w k e m)
    (baseDrive : b.drive = s.drive) (baseLevels : b.levels = s.levels) (baseSettings : b.settings = s.settings)
    (drive : u.drive = w.drive) (levels : u.levels = w.levels) (now : u.now = b.now)
    (other : u.chamber k.other = s.chamber k.other) : GateOrdered s u k e m := by
  have same : SameLevels b w := SameLevels.of_core started.core
  obtain ⟨gates, sluices, guards⟩ := started.sameOthers
  refine ⟨?_, ?_, same.of_levels baseLevels.symm levels, ⟨fun k' e' out => ?_, fun q out => ?_, ?_⟩, ?_, other⟩
  · refine (gate_of_drive (s := w) drive k e).trans (started.gate.trans ?_)
    show ({ state := _, outstanding := _, lastMove := _, surge := _
            timer := some (b.now + seconds ((b.settings.chamber.get k).gateLimit.get e)) } : Gate) = _
    rw [now, baseSettings, gate_of_drive baseDrive]
  · rw [drive, started.ordered, baseDrive]
  · exact ((gate_of_drive (s := w) drive k' e').trans (gates k' e' out)).trans (gate_of_drive baseDrive k' e')
  · exact ((sluice_of_drive (s := w) drive q).trans (sluices q out)).trans (sluice_of_drive baseDrive q)
  · obtain ⟨overflow, cycle, fast⟩ := guards
    exact ⟨by rw [drive, overflow, baseDrive], by rw [drive, cycle, baseDrive], by rw [levels, fast, baseLevels]⟩
  · obtain ⟨queries, polls⟩ := started.line
    exact ⟨by rw [drive, queries, baseDrive], by rw [drive, polls, baseDrive]⟩

/-- R99, R104, R42: the formation from the other list granted: the batch is bound, and the chamber closes its gate to turn. -/
theorem State.finish_form_turned {s w : State} {k : Chamber} {e : Side} {depth : Int} (idle : s.agenda = [])
    (other : s.book.deferred.get k.other = false) (available : s.available k = true) (rest : (s.chamber k).state = openState e)
    (level : s.depth = some depth) (own : (s.scanList k depth (enteringAt e)).members = [])
    (old : s.oldEnough (s.book.lists.get (enteringAt e).other) = true) {c : Scan}
    (scanned : s.scanList k depth (enteringAt e).other = c) (taken : c.members ≠ [])
    (asked : (s.derive.raiseCounts c).askReserve (reserveFor c.members.length) = some w) (opened : (s.gate k e).state = .opened) :
    ∃ t S, BatchMade s.derive t k (enteringAt e).other c
      ∧ (s.push (.form k)).finish = { (t.derive.startGate k e .cls).setChamberState k (closingState e) with signals := S } := by
  have scan (d : Direction) : s.derive.scanList k depth d = s.scanList k depth d :=
    State.scanList_congr (s := s) (t := s.derive) rfl rfl rfl k depth d
  obtain ⟨t, bound, made⟩ := State.bindScan_granted asked (d := (enteringAt e).other) (k := k)
  have tidle : t.agenda = [] := by
    rw [made.frame]
    exact idle
  have deferred : t.book.deferred = ⟨false, false⟩ := by
    rw [made.deferred]
    show s.book.deferred.set k false = _
    cases k with
    | c1 => exact congrArg (PerChamber.mk false) other
    | c2 => exact congrArg (fun x => PerChamber.mk x false) other
  have chamber : t.chamber k = s.chamber k := by
    rw [made.frame]
    rfl
  have formed : (({ s.push (.form k) with agenda := [] } : State).derive).runTask (.form k) = t.push (.rest k) := by
    have self : ({ s.push (.form k) with agenda := [] } : State) = s := by
      rw [push_nil idle, ← idle]
    have some_ : (!c.members.isEmpty) = true := by simpa using taken
    rw [self]
    show s.derive.form k = _
    rw [State.form_other (s := s.derive) (k := k) (e := e) (depth := depth) available rest level (by rw [scan]; exact own), scan, scanned,
      some_, show s.derive.oldEnough (s.derive.book.lists.get (enteringAt e).other) = true from old, bound]
    rfl
  have turned : (({ t.push (.rest k) with agenda := [] } : State).derive).runTask (.rest k)
      = (t.derive.startGate k e .cls).setChamberState k (closingState e) := by
    have self : ({ t.push (.rest k) with agenda := [] } : State) = t := by
      rw [push_nil tidle, ← tidle]
    rw [self]
    refine State.restStep_close (s := t.derive) made.batch (by exact (congrArg Sequencer.state chamber).trans rest) ?_ ?_ ?_
    · refine restTable_bound_away rfl ?_
      have away := entryEnd_other (enteringAt e)
      rw [enteringAt_entryEnd] at away
      exact away
    · exact (congrArg Sequencer.mode chamber).trans (available_automatic available)
    · show (t.gate k e).state = .opened
      rw [made.frame]
      exact opened
  have started := t.derive.startGate_started k e .cls
  have calm : ((t.derive.startGate k e .cls).setChamberState k (closingState e)).Calm := started.calm ⟨tidle, deferred⟩
  have ends := State.finish_two (s := s.push (.form k)) (by rw [push_nil idle]) formed (by rw [push_nil tidle]) turned calm.1
  refine ⟨t, ((t.derive.startGate k e .cls).setChamberState k (closingState e)).derive.signals, made, ?_⟩
  have kept : ((t.derive.startGate k e .cls).setChamberState k (closingState e)).derive.clearDeferred
      = ((t.derive.startGate k e .cls).setChamberState k (closingState e)).derive := State.clearDeferred_self calm.2
  rw [ends, kept, State.derive_frame]

/-- R99: a formation that finds no one has no consequence. -/
theorem State.finish_form_nothing {s : State} {k : Chamber} (calm : s.Calm) (nothing : s.derive.form k = s.derive) :
    (s.push (.form k)).finish = s.derive := by
  have formed : (({ s.push (.form k) with agenda := [] } : State).derive).runTask (.form k) = s.derive := by
    have self : ({ s.push (.form k) with agenda := [] } : State) = s := by
      rw [push_nil calm.1]
      exact congrArg (fun a => ({ s with agenda := a } : State)) calm.1.symm
    rw [self]
    exact nothing
  have ends := State.finish_once (s := s.push (.form k)) (by rw [push_nil calm.1]) formed calm.1
  rw [ends, State.derive_derive]
  exact State.clearDeferred_self calm.2

end Sys2Proof.Machine
end

section
/-! SUPPORT. What the formation timer forms (R98, R99, R104). -/

namespace Sys2Proof.Machine

/-- The formation timer's expiry: its time reached, and the timer running again by PRIMARY_INTERVAL. -/
def State.formationDue (s : State) (x : Nat) : State :=
  { s.reach x with book.timer := some (max s.now x + seconds s.settings.primaryInterval) }

theorem exec_formation {s : State} {x : Nat} (timer : s.book.timer = some x) :
    exec .formationTimerExpiry s = .next (s.formationDue x).pushAvailable.finish := by
  show execFormationTimerExpiry s = _
  unfold execFormationTimerExpiry
  rw [timer]
  rfl

/-- What a formation has made of a state whose formation timer has run out. -/
theorem BatchFormed.of_due {s t : State} {x : Nat} {k : Chamber} {d : Direction} {c : Scan} {y : BatchState}
    (h : BatchFormed (s.formationDue x).derive t k d c y) : BatchFormed s t k d c y :=
  ⟨h.batch, h.otherBatch, h.nextBatch, h.counters, h.deferred, h.orders, h.members, h.kept, h.notices⟩

section FormationTimer

variable {s : State} {k : Chamber} {x : Nat} {level : Int} {e : Side}
  (calm : s.Calm) (timer : s.book.timer = some x) (available : s.available k = true) (alone : s.available k.other = false)
  (rest : (s.chamber k).state = openState e) (usable : s.depth = some level)

include timer available alone in
omit calm in
theorem exec_formation_form : exec .formationTimerExpiry s = .next ((s.formationDue x).push (.form k)).finish := by
  rw [exec_formation timer, State.pushAvailable_one (s := s.formationDue x) available alone]

include calm timer available alone rest usable in
/-- R98, R99, R47: the own end's list forms, and the batch becomes ENTERING. -/
theorem formation_granted (taken : (s.scanList k level (enteringAt e)).members ≠ []) (some_ : s.anySubscriber = true)
    (fits : reserveFor (s.scanList k level (enteringAt e)).members.length ≤ s.availableWords) :
    ∃ t, exec .formationTimerExpiry s = .next t
      ∧ BatchFormed s t k (enteringAt e) (s.scanList k level (enteringAt e)) .entering
      ∧ t = { s with
          now := max s.now x, book := t.book, chambers := t.chambers, signals := t.signals, stations := t.stations }
      ∧ t.book.timer = some (max s.now x + seconds s.settings.primaryInterval)
      ∧ t.chamber k =
        { s.chamber k with
          entry := some (max s.now x + seconds s.settings.entryLimit), entryOverdue := false, pendingOrder := none }
      ∧ t.chamber k.other = s.chamber k.other := by
  let v := s.formationDue x
  let c := s.scanList k level (enteringAt e)
  have scanned : v.scanList k level (enteringAt e) = c := State.scanList_congr (s := s) (t := v) rfl rfl rfl k level _
  have asked : (v.derive.raiseCounts c).askReserve (reserveFor c.members.length) = some (v.derive.raiseCounts c) :=
    (State.askReserve_subscribed (s := v.derive) some_ c _).trans (if_pos fits)
  have away : k.other ≠ k := by cases k <;> nofun
  have unmarked : v.book.deferred.get k.other = false := by
    show s.book.deferred.get k.other = false
    rw [calm.2]
    cases k <;> rfl
  obtain ⟨t, S, made, ends⟩ := State.finish_form_granted (s := v) (e := e) calm.1 unmarked available rest usable scanned taken asked
  have frame := made.frame
  rw [made.journal some_] at frame
  have formed : BatchFormed v.derive ({ t.becomeEntering k (v.newBatch k (enteringAt e) c) with signals := S } : State) k
      (enteringAt e) c .entering :=
    made.formed rfl ((t.setBatch_batch k _ k).trans (if_pos rfl)) ((t.setBatch_batch k _ k.other).trans (if_neg away)) made.notices
  have chamber (j : Chamber) : t.chamber j = s.chamber j := by rw [frame]; rfl
  have now : t.now = max s.now x := by rw [frame]; rfl
  have limit : t.settings = s.settings := by rw [frame]; rfl
  refine ⟨_, (exec_formation_form timer available alone).trans (congrArg Host.Outcome.next ends), formed.of_due, ?_,
    made.counters.2.2, (State.setChamber_chamber _ k _ k).trans ((if_pos rfl).trans ?_),
    (State.setChamber_chamber _ k _ k.other).trans ((if_neg away).trans (chamber _))⟩
  · generalize t.book = B at frame ⊢
    generalize t.stations = N at frame ⊢
    rw [frame]
    rfl
  · rw [chamber, now, limit]

include calm timer available alone rest usable in
/-- R99: the own end's list gives no one, and the other list is not old enough. -/
theorem formation_young (none_ : (s.scanList k level (enteringAt e)).members = [])
    (young : (s.formationDue x).oldEnough (s.book.lists.get (enteringAt e).other) = false) :
    exec .formationTimerExpiry s = .next (s.formationDue x).derive := by
  have scanned (d : Direction) : (s.formationDue x).derive.scanList k level d = s.scanList k level d :=
    State.scanList_congr (s := s) (t := (s.formationDue x).derive) rfl rfl rfl k level d
  rw [exec_formation_form timer available alone]
  refine congrArg Host.Outcome.next (State.finish_form_nothing (s := s.formationDue x) calm ?_)
  rw [State.form_other (s := (s.formationDue x).derive) (e := e) available rest usable (by rw [scanned]; exact none_)]
  rw [show (s.formationDue x).derive.oldEnough ((s.formationDue x).derive.book.lists.get (enteringAt e).other) = false from young]
  rfl

include calm timer available alone rest usable in
/-- R99, R104, R42: the other list forms once it is old enough, and the chamber closes its gate to turn. -/
theorem formation_turned (none_ : (s.scanList k level (enteringAt e)).members = [])
    (old : (s.formationDue x).oldEnough (s.book.lists.get (enteringAt e).other) = true)
    (taken : (s.scanList k level (enteringAt e).other).members ≠ []) (some_ : s.anySubscriber = true)
    (fits : reserveFor (s.scanList k level (enteringAt e).other).members.length ≤ s.availableWords)
    (opened : (s.gate k e).state = .opened) :
    ∃ t, exec .formationTimerExpiry s = .next t
      ∧ BatchFormed s t k (enteringAt e).other (s.scanList k level (enteringAt e).other) .bound
      ∧ GateOrdered s t k e .cls ∧ t.now = max s.now x
      ∧ t.book.timer = some (max s.now x + seconds s.settings.primaryInterval)
      ∧ t.chamber k = { s.chamber k with state := closingState e, pendingOrder := none } := by
  let v := s.formationDue x
  let c := s.scanList k level (enteringAt e).other
  have scan (d : Direction) : v.scanList k level d = s.scanList k level d := State.scanList_congr (s := s) (t := v) rfl rfl rfl k level _
  have asked : (v.derive.raiseCounts c).askReserve (reserveFor c.members.length) = some (v.derive.raiseCounts c) :=
    (State.askReserve_subscribed (s := v.derive) some_ c _).trans (if_pos fits)
  have away : k.other ≠ k := by cases k <;> nofun
  have unmarked : v.book.deferred.get k.other = false := by
    show s.book.deferred.get k.other = false
    rw [calm.2]
    cases k <;> rfl
  obtain ⟨t, S, made, ends⟩ := State.finish_form_turned (s := v) (e := e) calm.1 unmarked available rest usable
    (by rw [scan]; exact none_) old (scan _) taken asked opened
  obtain ⟨w, hw⟩ : ∃ w, t.derive.startGate k e .cls = w := ⟨_, rfl⟩
  have started : GateStarted t.derive w k e .cls := hw ▸ t.derive.startGate_started k e .cls
  rw [hw] at ends
  obtain ⟨u, hu⟩ : ∃ u, ({ w.setChamberState k (closingState e) with signals := S } : State) = u := ⟨_, rfl⟩
  rw [hu] at ends
  have frame := made.frame
  have chamber (j : Chamber) : w.chamber j = s.chamber j := by
    refine (started.chamber j).trans ?_
    show t.chamber j = _
    rw [frame]
    rfl
  have chambers (j : Chamber) : u.chamber j = if j = k then { s.chamber k with state := closingState e, pendingOrder := none } else s.chamber j := by
    rw [← hu]
    refine (State.setChamber_chamber w k _ j).trans ?_
    rw [chamber, chamber]
  have book : u.book = t.book := by
    rw [← hu]
    exact started.book
  have batch (j : Chamber) : u.batch j = t.batch j := by
    show u.book.batches.get j = _
    rw [book]
    rfl
  have now : u.now = t.now := by
    rw [← hu]
    exact started.now
  have tnow : t.now = max s.now x := by rw [frame]; rfl
  have stations (y : Station) : u.station y = t.station y := by
    have plant : w = { t.derive with drive := w.drive, levels := w.levels } := started.plant
    rw [← hu]
    show w.station y = _
    rw [plant]
    rfl
  have formed : BatchFormed v.derive u k (enteringAt e).other c .bound :=
    made.formed (by rw [book]) ((batch k).trans made.batch) (batch k.other) fun y => by rw [stations]; exact made.notices y
  refine ⟨u, (exec_formation_form timer available alone).trans (congrArg Host.Outcome.next ends), formed.of_due, ?_, now.trans tnow,
    ?_, (chambers k).trans (if_pos rfl)⟩
  · refine started.gateOrdered (s := s) ?_ ?_ ?_ ?_ ?_ now ((chambers k.other).trans (if_neg away))
    · show t.drive = _
      rw [frame]
      rfl
    · show t.levels = _
      rw [frame]
      rfl
    · show t.settings = _
      rw [frame]
      rfl
    · rw [← hu]
      rfl
    · rw [← hu]
      rfl
  · rw [book]
    exact made.counters.2.2

include calm timer available alone rest usable in
/-- R104: a reserve that the journal refuses leaves the book as it was, the binding deferred. -/
theorem formation_refused (taken : (s.scanList k level (enteringAt e)).members ≠ []) (some_ : s.anySubscriber = true)
    (full : s.availableWords < reserveFor (s.scanList k level (enteringAt e)).members.length) :
    ∃ t, exec .formationTimerExpiry s = .next t
      ∧ t = { s with
          now := max s.now x, book.timer := some (max s.now x + seconds s.settings.primaryInterval)
          book.deferred := s.book.deferred.set k true, signals := t.signals, stations := t.stations }
      ∧ ∀ st, .journalPressure ∈ (t.station st).notices := by
  let v := s.formationDue x
  have scanned : v.scanList k level (enteringAt e) = s.scanList k level (enteringAt e) :=
    State.scanList_congr (s := s) (t := v) rfl rfl rfl k level _
  have unmarked : v.book.deferred.get k.other = false := by
    show s.book.deferred.get k.other = false
    rw [calm.2]
    cases k <;> rfl
  obtain ⟨S, ends⟩ := State.finish_form_refused (s := v) (e := e) calm.1 unmarked available rest usable scanned taken some_ full
  exact ⟨_, (exec_formation_form timer available alone).trans (congrArg Host.Outcome.next ends), rfl,
    fun st => notice_raiseAll v .journalPressure st⟩

end FormationTimer

/-- R99: how old the oldest order of a list is when the formation timer runs out. -/
theorem oldEnough_due {s : State} {x : Nat} {l : List Order} {o : Order} (mem : o ∈ l) (waiting : o.state = .waiting)
    (first : ∀ y ∈ l, y.state = .waiting → y ≠ o → o.sequence < y.sequence) (entered : o.entered ≤ s.now) :
    (s.formationDue x).oldEnough l = decide (o.entered + seconds s.settings.turnWait ≤ max s.now x) := by
  rw [State.oldEnough_eq mem waiting first]
  refine decide_eq_decide.mpr ?_
  show seconds s.settings.turnWait ≤ max s.now x - o.entered ↔ _
  omega

/-- R46: FILL_SLOW is raised once in a phase. -/
theorem fillSlow_raised {s : State} {k : Chamber} {p : PhaseTimer} (phase : (s.chamber k).phase = some p)
    (unraised : (s.chamber k).slowRaised = false) :
    ∃ t, exec (.fillSlow k) s = .next t ∧ SameRecords s t
      ∧ t = { s with
          now := max s.now (p.start + p.limit), chambers := t.chambers, journal := t.journal, stations := t.stations
          capture := t.capture }
      ∧ t.chamber k = { s.chamber k with slowRaised := true } ∧ t.chamber k.other = s.chamber k.other
      ∧ t.journal = (s.write (.fault .fillSlow (.chamber k) s.time)).journal
      ∧ ∀ st, .fillSlow ∈ (t.station st).notices := by
  obtain ⟨f, hf⟩ : ∃ f, (s.reach (p.start + p.limit)).raiseFault .fillSlow (.chamber k) = f := ⟨_, rfl⟩
  have run : exec (.fillSlow k) s
      = .next ((f.raiseAll .fillSlow).setChamber k { (f.raiseAll .fillSlow).chamber k with slowRaised := true }) := by
    show execFillSlow k s = _
    unfold execFillSlow
    rw [phase]
    rw [← hf]
    exact if_neg (by rw [unraised]; nofun)
  have away : k.other ≠ k := by cases k <;> nofun
  have kept (j : Chamber) : f.chamber j = s.chamber j := by
    rw [← hf]
    exact State.raiseFault_chamber ..
  have journal : f.journal = (s.write (.fault .fillSlow (.chamber k) s.time)).journal := by
    rw [← hf]
    rw [State.raiseFault_journal]
    exact State.write_journal_congr (s := s) (t := s.reach (p.start + p.limit)) rfl rfl (.fault .fillSlow (.chamber k) s.time)
  have frame : f = { s.reach (p.start + p.limit) with journal := f.journal, stations := f.stations, capture := f.capture } := by
    rw [← hf]
    exact State.raiseFault_frame ..
  have core : f.core = (s.reach (p.start + p.limit)).core := by rw [← hf]; exact State.raiseFault_core ..
  obtain ⟨u, hu⟩ : ∃ u, f.raiseAll .fillSlow = u := ⟨_, rfl⟩
  have raised : u = { f with stations := u.stations } := by
    rw [← hu]
    exact State.raiseAll_frame ..
  have same (j : Chamber) : u.chamber j = s.chamber j := by
    rw [← kept j, raised]
    rfl
  obtain ⟨t, ht⟩ : ∃ t, u.setChamber k { s.chamber k with slowRaised := true } = t := ⟨_, rfl⟩
  rw [hu, same, ht] at run
  have ends : t = { f with chambers := t.chambers, stations := t.stations } := by
    have set : t = { u with chambers := t.chambers } := by rw [← ht]; rfl
    have stations : t.stations = u.stations := by rw [set]
    rw [stations]
    generalize t.chambers = C at set ⊢
    rw [set]
    exact congrArg (fun v : State => { v with chambers := C }) raised
  have chambers (j : Chamber) : t.chamber j = if j = k then { s.chamber k with slowRaised := true } else s.chamber j := by
    rw [← ht, State.setChamber_chamber, same]
  have told (st : Station) : .fillSlow ∈ (t.station st).notices := by
    rw [← ht, ← hu]
    exact notice_raiseAll f .fillSlow st
  have records : t.core = (s.reach (p.start + p.limit)).core := by
    rw [← ht, State.setChamber_core, ← hu, State.raiseAll_core, core]
  have journal' : t.journal = f.journal := by rw [ends]
  have capture : t.capture = f.capture := by rw [ends]
  refine ⟨t, run, (reach_records s (p.start + p.limit)).trans (SameRecords.of_core records), ?_, (chambers k).trans (if_pos rfl),
    (chambers k.other).trans (if_neg away), journal'.trans journal, told⟩
  rw [journal', capture]
  generalize t.chambers = C at ends ⊢
  generalize t.stations = N at ends ⊢
  generalize f.journal = J at frame ⊢
  generalize f.capture = P at frame ⊢
  rw [ends, frame]
  rfl

/-- Settles O31. -/
theorem timersSetTheirFlags : Obligations.TimersSetTheirFlags := by
  intro s k calm
  refine ⟨fun p phase unraised => ?_, fun x entry => ?_, fun l leave unset => ?_, fun l leave => ?_, fun x timer => ⟨fun none_ => ?_, ?_⟩⟩
  · exact fillSlow_raised phase unraised
  · obtain ⟨t, ends, told⟩ := State.timer_told calm x k { s.chamber k with entry := none, entryOverdue := true } .entryOverdue
    have run : exec (.entryOverdue k) s = .next t := by
      show execEntryOverdue k s = _
      unfold execEntryOverdue
      rw [entry]
      exact congrArg Host.Outcome.next ends
    exact ⟨t, run, told⟩
  · obtain ⟨t, ends, set⟩ := State.timer_finish calm l.clearAt k { s.chamber k with clearOut := true }
    have run : exec (.clearOut k) s = .next t := by
      show execClearOut k s = _
      unfold execClearOut
      rw [leave]
      exact (if_neg (by rw [unset]; nofun)).trans (congrArg Host.Outcome.next ends)
    exact ⟨t, run, set⟩
  · obtain ⟨t, ends, told⟩ :=
      State.timer_told calm l.expiry k { s.chamber k with leave := none, clearOut := true, leaveOverdue := true } .leaveOverdue
    have run : exec (.leaveOverdue k) s = .next t := by
      show execLeaveOverdue k s = _
      unfold execLeaveOverdue
      rw [leave]
      exact congrArg Host.Outcome.next ends
    exact ⟨t, run, told⟩
  · have run : exec .formationTimerExpiry s = .next (s.formationDue x).derive := by
      rw [exec_formation timer, State.pushAvailable_none (s := s.formationDue x) none_, State.finish_calm (s := s.formationDue x) calm]
    exact ⟨_, run, rfl⟩
  · intro e depth available alone rest level entered d scan grants oldest
    have own : d = enteringAt e := by cases e <;> rfl
    clear_value d
    subst own
    have young := formation_young (e := e) calm timer available alone rest level
    have turned := formation_turned (e := e) calm timer available alone rest level
    have age {o : Order} (first : oldest o) : (s.formationDue x).oldEnough (s.book.lists.get (enteringAt e).other)
        = decide (o.entered + seconds s.settings.turnWait ≤ max s.now x) := by
      obtain ⟨mem, waiting, least⟩ := first
      refine oldEnough_due mem waiting least (entered o (List.mem_append.mpr ?_))
      cases e with
      | lower => exact .inr mem
      | upper => exact .inl mem
    refine ⟨fun taken ⟨some_, fits⟩ => formation_granted (e := e) calm timer available alone rest level taken some_ fits,
      fun none_ o first => ⟨fun early => ?_, fun late taken ⟨some_, fits⟩ opened => ?_⟩,
      formation_refused (e := e) calm timer available alone rest level⟩
    · exact ⟨_, young none_ ((age first).trans (decide_eq_false (not_le.mpr early))), rfl⟩
    · exact turned none_ ((age first).trans (decide_eq_true late)) taken some_ fits opened

end Sys2Proof.Machine
end

section
/-! SUPPORT. The steps of a ramp (R31 to R33), and the phase proper that begins with its first one (R45, R46). -/

namespace Sys2Proof.Machine

/-! ## A step ordered -/

/-- R23: what an order above 0 makes of the record of a sluice that does not stand at its step. -/
def SluiceRec.movedTo (r : SluiceRec) (n x : Nat) (ramp : Option Ramp) : SluiceRec :=
  { r with
    state := .moving, target := some (.step n), superseded := if r.state = .moving then r.supersede else none
    timer := some x, ramp := ramp }

/-- R23, R31: one order sent to a sluice, which moves; the rest of the plant is as it was. -/
structure SluiceOrdered (s t : State) (q : Sluice) (n : Nat) (r : SluiceRec) : Prop extends ActuatorMoved s t (.sluice q) where
  plant : PlantOnly s t
  sluice : t.sluice q = r
  ordered : t.drive.sent = s.drive.sent ++ [⟨.sluice q, .move n, false⟩]

theorem putSluice_actuator (s : State) (q : Sluice) (r : SluiceRec) : ActuatorMoved s (s.putSluice q r) (.sluice q) :=
  ⟨s.putSluice_moved q r, fun _ _ _ => State.putSluice_gate ..,
    fun _ out => (State.putSluice_sluice ..).trans (if_neg fun same => out (by rw [same]))⟩

theorem setRamp_actuator (s : State) (q : Sluice) (r : Option Ramp) : ActuatorMoved s (s.setRamp q r) (.sluice q) :=
  putSluice_actuator s q _

theorem setRamp_sluice (s : State) (q : Sluice) (r : Option Ramp) : (s.setRamp q r).sluice q = { s.sluice q with ramp := r } :=
  (State.putSluice_sluice ..).trans (if_pos rfl)

theorem putSluice_sent (s : State) (q : Sluice) (r : SluiceRec) : (s.putSluice q r).drive.sent = s.drive.sent := by
  cases q <;> rfl

theorem State.sendMove_own (s : State) (q : Sluice) (n : Nat) :
    (s.sendMove q n).sluice q = (s.sluice q).movedTo n s.sluiceExpiry (s.sluice q).ramp :=
  (State.setSluice_sluice ..).trans (if_pos rfl)

theorem State.sendMove_actuator (s : State) (q : Sluice) (n : Nat) : ActuatorMoved s (s.sendMove q n) (.sluice q) :=
  (s.send_actuator _ _).trans (State.setSluice_actuator ..)

/-- R31, R33: a step that the interlock lets pass is sent, and the ramp has that order behind it. -/
theorem State.rampOrder_sent {s : State} {q : Sluice} {r : Ramp} (away : (s.sluice q).stands r.next = false)
    (passes : s.judge (.sluice q) (.move r.next) = none) :
    SluiceOrdered s (s.rampOrder q r) q r.next ((s.sluice q).movedTo r.next s.sluiceExpiry
      (some { r with waiting := .nothing, first := false, lastOrder := some s.now })) := by
  have made : s.rampOrder q r
      = (s.sendMove q r.next).setRamp q (some { r with waiting := .nothing, first := false, lastOrder := some s.now }) := by
    unfold State.rampOrder
    rw [State.moveSluice_eq, if_neg (by rw [away]; nofun)]
    simp only [passes]
  rw [made]
  refine ⟨(s.sendMove_actuator q r.next).trans (setRamp_actuator ..), (s.sendMove_plant q _).trans (State.setRamp_plant ..), ?_, ?_⟩
  · rw [setRamp_sluice, State.sendMove_own]
    rfl
  · refine (putSluice_sent ..).trans ?_
    rw [State.sendMove, State.setSluice_sent]
    rfl

/-- R33: a step that the interlock refuses is kept with its clause. -/
theorem State.rampOrder_refused {s : State} {q : Sluice} {r : Ramp} {c : Clause} (away : (s.sluice q).stands r.next = false)
    (refused : s.judge (.sluice q) (.move r.next) = some c) :
    s.rampOrder q r = s.setRamp q (some { r with waiting := .retry c }) := by
  unfold State.rampOrder
  rw [State.moveSluice_eq, if_neg (by rw [away]; nofun), refused]

/-- R31: a ramp with its interval over, both levels usable and the head limit not in the way orders its next step. -/
theorem State.rampDecide_orders {s : State} {q : Sluice} {r : Ramp} (within : r.next ≤ r.endStep)
    (due : r.first = true ∨ s.rampEarly r = false ∧ s.sidesUsable q = true) (limit : r.next ≤ s.headLimit q) :
    s.rampDecide q r = s.rampOrder q r := by
  have early : (!r.first && s.rampEarly r) = false := by
    rcases due with first | ⟨past, -⟩
    · rw [first]; rfl
    · rw [past, Bool.and_false]
  have level : (!r.first && !s.sidesUsable q) = false := by
    rcases due with first | ⟨-, usable⟩
    · rw [first]; rfl
    · rw [usable]; exact Bool.and_false _
  unfold State.rampDecide
  rw [if_neg (not_lt.mpr within), early, level]
  exact if_neg (not_lt.mpr limit)

/-- R31: a ramp whose first step is below its end step and within the head limit orders that step. -/
theorem State.startRamp_orders {s : State} {q : Sluice} {n m : Nat} (start : s.rampStart q = m) (above : m < n)
    (limit : m < s.headLimit q) (who : Requester) : s.startRamp q who n = s.rampOrder q ⟨who, n, m + 1, none, true, .nothing⟩ := by
  unfold State.startRamp
  rw [start]
  refine (if_neg (not_le.mpr above)).trans ((if_neg (not_le.mpr limit)).trans ?_)
  exact State.rampDecide_orders (r := ⟨who, n, m + 1, none, true, .nothing⟩) above (.inl rfl) limit

/-! ## The phase proper -/

/-- A sluice at rest at 0, or on its way there: a ramp starts from 0. -/
def SluiceRec.atFoot (r : SluiceRec) : Prop :=
  r.state = .shut ∧ r.step = some 0 ∨ r.state = .moving ∧ r.target = some (.step 0)

theorem SluiceRec.atFoot_start {s : State} {q : Sluice} (foot : (s.sluice q).atFoot) : s.rampStart q = 0 := by
  unfold State.rampStart
  rcases foot with ⟨state, step⟩ | ⟨state, target⟩
  · simp only [state, step]
    rfl
  · simp only [state, target]

theorem SluiceRec.atFoot_away {r : SluiceRec} (foot : r.atFoot) : r.stands 1 = false := by
  unfold SluiceRec.stands
  rcases foot with ⟨state, step⟩ | ⟨state, target⟩
  · simp [state, step]
  · simp [state, target]

/-- R45: the sequencer's record in the phase proper. -/
def Sequencer.inPhase (c : Sequencer) (kind : WaterKind) (p : PhaseTimer) : Sequencer :=
  { c with state := kind.phase, pendingOrder := none, phase := some p, slowRaised := false }

theorem State.beginPhase_chamber (s : State) (k : Chamber) (kind : WaterKind) (j : Chamber) :
    (s.beginPhase k kind).chamber j = if j = k then (s.chamber k).inPhase kind s.newPhase else s.chamber j :=
  State.setChamber_chamber ..

/-- R45: a pair that is not EQUALISED: the phase begins with a ramp from the foot of its sluice. -/
theorem State.enterPhase_ramps {s : State} {k : Chamber} {kind : WaterKind} (unequal : s.pair (.across kind.side k) ≠ .equalised)
    (foot : (s.sluice (.chamber k kind.side)).atFoot) (limit : 0 < s.headLimit (.chamber k kind.side)) :
    s.enterPhase k kind
      = (s.beginPhase k kind).rampOrder (.chamber k kind.side) ⟨.sequencer k, 8, 1, none, true, .nothing⟩ := by
  have ramps : (s.beginPhase k kind).startRamp (.chamber k kind.side) (.sequencer k) 8
      = (s.beginPhase k kind).rampOrder (.chamber k kind.side) ⟨.sequencer k, 8, 1, none, true, .nothing⟩ :=
    State.startRamp_orders (s := s.beginPhase k kind) (SluiceRec.atFoot_start (s := s.beginPhase k kind) (q := .chamber k kind.side) foot) (by decide) limit _
  unfold State.enterPhase
  have open_ : ¬ (s.beginPhase k kind).pairEqualised (.across kind.side k) = true := fun equal => unequal (of_decide_eq_true equal)
  exact (if_neg open_).trans ramps

/-- The first step of a ramp to step 8 for a sequencer, sent at `x`. -/
def firstStep (k : Chamber) (x : Nat) : Ramp := ⟨.sequencer k, 8, 1, some x, false, .nothing⟩

/-- R45, R31: the first order of the phase is sent. -/
theorem State.enterPhase_orders {s : State} {k : Chamber} {kind : WaterKind} (unequal : s.pair (.across kind.side k) ≠ .equalised)
    (foot : (s.sluice (.chamber k kind.side)).atFoot) (limit : 0 < s.headLimit (.chamber k kind.side))
    (passes : s.judge (.sluice (.chamber k kind.side)) (.move 1) = none) :
    SluiceOrdered (s.beginPhase k kind) (s.enterPhase k kind) (.chamber k kind.side) 1
      ((s.sluice (.chamber k kind.side)).movedTo 1 s.sluiceExpiry (some (firstStep k s.now))) := by
  rw [State.enterPhase_ramps unequal foot limit]
  exact State.rampOrder_sent (s := s.beginPhase k kind) (r := ⟨.sequencer k, 8, 1, none, true, .nothing⟩) (SluiceRec.atFoot_away foot) passes

/-- R45, R31, R44: what the phase proper leaves when its first order is sent: the chamber in it, its sluice moving, and of the rest of
the plant nothing else. -/
structure PhaseEntered (s t : State) (k : Chamber) (kind : WaterKind) : Prop where
  frame : t = { s with drive := t.drive, levels := t.levels, chambers := t.chambers, signals := t.signals }
  levels : SameLevels s t
  own : t.chamber k = (s.chamber k).inPhase kind s.newPhase
  other : t.chamber k.other = s.chamber k.other
  sluice : t.sluice (.chamber k kind.side) =
    (s.sluice (.chamber k kind.side)).movedTo 1 s.sluiceExpiry (some (firstStep k s.now))
  sent : t.drive.sent = s.drive.sent ++ [⟨.sluice (.chamber k kind.side), .move 1, false⟩]
  others : SameOthers s t (.sluice (.chamber k kind.side))
  line : SameLine s t

theorem State.enterPhase_entered {s : State} {k : Chamber} {kind : WaterKind} (unequal : s.pair (.across kind.side k) ≠ .equalised)
    (foot : (s.sluice (.chamber k kind.side)).atFoot) (limit : 0 < s.headLimit (.chamber k kind.side))
    (passes : s.judge (.sluice (.chamber k kind.side)) (.move 1) = none) (S : Signals) :
    PhaseEntered s { s.enterPhase k kind with signals := S } k kind := by
  have moved := State.enterPhase_orders unequal foot limit passes
  obtain ⟨w, hw⟩ : ∃ w, s.enterPhase k kind = w := ⟨_, rfl⟩
  rw [hw] at moved ⊢
  have away : k.other ≠ k := by cases k <;> nofun
  have chamber (j : Chamber) : w.chamber j = if j = k then (s.chamber k).inPhase kind s.newPhase else s.chamber j :=
    (moved.chamber j).trans (State.beginPhase_chamber s k kind j)
  have plant : w = { s.beginPhase k kind with drive := w.drive, levels := w.levels } := moved.plant
  refine ⟨?_, ?_, (chamber k).trans (if_pos rfl), (chamber k.other).trans (if_neg away), moved.sluice, moved.ordered,
    ⟨fun j e out => moved.gates j e out, fun q out => moved.sluices q out, moved.guards⟩, moved.line⟩
  · have chambers : w.chambers = (s.beginPhase k kind).chambers := moved.chambers
    show ({ w with signals := S } : State) = { s with drive := w.drive, levels := w.levels, chambers := w.chambers, signals := S }
    rw [chambers]
    generalize w.drive = D at plant ⊢
    generalize w.levels = L at plant ⊢
    rw [plant]
    rfl
  · have same : SameLevels (s.beginPhase k kind) w := SameLevels.of_core moved.core
    exact same.of_levels rfl rfl

/-- The phase seen from a state that has the same plant and, but for its water record, the same chambers. -/
theorem PhaseEntered.begun {s b t : State} {k : Chamber} {kind : WaterKind} (h : PhaseEntered b t k kind)
    (drive : b.drive = s.drive) (levels : b.levels = s.levels) (settings : b.settings = s.settings)
    (own : b.chamber k = { s.chamber k with state := (b.chamber k).state, pendingOrder := (b.chamber k).pendingOrder
                                            phase := (b.chamber k).phase, slowRaised := (b.chamber k).slowRaised
                                            water := (b.chamber k).water })
    (other : b.chamber k.other = s.chamber k.other) : PhaseBegun s t k kind := by
  have now : t.now = b.now := by rw [h.frame]
  obtain ⟨gates, sluices, overflow, cycle, fast⟩ := h.others
  refine ⟨?_, ?_, ?_, ?_, ?_, ?_, ⟨fun j e out => ?_, fun q out => ?_, ?_, ?_, ?_⟩, ⟨?_, ?_⟩, h.other.trans other⟩
  · rw [h.own, own, now, ← settings]
    rfl
  · rw [h.sluice]; rfl
  · rw [h.sluice]; rfl
  · rw [h.sluice, now, ← settings]; rfl
  · rw [h.sluice, now]; rfl
  · rw [h.sent, drive]
  · rw [gates j e out, gate_of_drive drive]
  · rw [sluices q out, sluice_of_drive drive]
  · rw [overflow, drive]
  · rw [cycle, drive]
  · rw [fast, levels]
  · rw [h.line.1, drive]
  · rw [h.line.2, drive]

end Sys2Proof.Machine
end

section
/-! SUPPORT. The rest state's step (R41), for a chamber without a batch and for each state of a batch, and requests that end with it. -/

namespace Sys2Proof.Machine

/-! ## Without a batch -/

/-- R99: nothing is formed from an empty book. -/
theorem State.form_empty {s : State} (empty : s.book.lists = ⟨[], []⟩) (k : Chamber) : s.form k = s := by
  have list (d : Direction) : s.book.lists.get d = [] := by
    rw [empty]
    cases d <;> rfl
  have scan (depth : Int) (d : Direction) : (s.scanList k depth d).members = [] := by
    rw [State.scanList, list]
    rfl
  unfold State.form
  split
  · split
    · next depth e _ _ _ =>
      dsimp only
      rw [scan, list]
      rfl
    · rfl
  · rfl

/-- R41: the sequencer's record once a rest state's step without a batch has been taken. -/
def Sequencer.unordered (c : Sequencer) : Sequencer :=
  { c with pendingOrder := if c.state.rest.isSome then none else c.pendingOrder }

/-- R41, R98: a chamber without a batch takes its rest state's step while the book is empty: its pending order is dropped. -/
theorem State.finish_rest_empty {s : State} {k : Chamber} (calm : s.Calm) (none_ : s.batch k = none)
    (empty : s.book.lists = ⟨[], []⟩) :
    (s.push (.rest k)).finish = (s.derive.setChamber k (s.chamber k).unordered).derive := by
  have calm' : (s.derive.setChamber k (s.chamber k).unordered).Calm := calm
  cases available : s.available k with
  | false =>
    have quiet : (s.chamber k).mode = .directed ∨ (s.chamber k).state.rest = none := by
      cases rest : (s.chamber k).state.rest with
      | none => exact .inr rfl
      | some x =>
        cases mode : (s.chamber k).mode with
        | directed => exact .inl rfl
        | automatic =>
          simp [State.available, rest, mode, none_] at available
    exact State.finish_push (s := s) calm (State.restStep_directed (s := s.derive) none_ quiet) calm'
  | true =>
    have atRest : (s.chamber k).state.rest.isSome = true := by
      simp only [State.available, Bool.and_eq_true] at available
      exact available.1.1
    have dropped : s.derive.setChamber k (s.chamber k).unordered = s.derive.dropPending k := by
      unfold Sequencer.unordered
      rw [atRest]
      rfl
    rw [dropped]
    obtain ⟨⟨e, isOpen⟩, rest⟩ := Option.isSome_iff_exists.mp atRest
    have pushed : (s.derive.dropPending k).push (.form k) = { s.derive.dropPending k with agenda := [.form k] } :=
      push_nil (s := s.derive.dropPending k) calm.1 _
    have first : (({ s.push (.rest k) with agenda := [] } : State).derive).runTask (.rest k) = (s.derive.dropPending k).push (.form k) := by
      have self : ({ s.push (.rest k) with agenda := [] } : State) = s := by
        rw [push_nil calm.1]
        exact congrArg (fun a => ({ s with agenda := a } : State)) calm.1.symm
      rw [self]
      show s.derive.restStep k = _
      unfold State.restStep
      have rest' : (s.derive.chamber k).state.rest = some (e, isOpen) := rest
      have none' : s.derive.batch k = none := none_
      rw [rest']
      dsimp only
      rw [none']
      exact if_pos (show s.derive.available k = true from available)
    have second : (({ (s.derive.dropPending k).push (.form k) with agenda := [] } : State).derive).runTask (.form k)
        = (s.derive.dropPending k).derive := by
      have self : ({ (s.derive.dropPending k).push (.form k) with agenda := [] } : State) = s.derive.dropPending k := by
        rw [pushed]
        exact congrArg (fun a => ({ s.derive.dropPending k with agenda := a } : State)) calm.1.symm
      rw [self]
      exact State.form_empty (s := (s.derive.dropPending k).derive) empty k
    have ends := State.finish_two (s := s.push (.rest k)) (by rw [push_nil calm.1]) first (by rw [pushed]) second calm.1
    rw [ends, State.derive_derive]
    exact State.clearDeferred_self calm.2

/-! ## With a batch -/

/-- R41: the end where a batch wants the gate open: to enter, or to leave. -/
def Batch.wants (b : Batch) : Option Side :=
  match b.state with
  | .bound => some b.direction.entryEnd
  | .secured => some b.direction.exitEnd
  | _ => none

theorem restTable_nothing {b : Batch} (wants : b.wants = none) (e : Side) (isOpen : Bool) : restTable e isOpen b = .nothing := by
  unfold Batch.wants at wants
  unfold restTable
  cases state : b.state <;> rw [state] at wants <;> first | rfl | cases wants

theorem restTable_here {b : Batch} {e : Side} (wants : b.wants = some e) : restTable e false b = .opn := by
  unfold Batch.wants at wants
  unfold restTable
  cases state : b.state <;> rw [state] at wants <;> first | exact if_pos (Option.some.inj wants) | cases wants

theorem restTable_away {b : Batch} {e : Side} (wants : b.wants = some e.other) (isOpen : Bool) :
    restTable e isOpen b = if isOpen then .close else .phase := by
  have away {x : Side} (h : some x = some e.other) : x ≠ e := by
    rw [Option.some.inj h]
    cases e <;> nofun
  unfold Batch.wants at wants
  unfold restTable
  cases isOpen <;> cases state : b.state <;> rw [state] at wants <;> first | exact if_neg (away wants) | cases wants

/-- R41: a chamber in a rest state with a batch takes the step of the table. -/
theorem State.restStep_batch {s : State} {k : Chamber} {b : Batch} {e : Side} {isOpen : Bool} (batch : s.batch k = some b)
    (rest : (s.chamber k).state.rest = some (e, isOpen)) : s.restStep k = s.takeRest k e b (restTable e isOpen b) := by
  unfold State.restStep
  rw [rest]
  dsimp only
  rw [batch]

theorem shutState_rest (e : Side) : (shutState e).rest = some (e, false) := by cases e <;> rfl

/-! ## Requests that change the plant, the sequencers and the batches -/

/-- A request answered whose event ends with the signals derived. -/
theorem State.exchange_steps {s w : State} {st : Station} {code : Nat} {judge : State → Judged} {o : ReplyOutcome} {l : List WireField}
    (takes : s.takes st) (judged : judge (s.validFrame st) = (w.derive, some (o, l)))
    (frame : w = { s.validFrame st with
      drive := w.drive, levels := w.levels, chambers := w.chambers, arbiter := w.arbiter, book := w.book, signals := w.signals }) :
    ∃ S, s.exchange st code judge = .next { s.answered st code o l with
      drive := w.drive, levels := w.levels, chambers := w.chambers, arbiter := w.arbiter, book := w.book, signals := S } := by
  have core : (w.derive.station st).core = ((s.validFrame st).station st).core := by
    show (w.station st).core = _
    rw [frame]
    rfl
  have now : w.derive.now = s.now := by
    show w.now = _
    rw [frame]
    rfl
  have limit : w.derive.settings.silenceLimit = s.settings.silenceLimit := by
    show w.settings.silenceLimit = _
    rw [frame]
    rfl
  refine ⟨w.derive.signals, (State.exchange_answered takes judged core now limit).trans (congrArg Host.Outcome.next ?_)⟩
  rw [State.derive_frame]
  generalize w.derive.signals = S
  rw [← State.answered_validFrame s st code o l]
  generalize s.validFrame st = v at frame ⊢
  generalize w.drive = D at frame ⊢
  generalize w.levels = L at frame ⊢
  generalize w.chambers = C at frame ⊢
  generalize w.arbiter = A at frame ⊢
  generalize w.book = B at frame ⊢
  generalize w.signals = G at frame ⊢
  rw [frame]
  rfl

/-! ## SET MODE and RESUME -/

section Mode

variable {s : State} {st : Station} {k : Chamber} (takes : s.takes st) (held : s.holder k = some st) (present : s.chamberPresent k = true)

/-- R40: the chamber in AUTOMATIC, before its rest state's step. -/
def State.automatic (s : State) (st : Station) (k : Chamber) : State :=
  (s.validFrame st).setChamber k { s.chamber k with mode := .automatic }

include held present in
theorem judgeSetMode_eq (m : Mode) :
    judgeSetMode st k m (s.validFrame st) =
      if (s.chamber k).mode = m then (s.validFrame st).report []
      else match m with
        | .directed => ((s.validFrame st).setChamber k { s.chamber k with mode := .directed, pendingOrder := none }).done .ok
        | .automatic => ((s.automatic st k).push (.rest k)).done .ok := by
  unfold judgeSetMode
  rw [State.judged_conductor (s := s.validFrame st) present held]
  rfl

include takes held present in
theorem setMode_same {m : Mode} (same : (s.chamber k).mode = m) : exec (.setMode st k m) s = .next (s.answered st 0x32 .ok []) :=
  State.exchange_report takes ((judgeSetMode_eq held present m).trans (if_pos same))

include takes held present in
/-- R40: AUTOMATIC, the rest state's step leaving state `w`. -/
theorem setMode_steps {w : State} (directed : (s.chamber k).mode = .directed)
    (ends : ((s.automatic st k).push (.rest k)).finish = w.derive)
    (frame : w = { s.validFrame st with
      drive := w.drive, levels := w.levels, chambers := w.chambers, arbiter := w.arbiter, book := w.book, signals := w.signals }) :
    ∃ S, exec (.setMode st k .automatic) s = .next { s.answered st 0x32 .ok [] with
      drive := w.drive, levels := w.levels, chambers := w.chambers, arbiter := w.arbiter, book := w.book, signals := S } := by
  refine State.exchange_steps takes ((judgeSetMode_eq held present _).trans ((if_neg (by rw [directed]; nofun)).trans ?_)) frame
  show (_, some (ReplyOutcome.ok, [])) = _
  rw [ends]

include takes held present in
/-- R40: DIRECTED drops the pending order, and nothing is sent. -/
theorem setMode_directed (calm : s.Calm) (automatic : (s.chamber k).mode = .automatic) :
    ∃ S, exec (.setMode st k .directed) s = .next { s.answered st 0x32 .ok [] with
      chambers := (s.setChamber k { s.chamber k with mode := .directed, pendingOrder := none }).chambers, signals := S } := by
  let w := (s.validFrame st).setChamber k { s.chamber k with mode := .directed, pendingOrder := none }
  have calm' : w.Calm := calm
  refine State.exchange_steps (w := w) takes ((judgeSetMode_eq held present _).trans ((if_neg (by rw [automatic]; nofun)).trans ?_)) rfl
  show (w.finish, some (ReplyOutcome.ok, [])) = _
  rw [State.finish_calm calm']

include takes held present in
/-- R53: RESUME in an interrupted state, its event ending in state `w`. -/
theorem resume_steps {w : State} {c : ChamberState} {o : ReplyOutcome} {l : List WireField} (halted : (s.chamber k).state = .halted)
    (interrupted : (s.chamber k).interrupted = some c) (judged : (s.validFrame st).resumeAs k c = (w.derive, some (o, l)))
    (frame : w = { s.validFrame st with
      drive := w.drive, levels := w.levels, chambers := w.chambers, arbiter := w.arbiter, book := w.book, signals := w.signals }) :
    ∃ S, exec (.resume st k) s = .next { s.answered st 0x35 o l with
      drive := w.drive, levels := w.levels, chambers := w.chambers, arbiter := w.arbiter, book := w.book, signals := S } := by
  refine State.exchange_steps takes ?_ frame
  unfold judgeResume
  rw [State.judged_conductor (s := s.validFrame st) present held]
  have halted' : ((s.validFrame st).chamber k).state = .halted := halted
  have interrupted' : ((s.validFrame st).chamber k).interrupted = some c := interrupted
  rw [halted', interrupted']
  exact judged

include takes held present in
theorem resume_refused (away : (s.chamber k).state ≠ .halted) : exec (.resume st k) s = .next (s.answered st 0x35 .state []) := by
  refine State.exchange_report takes ?_
  unfold judgeResume
  rw [State.judged_conductor (s := s.validFrame st) present held]
  have away' : ((s.validFrame st).chamber k).state ≠ .halted := away
  split
  · next halted _ => exact absurd halted away'
  · rfl

end Mode

end Sys2Proof.Machine
end

section
/-! SUPPORT. SET MODE and RESUME in a rest state (R40, R41, R53). -/

namespace Sys2Proof.Machine

/-- R65: an offer that the arbiter does not take: the chamber proceeds alone. -/
theorem State.offer_declined {s : State} {k : Chamber} {kind : WaterKind}
    (declined : s.crossPresent = false ∨ (s.chamber k.other).state = .outOfService ∨ (s.chamber k.other).state = .halted
      ∨ s.arbiter.owner ≠ .idle ∨ (s.sluice .cross).state ≠ .shut ∨ (s.body k.body).handedState.usable = false
      ∨ s.settings.crossWait = 0 ∧ (∀ w, s.wish k.other = some w → w.kind = kind)) :
    s.offer k kind = s.enterPhase k kind := by
  unfold State.offer
  by_cases declines : s.declines k = true
  · exact if_pos declines
  · have alone : s.settings.crossWait = 0 ∧ (∀ w, s.wish k.other = some w → w.kind = kind) := by
      simp only [State.declines, State.sluiceShut, State.usable, Bool.or_eq_true, Bool.not_eq_true', decide_eq_true_eq,
        decide_eq_false_iff_not, not_or] at declines
      tauto
    obtain ⟨noWait, same⟩ := alone
    have unpaired : ¬ (s.wish k.other).map (·.kind) = some kind.other := by
      cases wish : s.wish k.other with
      | none => nofun
      | some w =>
        rw [Option.map_some, same w wish]
        cases kind <;> nofun
    exact (if_neg declines).trans ((if_neg unpaired).trans (if_pos noWait))

/-- The phase seen from a later state with the same plant and sequencers. -/
theorem PhaseBegun.later {s t u : State} {k : Chamber} {kind : WaterKind} (h : PhaseBegun s t k kind) (drive : u.drive = t.drive)
    (levels : u.levels = t.levels) (chambers : u.chambers = t.chambers) (now : u.now = t.now) : PhaseBegun s u k kind := by
  have chamber (j : Chamber) : u.chamber j = t.chamber j := congrArg (fun c : PerChamber Sequencer => c.get j) chambers
  obtain ⟨gates, sluices, overflow, cycle, fast⟩ := h.others
  refine ⟨?_, ?_, ?_, ?_, ?_, ?_, ⟨fun j e out => ?_, fun q out => ?_, ?_, ?_, ?_⟩, ⟨?_, ?_⟩, (chamber _).trans h.otherChamber⟩
  · rw [chamber, now]; exact h.chamber
  · rw [sluice_of_drive drive]; exact h.state
  · rw [sluice_of_drive drive]; exact h.target
  · rw [sluice_of_drive drive, now]; exact h.timer
  · rw [sluice_of_drive drive, now]; exact h.ramp
  · rw [drive]; exact h.sent
  · rw [gate_of_drive drive]; exact gates j e out
  · rw [sluice_of_drive drive]; exact sluices q out
  · rw [drive]; exact overflow
  · rw [drive]; exact cycle
  · rw [levels]; exact fast
  · rw [drive]; exact h.line.1
  · rw [drive]; exact h.line.2

section SetMode

variable {s : State} {st : Station} {k : Chamber} (takes : s.takes st) (held : s.holder k = some st) (present : s.chamberPresent k = true)
  (calm : s.Calm) (directed : (s.chamber k).mode = .directed)

/-- What SET MODE changes beside the port: the plant, the sequencers and the batches, not the other chamber's sequencer. -/
def StepOnly (s t : State) (st : Station) (k : Chamber) : Prop :=
  t = { s.answered st 0x32 .ok [] with
      drive := t.drive, levels := t.levels, chambers := t.chambers, book.batches := t.book.batches, signals := t.signals }
    ∧ t.chamber k.other = s.chamber k.other

include takes held present calm directed in
/-- R40, R41: AUTOMATIC, its step leaving the plant, the sequencers and the batches of a state `w`. -/
theorem setMode_taken {w : State} (done : (s.automatic st k).derive.restStep k = w) (calm' : w.Calm)
    (frame : w = { s.validFrame st with
      drive := w.drive, levels := w.levels, chambers := w.chambers, book.batches := w.book.batches, signals := w.signals })
    (other : w.chamber k.other = s.chamber k.other) :
    ∃ t, exec (.setMode st k .automatic) s = .next t ∧ StepOnly s t st k ∧ t.drive = w.drive ∧ t.levels = w.levels
      ∧ t.chambers = w.chambers ∧ t.book = w.book ∧ t.now = s.now := by
  have ends : ((s.automatic st k).push (.rest k)).finish = w.derive := State.finish_push (s := s.automatic st k) calm done calm'
  have arbiter : w.arbiter = s.arbiter := by rw [frame]; rfl
  have book : w.book = { s.book with batches := w.book.batches } := by rw [frame]; rfl
  obtain ⟨S, run⟩ := setMode_steps takes held present directed ends (by
    rw [arbiter]
    generalize w.drive = D at frame ⊢
    generalize w.levels = L at frame ⊢
    generalize w.chambers = C at frame ⊢
    generalize w.signals = G at frame ⊢
    rw [book, frame]
    rfl)
  refine ⟨_, run, ⟨?_, other⟩, rfl, rfl, rfl, rfl, rfl⟩
  show ({ s.answered st 0x32 .ok [] with
    drive := w.drive, levels := w.levels, chambers := w.chambers, arbiter := w.arbiter, book := w.book, signals := S } : State) = _
  rw [arbiter, book]
  rfl

/-- R40: the sequencer's record in AUTOMATIC, its pending order dropped. -/
def Sequencer.automatic (c : Sequencer) : Sequencer := { c with mode := .automatic, pendingOrder := none }

theorem State.automatic_chamber (j : Chamber) :
    (s.automatic st k).chamber j = if j = k then { s.chamber k with mode := .automatic } else s.chamber j :=
  State.setChamber_chamber ..

theorem State.automatic_own : (s.automatic st k).chamber k = { s.chamber k with mode := .automatic } :=
  (State.automatic_chamber k).trans (if_pos rfl)

theorem State.automatic_other : (s.automatic st k).chamber k.other = s.chamber k.other :=
  (State.automatic_chamber k.other).trans (if_neg (by cases k <;> nofun))

/-- The sequencer's record replaced after the step's other effects. -/
theorem stepped_own {y : State} (c : Sequencer) : (y.setChamber k c).chamber k = c := (State.setChamber_chamber ..).trans (if_pos rfl)

theorem stepped_other {y : State} (c : Sequencer) (same : y.chamber k.other = s.chamber k.other) :
    (y.setChamber k c).chamber k.other = s.chamber k.other :=
  ((State.setChamber_chamber ..).trans (if_neg (by cases k <;> nofun))).trans same

theorem chamber_of_chambers {t w : State} (h : t.chambers = w.chambers) (j : Chamber) : t.chamber j = w.chamber j :=
  congrArg (fun c : PerChamber Sequencer => c.get j) h

include takes held present calm directed in
/-- R41: the table gives nothing: the pending order is dropped. -/
theorem setMode_nothing {b : Batch} {e : Side} {isOpen : Bool} (batch : s.batch k = some b)
    (rest : (s.chamber k).state.rest = some (e, isOpen)) (wants : b.wants = none) :
    ∃ t, exec (.setMode st k .automatic) s = .next t ∧ (StepOnly s t st k ∧ t.drive = s.drive ∧ t.levels = s.levels)
      ∧ t.book = s.book ∧ t.chamber k = (s.chamber k).automatic := by
  let y := (s.automatic st k).derive
  have own : y.chamber k = { s.chamber k with mode := .automatic } := State.automatic_own
  have step : y.restStep k = y.dropPending k := by
    rw [State.restStep_batch (s := y) batch (by rw [own]; exact rest), restTable_nothing wants]
    rfl
  obtain ⟨t, run, only, drive, levels, chambers, book, -⟩ :=
    setMode_taken takes held present calm directed step calm rfl (stepped_other _ State.automatic_other)
  refine ⟨t, run, ⟨only, drive, levels⟩, book, (chamber_of_chambers chambers k).trans ((stepped_own _).trans ?_)⟩
  rw [own]
  rfl

include takes held present calm directed in
/-- R41, R47, R49: the gate stands open at the end the batch wants: its change of state. -/
theorem setMode_changes {b x : Batch} {e : Side} {isOpen : Bool} {c : Sequencer} (batch : s.batch k = some b)
    (rest : (s.chamber k).state.rest = some (e, isOpen))
    (step : (s.automatic st k).derive.takeRest k e b (restTable e isOpen b)
      = ((s.automatic st k).derive.setBatch k (some x)).setChamber k c) :
    ∃ t, exec (.setMode st k .automatic) s = .next t ∧ (StepOnly s t st k ∧ t.drive = s.drive ∧ t.levels = s.levels)
      ∧ t.book = { s.book with batches := s.book.batches.set k (some x) } ∧ t.chamber k = c := by
  let y := (s.automatic st k).derive
  have own : y.chamber k = { s.chamber k with mode := .automatic } := State.automatic_own
  obtain ⟨z, hz⟩ : ∃ z, y.setBatch k (some x) = z := ⟨_, rfl⟩
  have changed : z = { y with book.batches := s.book.batches.set k (some x) } := hz.symm
  have step' : y.restStep k = z.setChamber k c := by
    rw [State.restStep_batch (s := y) batch (by rw [own]; exact rest), ← hz]
    exact step
  have calm' : (z.setChamber k c).Calm := by
    show z.agenda = [] ∧ z.book.deferred = _
    rw [changed]
    exact calm
  have other : z.chamber k.other = s.chamber k.other := by
    rw [changed]
    exact State.automatic_other
  have frame : z.setChamber k c = { s.validFrame st with
      drive := z.drive, levels := z.levels, chambers := (z.setChamber k c).chambers, book.batches := z.book.batches
      signals := z.signals } := by
    show ({ z with chambers := (z.setChamber k c).chambers } : State) = _
    generalize (z.setChamber k c).chambers = C
    rw [changed]
    rfl
  obtain ⟨t, run, only, drive, levels, chambers, book, -⟩ :=
    setMode_taken takes held present calm directed step' calm' frame (stepped_other _ other)
  refine ⟨t, run, ⟨only, drive.trans ?_, levels.trans ?_⟩, book.trans ?_, (chamber_of_chambers chambers k).trans (stepped_own _)⟩
  · show z.drive = _
    rw [changed]
    rfl
  · show z.levels = _
    rw [changed]
    rfl
  · show z.book = _
    rw [changed]
    rfl

include takes held present calm directed in
/-- R41, R42: the step sends an order to the chamber's gate. -/
theorem setMode_moves {b : Batch} {e : Side} {isOpen : Bool} {m : GateMove} {x : ChamberState} (batch : s.batch k = some b)
    (rest : (s.chamber k).state.rest = some (e, isOpen))
    (step : (s.automatic st k).derive.takeRest k e b (restTable e isOpen b)
      = ((s.automatic st k).derive.startGate k e m).setChamberState k x) :
    ∃ t, exec (.setMode st k .automatic) s = .next t ∧ StepOnly s t st k ∧ t.book = s.book ∧ GateOrdered s t k e m
      ∧ t.chamber k = { (s.chamber k).automatic with state := x } := by
  let y := (s.automatic st k).derive
  have own : y.chamber k = { s.chamber k with mode := .automatic } := State.automatic_own
  obtain ⟨w, hw⟩ : ∃ w, y.startGate k e m = w := ⟨_, rfl⟩
  have started : GateStarted y w k e m := hw ▸ y.startGate_started k e m
  have chamber (j : Chamber) : w.chamber j = y.chamber j := started.chamber j
  have step' : y.restStep k = w.setChamberState k x := by
    rw [State.restStep_batch (s := y) batch (by rw [own]; exact rest), ← hw]
    exact step
  have other : (w.setChamberState k x).chamber k.other = s.chamber k.other :=
    stepped_other _ ((chamber _).trans State.automatic_other)
  have frame : w.setChamberState k x = { s.validFrame st with
      drive := w.drive, levels := w.levels, chambers := (w.setChamberState k x).chambers
      book.batches := w.book.batches, signals := w.signals } := by
    have plant : w = { y with drive := w.drive, levels := w.levels } := started.plant
    have book : w.book.batches = s.book.batches := congrArg Book.batches started.book
    show ({ w with chambers := (w.setChamberState k x).chambers } : State) = _
    rw [book]
    generalize (w.setChamberState k x).chambers = C
    generalize w.drive = D at plant ⊢
    generalize w.levels = L at plant ⊢
    rw [plant]
    rfl
  obtain ⟨t, run, only, drive, levels, chambers, book, now⟩ :=
    setMode_taken takes held present calm directed step' (started.calm calm) frame other
  refine ⟨t, run, only, book.trans started.book, ?_, (chamber_of_chambers chambers k).trans ((stepped_own _).trans ?_)⟩
  · exact started.gateOrdered (s := s) rfl rfl rfl drive levels now ((chamber_of_chambers chambers _).trans other)
  · rw [chamber, own]
    rfl

end SetMode

end Sys2Proof.Machine
end

section
/-! SUPPORT. SET MODE where the rest state's step is an order kept, a fill or an empty (R41, R42, R65), and RESUME (R53). -/

namespace Sys2Proof.Machine

section SetMode

variable {s : State} {st : Station} {k : Chamber} (takes : s.takes st) (held : s.holder k = some st) (present : s.chamberPresent k = true)
  (calm : s.Calm) (directed : (s.chamber k).mode = .directed)

include takes held present calm directed in
/-- R42: the interlock refuses the OPEN, and the order is kept with its clause. -/
theorem setMode_keeps {b : Batch} {e : Side} {c : Clause} (batch : s.batch k = some b) (rest : (s.chamber k).state = shutState e)
    (wants : b.wants = some e) (opening : (s.gate k e).state ≠ .opening) (opened : (s.gate k e).state ≠ .opened)
    (refused : s.judge (.gate k e) .opn = some c) :
    ∃ t, exec (.setMode st k .automatic) s = .next t ∧ (StepOnly s t st k ∧ t.drive = s.drive ∧ t.levels = s.levels)
      ∧ t.book = s.book ∧ t.chamber k = { (s.chamber k).automatic with pendingOrder := some (e, c) } := by
  let y := (s.automatic st k).derive
  have own : y.chamber k = { s.chamber k with mode := .automatic } := State.automatic_own
  have step : y.restStep k = y.setChamber k { y.chamber k with pendingOrder := some (e, c) } := by
    have table : restTable e false b = .opn := restTable_here wants
    have asked : y.openGate k e = (y, .refused c) := State.openGate_refused (s := y) opening opened refused
    rw [State.restStep_batch (s := y) (e := e) (isOpen := false) batch (by rw [own]; exact rest ▸ shutState_rest e), table]
    refine (if_pos (by rw [own])).trans ?_
    unfold State.sequenceOpen
    rw [asked]
  obtain ⟨t, run, only, drive, levels, chambers, book, -⟩ :=
    setMode_taken takes held present calm directed step calm rfl (stepped_other _ State.automatic_other)
  refine ⟨t, run, ⟨only, drive, levels⟩, book, (chamber_of_chambers chambers k).trans ((stepped_own _).trans ?_)⟩
  rw [own]
  rfl

include takes held present calm directed in
/-- R41, R44, R65: the table calls for a fill or an empty that the arbiter declines. -/
theorem setMode_phase {b : Batch} {e : Side} {kind : WaterKind} (from_ : phaseFrom e = kind) (batch : s.batch k = some b)
    (rest : (s.chamber k).state = shutState e) (wants : b.wants = some e.other)
    (declined : s.crossPresent = false ∨ (s.chamber k.other).state = .outOfService ∨ (s.chamber k.other).state = .halted
      ∨ s.arbiter.owner ≠ .idle ∨ (s.sluice .cross).state ≠ .shut ∨ (s.body k.body).handedState.usable = false
      ∨ s.settings.crossWait = 0 ∧ (∀ w, s.wish k.other = some w → w.kind = kind))
    (unequal : s.pair (.across kind.side k) ≠ .equalised) (foot : (s.sluice (.chamber k kind.side)).atFoot)
    (limit : 0 < s.headLimit (.chamber k kind.side)) (passes : s.judge (.sluice (.chamber k kind.side)) (.move 1) = none) :
    ∃ t, exec (.setMode st k .automatic) s = .next t ∧ StepOnly s t st k ∧ t.book = s.book ∧ SameLevels s t
      ∧ PhaseBegun (s.setChamber k (s.chamber k).automatic) t k kind
      ∧ (t.chamber k).water = some ⟨kind, some b.number, s.level k.body, false, none⟩ := by
  let y := (s.automatic st k).derive
  let p := y.openWater k kind
  have own : y.chamber k = { s.chamber k with mode := .automatic } := State.automatic_own
  have number : y.batchNumber k = some b.number := congrArg (Option.map Batch.number) batch
  have pown : p.chamber k =
      { s.chamber k with mode := .automatic, water := some ⟨kind, some b.number, s.level k.body, false, none⟩ } := by
    refine (stepped_own _).trans ?_
    rw [own, number]
    rfl
  have pother : p.chamber k.other = s.chamber k.other := stepped_other _ State.automatic_other
  have step : y.restStep k = p.enterPhase k kind := by
    have table : restTable e false b = .phase := restTable_away wants false
    rw [State.restStep_batch (s := y) (e := e) (isOpen := false) batch (by rw [own]; exact rest ▸ shutState_rest e), table]
    refine (if_pos (by rw [own])).trans ?_
    unfold State.sequencePhase
    rw [from_]
    refine State.offer_declined (s := p) ?_
    rw [pother]
    exact declined
  have entered : PhaseEntered p (p.enterPhase k kind) k kind :=
    State.enterPhase_entered (s := p) unequal foot limit passes (p.enterPhase k kind).signals
  obtain ⟨w, hw⟩ : ∃ w, p.enterPhase k kind = w := ⟨_, rfl⟩
  rw [hw] at step entered
  have frame := entered.frame
  have calm' : w.Calm := by
    rw [frame]
    exact calm
  have book : w.book = s.book := by rw [frame]; rfl
  have frame' : w = { s.validFrame st with
      drive := w.drive, levels := w.levels, chambers := w.chambers, book.batches := w.book.batches, signals := w.signals } := by
    rw [book]
    generalize w.drive = D at frame ⊢
    generalize w.levels = L at frame ⊢
    generalize w.chambers = C at frame ⊢
    generalize w.signals = G at frame ⊢
    rw [frame]
    rfl
  obtain ⟨t, run, only, drive, levels, chambers, book', now⟩ :=
    setMode_taken takes held present calm directed step calm' frame' (entered.other.trans pother)
  have begun : PhaseBegun (s.setChamber k (s.chamber k).automatic) w k kind := by
    refine entered.begun rfl rfl rfl ?_ ?_
    · rw [pown, stepped_own]
      rfl
    · rw [pother]
      exact (stepped_other _ rfl).symm
  refine ⟨t, run, only, book'.trans book, entered.levels.of_levels rfl levels, begun.later drive levels chambers ?_, ?_⟩
  · rw [now, frame]
    rfl
  · rw [chamber_of_chambers chambers k, entered.own, pown]
    rfl

include takes held present calm directed in
/-- R40, R41: without a batch and with an empty book, AUTOMATIC drops the pending order of a rest state and calls for nothing. -/
theorem setMode_unbatched (none_ : s.batch k = none) (empty : s.book.lists = ⟨[], []⟩) :
    ∃ t, exec (.setMode st k .automatic) s = .next t
      ∧ t = { s.answered st 0x32 .ok [] with chambers := t.chambers, signals := t.signals }
      ∧ t.chamber k =
        { s.chamber k with
          mode := .automatic
          pendingOrder := if (s.chamber k).state.rest.isSome then none else (s.chamber k).pendingOrder }
      ∧ t.chamber k.other = s.chamber k.other := by
  let y := s.automatic st k
  have own : y.chamber k = { s.chamber k with mode := .automatic } := State.automatic_own
  have ends := State.finish_rest_empty (s := y) (k := k) calm none_ empty
  obtain ⟨S, run⟩ := setMode_steps takes held present directed ends rfl
  refine ⟨_, run, rfl, (stepped_own (y := y.derive) _).trans ?_, stepped_other (y := y.derive) _ State.automatic_other⟩
  rw [own]
  rfl

include takes held present calm directed in
/-- R41, R47: the gate stands open at the entry end of a BOUND batch, which becomes ENTERING. -/
theorem setMode_enters {b : Batch} {e : Side} (batch : s.batch k = some b) (rest : (s.chamber k).state = openState e)
    (bound : b.state = .bound) (wants : b.wants = some e) :
    ∃ t, exec (.setMode st k .automatic) s = .next t ∧ (StepOnly s t st k ∧ t.drive = s.drive ∧ t.levels = s.levels)
      ∧ t.book = { s.book with batches := s.book.batches.set k (some { b with state := .entering }) }
      ∧ t.chamber k =
        { (s.chamber k).automatic with entry := some (s.now + seconds s.settings.entryLimit), entryOverdue := false } := by
  let y := (s.automatic st k).derive
  have own : y.chamber k = { s.chamber k with mode := .automatic } := State.automatic_own
  have table : restTable e true b = .entering := by
    unfold Batch.wants at wants
    rw [bound] at wants
    unfold restTable
    rw [bound]
    exact if_pos (Option.some.inj wants)
  refine setMode_changes takes held present calm directed (isOpen := true) batch (rest ▸ openState_rest e) ?_
  rw [table]
  show (y.setBatch k _).setChamber k { y.chamber k with entry := _, entryOverdue := false, pendingOrder := none } = _
  rw [own]
  rfl

include takes held present calm directed in
/-- R41, R49: the gate stands open at the exit end of a SECURED batch, which becomes LEAVING. -/
theorem setMode_leaves {b : Batch} {e : Side} (batch : s.batch k = some b) (rest : (s.chamber k).state = openState e)
    (secured : b.state = .secured) (wants : b.wants = some e) :
    ∃ t, exec (.setMode st k .automatic) s = .next t ∧ (StepOnly s t st k ∧ t.drive = s.drive ∧ t.levels = s.levels)
      ∧ t.book = { s.book with batches := s.book.batches.set k (some { b with state := .leaving }) }
      ∧ t.chamber k =
        { (s.chamber k).automatic with
          leave := some s.newLeave, clearOut := decide (s.settings.leaveLimit ≤ s.settings.clearOutLead), leaveOverdue := false } := by
  let y := (s.automatic st k).derive
  have own : y.chamber k = { s.chamber k with mode := .automatic } := State.automatic_own
  have table : restTable e true b = .leaving := by
    unfold Batch.wants at wants
    rw [secured] at wants
    unfold restTable
    rw [secured]
    exact if_pos (Option.some.inj wants)
  refine setMode_changes takes held present calm directed (isOpen := true) batch (rest ▸ openState_rest e) ?_
  rw [table]
  show (y.setBatch k _).setChamber k
    { y.chamber k with leave := some y.newLeave, clearOut := _, leaveOverdue := false, pendingOrder := none } = _
  rw [own]
  rfl

include takes held present calm directed in
/-- R41, R42: the gate stands open at the end the batch does not want, and closes. -/
theorem setMode_closes {b : Batch} {e : Side} (batch : s.batch k = some b) (rest : (s.chamber k).state = openState e)
    (wants : b.wants = some e.other) (opened : (s.gate k e).state = .opened) :
    ∃ t, exec (.setMode st k .automatic) s = .next t ∧ StepOnly s t st k ∧ t.book = s.book ∧ GateOrdered s t k e .cls
      ∧ t.chamber k = { (s.chamber k).automatic with state := closingState e } := by
  have own : (s.automatic st k).derive.chamber k = { s.chamber k with mode := .automatic } := State.automatic_own
  have table : restTable e true b = .close := restTable_away wants true
  refine setMode_moves takes held present calm directed (isOpen := true) batch (rest ▸ openState_rest e) ?_
  rw [table]
  refine (if_pos (by rw [own])).trans ?_
  unfold State.sequenceClose
  rw [State.closeGate_starts (s := (s.automatic st k).derive) opened]
  rfl

include takes held present calm directed in
/-- R41, R42: the gate is shut at the end the batch wants, and the interlock lets it open. -/
theorem setMode_opens {b : Batch} {e : Side} (batch : s.batch k = some b) (rest : (s.chamber k).state = shutState e)
    (wants : b.wants = some e) (opening : (s.gate k e).state ≠ .opening) (opened : (s.gate k e).state ≠ .opened)
    (passes : s.judge (.gate k e) .opn = none) :
    ∃ t, exec (.setMode st k .automatic) s = .next t ∧ StepOnly s t st k ∧ t.book = s.book ∧ GateOrdered s t k e .opn
      ∧ t.chamber k = { (s.chamber k).automatic with state := openingState e } := by
  have own : (s.automatic st k).derive.chamber k = { s.chamber k with mode := .automatic } := State.automatic_own
  refine setMode_moves takes held present calm directed (isOpen := false) batch (rest ▸ shutState_rest e) ?_
  rw [restTable_here wants]
  refine (if_pos (by rw [own])).trans ?_
  unfold State.sequenceOpen
  rw [State.openGate_starts (s := (s.automatic st k).derive) opening opened passes]
  rfl

include takes held present in
/-- R53: a chamber HALTED in a rest state returns to it. -/
theorem resume_rests {c : ChamberState} (halted : (s.chamber k).state = .halted) (interrupted : (s.chamber k).interrupted = some c)
    (rest : c.rest.isSome = true) (calm : s.Calm) (none_ : s.batch k = none) (empty : s.book.lists = ⟨[], []⟩) :
    ∃ t, exec (.resume st k) s = .next t
      ∧ t = { s.answered st 0x35 .ok [] with chambers := t.chambers, signals := t.signals }
      ∧ t.chamber k =
        { s.chamber k with state := c, interrupted := none, haltCause := none, pendingOrder := none }
      ∧ t.chamber k.other = s.chamber k.other := by
  let y := (s.validFrame st).restore k c
  have own : y.chamber k = { s.chamber k with state := c, interrupted := none, haltCause := none, pendingOrder := none } := stepped_own _
  have resumes : (s.validFrame st).resumeAs k c = (y.push (.rest k)).done .ok := by
    cases c <;> first | rfl | cases rest
  have ends := State.finish_rest_empty (s := y) (k := k) calm none_ empty
  obtain ⟨S, run⟩ := resume_steps takes held present halted interrupted (by rw [resumes, State.done, ends]) rfl
  refine ⟨_, run, rfl, (stepped_own (y := y.derive) _).trans ?_, stepped_other (y := y.derive) _ (stepped_other (y := s) _ rfl)⟩
  rw [own, Sequencer.unordered]
  cases c.rest.isSome <;> rfl

end SetMode

/-- Settles O29. -/
theorem modeAndResume : Obligations.ModeAndResume := by
  refine ⟨fun s st k m takes held present calm none_ empty => ?_, fun s st k m takes held present => ⟨?_, fun calm automatic => ?_⟩,
    fun s st k b e takes held present calm directed batch => ?_, fun s st k c takes held present halted interrupted rest calm none_ empty => ?_,
    fun s st k takes held present away => resume_refused takes held present away⟩
  · by_cases same : (s.chamber k).mode = m
    · exact ⟨_, setMode_same takes held present same, fun _ => rfl, fun away => absurd same away⟩
    · cases m with
      | directed =>
        have automatic : (s.chamber k).mode = .automatic := by
          cases mode : (s.chamber k).mode with
          | automatic => rfl
          | directed => exact absurd mode same
        obtain ⟨S, run⟩ := setMode_directed takes held present calm automatic
        refine ⟨_, run, fun h => absurd h same, fun _ => ⟨rfl, (stepped_own (y := s) _).trans ?_, stepped_other (y := s) _ rfl⟩⟩
        rw [if_pos (.inl rfl)]
      | automatic =>
        have directed : (s.chamber k).mode = .directed := by
          cases mode : (s.chamber k).mode with
          | directed => rfl
          | automatic => exact absurd mode same
        obtain ⟨t, run, frame, own, other⟩ := setMode_unbatched takes held present calm directed none_ empty
        refine ⟨t, run, fun h => absurd h same, fun _ => ⟨frame, own.trans ?_, other⟩⟩
        cases (s.chamber k).state.rest.isSome <;> rfl
  · exact fun same => setMode_same takes held present same
  · obtain ⟨S, run⟩ := setMode_directed takes held present calm automatic
    exact ⟨_, run, rfl, stepped_own (y := s) _, stepped_other (y := s) _ rfl⟩
  · intro rest wanted only still
    have wants : b.wants = wanted := by
      cases state : b.state <;> simp only [Batch.wants, wanted, state]
    clear_value wanted
    subst wants
    refine ⟨fun place => ⟨fun wants => ?_, fun wants => ?_, fun wants opened => ?_⟩,
      fun place => ⟨fun wants => ?_, fun wants opening opened => ⟨fun c refused => ?_, fun passes => ?_⟩, fun wants => ?_⟩⟩
    · exact setMode_nothing takes held present calm directed (isOpen := true) batch (place ▸ openState_rest e) wants
    · cases state : b.state with
      | bound =>
        obtain ⟨t, run, still', book, own⟩ := setMode_enters takes held present calm directed batch place state wants
        exact ⟨t, run, still', fun _ => ⟨book, own⟩, nofun⟩
      | secured =>
        obtain ⟨t, run, still', book, own⟩ := setMode_leaves takes held present calm directed batch place state wants
        exact ⟨t, run, still', nofun, fun _ => ⟨book, own⟩⟩
      | entering =>
        rw [Batch.wants, state] at wants
        cases wants
      | leaving =>
        rw [Batch.wants, state] at wants
        cases wants
    · exact setMode_closes takes held present calm directed batch place wants opened
    · exact setMode_nothing takes held present calm directed (isOpen := false) batch (place ▸ shutState_rest e) wants
    · exact setMode_keeps takes held present calm directed batch place wants opening opened refused
    · exact setMode_opens takes held present calm directed batch place wants opening opened passes
    · intro kind declined unequal shut step limit passes
      have from_ : phaseFrom e = kind := by cases e <;> rfl
      exact setMode_phase takes held present calm directed from_ batch place wants declined unequal (.inl ⟨shut, step⟩) limit passes
  · exact resume_rests takes held present halted interrupted rest calm none_ empty

end Sys2Proof.Machine
end

section
/-! SUPPORT. RESUME in a closing or an opening state, and in a fill or an empty (R53, R54). -/

namespace Sys2Proof.Machine

/-- R19: a CLOSE asked of a gate that is closed, or closing, is complete without sending. -/
theorem State.closeGate_complete {s : State} {k : Chamber} {e : Side} (there : (s.gate k e).state = .closing ∨ (s.gate k e).state = .closed) :
    s.closeGate k e = (s, .complete) := by
  unfold State.closeGate
  rcases there with h | h <;> simp only [h]

theorem State.closeGate_sends {s : State} {k : Chamber} {e : Side} (closing : (s.gate k e).state ≠ .closing)
    (closed : (s.gate k e).state ≠ .closed) (known : (s.gate k e).state ≠ .unknown) :
    s.closeGate k e = (s.startGate k e .cls, .sent) := by
  unfold State.closeGate
  cases state : (s.gate k e).state <;> first | exact absurd state closing | exact absurd state closed | exact absurd state known | rfl

theorem State.openGate_complete {s : State} {k : Chamber} {e : Side} (there : (s.gate k e).state = .opened) :
    s.openGate k e = (s, .complete) := by
  unfold State.openGate
  simp only [there]

/-- R41: the shut rest state of a DIRECTED chamber drops its pending order, whatever its batch. -/
theorem State.restStep_shut_directed {s : State} {k : Chamber} {e : Side} (rest : (s.chamber k).state = shutState e)
    (directed : (s.chamber k).mode = .directed) : s.restStep k = s.dropPending k := by
  rw [State.restStep_in_directed (rest ▸ shutState_rest e) directed]
  cases s.batch k <;> simp

/-- R53: the sequencer's record of a chamber returned to a state. -/
def Sequencer.back (c : Sequencer) (x : ChamberState) : Sequencer :=
  { c with state := x, interrupted := none, haltCause := none, pendingOrder := none }

/-- What RESUME changes beside the port: the plant and the sequencers, not the other chamber's. -/
def Resumed (s t : State) (st : Station) (k : Chamber) : Prop :=
  t = { s.answered st 0x35 .ok [] with drive := t.drive, levels := t.levels, chambers := t.chambers, signals := t.signals }
    ∧ t.chamber k.other = s.chamber k.other

/-- The first order of a ramp that a clause refuses. -/
def firstKept (k : Chamber) (c : Clause) : Ramp := ⟨.sequencer k, 8, 1, none, true, .retry c⟩

/-- R45, R33: the first order of the phase is refused, and kept with its clause. -/
theorem State.enterPhase_refused {s : State} {k : Chamber} {kind : WaterKind} {c : Clause}
    (unequal : s.pair (.across kind.side k) ≠ .equalised) (foot : (s.sluice (.chamber k kind.side)).atFoot)
    (limit : 0 < s.headLimit (.chamber k kind.side)) (refused : s.judge (.sluice (.chamber k kind.side)) (.move 1) = some c) :
    s.enterPhase k kind = (s.beginPhase k kind).setRamp (.chamber k kind.side) (some (firstKept k c)) := by
  rw [State.enterPhase_ramps unequal foot limit]
  exact State.rampOrder_refused (s := s.beginPhase k kind) (r := ⟨.sequencer k, 8, 1, none, true, .nothing⟩) (SluiceRec.atFoot_away foot)
    refused

section Resume

variable {s : State} {st : Station} {k : Chamber} {c : ChamberState} (takes : s.takes st) (held : s.holder k = some st)
  (present : s.chamberPresent k = true) (halted : (s.chamber k).state = .halted) (interrupted : (s.chamber k).interrupted = some c)
  (calm : s.Calm)

/-- R53: the chamber returned to a state, before anything follows. -/
def State.resumed (s : State) (st : Station) (k : Chamber) (x : ChamberState) : State := (s.validFrame st).restore k x

theorem resumed_own (x : ChamberState) : (s.resumed st k x).chamber k = (s.chamber k).back x := stepped_own _

theorem resumed_other (x : ChamberState) : (s.resumed st k x).chamber k.other = s.chamber k.other := stepped_other (y := s) _ rfl

include takes held present halted interrupted in
theorem resume_taken {w : State} {x : Sequencer} (judged : (s.validFrame st).resumeAs k c = (w.derive, some (.ok, [])))
    (frame : w = { s.validFrame st with drive := w.drive, levels := w.levels, chambers := w.chambers, signals := w.signals })
    (own : w.chamber k = x) (other : w.chamber k.other = s.chamber k.other) :
    ∃ t, exec (.resume st k) s = .next t ∧ Resumed s t st k ∧ t.drive = w.drive ∧ t.levels = w.levels ∧ t.chambers = w.chambers
      ∧ t.chamber k = x ∧ t.now = s.now := by
  have arbiter : w.arbiter = s.arbiter := by rw [frame]; rfl
  have book : w.book = s.book := by rw [frame]; rfl
  obtain ⟨S, run⟩ := resume_steps takes held present halted interrupted judged (by
    rw [arbiter, book]
    exact frame)
  refine ⟨_, run, ⟨?_, other⟩, rfl, rfl, rfl, own, rfl⟩
  show ({ s.answered st 0x35 .ok [] with
    drive := w.drive, levels := w.levels, chambers := w.chambers, arbiter := w.arbiter, book := w.book, signals := S } : State) = _
  rw [arbiter, book]
  rfl

include takes held present halted interrupted in
/-- RESUME that changes the sequencer's record alone. -/
theorem resume_alone {w : State} {x : Sequencer} (judged : (s.validFrame st).resumeAs k c = (w.derive, some (.ok, [])))
    (frame : w = { s.validFrame st with chambers := w.chambers, signals := w.signals })
    (own : w.chamber k = x) (other : w.chamber k.other = s.chamber k.other) :
    ∃ t, exec (.resume st k) s = .next t ∧ (Resumed s t st k ∧ t.drive = s.drive ∧ t.levels = s.levels) ∧ t.chamber k = x := by
  have drive : w.drive = s.drive := by rw [frame]; rfl
  have levels : w.levels = s.levels := by rw [frame]; rfl
  obtain ⟨t, run, only, drive', levels', -, own', -⟩ := resume_taken takes held present halted interrupted judged
    (by rw [drive, levels]; exact frame) own other
  exact ⟨t, run, ⟨only, drive'.trans drive, levels'.trans levels⟩, own'⟩

include takes held present halted interrupted calm in
/-- RESUME that sends an order to a gate. -/
theorem resume_moves {e : Side} {m : GateMove} {x : ChamberState}
    (judged : (s.validFrame st).resumeAs k c = ((s.resumed st k x).startGate k e m).done .ok) :
    ∃ t, exec (.resume st k) s = .next t ∧ Resumed s t st k ∧ GateOrdered s t k e m ∧ t.chamber k = (s.chamber k).back x := by
  let y := s.resumed st k x
  obtain ⟨w, hw⟩ : ∃ w, y.startGate k e m = w := ⟨_, rfl⟩
  have started : GateStarted y w k e m := hw ▸ y.startGate_started k e m
  have wcalm : w.Calm := started.calm calm
  have other : w.chamber k.other = s.chamber k.other := (started.chamber _).trans (resumed_other x)
  have judged' : (s.validFrame st).resumeAs k c = (w.derive, some (.ok, [])) := by
    rw [judged]
    show (y.startGate k e m).done .ok = _
    rw [hw, State.done, State.finish_calm wcalm]
  have frame : w = { s.validFrame st with drive := w.drive, levels := w.levels, chambers := w.chambers, signals := w.signals } := by
    have plant : w = { y with drive := w.drive, levels := w.levels } := started.plant
    have chambers : w.chambers = y.chambers := started.chambers
    have signals : w.signals = s.signals := by rw [plant]; rfl
    rw [chambers, signals]
    exact plant
  obtain ⟨t, run, only, drive, levels, chambers, own, now⟩ := resume_taken takes held present halted interrupted judged' frame
    ((started.chamber k).trans (resumed_own x)) other
  exact ⟨t, run, only, started.gateOrdered (s := s) rfl rfl rfl drive levels now ((chamber_of_chambers chambers _).trans other), own⟩

include takes held present halted interrupted calm in
/-- RESUME of a gate that stands at the end of its movement: the chamber comes to rest. -/
theorem resume_completes {e : Side} {m : GateMove} (under : c = m.underway e)
    (judged : (s.validFrame st).resumeAs k c = ((s.resumed st k c).push (.gateDone k e)).done .ok)
    (gate : (s.gate k e).state = m.ends) (directed : (s.chamber k).mode = .directed) (shut : m = .cls ∨ s.batch k = none) :
    ∃ t, exec (.resume st k) s = .next t ∧ (Resumed s t st k ∧ t.drive = s.drive ∧ t.levels = s.levels)
      ∧ t.chamber k = (s.chamber k).back (m.restsIn e) := by
  let y := s.resumed st k c
  obtain ⟨u, hu⟩ : ∃ u, y.derive.setChamberState k (m.restsIn e) = u := ⟨_, rfl⟩
  have uframe : u = { y.derive with chambers := u.chambers } := by
    rw [← hu]
    rfl
  obtain ⟨z, hz⟩ : ∃ z, u.derive = z := ⟨_, rfl⟩
  have zframe : z = { s.validFrame st with chambers := z.chambers, signals := z.signals } := by
    have derived : z = { u with signals := z.signals } := by
      rw [← hz]
      exact State.derive_frame u
    have chambers : z.chambers = u.chambers := by rw [derived]
    rw [chambers]
    generalize u.chambers = C at uframe ⊢
    generalize z.signals = S at derived ⊢
    rw [derived, uframe]
    rfl
  have uown : u.chamber k = { y.chamber k with state := m.restsIn e, pendingOrder := none } := by
    rw [← hu]
    exact stepped_own (y := y.derive) _
  have yown : y.chamber k = (s.chamber k).back c := resumed_own c
  have own : z.chamber k = (s.chamber k).back (m.restsIn e) := by
    rw [← hz]
    refine uown.trans ?_
    rw [yown]
    rfl
  have other : z.chamber k.other = s.chamber k.other := by
    rw [← hz]
    show u.chamber k.other = _
    rw [← hu]
    exact stepped_other (y := y.derive) _ (resumed_other c)
  have mode : (z.chamber k).mode = .directed := by rw [own]; exact directed
  have drop : z.restStep k = z.dropPending k := by
    cases m with
    | cls => exact State.restStep_shut_directed (e := e) (by rw [own]; rfl) mode
    | opn =>
      have none_ : s.batch k = none := by
        rcases shut with h | h
        · cases h
        · exact h
      have rest : (z.chamber k).state.rest = some (e, true) := by
        rw [own]
        exact openState_rest e
      have bare : z.batch k = none := by
        rw [zframe]
        exact none_
      rw [State.restStep_in_directed rest mode, bare]
  have dropped : z.dropPending k = { z with chambers := (z.dropPending k).chambers } := rfl
  have zcalm : (z.dropPending k).Calm := by
    rw [dropped]
    show z.agenda = [] ∧ z.book.deferred = _
    rw [zframe]
    exact calm
  have frame : z.dropPending k = { s.validFrame st with chambers := (z.dropPending k).chambers, signals := z.signals } := by
    generalize (z.dropPending k).chambers = C at dropped ⊢
    generalize z.signals = G at zframe ⊢
    rw [dropped, zframe]
  have ends : (y.push (.gateDone k e)).finish = (z.dropPending k).derive :=
    State.gateDone_finish (w := y) calm (by rw [yown, ← under]; rfl) gate (by rw [hu, hz]; exact drop) zcalm
  refine resume_alone takes held present halted interrupted (w := z.dropPending k) ?_ frame ((stepped_own _).trans ?_) (stepped_other _ other)
  · rw [judged]
    show ((y.push (.gateDone k e)).finish, some (ReplyOutcome.ok, [])) = _
    rw [ends]
  · rw [own]
    rfl

/-- R53: RESUME in a closing state asks for the CLOSE again. -/
theorem resumeAs_closing (v : State) (k : Chamber) (e : Side) :
    v.resumeAs k (closingState e) =
      (((v.restore k (closingState e)).closeGate k e).1.noteComplete k e ((v.restore k (closingState e)).closeGate k e).2).done .ok := by
  cases e <;> rfl

include takes held present halted interrupted calm in
/-- R53: a gate that is closing goes on. -/
theorem resume_closing {e : Side} (under : c = closingState e) (closing : (s.gate k e).state = .closing) :
    ∃ t, exec (.resume st k) s = .next t ∧ (Resumed s t st k ∧ t.drive = s.drive ∧ t.levels = s.levels)
      ∧ t.chamber k = (s.chamber k).back c := by
  subst under
  let y := s.resumed st k (closingState e)
  have state : (y.chamber k).state = closingState e := by
    rw [resumed_own]
    rfl
  have still : y.derive.gateDone k e = y.derive := by
    have away : closingState e ≠ openingState e := by cases e <;> nofun
    have open_ : y.derive.gateClosed k e = false := decide_eq_false (by rw [show (y.derive.gate k e).state = _ from closing]; nofun)
    unfold State.gateDone
    rw [open_, Bool.and_false, show (y.derive.chamber k).state = closingState e from state, decide_eq_false away]
    rfl
  have ends : (y.push (.gateDone k e)).finish = y.derive := by
    rw [State.finish_push (s := y) (task := .gateDone k e) calm still calm, State.derive_derive]
  refine resume_alone takes held present halted interrupted (w := y) ?_ rfl (resumed_own _) (resumed_other _)
  have asked : y.closeGate k e = (y, .complete) := State.closeGate_complete (.inl closing)
  rw [resumeAs_closing]
  show ((y.closeGate k e).1.noteComplete k e (y.closeGate k e).2).done .ok = _
  rw [asked]
  show ((y.push (.gateDone k e)).finish, some (ReplyOutcome.ok, [])) = _
  rw [ends]

end Resume

end Sys2Proof.Machine
end

section
/-! SUPPORT. RESUME in a fill or an empty, and in an opening state whose pair is no longer EQUALISED (R53, R54). -/

namespace Sys2Proof.Machine

section Resume

variable {s : State} {st : Station} {k : Chamber} {c : ChamberState} (takes : s.takes st) (held : s.holder k = some st)
  (present : s.chamberPresent k = true) (halted : (s.chamber k).state = .halted) (interrupted : (s.chamber k).interrupted = some c)
  (calm : s.Calm)

include takes held present halted interrupted calm in
/-- R53: the phase proper is entered, its first order sent. -/
theorem resume_enters {y : State} {kind : WaterKind} {W : Option WaterRec}
    (frame : y = { s.validFrame st with chambers := y.chambers }) (own : y.chamber k = { (s.chamber k).back kind.phase with water := W })
    (other : y.chamber k.other = s.chamber k.other) (unequal : y.pair (.across kind.side k) ≠ .equalised)
    (foot : (y.sluice (.chamber k kind.side)).atFoot) (limit : 0 < y.headLimit (.chamber k kind.side))
    (passes : y.judge (.sluice (.chamber k kind.side)) (.move 1) = none)
    (judged : (s.validFrame st).resumeAs k c = (y.enterPhase k kind).done .ok) :
    ∃ t, exec (.resume st k) s = .next t ∧ Resumed s t st k ∧ SameLevels s t
      ∧ PhaseBegun (s.setChamber k ((s.chamber k).back kind.phase)) t k kind ∧ (t.chamber k).water = W := by
  have entered : PhaseEntered y (y.enterPhase k kind) k kind :=
    State.enterPhase_entered unequal foot limit passes (y.enterPhase k kind).signals
  obtain ⟨w, hw⟩ : ∃ w, y.enterPhase k kind = w := ⟨_, rfl⟩
  rw [hw] at entered judged
  have plant := entered.frame
  have ycalm : y.Calm := by rw [frame]; exact calm
  have wcalm : w.Calm := by rw [plant]; exact ycalm
  have frame' : w = { s.validFrame st with drive := w.drive, levels := w.levels, chambers := w.chambers, signals := w.signals } := by
    generalize w.drive = D at plant ⊢
    generalize w.levels = L at plant ⊢
    generalize w.chambers = C at plant ⊢
    generalize w.signals = G at plant ⊢
    rw [plant, frame]
  obtain ⟨t, run, only, drive, levels, chambers, -, now⟩ := resume_taken takes held present halted interrupted
    (by rw [judged, State.done, State.finish_calm wcalm]) frame' rfl (entered.other.trans other)
  have ydrive : y.drive = s.drive := by rw [frame]; rfl
  have ylevels : y.levels = s.levels := by rw [frame]; rfl
  have ysettings : y.settings = s.settings := by rw [frame]; rfl
  have begun : PhaseBegun (s.setChamber k ((s.chamber k).back kind.phase)) w k kind := by
    refine entered.begun ydrive ylevels ysettings ?_ ?_
    · rw [own, stepped_own]
    · rw [other]
      exact (stepped_other _ rfl).symm
  refine ⟨t, run, only, entered.levels.of_levels ylevels.symm levels, begun.later drive levels chambers ?_, ?_⟩
  · rw [now, plant, frame]
    rfl
  · rw [chamber_of_chambers chambers k, entered.own, own]
    rfl

/-- R53: RESUME of a fill or an empty, its wait or its cross phase enters the phase proper. -/
theorem resumeAs_water (v : State) (k : Chamber) {c : ChamberState} {kind : WaterKind} (water : c = kind.wait ∨ c = kind.cross ∨ c = kind.phase) :
    v.resumeAs k c = v.resumePhase ((v.restore k kind.phase).enterPhase k kind) k kind := by
  rcases water with rfl | rfl | rfl <;> cases kind <;> rfl

/-- R53: RESUME in an opening state: the OPEN again, or the way back where the pair is no longer EQUALISED. -/
theorem resumeAs_opening (v : State) (k : Chamber) (e : Side) :
    v.resumeAs k (openingState e) =
      if v.pairEqualised (.across e k) then
        match (v.restore k (openingState e)).openGate k e with
        | (t, .refused x) =>
          if (v.chamber k).mode = .directed then v.interlocked x
          else (t.setChamber k { t.chamber k with pendingOrder := some (e, x) }).done .ok
        | (t, r) => (t.noteComplete k e r).done .ok
      else if (v.chamber k).mode = .directed then ((v.restore k (shutState e)).push (.rest k)).done .ok
      else (((v.restore k (relevelKind e).phase).openWater k (relevelKind e)).enterPhase k (relevelKind e)).done .ok := by
  cases e <;> rfl

include takes held present halted interrupted calm in
/-- R54: a DIRECTED chamber whose pair is no longer EQUALISED returns to the shut rest state. -/
theorem resume_shut {e : Side} (under : c = openingState e) (unequal : s.pair (.across e k) ≠ .equalised)
    (directed : (s.chamber k).mode = .directed) :
    ∃ t, exec (.resume st k) s = .next t ∧ (Resumed s t st k ∧ t.drive = s.drive ∧ t.levels = s.levels)
      ∧ t.chamber k = (s.chamber k).back (shutState e) := by
  subst under
  let y := s.resumed st k (shutState e)
  have own : y.chamber k = (s.chamber k).back (shutState e) := resumed_own _
  have step : y.derive.restStep k = y.derive.dropPending k :=
    State.restStep_shut_directed (s := y.derive) (e := e) (by rw [show y.derive.chamber k = _ from own]; rfl)
      (by rw [show y.derive.chamber k = _ from own]; exact directed)
  obtain ⟨w, hw⟩ : ∃ w, y.derive.dropPending k = w := ⟨_, rfl⟩
  have frame : w = { s.validFrame st with chambers := w.chambers, signals := w.signals } := by
    rw [← hw]
    rfl
  have wcalm : w.Calm := by
    rw [frame]
    exact calm
  have ends : (y.push (.rest k)).finish = w.derive := State.finish_push (s := y) calm (step.trans hw) wcalm
  refine resume_alone takes held present halted interrupted (w := w) ?_ frame ?_ ?_
  · rw [resumeAs_opening]
    have open_ : ¬ (s.validFrame st).pairEqualised (.across e k) = true := fun equal => unequal (of_decide_eq_true equal)
    refine (if_neg open_).trans ((if_pos directed).trans ?_)
    show ((y.push (.rest k)).finish, some (ReplyOutcome.ok, [])) = _
    rw [ends]
  · rw [← hw]
    refine (stepped_own (y := y.derive) _).trans ?_
    rw [show y.derive.chamber k = _ from own]
    rfl
  · rw [← hw]
    exact stepped_other (y := y.derive) _ (resumed_other _)

include takes held present halted interrupted calm in
/-- R54: an AUTOMATIC chamber whose pair is no longer EQUALISED fills or empties again, with a new water record. -/
theorem resume_relevels {e : Side} {kind : WaterKind} (under : c = openingState e) (again : relevelKind e = kind)
    (unequal : s.pair (.across e k) ≠ .equalised) (automatic : (s.chamber k).mode = .automatic)
    (foot : (s.sluice (.chamber k e)).atFoot) (limit : 0 < s.headLimit (.chamber k e))
    (passes : s.judge (.sluice (.chamber k e)) (.move 1) = none) :
    ∃ t, exec (.resume st k) s = .next t ∧ Resumed s t st k ∧ SameLevels s t
      ∧ PhaseBegun (s.setChamber k ((s.chamber k).back kind.phase)) t k kind
      ∧ (t.chamber k).water = some ⟨kind, s.batchNumber k, s.level k.body, false, none⟩ := by
  subst under
  have side : kind.side = e := by
    rw [← again]
    cases e <;> rfl
  have open_ : ¬ (s.validFrame st).pairEqualised (.across e k) = true := fun equal => unequal (of_decide_eq_true equal)
  have manual : ¬ ((s.validFrame st).chamber k).mode = .directed := by
    show ¬ (s.chamber k).mode = .directed
    rw [automatic]
    nofun
  subst side
  refine resume_enters (y := (s.resumed st k kind.phase).openWater k kind) takes held present halted interrupted calm rfl ?_
    (stepped_other _ (resumed_other _)) unequal foot limit passes ?_
  · refine (stepped_own _).trans ?_
    rw [resumed_own]
    rfl
  · rw [resumeAs_opening, again]
    exact (if_neg open_).trans (if_neg manual)

include takes held present halted interrupted calm in
/-- R53: a fill or an empty goes on with its water record as it stood. -/
theorem resume_fills {kind : WaterKind} (water : c = kind.wait ∨ c = kind.cross ∨ c = kind.phase)
    (unequal : s.pair (.across kind.side k) ≠ .equalised) (foot : (s.sluice (.chamber k kind.side)).atFoot)
    (limit : 0 < s.headLimit (.chamber k kind.side)) (passes : s.judge (.sluice (.chamber k kind.side)) (.move 1) = none) :
    ∃ t, exec (.resume st k) s = .next t ∧ Resumed s t st k ∧ SameLevels s t
      ∧ PhaseBegun (s.setChamber k ((s.chamber k).back kind.phase)) t k kind ∧ (t.chamber k).water = (s.chamber k).water := by
  let y := s.resumed st k kind.phase
  refine resume_enters (y := y) takes held present halted interrupted calm rfl (resumed_own _) (resumed_other _) unequal foot limit passes ?_
  have sent : (y.enterPhase k kind).firstRefused (.chamber k kind.side) = none := by
    unfold State.firstRefused
    rw [(State.enterPhase_orders (s := y) unequal foot limit passes).sluice]
    rfl
  rw [resumeAs_water _ _ water]
  show (s.validFrame st).resumePhase (y.enterPhase k kind) k kind = _
  unfold State.resumePhase
  rw [sent, ite_self]

include takes held present halted interrupted calm in
/-- R53: the first order refused is answered INTERLOCK in DIRECTED, and left to the ramp in AUTOMATIC. -/
theorem resume_interlocked {kind : WaterKind} {x : Clause} (water : c = kind.wait ∨ c = kind.cross ∨ c = kind.phase)
    (unequal : s.pair (.across kind.side k) ≠ .equalised) (foot : (s.sluice (.chamber k kind.side)).atFoot)
    (limit : 0 < s.headLimit (.chamber k kind.side)) (refused : s.judge (.sluice (.chamber k kind.side)) (.move 1) = some x) :
    ((s.chamber k).mode = .directed → exec (.resume st k) s = .next (s.answered st 0x35 .interlock [.byte x.code]))
    ∧ ((s.chamber k).mode = .automatic →
      ∃ t, exec (.resume st k) s = .next t ∧ Resumed s t st k ∧ SameLevels s t ∧ SameOthers s t (.sluice (.chamber k kind.side))
        ∧ t.drive.sent = s.drive.sent
        ∧ t.chamber k =
          { (s.chamber k).back kind.phase with phase := some ⟨s.now, seconds s.settings.fillLimit⟩, slowRaised := false }
        ∧ (t.sluice (.chamber k kind.side)).ramp = some ⟨.sequencer k, 8, 1, none, true, .retry x⟩) := by
  let y := s.resumed st k kind.phase
  let p := y.beginPhase k kind
  let q : Sluice := .chamber k kind.side
  have entered : y.enterPhase k kind = p.setRamp q (some (firstKept k x)) :=
    State.enterPhase_refused (s := y) unequal foot limit refused
  have moved := setRamp_actuator p q (some (firstKept k x))
  have plant : PlantOnly p (p.setRamp q (some (firstKept k x))) := State.setRamp_plant ..
  have sluice := setRamp_sluice p q (some (firstKept k x))
  have sent : (p.setRamp q (some (firstKept k x))).drive.sent = s.drive.sent := putSluice_sent ..
  obtain ⟨w, hw⟩ : ∃ w, p.setRamp q (some (firstKept k x)) = w := ⟨_, rfl⟩
  rw [hw] at entered moved plant sluice sent
  have asked : (s.validFrame st).resumeAs k c = (s.validFrame st).resumePhase w k kind := by
    rw [resumeAs_water _ _ water, ← entered]
    rfl
  have kept : w.firstRefused q = some x := by
    unfold State.firstRefused
    rw [sluice]
    rfl
  have chamber (j : Chamber) : w.chamber j = p.chamber j := moved.chamber j
  have own : w.chamber k =
      { (s.chamber k).back kind.phase with phase := some ⟨s.now, seconds s.settings.fillLimit⟩, slowRaised := false } := by
    refine (chamber k).trans ((stepped_own _).trans ?_)
    rw [resumed_own]
    rfl
  have other : w.chamber k.other = s.chamber k.other := (chamber _).trans (stepped_other _ (resumed_other _))
  refine ⟨fun directed => ?_, fun automatic => ?_⟩
  · refine State.exchange_report takes ?_
    unfold judgeResume
    rw [State.judged_conductor (s := s.validFrame st) present held]
    have halted' : ((s.validFrame st).chamber k).state = .halted := halted
    have interrupted' : ((s.validFrame st).chamber k).interrupted = some c := interrupted
    rw [halted', interrupted']
    refine asked.trans ?_
    unfold State.resumePhase
    rw [show ((s.validFrame st).chamber k).mode = .directed from directed, if_pos rfl, kept]
    rfl
  · have wcalm : w.Calm := moved.calm calm
    have judged : (s.validFrame st).resumeAs k c = (w.derive, some (.ok, [])) := by
      have manual : ¬ ((s.validFrame st).chamber k).mode = .directed := by
        show ¬ (s.chamber k).mode = .directed
        rw [automatic]
        nofun
      rw [asked]
      unfold State.resumePhase
      rw [if_neg manual]
      show w.done .ok = _
      rw [State.done, State.finish_calm wcalm]
    have frame : w = { s.validFrame st with drive := w.drive, levels := w.levels, chambers := w.chambers, signals := w.signals } := by
      have only : w = { p with drive := w.drive, levels := w.levels } := plant
      have chambers : w.chambers = p.chambers := moved.chambers
      have signals : w.signals = s.signals := by rw [only]; rfl
      rw [chambers, signals]
      exact only
    obtain ⟨t, run, only, drive, levels, -, own', -⟩ := resume_taken takes held present halted interrupted judged frame own other
    obtain ⟨gates, sluices, overflow, cycle, fast⟩ := moved.sameOthers
    refine ⟨t, run, only, (SameLevels.of_core moved.core).of_levels rfl levels,
      ⟨fun j e out => (gate_of_drive drive j e).trans (gates j e out), fun z out => (sluice_of_drive drive z).trans (sluices z out), ?_, ?_, ?_⟩,
      ?_, own', ?_⟩
    · rw [drive, overflow]; rfl
    · rw [drive, cycle]; rfl
    · rw [levels, fast]; rfl
    · rw [drive]; exact sent
    · rw [sluice_of_drive drive, sluice]
      rfl

include takes held present halted interrupted calm in
/-- R53: the OPEN refused is answered INTERLOCK in DIRECTED, and kept with its clause in AUTOMATIC. -/
theorem resume_unopened {e : Side} {x : Clause} (under : c = openingState e) (equal : s.pair (.across e k) = .equalised)
    (opening : (s.gate k e).state ≠ .opening) (opened : (s.gate k e).state ≠ .opened) (refused : s.judge (.gate k e) .opn = some x) :
    ((s.chamber k).mode = .directed → exec (.resume st k) s = .next (s.answered st 0x35 .interlock [.byte x.code]))
    ∧ ((s.chamber k).mode = .automatic →
      ∃ t, exec (.resume st k) s = .next t ∧ (Resumed s t st k ∧ t.drive = s.drive ∧ t.levels = s.levels)
        ∧ t.chamber k = { (s.chamber k).back c with pendingOrder := some (e, x) }) := by
  subst under
  let y := s.resumed st k (openingState e)
  have asked : y.openGate k e = (y, .refused x) := State.openGate_refused (s := y) opening opened refused
  have judged : (s.validFrame st).resumeAs k (openingState e) =
      if (s.chamber k).mode = .directed then (s.validFrame st).interlocked x
      else (y.setChamber k { y.chamber k with pendingOrder := some (e, x) }).done .ok := by
    rw [resumeAs_opening]
    refine (if_pos (decide_eq_true equal)).trans ?_
    rw [show ((s.validFrame st).restore k (openingState e)).openGate k e = _ from asked]
    rfl
  refine ⟨fun directed => ?_, fun automatic => ?_⟩
  · refine State.exchange_report takes ?_
    unfold judgeResume
    rw [State.judged_conductor (s := s.validFrame st) present held]
    have halted' : ((s.validFrame st).chamber k).state = .halted := halted
    have interrupted' : ((s.validFrame st).chamber k).interrupted = some (openingState e) := interrupted
    rw [halted', interrupted']
    exact judged.trans (if_pos directed)
  · obtain ⟨w, hw⟩ : ∃ w, y.setChamber k { y.chamber k with pendingOrder := some (e, x) } = w := ⟨_, rfl⟩
    have frame : w = { s.validFrame st with chambers := w.chambers, signals := w.signals } := by
      rw [← hw]
      rfl
    have wcalm : w.Calm := by
      rw [frame]
      exact calm
    refine resume_alone takes held present halted interrupted (w := w) ?_ frame ?_ ?_
    · rw [judged, hw, if_neg (by rw [automatic]; nofun), State.done, State.finish_calm wcalm]
    · rw [← hw]
      refine (stepped_own _).trans ?_
      rw [resumed_own]
    · rw [← hw]
      exact stepped_other _ (resumed_other _)

end Resume

/-- Settles O30. -/
theorem resumeContinuesTheInterruptedStep : Obligations.ResumeContinuesTheInterruptedStep := by
  intro s st k c takes held present halted interrupted calm back resumes rests sluiceRests
  refine ⟨fun e under => ⟨fun closing => ?_, fun closed directed => ?_, fun closing closed known => ?_⟩,
    fun e under equal => ⟨fun opened directed none_ => ?_, fun opening opened => ⟨fun passes => ?_, fun x refused => ⟨fun directed => ?_, fun automatic => ?_⟩⟩⟩,
    fun e under unequal => ⟨fun directed => ?_, fun automatic => ?_⟩,
    fun kind water => ?_⟩
  · exact resume_closing takes held present halted interrupted calm under closing
  · refine resume_completes (m := .cls) takes held present halted interrupted calm under ?_ closed directed (.inl rfl)
    subst under
    have asked : (s.resumed st k (closingState e)).closeGate k e = (s.resumed st k (closingState e), .complete) :=
      State.closeGate_complete (.inr closed)
    rw [resumeAs_closing]
    show (((s.resumed st k (closingState e)).closeGate k e).1.noteComplete k e ((s.resumed st k (closingState e)).closeGate k e).2).done .ok = _
    rw [asked]
    rfl
  · refine resume_moves (x := c) takes held present halted interrupted calm ?_
    subst under
    have asked : (s.resumed st k (closingState e)).closeGate k e = ((s.resumed st k (closingState e)).startGate k e .cls, .sent) :=
      State.closeGate_sends closing closed known
    rw [resumeAs_closing]
    show (((s.resumed st k (closingState e)).closeGate k e).1.noteComplete k e ((s.resumed st k (closingState e)).closeGate k e).2).done .ok = _
    rw [asked]
    rfl
  · refine resume_completes (m := .opn) takes held present halted interrupted calm under ?_ opened directed (.inr none_)
    subst under
    have asked : (s.resumed st k (openingState e)).openGate k e = (s.resumed st k (openingState e), .complete) :=
      State.openGate_complete opened
    rw [resumeAs_opening]
    refine (if_pos (decide_eq_true equal)).trans ?_
    rw [show ((s.validFrame st).restore k (openingState e)).openGate k e = _ from asked]
    rfl
  · refine resume_moves (x := c) takes held present halted interrupted calm ?_
    subst under
    have asked : (s.resumed st k (openingState e)).openGate k e = ((s.resumed st k (openingState e)).startGate k e .opn, .sent) :=
      State.openGate_starts opening opened passes
    rw [resumeAs_opening]
    refine (if_pos (decide_eq_true equal)).trans ?_
    rw [show ((s.validFrame st).restore k (openingState e)).openGate k e = _ from asked]
    rfl
  · exact (resume_unopened takes held present halted interrupted calm under equal opening opened refused).1 directed
  · exact (resume_unopened takes held present halted interrupted calm under equal opening opened refused).2 automatic
  · exact resume_shut takes held present halted interrupted calm under unequal directed
  · intro kind foot limit passes
    have again : relevelKind e = kind := by cases e <;> rfl
    exact resume_relevels takes held present halted interrupted calm under again unequal automatic foot limit passes
  · intro q unequal foot limit
    exact ⟨fun passes => resume_fills takes held present halted interrupted calm water unequal foot limit passes, fun x refused =>
      resume_interlocked takes held present halted interrupted calm water unequal foot limit refused⟩

end Sys2Proof.Machine
end

section
/-! SUPPORT. Water records closed, and the end of a fill or an empty (R44, R45, R135 to R137, R140). -/

namespace Sys2Proof.Machine

/-! ## The closed record -/

/-- R137: the record of a fill or an empty without a batch: the whole charge of a fill, by the ACTIVE table, is the site's. -/
def State.siteRecord (s : State) (k : Chamber) (w : WaterRec) (stop : Option Nat) : ClosedRec :=
  { closeRec w (s.settings.chamber.get k).wetArea s.active.waterRate stop with
    sitePart := (closeRec w (s.settings.chamber.get k).wetArea s.active.waterRate stop).charge }

/-- R137, R147: what the closing of a record posts to the site account. -/
def SiteAccount.posted (a : SiteAccount) (kind : WaterKind) (total : Nat) (r : ClosedRec) : SiteAccount :=
  match kind with
  | .fill => a.post total r.pound r.crossVolume
  | .empty => a

/-- R137, R140: a record closed with no batch: its WATER frame, and a fill's posting to the site account. -/
theorem State.takeForSite_eq (s : State) (k : Chamber) (w : WaterRec) (stop : Option Nat) :
    s.takeForSite k w stop =
      { s.write (s.waterFrame k w.kind none w.crossed (s.siteRecord k w stop)) with
        site := s.site.posted w.kind (s.siteRecord k w stop).charge (s.siteRecord k w stop) } := by
  obtain ⟨r, hr⟩ : ∃ r, s.siteRecord k w stop = r := ⟨_, rfl⟩
  have shape : s.takeForSite k w stop = match w.kind with
      | .fill => (s.write (s.waterFrame k w.kind none w.crossed r)).postSite r.charge r.pound r.crossVolume
      | .empty => s.write (s.waterFrame k w.kind none w.crossed r) := by
    rw [← hr]
    rfl
  rw [shape, hr]
  have site : (s.write (s.waterFrame k w.kind none w.crossed r)).site = s.site := State.write_site ..
  generalize s.write (s.waterFrame k w.kind none w.crossed r) = t at site ⊢
  rw [← site]
  cases w.kind <;> rfl

/-- R137: the record of a fill or an empty closed for a batch. -/
def State.batchRecord (s : State) (k : Chamber) (w : WaterRec) (b : Batch) (stop : Option Nat) : ClosedRec :=
  closeRec w (s.settings.chamber.get k).wetArea b.tariff.waterRate stop

/-- R137, R140: a record closed for a batch: its WATER frame, drawn from the reserve, and a fill's volumes posted. -/
theorem State.takeForBatch_told {s : State} {k : Chamber} {b : Batch} (w : WaterRec) (stop : Option Nat) (held : s.batch k = some b) :
    s.takeForBatch k w b stop = { s with
      book.batches := s.book.batches.set k (some (b.closedWith w.kind (s.batchRecord k w b stop)))
      journal.frames := s.journal.frames ++ [s.waterFrame k w.kind (some b.number) w.crossed (s.batchRecord k w b stop)]
      stations := (s.takeForBatch k w b stop).stations
      site := s.site.posted w.kind 0 (s.batchRecord k w b stop) } := by
  unfold State.takeForBatch Batch.closedWith State.batchRecord SiteAccount.posted
  dsimp only
  generalize closeRec w (s.settings.chamber.get k).wetArea b.tariff.waterRate stop = r
  cases w.kind with
  | fill =>
    dsimp only
    rw [State.writeReserved_eq (b := { b with members := shareMembers r.charge b.members }) (State.setBatch_batch_self ..)]
    simp only [State.postSite, State.setBatch, State.batch, PerChamber.get_set, PerChamber.set_set, if_true, Option.map_some]
    rfl
  | empty =>
    dsimp only
    rw [State.writeReserved_eq held]
    simp only [State.setBatch, State.batch, PerChamber.get_set, PerChamber.set_set, if_true, Option.map_some]
    rfl

/-! ## The water record of a chamber -/

/-- The chamber without its water record. -/
def State.dry (s : State) (k : Chamber) : State := s.setChamber k { s.chamber k with water := none }

theorem State.closeWater_none {s : State} {k : Chamber} (none_ : (s.chamber k).water = none) (withBatch : Bool) :
    s.closeWater k withBatch = s := by
  unfold State.closeWater
  dsimp only
  rw [none_]

theorem State.closeWater_site {s : State} {k : Chamber} {w : WaterRec} {withBatch : Bool} (water : (s.chamber k).water = some w)
    (alone : withBatch = false ∨ s.recordBatch k w = none) :
    s.closeWater k withBatch = (s.dry k).takeForSite k w (s.level k.body) := by
  have none_ : (if withBatch then s.recordBatch k w else none) = none := by
    rcases alone with rfl | h
    · rfl
    · rw [h, ite_self]
  unfold State.closeWater
  dsimp only
  rw [water]
  dsimp only
  rw [none_]
  rfl

theorem State.closeWater_batch {s : State} {k : Chamber} {w : WaterRec} {b : Batch} (water : (s.chamber k).water = some w)
    (held : s.recordBatch k w = some b) : s.closeWater k true = (s.dry k).takeForBatch k w b (s.level k.body) := by
  unfold State.closeWater
  dsimp only
  rw [water]
  dsimp only
  rw [if_pos rfl, held]
  rfl

theorem State.recordBatch_some {s : State} {k : Chamber} {w : WaterRec} {b : Batch} (batch : s.batch k = some b)
    (number : w.batch = some b.number) (fresh : b.closed w.kind = none) : s.recordBatch k w = some b := by
  unfold State.recordBatch
  rw [batch]
  exact if_pos ⟨number, fresh⟩

theorem State.recordBatch_held {s : State} {k : Chamber} {w : WaterRec} {b : Batch} (record : s.recordBatch k w = some b) :
    s.batch k = some b := by
  unfold State.recordBatch at record
  split at record
  · next x batch =>
    split at record
    · rw [batch, record]
    · cases record
  · cases record

theorem State.recordBatch_none {s : State} {k : Chamber} {w : WaterRec}
    (none_ : ∀ b, s.batch k = some b → w.batch ≠ some b.number ∨ b.closed w.kind ≠ none) : s.recordBatch k w = none := by
  unfold State.recordBatch
  split
  · next b batch =>
    refine if_neg fun ⟨number, fresh⟩ => ?_
    exact (none_ b batch).elim (· number) (· fresh)
  · rfl

/-- R44: what the closing of a chamber's water record leaves alone. -/
structure WaterClosed (s t : State) (k : Chamber) : Prop where
  frame : t = { s with
    chambers := s.chambers.set k { s.chamber k with water := none }, book.batches := t.book.batches, journal := t.journal
    stations := t.stations, site := t.site }
  core : t.core = s.core
  notices : ∀ st n, n ∈ (s.station st).notices → n ∈ (t.station st).notices

theorem PerChamber.set_self {α : Type} (x : PerChamber α) (k : Chamber) : x.set k (x.get k) = x := by cases k <;> rfl

theorem State.writeReserved_notices {s : State} {k : Chamber} {f : Frame} {st : Station} {n : NoticeKind}
    (raised : n ∈ (s.station st).notices) : n ∈ ((s.writeReserved k f).station st).notices := by
  unfold State.writeReserved
  split
  · exact State.append_notices raised
  · exact State.write_notices raised

theorem State.closeWater_closed (s : State) (k : Chamber) (withBatch : Bool) : WaterClosed s (s.closeWater k withBatch) k := by
  have core := State.closeWater_core s k withBatch
  cases water : (s.chamber k).water with
  | none =>
    have same : s.chambers.set k { s.chamber k with water := none } = s.chambers := by
      have own : ({ s.chamber k with water := none } : Sequencer) = s.chambers.get k := by rw [← water]; rfl
      rw [own, PerChamber.set_self]
    rw [State.closeWater_none water]
    exact ⟨by rw [same], rfl, fun _ _ raised => raised⟩
  | some w =>
    have site : WaterClosed s ((s.dry k).takeForSite k w (s.level k.body)) k := by
      have core : ((s.dry k).takeForSite k w (s.level k.body)).core = s.core := by
        rw [State.takeForSite_core]
        exact State.setChamber_core ..
      have told := State.takeForSite_eq (s.dry k) k w (s.level k.body)
      generalize (s.dry k).waterFrame k w.kind none w.crossed _ = f at told
      have written := State.write_frame (s.dry k) f
      have notices (st : Station) (n : NoticeKind) (raised : n ∈ (s.station st).notices) : n ∈ (((s.dry k).write f).station st).notices :=
        State.write_notices (s := s.dry k) raised
      generalize (s.dry k).takeForSite k w (s.level k.body) = t at told core ⊢
      generalize (s.dry k).write f = x at told written notices
      have book : t.book = s.book := by rw [told, written]; rfl
      have journal : t.journal = x.journal := by rw [told]
      have stations : t.stations = x.stations := by rw [told]
      refine ⟨?_, core, fun st n raised => ?_⟩
      · rw [book, journal, stations]
        generalize x.journal = J at written ⊢
        generalize x.stations = N at written ⊢
        rw [told, written]
        rfl
      · rw [told]
        exact notices st n raised
    cases withBatch with
    | false =>
      rw [State.closeWater_site water (.inl rfl)]
      exact site
    | true =>
      cases record : s.recordBatch k w with
      | none =>
        rw [State.closeWater_site water (.inr record)]
        exact site
      | some b =>
        rw [State.closeWater_batch water record] at core ⊢
        have told := State.takeForBatch_told (s := s.dry k) w (s.level k.body) (State.recordBatch_held record)
        refine ⟨?_, core, fun st n raised => ?_⟩
        · generalize (s.dry k).takeForBatch k w b (s.level k.body) = t at told ⊢
          have batches : t.book.batches = s.book.batches.set k (some (b.closedWith w.kind ((s.dry k).batchRecord k w b (s.level k.body)))) := by
            rw [told]
            rfl
          have journal : t.journal = { s.journal with
              frames := s.journal.frames
                ++ [(s.dry k).waterFrame k w.kind (some b.number) w.crossed ((s.dry k).batchRecord k w b (s.level k.body))] } := by
            rw [told]
            rfl
          have account : t.site = s.site.posted w.kind 0 ((s.dry k).batchRecord k w b (s.level k.body)) := by
            rw [told]
            rfl
          rw [batches, journal, account]
          generalize t.stations = N at told ⊢
          rw [told]
          rfl
        · have raised' : n ∈ ((s.dry k).station st).notices := raised
          unfold State.takeForBatch
          dsimp only
          cases w.kind with
          | fill => exact State.writeReserved_notices (s := (s.dry k).setBatch k _) raised'
          | empty => exact State.writeReserved_notices raised'

end Sys2Proof.Machine
end

section
/-! SUPPORT. A fill or an empty ends, and its chamber, in DIRECTED, comes to rest (R44, R45). -/

namespace Sys2Proof.Machine

theorem ends_shut (kind : WaterKind) : kind.ends = shutState kind.side := by cases kind <;> rfl

/-- R45: with its sluice SHUT the phase is done: the record closes, and the chamber takes its rest state's step. -/
theorem State.phaseDone_done {s : State} {k : Chamber} {kind : WaterKind} (state : (s.chamber k).state = kind.phase)
    (ended : (s.chamber k).phase = none) (shut : (s.sluice (.chamber k kind.side)).state = .shut) :
    s.phaseDone k kind = ((s.closeWater k true).setChamberState k kind.ends).push (.rest k) := by
  unfold State.phaseDone
  exact if_pos (by simp [state, ended, State.sluiceShut, shut])

theorem State.phaseDone_away {s : State} {k : Chamber} {kind : WaterKind} (state : (s.chamber k).state ≠ kind.phase) :
    s.phaseDone k kind = s := by
  unfold State.phaseDone
  exact if_neg (by simp [state])

/-- R44, R45: a chamber at rest after a fill or an empty, in DIRECTED. -/
structure PhaseRested (s t : State) (k : Chamber) (kind : WaterKind) : Prop where
  frame : t = { s with
    chambers := t.chambers, book.batches := t.book.batches, journal := t.journal, stations := t.stations, site := t.site
    signals := t.signals }
  core : t.core = s.core
  own : t.chamber k = { s.chamber k with state := kind.ends, pendingOrder := none, water := none }
  other : t.chamber k.other = s.chamber k.other
  journal : t.journal = (s.closeWater k true).journal
  site : t.site = (s.closeWater k true).site
  batches : t.book.batches = (s.closeWater k true).book.batches
  notices : ∀ st n, n ∈ (s.station st).notices → n ∈ (t.station st).notices

/-- R41, R45: the record closed and the rest state entered: its step drops the pending order. -/
theorem State.rested {s z : State} {k : Chamber} {kind : WaterKind} (calm : s.Calm) (directed : (s.chamber k).mode = .directed)
    (hz : (s.closeWater k true).setChamberState k kind.ends = z) :
    z.Calm ∧ z.derive.restStep k = z.derive ∧ PhaseRested s z.derive k kind := by
  have closed := s.closeWater_closed k true
  obtain ⟨c, hc⟩ : ∃ c, s.closeWater k true = c := ⟨_, rfl⟩
  rw [hc] at closed hz
  have cframe := closed.frame
  have cown : c.chamber k = { s.chamber k with water := none } := by
    rw [cframe]
    exact (PerChamber.get_set ..).trans (if_pos rfl)
  have cother : c.chamber k.other = s.chamber k.other := by
    rw [cframe]
    exact (PerChamber.get_set ..).trans (if_neg (by cases k <;> nofun))
  have zframe : z = { c with chambers := z.chambers } := by
    rw [← hz]
    rfl
  have zown : z.chamber k = { s.chamber k with state := kind.ends, pendingOrder := none, water := none } := by
    rw [← hz]
    refine (stepped_own _).trans ?_
    rw [cown]
  have zother : z.chamber k.other = s.chamber k.other := by
    rw [← hz]
    exact stepped_other _ cother
  have zcalm : z.Calm := by
    rw [zframe]
    show c.agenda = [] ∧ c.book.deferred = _
    rw [cframe]
    exact calm
  have step : z.derive.restStep k = z.derive.dropPending k :=
    State.restStep_shut_directed (s := z.derive) (e := kind.side)
      (by rw [show z.derive.chamber k = _ from zown]; exact ends_shut kind) (by rw [show z.derive.chamber k = _ from zown]; exact directed)
  have same : z.derive.dropPending k = z.derive := by
    unfold State.dropPending
    have own : ({ z.derive.chamber k with pendingOrder := none } : Sequencer) = z.derive.chamber k := by
      rw [show z.derive.chamber k = _ from zown]
    rw [own, State.setChamber_self]
  refine ⟨zcalm, step.trans same, ?_⟩
  obtain ⟨t, ht⟩ : ∃ t, z.derive = t := ⟨_, rfl⟩
  have tframe : t = { z with signals := t.signals } := by
    rw [← ht]
    exact State.derive_frame z
  have chambers : t.chambers = z.chambers := by rw [tframe]
  have book : t.book = c.book := by rw [tframe, zframe]
  have journal : t.journal = c.journal := by rw [tframe, zframe]
  have stations : t.stations = c.stations := by rw [tframe, zframe]
  have site : t.site = c.site := by rw [tframe, zframe]
  rw [ht]
  refine ⟨?_, ?_, (chamber_of_chambers chambers k).trans zown, (chamber_of_chambers chambers _).trans zother, ?_, ?_, ?_,
    fun st n raised => ?_⟩
  · rw [chambers, book, journal, stations, site]
    generalize t.signals = S at tframe ⊢
    generalize z.chambers = C at zframe ⊢
    generalize c.book.batches = B at cframe ⊢
    generalize c.journal = J at cframe ⊢
    generalize c.stations = N at cframe ⊢
    generalize c.site = A at cframe ⊢
    rw [tframe, zframe, cframe]
  · rw [← ht, State.derive_core, ← hz, State.setChamberState, State.setChamber_core, closed.core]
  · rw [journal, hc]
  · rw [site, hc]
  · rw [book, hc]
  · have told := closed.notices st n raised
    have station : t.station st = c.station st := by
      rw [tframe, zframe]
      rfl
    rw [station]
    exact told

/-- R44: what the closing of a record writes and posts, seen from a state with other signals. -/
theorem State.closeWater_derive (s : State) (k : Chamber) :
    (s.derive.closeWater k true).journal = (s.closeWater k true).journal ∧ (s.derive.closeWater k true).site = (s.closeWater k true).site
      ∧ (s.derive.closeWater k true).book.batches = (s.closeWater k true).book.batches := by
  cases water : (s.chamber k).water with
  | none =>
    rw [State.closeWater_none (s := s) water, State.closeWater_none (s := s.derive) water]
    exact ⟨rfl, rfl, rfl⟩
  | some w =>
    cases record : s.recordBatch k w with
    | none =>
      rw [State.closeWater_site (s := s) water (.inr record), State.closeWater_site (s := s.derive) water (.inr record),
        State.takeForSite_eq, State.takeForSite_eq]
      refine ⟨?_, rfl, ?_⟩
      · exact State.write_journal_congr (s := s.dry k) (t := s.derive.dry k) rfl rfl _
      · show ((s.derive.dry k).write _).book.batches = ((s.dry k).write _).book.batches
        rw [State.write_book, State.write_book]
        rfl
    | some b =>
      rw [State.closeWater_batch (s := s) water record, State.closeWater_batch (s := s.derive) water record,
        State.takeForBatch_told (s := s.dry k) w _ (State.recordBatch_held record),
        State.takeForBatch_told (s := s.derive.dry k) w _ (State.recordBatch_held record)]
      exact ⟨rfl, rfl, rfl⟩

/-- R45: the task of a phase done: the record closes, and the chamber comes to rest. -/
theorem State.finish_phaseDone {s : State} {k : Chamber} {kind : WaterKind} (calm : s.Calm) (state : (s.chamber k).state = kind.phase)
    (ended : (s.chamber k).phase = none) (shut : (s.sluice (.chamber k kind.side)).state = .shut)
    (directed : (s.chamber k).mode = .directed) : ∃ t, (s.push (.phaseDone k)).finish = t ∧ PhaseRested s t k kind := by
  obtain ⟨z, hz⟩ : ∃ z, (s.derive.closeWater k true).setChamberState k kind.ends = z := ⟨_, rfl⟩
  obtain ⟨zcalm, step, rested⟩ := State.rested (s := s.derive) calm directed hz
  have zstate : (z.chamber k).state = kind.ends := by
    rw [← hz]
    exact congrArg Sequencer.state (stepped_own _)
  have done : s.derive.phaseDone k kind = z.push (.rest k) := by
    rw [State.phaseDone_done (s := s.derive) state ended shut, hz]
  have pushed : z.push (.rest k) = { z with agenda := [.rest k] } := push_nil zcalm.1 _
  have after (other : WaterKind) : (z.push (.rest k)).phaseDone k other = z.push (.rest k) := by
    refine State.phaseDone_away ?_
    rw [pushed]
    show (z.chamber k).state ≠ _
    rw [zstate]
    cases kind <;> cases other <;> nofun
  have ran : s.derive.runTask (.phaseDone k) = z.push (.rest k) := by
    show (s.derive.phaseDone k .fill).phaseDone k .empty = _
    cases kind with
    | fill => rw [done, after]
    | empty =>
      have away : s.derive.phaseDone k .fill = s.derive := State.phaseDone_away (by
        show (s.chamber k).state ≠ _
        rw [state]
        nofun)
      rw [away, done]
  have first : (({ s.push (.phaseDone k) with agenda := [] } : State).derive).runTask (.phaseDone k) = z.push (.rest k) := by
    have self : ({ s.push (.phaseDone k) with agenda := [] } : State) = s := by
      rw [push_nil calm.1]
      exact congrArg (fun a => ({ s with agenda := a } : State)) calm.1.symm
    rw [self]
    exact ran
  have second : (({ z.push (.rest k) with agenda := [] } : State).derive).runTask (.rest k) = z.derive := by
    have self : ({ z.push (.rest k) with agenda := [] } : State) = z := by
      rw [pushed]
      exact congrArg (fun a => ({ z with agenda := a } : State)) zcalm.1.symm
    rw [self]
    exact step
  have ends : (s.push (.phaseDone k)).finish = z.derive := by
    rw [State.finish_two (by rw [push_nil calm.1]) first (by rw [pushed]) second zcalm.1, State.derive_derive]
    exact State.clearDeferred_self zcalm.2
  obtain ⟨t, ht⟩ : ∃ t, z.derive = t := ⟨_, rfl⟩
  rw [ht] at ends rested
  obtain ⟨journal, site, batches⟩ := s.closeWater_derive k
  refine ⟨t, ends, ?_, rested.core.trans (State.derive_core s), rested.own, rested.other, rested.journal.trans journal,
    rested.site.trans site, rested.batches.trans batches, rested.notices⟩
  have frame := rested.frame
  generalize t.chambers = C at frame ⊢
  generalize t.book.batches = B at frame ⊢
  generalize t.journal = J at frame ⊢
  generalize t.stations = N at frame ⊢
  generalize t.site = A at frame ⊢
  generalize t.signals = S at frame ⊢
  rw [frame]
  rfl

end Sys2Proof.Machine
end

section
/-! SUPPORT. The end of a fill or an empty at the report of step 0 (R44, R45, R135 to R137). -/

namespace Sys2Proof.Machine

theorem NothingKept.pushed {s : State} {t : Task} (kept : s.NothingKept) : (s.push t).NothingKept := by
  unfold State.push
  split
  · exact kept
  · exact kept

/-- R23, R45: the report of step 0 of the sluice of an ended phase: the sluice is SHUT, the record closes, and the chamber rests. -/
theorem phase_ends {s : State} {k : Chamber} {kind : WaterKind} (calm : s.Calm) (kept : s.NothingKept)
    (present : s.chamberPresent k = true) (head : s.drive.polls.head? = some (.sluice (.chamber k kind.side)))
    (moving : (s.sluice (.chamber k kind.side)).state = .moving)
    (expected : (s.sluice (.chamber k kind.side)).target = some (.step 0) ∨ (s.sluice (.chamber k kind.side)).target = some .stop)
    (unramped : (s.sluice (.chamber k kind.side)).ramp = none) (state : (s.chamber k).state = kind.phase)
    (ended : (s.chamber k).phase = none) (directed : (s.chamber k).mode = .directed) :
    ∃ x t, exec (.sluiceReport (.chamber k kind.side) 0) s = .next t
      ∧ ActuatorTold s.pollClosed x (.sluice (.chamber k kind.side))
        (s.pollClosed.write (.move (.sluice (.chamber k kind.side)) (.reachedStep 0) s.time)).journal
      ∧ x.sluice (.chamber k kind.side) = { state := .shut, step := some 0 } ∧ PhaseRested x t k kind := by
  let q : Sluice := .chamber k kind.side
  obtain ⟨told, own⟩ := s.pollClosed.atStep_told (q := q) unramped 0
  obtain ⟨x, hx⟩ : ∃ x, s.pollClosed.atStep q 0 = x := ⟨_, rfl⟩
  have run : exec (.sluiceReport q 0) s = .next ((x.push (.phaseDone k)).driveEvent (.sluice q)) := by
    rw [exec_sluiceReport (q := q) present head (by decide), State.applySluiceReport_reaches (s := s.pollClosed) (q := q) moving expected,
      State.sluiceReaches_eq (s := s.pollClosed) (q := q) unramped, hx]
    rfl
  rw [hx] at told own
  have own' : x.sluice q = { state := .shut, step := some 0 } := own
  have chamber (j : Chamber) : x.chamber j = s.chamber j := told.chamber j
  have xcalm : x.Calm := told.calm calm.pollClosed
  have xkept : x.NothingKept := by
    refine NothingKept.of_moved (s := s.pollClosed) kept told.toActuatorMoved fun q' r same ramp => ?_
    injection same with same
    rw [← same, own'] at ramp
    cases ramp
  obtain ⟨t, ends, rested⟩ := State.finish_phaseDone (s := x) (k := k) (kind := kind) xcalm (by rw [chamber]; exact state)
    (by rw [chamber]; exact ended) (by rw [own']) (by rw [chamber]; exact directed)
  rw [State.driveEvent, State.retries_kept (NothingKept.pushed xkept), ends] at run
  exact ⟨x, t, run, told, own', rested⟩

/-- The record that closes, its frame and its posting read the settings, the tables, the clock and the level alone. -/
theorem closing_read {s x : State} {k : Chamber} {a : Actuator} {J : Journal} (told : ActuatorTold s.pollClosed x a J) :
    (x.dry k).level k.body = s.level k.body ∧ x.level k.body = s.level k.body ∧ (x.dry k).settings = s.settings
      ∧ (x.dry k).active = s.active ∧ (x.dry k).time = s.time ∧ (x.dry k).site = s.site ∧ (x.dry k).batch k = s.batch k := by
  have level : x.level k.body = s.level k.body := ((SameLevels.of_core told.core).1 k.body).handedLevel
  have records := SameRecords.of_core told.core
  exact ⟨level, level, records.settings, records.active, told.time, told.site, told.batch k⟩

/-- R137, R147: a fill or an empty that ends without a batch to take it. -/
theorem phase_ends_site {s x t : State} {k : Chamber} {kind : WaterKind} {w : WaterRec} {a : Actuator} {f : Frame}
    (told : ActuatorTold s.pollClosed x a (s.pollClosed.write f).journal) (rested : PhaseRested x t k kind)
    (water : (s.chamber k).water = some w) (alone : s.recordBatch k w = none) :
    t.site = s.site.posted w.kind (s.siteRecord k w (s.level k.body)).charge (s.siteRecord k w (s.level k.body))
      ∧ t.batch k = s.batch k
      ∧ t.journal = ((s.write f).write (s.waterFrame k w.kind none w.crossed (s.siteRecord k w (s.level k.body)))).journal := by
  obtain ⟨-, level, settings, active, time, site, batch⟩ := closing_read (k := k) told
  have water' : (x.chamber k).water = some w := by
    rw [told.chamber]
    exact water
  have alone' : x.recordBatch k w = none := by
    unfold State.recordBatch
    rw [told.batch]
    exact alone
  have closed := State.closeWater_site (withBatch := true) water' (.inr alone')
  rw [State.takeForSite_eq, level] at closed
  have record : (x.dry k).siteRecord k w (s.level k.body) = s.siteRecord k w (s.level k.body) := by
    unfold State.siteRecord
    rw [settings, active]
  have frame : (x.dry k).waterFrame k w.kind none w.crossed (s.siteRecord k w (s.level k.body))
      = s.waterFrame k w.kind none w.crossed (s.siteRecord k w (s.level k.body)) := by
    unfold State.waterFrame
    rw [time]
  rw [record, frame, site] at closed
  refine ⟨?_, ?_, ?_⟩
  · rw [rested.site, closed]
  · show t.book.batches.get k = _
    rw [rested.batches, closed]
    show ((x.dry k).write _).book.batches.get k = _
    rw [State.write_book]
    exact batch
  · rw [rested.journal, closed]
    refine State.write_journal_congr (s := s.write f) (t := x.dry k) ?_ ?_ _
    · exact told.journal.trans (State.write_journal_congr (s := s) (t := s.pollClosed) rfl rfl f)
    · exact ((told.reserved).trans rfl).trans (s.write_moved f).reserved.symm

/-- R137, R140, R147: a fill or an empty that ends for the batch it was opened for. -/
theorem phase_ends_batch {s x t : State} {k : Chamber} {kind : WaterKind} {w : WaterRec} {b : Batch} {a : Actuator} {f : Frame}
    (told : ActuatorTold s.pollClosed x a (s.pollClosed.write f).journal) (rested : PhaseRested x t k kind)
    (water : (s.chamber k).water = some w) (record : s.recordBatch k w = some b) :
    t.site = s.site.posted w.kind 0 (s.batchRecord k w b (s.level k.body))
      ∧ t.batch k = some (b.closedWith w.kind (s.batchRecord k w b (s.level k.body)))
      ∧ t.journal.frames = (s.write f).journal.frames
        ++ [s.waterFrame k w.kind (some b.number) w.crossed (s.batchRecord k w b (s.level k.body))] := by
  obtain ⟨-, level, settings, -, time, site, batch⟩ := closing_read (k := k) told
  have held := State.recordBatch_held record
  have water' : (x.chamber k).water = some w := by
    rw [told.chamber]
    exact water
  have record' : x.recordBatch k w = some b := by
    unfold State.recordBatch
    rw [told.batch]
    exact record
  have closed := State.closeWater_batch water' record'
  rw [State.takeForBatch_told (s := x.dry k) w _ (batch.trans held), level] at closed
  have worked : (x.dry k).batchRecord k w b (s.level k.body) = s.batchRecord k w b (s.level k.body) := by
    unfold State.batchRecord
    rw [settings]
  have frame : (x.dry k).waterFrame k w.kind (some b.number) w.crossed (s.batchRecord k w b (s.level k.body))
      = s.waterFrame k w.kind (some b.number) w.crossed (s.batchRecord k w b (s.level k.body)) := by
    unfold State.waterFrame
    rw [time]
  rw [worked, frame, site] at closed
  refine ⟨?_, ?_, ?_⟩
  · rw [rested.site, closed]
  · show t.book.batches.get k = _
    rw [rested.batches, closed]
    exact (PerChamber.get_set ..).trans (if_pos rfl)
  · rw [rested.journal, closed]
    show x.journal.frames ++ _ = _
    rw [told.journal, State.write_journal_congr (s := s) (t := s.pollClosed) rfl rfl f]

/-! ## Shares worked anew (R139) -/

/-- R139, R140: the shares worked anew: the WATER frame, drawn from the reserve, and the rise of the site part posted. -/
theorem State.reapportion_told {s : State} {k : Chamber} {b : Batch} {r : ClosedRec} (toSite : Bool) (batch : s.batch k = some b)
    (filled : b.fill = some r) :
    s.reapportion k toSite = { s with
      book.batches := s.book.batches.set k (some (b.reapportioned r toSite))
      journal.frames := s.journal.frames ++ [s.waterFrame k .fill (some b.number) true
        { r with sitePart := if toSite then r.charge else 0, sharers := if toSite then [] else b.members.map (·.order) }]
      stations := (s.reapportion k toSite).stations
      site := s.site.post ((if toSite then r.charge else 0) - r.sitePart) 0 0 } := by
  unfold State.reapportion
  rw [batch]
  dsimp only
  rw [filled]
  dsimp only
  rw [State.writeReserved_eq (State.setBatch_batch_self ..)]
  simp only [State.postSite, State.setBatch, PerChamber.set_set]
  rfl

theorem shareMembers_shares (charge : Nat) (ms : List Member) :
    (shareMembers charge ms).map (·.share) = (apportion charge (ms.map Member.weight)).map some := by
  unfold shareMembers
  rw [List.map_map]
  have second : (ms.zip (apportion charge (ms.map Member.weight))).map Prod.snd = apportion charge (ms.map Member.weight) :=
    List.map_snd_zip (by simp [length_apportion])
  calc (ms.zip (apportion charge (ms.map Member.weight))).map ((fun m : Member => m.share) ∘ fun p => { p.1 with share := some p.2 })
      = ((ms.zip (apportion charge (ms.map Member.weight))).map Prod.snd).map some := by
        rw [List.map_map]
        rfl
    _ = _ := by rw [second]

theorem shareMembers_rest (charge : Nat) (ms : List Member) :
    (shareMembers charge ms).map (fun m => { m with share := none }) = ms.map (fun m => { m with share := none }) := by
  unfold shareMembers
  rw [List.map_map]
  have first : (ms.zip (apportion charge (ms.map Member.weight))).map Prod.fst = ms :=
    List.map_fst_zip (by simp [length_apportion])
  calc (ms.zip (apportion charge (ms.map Member.weight))).map
        ((fun m : Member => { m with share := none }) ∘ fun p => { p.1 with share := some p.2 })
      = ((ms.zip (apportion charge (ms.map Member.weight))).map Prod.fst).map (fun m => { m with share := none }) := by
        rw [List.map_map]
        rfl
    _ = _ := by rw [first]

theorem shareMembers_orders (charge : Nat) (ms : List Member) : (shareMembers charge ms).map (·.order) = ms.map (·.order) := by
  have same := congrArg (List.map (fun m : Member => m.order)) (shareMembers_rest charge ms)
  simp only [List.map_map] at same
  exact same

end Sys2Proof.Machine
end

section
/-! SUPPORT. Fills shared anew at CONFIRM IN and posted to the site at ABANDON BATCH (R139). -/

namespace Sys2Proof.Machine

/-! ## The records written out -/

/-- R135, R136: the volumes of a record, by its kind. -/
def volumesOf (kind : WaterKind) (area : Nat) (start cross stop : Option Nat) : Nat × Nat :=
  match start, cross, stop with
  | some a, some c, some z => match kind with
    | .fill => ((area * (c - a) + 50) / 100, (area * (z - c) + 50) / 100)
    | .empty => ((area * (a - c) + 50) / 100, (area * (c - z) + 50) / 100)
  | _, _, _ => (0, 0)

theorem recordVolumes_eq (kind : WaterKind) (area : Nat) (start cross stop : Option Nat) :
    recordVolumes kind area start cross stop = volumesOf kind area start cross stop := by
  unfold recordVolumes volumesOf
  cases start <;> cases cross <;> cases stop <;> cases kind <;> rfl

/-- R137: the charge of a record, by its kind. -/
def chargeOf (kind : WaterKind) (drawn rate : Nat) : Nat :=
  match kind with
  | .fill => (drawn * rate + 5) / 10
  | .empty => 0

/-- R135, R136: the volumes of a chamber's open record that closes at a level. -/
def State.volumes (s : State) (k : Chamber) (w : WaterRec) (stop : Option Nat) : Nat × Nat :=
  volumesOf w.kind (s.settings.chamber.get k).wetArea w.start (if w.crossed then w.crossEnd else w.start) stop

theorem siteRecord_eq (s : State) (k : Chamber) (w : WaterRec) (stop : Option Nat) :
    s.siteRecord k w stop =
      { start := w.start, crossEnd := if w.crossed then w.crossEnd else none, stop := stop
        crossVolume := (s.volumes k w stop).1, pound := (s.volumes k w stop).2
        charge := chargeOf w.kind (s.volumes k w stop).2 s.active.waterRate
        sitePart := chargeOf w.kind (s.volumes k w stop).2 s.active.waterRate, sharers := [] } := by
  unfold State.siteRecord closeRec State.volumes
  rw [recordVolumes_eq]
  cases w.kind <;> rfl

theorem batchRecord_eq (s : State) (k : Chamber) (w : WaterRec) (b : Batch) (stop : Option Nat) :
    s.batchRecord k w b stop =
      { start := w.start, crossEnd := if w.crossed then w.crossEnd else none, stop := stop
        crossVolume := (s.volumes k w stop).1, pound := (s.volumes k w stop).2
        charge := chargeOf w.kind (s.volumes k w stop).2 b.tariff.waterRate, sitePart := 0, sharers := [] } := by
  unfold State.batchRecord closeRec State.volumes
  rw [recordVolumes_eq]
  cases w.kind <;> rfl

/-! ## CONFIRM IN with a fill record (R109, R139) -/

/-- R109: the batch before it is SECURED, its fill shared anew if its members are no longer the sharers. -/
theorem State.sharedAnew_told {s : State} {k : Chamber} {b : Batch} {r : ClosedRec} (filled : b.fill = some r) :
    ∃ x, (s.sharedAnew k b).batch k = some x
      ∧ (s.sharedAnew k b).chambers = s.chambers ∧ (s.sharedAnew k b).agenda = s.agenda
      ∧ (s.sharedAnew k b).book.deferred = s.book.deferred
      ∧ (r.sharers = b.members.map (·.order) → x = s.allPresent b ∧ (s.sharedAnew k b).site = s.site
        ∧ (s.sharedAnew k b).journal = s.journal)
      ∧ (r.sharers ≠ b.members.map (·.order) → x = (s.allPresent b).reapportioned r false
        ∧ (s.sharedAnew k b).site = s.site.post (0 - r.sitePart) 0 0
        ∧ (s.sharedAnew k b).journal.frames = s.journal.frames ++ [s.waterFrame k .fill (some b.number) true
          { r with sitePart := 0, sharers := b.members.map (·.order) }]) := by
  have orders : (s.allPresent b).members.map Member.order = b.members.map (·.order) := by
    simp only [State.allPresent, List.map_map]
    rfl
  obtain ⟨u, hu⟩ : ∃ u, (s.setBatch k (some (s.allPresent b))).noteUnset = u := ⟨_, rfl⟩
  have frame : u = { s.setBatch k (some (s.allPresent b)) with stations := u.stations } := by
    rw [← hu]
    exact State.noteUnset_frame _
  have ubatch : u.batch k = some (s.allPresent b) := by
    rw [frame]
    exact (s.setBatch_batch k _ k).trans (if_pos rfl)
  by_cases same : r.sharers = b.members.map (·.order)
  · have shared : s.sharedAnew k b = u := by
      unfold State.sharedAnew
      rw [filled, hu]
      exact if_pos (same.trans orders.symm)
    rw [shared]
    refine ⟨_, ubatch, by rw [frame]; rfl, by rw [frame]; rfl, by rw [frame]; rfl,
      fun _ => ⟨rfl, by rw [frame]; rfl, by rw [frame]; rfl⟩, fun away => absurd same away⟩
  · have shared : s.sharedAnew k b = u.reapportion k false := by
      unfold State.sharedAnew
      rw [filled, hu]
      exact if_neg fun h => same (h.trans orders)
    have told := State.reapportion_told (r := r) false ubatch filled
    rw [shared, told]
    refine ⟨_, (PerChamber.get_set ..).trans (if_pos rfl), by rw [frame]; rfl, by rw [frame]; rfl, by rw [frame]; rfl,
      fun h => absurd h same, fun _ => ⟨rfl, ?_, ?_⟩⟩
    · show u.site.post _ 0 0 = _
      have site : u.site = s.site := by rw [frame]; rfl
      rw [site]
      rfl
    · show u.journal.frames ++ [u.waterFrame k .fill (some b.number) true _] = _
      have journal : u.journal = s.journal := by rw [frame]; rfl
      have time : u.time = s.time := by rw [frame]; rfl
      unfold State.waterFrame
      rw [journal, time]
      have sharers : (if false = true then [] else (s.allPresent b).members.map (·.order)) = b.members.map (·.order) := orders
      rw [sharers]
      rfl

/-- R109: a batch with a fill record confirmed whole, in a DIRECTED chamber resting open at its entry end. -/
theorem confirmIn_filled {s : State} {st : Station} {k : Chamber} {b : Batch} {r : ClosedRec} (takes : s.takes st)
    (held : s.holder k = some st) (present : s.chamberPresent k = true) (directed : (s.chamber k).mode = .directed)
    (rest : (s.chamber k).state = openState b.direction.entryEnd) (calm : s.Calm) (batch : s.batch k = some b)
    (entering : b.state = .entering) (some_ : b.members ≠ []) (filled : b.fill = some r) :
    ∃ t x, exec (.confirmIn st k none) s = .next t ∧ t.batch k = some { x with state := .secured }
      ∧ (r.sharers = b.members.map (·.order) → x = s.allPresent b ∧ t.site = s.site ∧ t.journal = s.journal)
      ∧ (r.sharers ≠ b.members.map (·.order) → x = (s.allPresent b).reapportioned r false
        ∧ t.site = s.site.post (0 - r.sitePart) 0 0
        ∧ t.journal.frames = s.journal.frames ++ [s.waterFrame k .fill (some b.number) true
          { r with sitePart := 0, sharers := b.members.map (·.order) }]) := by
  let v := s.validFrame st
  obtain ⟨x, xbatch, chambers, agenda, deferred, same, anew⟩ := State.sharedAnew_told (s := v) (k := k) filled
  obtain ⟨u, hu⟩ : ∃ u, v.sharedAnew k b = u := ⟨_, rfl⟩
  rw [hu] at xbatch chambers agenda deferred same anew
  have uown : u.chamber k = s.chamber k := chamber_of_chambers chambers k
  obtain ⟨y, hy⟩ : ∃ y, u.setBatch k (some { x with state := .secured }) = y := ⟨_, rfl⟩
  have yframe : y = { u with book.batches := y.book.batches } := by
    rw [← hy]
    rfl
  have ybatch : y.batch k = some { x with state := .secured } := by
    rw [← hy]
    exact (u.setBatch_batch k _ k).trans (if_pos rfl)
  have yown : y.chamber k = s.chamber k := by
    rw [yframe]
    exact uown
  obtain ⟨z, hz⟩ : ∃ z, y.setChamber k { s.chamber k with entry := none, entryOverdue := false } = z := ⟨_, rfl⟩
  have zframe : z = { y with chambers := z.chambers } := by
    rw [← hz]
    rfl
  have zown : z.chamber k = { s.chamber k with entry := none, entryOverdue := false } := by
    rw [← hz]
    exact stepped_own _
  have zbatch : z.batch k = some { x with state := .secured } := by
    rw [zframe]
    exact ybatch
  have zcalm : z.Calm := by
    rw [zframe]
    show y.agenda = [] ∧ y.book.deferred = _
    rw [yframe]
    show u.agenda = [] ∧ u.book.deferred = _
    rw [agenda, deferred]
    exact calm
  have secured : v.secure k b = z.push (.rest k) := by
    rw [State.secure_eq]
    dsimp only
    rw [hu, xbatch]
    show ((u.setBatch k (some { x with state := .secured })).setChamber k
      { (u.setBatch k (some { x with state := .secured })).chamber k with entry := none, entryOverdue := false }).push _ = _
    rw [hy, yown, hz]
  have direction : x.direction = b.direction := by
    by_cases h : r.sharers = b.members.map (·.order)
    · rw [(same h).1]
      rfl
    · rw [(anew h).1]
      rfl
  have step : z.derive.restStep k = z.derive.dropPending k :=
    State.restStep_secured (s := z.derive) zbatch rfl (by rw [show z.derive.chamber k = _ from zown]; exact directed)
      (by rw [show z.derive.chamber k = _ from zown, show ({ x with state := .secured } : Batch).direction = _ from direction]; exact rest)
  obtain ⟨w, hw⟩ : ∃ w, z.derive.dropPending k = w := ⟨_, rfl⟩
  have wframe : w = { z with chambers := w.chambers, signals := w.signals } := by
    rw [← hw]
    rfl
  have wcalm : w.Calm := by
    rw [wframe]
    exact zcalm
  have ends : (z.push (.rest k)).finish = w.derive := State.finish_push zcalm (step.trans hw) wcalm
  have confirmed : v.confirm st k [] = z.push (.rest k) :=
    State.confirm_eq (w := v) rfl batch ((if_neg (by simpa using some_)).trans secured) (.inl rfl)
  have judged := confirmIn_judged (s := v) (st := st) (k := k) (l := none) present (.inl held) batch entering nofun
    (u := w.derive) (by rw [← ends, ← confirmed])
  have core : w.derive.core = v.core := by
    rw [← ends, ← confirmed, State.finish_core, State.confirm_core]
  have now : w.derive.now = s.now := (now_of_core core : w.derive.now = v.now)
  have settings : w.derive.settings = s.settings := (congrArg (·.settings) core : w.derive.settings = v.settings)
  have site : w.site = u.site := by rw [wframe, zframe, yframe]
  have journal : w.journal = u.journal := by rw [wframe, zframe, yframe]
  have wbatch : w.batch k = z.batch k := by rw [wframe]; rfl
  refine ⟨_, x, State.exchange_answered takes judged (station_core_of_core core st) now (by rw [settings]), wbatch.trans zbatch,
    fun h => ?_, fun h => ?_⟩
  · obtain ⟨whole, account, frames⟩ := same h
    exact ⟨whole, site.trans account, journal.trans frames⟩
  · obtain ⟨whole, account, frames⟩ := anew h
    exact ⟨whole, site.trans account, (congrArg Journal.frames journal).trans frames⟩

/-! ## ABANDON BATCH with a fill record (R111, R139) -/

theorem abandonBatch_filled {s : State} {st : Station} {k : Chamber} {b : Batch} {r : ClosedRec} (takes : s.takes st)
    (held : s.holder k = some st) (present : s.chamberPresent k = true) (calm : s.Calm) (halted : (s.chamber k).state = .halted)
    (batch : s.batch k = some b) (filled : b.fill = some r) :
    ∃ t, exec (.abandonBatch st k) s = .next t ∧ t.batch k = none
      ∧ t.journal.frames.getLast? = some (s.waterFrame k .fill (some b.number) true { r with sitePart := r.charge, sharers := [] })
      ∧ t.site = s.site.post (r.charge - r.sitePart) 0 0 := by
  let v := s.validFrame st
  obtain ⟨w, hw⟩ : ∃ w, b.members.foldl (fun t m => t.abandonMember st b.direction m) v = w := ⟨_, rfl⟩
  obtain ⟨frame, cores, -, -, -, -, -, -, deferred, batches⟩ := hw ▸ abandonMembers_abandoned st b.direction b.members v
  have wbatch : w.batch k = some b := (congrArg (fun x : PerChamber (Option Batch) => x.get k) batches).trans batch
  have wown : w.chamber k = s.chamber k := by rw [frame]; rfl
  have wsite : w.site = s.site := by rw [frame]; rfl
  have wtime : w.time = s.time := by rw [frame]; rfl
  have told := State.reapportion_told (r := r) true wbatch filled
  have rcore := State.reapportion_core w k true
  obtain ⟨p, hp⟩ : ∃ p, w.reapportion k true = p := ⟨_, rfl⟩
  rw [hp] at told rcore
  have pcalm : p.Calm := by
    rw [told]
    show w.agenda = [] ∧ w.book.deferred = _
    rw [deferred, frame]
    exact calm
  have pown : p.chamber k = s.chamber k := by
    rw [told]
    exact wown
  obtain ⟨S, after⟩ := State.removeBatch_finish (k := k) pcalm (.inr (by rw [pown, halted]; rfl))
  obtain ⟨u, hu⟩ : ∃ u : State, ({ (p.setBatch k none).setChamber k (p.chamber k).batchGone with signals := S } : State) = u := ⟨_, rfl⟩
  rw [hu] at after
  have uframe : u = { p with book := u.book, chambers := u.chambers, signals := u.signals } := by
    rw [← hu]
    rfl
  have judged : judgeAbandonBatch st k v = (u, some (.ok, [])) := by
    refine (State.judged_conductor (s := v) present held _).trans ?_
    show (match s.batch k with | none => _ | some b => _) = _
    rw [batch]
    dsimp only
    rw [hw]
    refine (if_neg (by rw [not_not]; exact halted)).trans ?_
    unfold State.abandonBatch
    rw [hp]
    exact congrArg (fun x => (x, some (ReplyOutcome.ok, ([] : List WireField)))) after
  have stations (x : Station) : (u.station x).core = (v.station x).core := by
    have same : u.station x = p.station x := by rw [uframe]; rfl
    rw [same, station_core_of_core rcore, cores]
  have now : u.now = s.now := by
    have same : u.now = p.now := by rw [uframe]
    rw [same, told, frame]
    rfl
  have limit : u.settings.silenceLimit = s.settings.silenceLimit := by
    have same : u.settings = p.settings := by rw [uframe]
    rw [same, told, frame]
    rfl
  have site : u.site = p.site := by rw [uframe]
  have journal : u.journal = p.journal := by rw [uframe]
  refine ⟨_, State.exchange_answered takes judged (stations st) now limit, ?_, ?_, ?_⟩
  · show u.batch k = _
    rw [← hu]
    exact (p.setBatch_batch k none k).trans (if_pos rfl)
  · show u.journal.frames.getLast? = _
    rw [journal, told]
    show (w.journal.frames ++ [w.waterFrame k .fill (some b.number) true _]).getLast? = _
    rw [List.getLast?_concat]
    unfold State.waterFrame
    rw [wtime]
    rfl
  · show u.site = _
    rw [site, told]
    show w.site.post _ 0 0 = _
    rw [wsite]
    rfl

/-- Settles O43. -/
theorem fillsAreChargedAndShared : Obligations.FillsAreChargedAndShared := by
  refine ⟨fun s k kind w calm kept present state ended directed water same => ?_,
    fun s st k b r calm takes held present directed batch filled some_ => ?_⟩
  · intro q head moving target unramped
    obtain ⟨x, t, run, told, -, rested⟩ := phase_ends calm kept present head moving (.inl target) unramped state ended directed
    have chamber : t.chamber k = { s.chamber k with state := kind.ends, pendingOrder := none, water := none } := by
      rw [rested.own, told.chamber]
      rfl
    obtain ⟨kind', number', start, crossed, crossEnd'⟩ := w
    subst same
    intro area cross stop volumes charge crossEnd frame moved post
    refine ⟨fun n alone rate => ?_, fun b batch number fresh => ?_⟩
    · subst rate
      have none_ := State.recordBatch_none (s := s) (k := k) (w := ⟨kind', number', start, crossed, crossEnd'⟩) (by
        cases kind' <;> exact alone)
      obtain ⟨site, batch, journal⟩ := phase_ends_site told rested water none_
      rw [siteRecord_eq] at site journal
      refine ⟨t, run, site.trans ?_, batch, journal.trans (congrArg (fun f => (moved.write f).journal) ?_), chamber⟩
      · cases kind' <;> rfl
      · cases kind' <;> cases crossed <;> rfl
    · have record := State.recordBatch_some (s := s) (k := k) (w := ⟨kind', number', start, crossed, crossEnd'⟩) batch number (by
        cases kind' <;> exact fresh)
      obtain ⟨site, batch', journal⟩ := phase_ends_batch told rested water record
      rw [batchRecord_eq] at site batch' journal
      intro rate closed
      refine ⟨t, _, run, site.trans ?_, batch', journal.trans (congrArg (fun f => moved.journal.frames ++ [f]) ?_), ?_⟩
      · cases kind' <;> rfl
      · cases kind' <;> cases crossed <;> rfl
      · cases kind' with
        | fill =>
          refine ⟨?_, shareMembers_rest .., shareMembers_shares ..⟩
          unfold Batch.closedWith
          dsimp only
          rw [shareMembers_orders]
          rfl
        | empty => rfl
  · intro frame posted
    refine ⟨fun entering rest unposted => ?_, fun halted => ?_⟩
    · obtain ⟨t, x, run, after, same, anew⟩ :=
        confirmIn_filled takes held present directed rest calm batch entering some_ filled
      refine ⟨t, _, run, after, rfl, fun h => ?_, fun h => ?_⟩
      · obtain ⟨rfl, site, journal⟩ := same h
        exact ⟨site, journal, filled, rfl, rfl⟩
      · obtain ⟨rfl, site, journal⟩ := anew h
        have weights : (s.allPresent b).members.map Member.weight = b.members.map (fun m => m.length * m.beam) := by
          simp only [State.allPresent, List.map_map]
          rfl
        have orders : (s.allPresent b).members.map Member.order = b.members.map Member.order := by
          simp only [State.allPresent, List.map_map]
          rfl
        rw [unposted] at site
        refine ⟨site, journal, rfl, ?_, ?_⟩
        · show some { r with sitePart := 0, sharers := (s.allPresent b).members.map Member.order } = _
          rw [orders, ← unposted]
        · refine (shareMembers_shares ..).trans ?_
          rw [weights]
    · exact abandonBatch_filled takes held present calm halted batch filled

end Sys2Proof.Machine
end

section
/-! SUPPORT. A round end that ends an empty need not leave the site account alone (R45, R12, R30, R147). -/

namespace Sys2Proof.Machine

/-- A body with a good level, handed on. -/
def bodyAt (h : Nat) : BodyRec :=
  { level := some h, state := .good, handedLevel := some h, handedState := .good, lastRound := some 99000 }

/-- A sluice at rest at 0. -/
def restingSluice : SluiceRec := { state := .shut, step := some 0 }

/-- The site account above its ceiling of 4,000,000,000; chamber 1 emptying on a SHUT sluice, level with the lower pound at gauge B of
a round; and chamber 2 in the lower shut rest state with an OPEN kept by I1 at its lower gate, while its batch wants the upper one. -/
def overdrawn : State :=
  { State.reset with
    now := 100000
    loaded := ⟨true, false⟩
    settings := { eqSettle := 0 }
    levels :=
      { bodies := ⟨bodyAt 1706, { bodyAt 1018 with gauges := ⟨⟨some .ok, [10180]⟩, ⟨none, []⟩⟩ }, bodyAt 1018, bodyAt 1706⟩
        queue := []
        poll := some ⟨.lp, .b, 100010, true, some {}⟩
        pairs := ⟨⟨.notEqual, .equalised⟩, ⟨.notEqual, .notEqual⟩⟩ }
    drive :=
      { gates := ⟨⟨{ state := .closed }, { state := .closed }⟩, ⟨{ state := .closed }, { state := .closed }⟩⟩
        sluices := ⟨⟨restingSluice, restingSluice⟩, ⟨restingSluice, restingSluice⟩⟩
        crossSluice := restingSluice }
    chambers :=
      ⟨{ state := .empty, mode := .directed, phase := some ⟨90000, 900000⟩, water := some ⟨.empty, none, some 1700, false, none⟩ },
        { state := .lowShut, mode := .automatic, pendingOrder := some (.lower, .i1) }⟩
    book :=
      { batches := ⟨none, some
          { number := 1, direction := .down, state := .bound, members := [], rows := [], tariff := {}, night := none, fill := none
            empty := none, reserve := 36, sideClear := 0 }⟩ }
    site := { total := 4000000001 } }

/-- The state that the missing answer of gauge B leaves. -/
def overdrawnAfter : State :=
  (((overdrawn.reach 100010).readB .lp .noReply 0).roundEnd .lp true false).finish

theorem overdrawn_runs : exec .noReply overdrawn = .next overdrawnAfter :=
  (exec_noReply (s := overdrawn) (p := ⟨.lp, .b, 100010, true, some {}⟩) rfl).trans
    (congrArg Host.Outcome.next (State.closePoll_b rfl .noReply 0))

/-- R45, R12: the pair is EQUALISED, and chamber 1 rests. -/
theorem overdrawn_rests : overdrawnAfter.pair (.across .lower .c1) = .equalised
    ∧ (overdrawnAfter.body .c1).handedLevel = some 1018 := by decide +kernel

/-- R30, R147: chamber 2's kept order is asked again by the level; its fill ends at once, and the posting of 0 limits the account. -/
theorem overdrawn_limits : overdrawnAfter.site.total = 4000000000 := by decide +kernel

/-- Refutes O34, in its last part: an empty is said to leave the site account as it stands, in every state. In one whose account is
above its ceiling, which no step reaches, the same round end lets the other chamber ask its kept order again; its fill, on a pair
already EQUALISED, ends at once, and the posting of its record, though it is of 0, limits the total to the ceiling. -/
theorem not_phasesBeginAndEnd : ¬ Obligations.PhasesBeginAndEnd := by
  intro ⟨_, _, rounds⟩
  obtain ⟨equalised, level⟩ := overdrawn_rests
  have kept := (rounds overdrawn _ .noReply .c1 .empty _ rfl rfl (.inr rfl) _ overdrawn_runs (by decide) (by decide) rfl rfl nofun rfl
    rfl rfl rfl rfl rfl (.inr rfl) rfl equalised (by intro e; cases e <;> nofun) rfl (by
      intro h handed
      obtain rfl : 1018 = h := Option.some.inj (level.symm.trans handed)
      decide)).2
  have site : overdrawnAfter.site = overdrawn.site := kept
  have total := congrArg SiteAccount.total site
  rw [overdrawn_limits] at total
  exact absurd total (by decide)

end Sys2Proof.Machine
end

section
/-! SUPPORT. SERVICE ON: the inspection (R37), the orders to rest, and the chamber taken into service (R38). -/

namespace Sys2Proof.Machine

/-! ## The inspection (R37) -/

theorem State.plantAtRest_iff {s : State} {k : Chamber} :
    s.plantAtRest k = true ↔ (∀ e, (s.gate k e).state = .closed ∨ (s.gate k e).state = .opened)
      ∧ (∀ e, (s.sluice (.chamber k e)).state = .shut) ∧ (s.crossPresent = true → (s.sluice .cross).state = .shut) := by
  have ends {p : Side → Prop} : (∀ e, p e) ↔ p .upper ∧ p .lower :=
    ⟨fun h => ⟨h _, h _⟩, fun h e => by cases e; exacts [h.1, h.2]⟩
  simp only [State.plantAtRest, State.sluiceShut, State.crossShut, Bool.and_eq_true, Bool.or_eq_true, Bool.not_eq_true',
    decide_eq_true_eq, ends]
  cases s.crossPresent <;> simp [and_assoc]

/-- R10: two bodies' equality, with the distance written out. -/
theorem State.equalBodies_eq (s : State) (x y : Body) :
    s.equalBodies x y =
      match s.usableLevel x, s.usableLevel y with
      | some m, some n => decide (m ≤ n + s.settings.eqBand ∧ n ≤ m + s.settings.eqBand)
      | _, _ => false := by
  unfold State.equalBodies
  cases s.usableLevel x <;> cases s.usableLevel y <;> simp only [distance_le_iff]

theorem State.midLevel_eq (s : State) (k : Chamber) :
    s.midLevel k =
      match s.usableLevel .up, s.usableLevel .lp, s.usableLevel k.body with
      | some u, some l, some h => decide (l < h ∧ h < u)
      | _, _, _ => false := by
  unfold State.midLevel
  cases s.usableLevel .up <;> cases s.usableLevel .lp <;> cases s.usableLevel k.body <;> simp only [Bool.decide_and]

section Inspect

variable {s : State} {k : Chamber} (rests : s.plantAtRest k = true)

include rests in
theorem State.inspect_rests : s.inspect k = s.inspectLevels k := if_pos rests

theorem GateState.closed_of {x : GateState} (h : x = .closed) : decide (x = .closed) = true := decide_eq_true h

theorem GateState.open_of {x : GateState} (h : x = .opened) : decide (x = .closed) = false := by rw [h]; rfl

include rests in
/-- R37: both gates CLOSED: the levels say which. -/
theorem State.inspect_shut (upper : (s.gate k .upper).state = .closed) (lower : (s.gate k .lower).state = .closed) :
    s.inspect k =
      if s.equalBodies .lp k.body then .found .lowShut
      else if s.equalBodies .up k.body then .found .highShut
      else if s.midLevel k then (if (s.chamber k).mode = .automatic then .empties else .midLevel)
      else .refused := by
  rw [State.inspect_rests rests]
  unfold State.inspectLevels State.gateClosed
  rw [GateState.closed_of upper, GateState.closed_of lower]

include rests in
/-- R37: the lower gate open: the chamber must be level with the lower pound. -/
theorem State.inspect_low (upper : (s.gate k .upper).state = .closed) (lower : (s.gate k .lower).state = .opened) :
    s.inspect k = if s.equalBodies .lp k.body then .found .lowOpen else .refused := by
  rw [State.inspect_rests rests]
  unfold State.inspectLevels State.gateClosed
  rw [GateState.closed_of upper, GateState.open_of lower]

include rests in
theorem State.inspect_high (upper : (s.gate k .upper).state = .opened) (lower : (s.gate k .lower).state = .closed) :
    s.inspect k = if s.equalBodies .up k.body then .found .highOpen else .refused := by
  rw [State.inspect_rests rests]
  unfold State.inspectLevels State.gateClosed
  rw [GateState.open_of upper, GateState.closed_of lower]

include rests in
theorem State.inspect_both (upper : (s.gate k .upper).state = .opened) (lower : (s.gate k .lower).state = .opened) :
    s.inspect k = .refused := by
  rw [State.inspect_rests rests]
  unfold State.inspectLevels State.gateClosed
  rw [GateState.open_of upper, GateState.open_of lower]

end Inspect

/-! ## The orders to rest (R37) -/

/-- R37: a sluice that SERVICE ON orders to 0: in FAULT, or HELD above 0. -/
abbrev SluiceRec.strays (r : SluiceRec) : Prop := r.state = .fault ∨ r.state = .held ∧ r.step ≠ some 0

/-- R37: a gate that SERVICE ON orders CLOSE. -/
abbrev GateState.strays (x : GateState) : Prop := x = .stopped ∨ x = .stalled

/-- R23, R37: a sluice's record once SERVICE ON has ordered it to rest, a timer started then running out at `x`. -/
def SluiceRec.tidied (r : SluiceRec) (x : Nat) : SluiceRec :=
  if r.strays then { state := .moving, step := r.step, target := some (.step 0), timer := some x }
  else if r.state = .held then { r with ramp := none }
  else r

/-- R19, R37: a gate's record once SERVICE ON has ordered it to rest. -/
def Gate.tidied (g : Gate) (x : Nat) : Gate :=
  if g.state.strays then { state := .closing, outstanding := some .cls, lastMove := some .cls, timer := some x } else g

/-- One actuator ordered to rest, or left alone. -/
structure Tidied (s t : State) (a : Actuator) (l : List Sent) : Prop extends ActuatorMoved s t a where
  plant : PlantOnly s t
  ordered : t.drive.sent = s.drive.sent ++ l

theorem Tidied.none (s : State) (a : Actuator) : Tidied s s a [] := ⟨.refl s a, .refl s, (List.append_nil _).symm⟩

theorem shutSluice_tidied (s : State) (q : Sluice) :
    Tidied s (s.shutSluice q) (.sluice q) (if (s.sluice q).stands 0 then [] else [⟨.sluice q, .move 0, false⟩]) :=
  ⟨⟨s.shutSluice_moved q, fun _ _ _ => State.shutSluice_gate ..,
    fun _ out => (State.shutSluice_sluice ..).trans (if_neg fun same => out (by rw [same]))⟩, s.shutSluice_plant q, s.shutSluice_sent q⟩

/-- R37: what the order to rest makes of a sluice. -/
theorem State.tidySluice_tidied (s : State) (q : Sluice) :
    Tidied s (s.tidySluice q) (.sluice q) (if (s.sluice q).strays then [⟨.sluice q, .move 0, false⟩] else [])
      ∧ (s.tidySluice q).sluice q = (s.sluice q).tidied s.sluiceExpiry := by
  have told := shutSluice_tidied s q
  have own : (s.shutSluice q).sluice q = (s.sluice q).shutBy s.sluiceExpiry := (State.shutSluice_sluice ..).trans (if_pos rfl)
  by_cases fault : (s.sluice q).state = .fault
  · have eq : s.tidySluice q = s.shutSluice q := by
      unfold State.tidySluice
      rw [fault]
    have strays : (s.sluice q).strays := .inl fault
    have away : (s.sluice q).stands 0 = false := by
      unfold SluiceRec.stands
      rw [fault]
    rw [away] at told
    rw [eq, if_pos strays, own, SluiceRec.shutBy_fault fault]
    exact ⟨told, (if_pos strays).symm⟩
  · by_cases held : (s.sluice q).state = .held
    · have eq : s.tidySluice q = s.shutSluice q := by
        unfold State.tidySluice
        rw [held]
      rw [eq, own]
      unfold SluiceRec.tidied SluiceRec.shutBy
      by_cases foot : (s.sluice q).step = some 0
      · have there : (s.sluice q).stands 0 = true := by
          unfold SluiceRec.stands
          rw [held]
          exact decide_eq_true foot
        have rests : ¬ (s.sluice q).strays := fun h => h.elim fault fun h => h.2 foot
        rw [there] at told ⊢
        rw [if_neg rests, if_neg rests]
        exact ⟨told, (if_pos held).symm⟩
      · have away : (s.sluice q).stands 0 = false := by
          unfold SluiceRec.stands
          rw [held]
          exact decide_eq_false foot
        have strays : (s.sluice q).strays := .inr ⟨held, foot⟩
        rw [away] at told ⊢
        rw [if_pos strays, if_pos strays]
        refine ⟨told, ?_⟩
        rw [held]
        rfl
    · have eq : s.tidySluice q = s := by
        unfold State.tidySluice
        split
        · next h => exact absurd h held
        · next h => exact absurd h fault
        · rfl
      have rests : ¬ (s.sluice q).strays := fun h => h.elim fault fun h => held h.1
      rw [eq, if_neg rests]
      exact ⟨.none s _, ((if_neg rests).trans (if_neg held)).symm⟩

/-- R37: what the order to rest makes of a gate. -/
theorem State.tidyGate_tidied (s : State) (k : Chamber) (e : Side) :
    Tidied s (s.tidyGate k e) (.gate k e) (if (s.gate k e).state.strays then [⟨.gate k e, .cls, false⟩] else [])
      ∧ (s.tidyGate k e).gate k e = (s.gate k e).tidied (s.gateExpiry k e) := by
  by_cases strays : (s.gate k e).state.strays
  · have sends : s.closeGate k e = (s.startGate k e .cls, .sent) := by
      refine State.closeGate_sends ?_ ?_ ?_ <;> rcases strays with h | h <;> rw [h] <;> nofun
    have eq : s.tidyGate k e = s.startGate k e .cls := by
      unfold State.tidyGate
      rw [sends]
      rcases strays with h | h <;> rw [h]
    have started := s.startGate_started k e .cls
    rw [eq, if_pos strays]
    refine ⟨⟨⟨started.toPlantMoved, fun k' e' out => started.otherGates k' e' fun ⟨x, y⟩ => out (by rw [x, y]),
      fun q _ => started.sluices q⟩, started.plant, started.ordered⟩, started.gate.trans (if_pos strays).symm⟩
  · have eq : s.tidyGate k e = s := by
      unfold State.tidyGate
      split
      · next h => exact absurd (.inl h) strays
      · next h => exact absurd (.inr h) strays
      · rfl
    rw [eq, if_neg strays]
    exact ⟨.none s _, (if_neg strays).symm⟩

/-- R37: chamber k's plant ordered to rest, the upper end's sluice and gate before the lower's. -/
structure PlantTidied (s t : State) (k : Chamber) : Prop extends PlantMoved s t where
  plant : PlantOnly s t
  gates : ∀ e, t.gate k e = (s.gate k e).tidied (s.gateExpiry k e)
  sluices : ∀ e, t.sluice (.chamber k e) = (s.sluice (.chamber k e)).tidied s.sluiceExpiry
  otherGates : ∀ e, t.gate k.other e = s.gate k.other e
  otherSluices : ∀ e, t.sluice (.chamber k.other e) = s.sluice (.chamber k.other e)
  cross : t.sluice .cross = s.sluice .cross
  ordered : t.drive.sent = s.drive.sent
    ++ ((if (s.sluice (.chamber k .upper)).strays then [⟨.sluice (.chamber k .upper), .move 0, false⟩] else [])
      ++ (if (s.sluice (.chamber k .lower)).strays then [⟨.sluice (.chamber k .lower), .move 0, false⟩] else [])
      ++ (if (s.gate k .upper).state.strays then [⟨.gate k .upper, .cls, false⟩] else [])
      ++ if (s.gate k .lower).state.strays then [⟨.gate k .lower, .cls, false⟩] else [])

theorem State.tidy_tidied (s : State) (k : Chamber) : PlantTidied s (s.tidy k) k := by
  obtain ⟨first, own1⟩ := s.tidySluice_tidied (.chamber k .upper)
  unfold State.tidy
  generalize s.tidySluice (.chamber k .upper) = a at first own1 ⊢
  obtain ⟨second, own2⟩ := a.tidySluice_tidied (.chamber k .lower)
  generalize a.tidySluice (.chamber k .lower) = b at second own2 ⊢
  obtain ⟨third, own3⟩ := b.tidyGate_tidied k .upper
  generalize b.tidyGate k .upper = c at third own3 ⊢
  obtain ⟨fourth, own4⟩ := c.tidyGate_tidied k .lower
  generalize c.tidyGate k .lower = d at fourth own4 ⊢
  have low : a.sluice (.chamber k .lower) = s.sluice (.chamber k .lower) := first.sluices _ nofun
  have upGate : b.gate k .upper = s.gate k .upper := (second.gates _ _ nofun).trans (first.gates _ _ nofun)
  have lowGate : c.gate k .lower = s.gate k .lower :=
    ((third.gates k .lower nofun).trans (second.gates _ _ nofun)).trans (first.gates _ _ nofun)
  have expiry : a.sluiceExpiry = s.sluiceExpiry := first.sluiceExpiry
  have ab := first.toPlantMoved.trans second.toPlantMoved
  have abc := ab.trans third.toPlantMoved
  have gateExpiry {t : State} (h : PlantMoved s t) (e : Side) : t.gateExpiry k e = s.gateExpiry k e := by
    rw [State.gateExpiry, State.gateExpiry, h.now, h.settings]
  rw [low] at own2 second
  rw [upGate, gateExpiry ab] at own3
  rw [lowGate, gateExpiry abc] at own4
  rw [upGate] at third
  rw [lowGate] at fourth
  have away : k.other ≠ k := by cases k <;> nofun
  have other (e e' : Side) : Sluice.chamber k.other e ≠ .chamber k e' := fun same => away (by injection same)
  refine ⟨abc.trans fourth.toPlantMoved, ((first.plant.trans second.plant).trans third.plant).trans fourth.plant, fun e => ?_, fun e => ?_,
    fun e => ?_, fun e => ?_, ?_, ?_⟩
  · cases e with
    | upper => exact (fourth.gates k .upper nofun).trans own3
    | lower => exact own4
  · refine (fourth.sluices _ nofun).trans ((third.sluices _ nofun).trans ?_)
    cases e with
    | upper => exact (second.sluices (.chamber k .upper) nofun).trans own1
    | lower => exact own2.trans (by rw [expiry])
  · have gate {x y : State} {l : List Sent} {e' : Side} (h : Tidied x y (.gate k e') l) : y.gate k.other e = x.gate k.other e :=
      h.gates _ _ fun same => away (by injection same with same; exact same.symm)
    exact (gate fourth).trans ((gate third).trans ((second.gates _ _ nofun).trans (first.gates _ _ nofun)))
  · have sluice {x y : State} {l : List Sent} {e' : Side} (h : Tidied x y (.sluice (.chamber k e')) l) :
        y.sluice (.chamber k.other e) = x.sluice (.chamber k.other e) :=
      h.sluices _ fun same => other e e' (by injection same with same; exact same.symm)
    exact (fourth.sluices _ nofun).trans ((third.sluices _ nofun).trans ((sluice second).trans (sluice first)))
  · exact (fourth.sluices _ nofun).trans ((third.sluices _ nofun).trans ((second.sluices .cross nofun).trans (first.sluices .cross nofun)))
  · rw [fourth.ordered, third.ordered, second.ordered, first.ordered]
    simp only [List.append_assoc]

end Sys2Proof.Machine
end

section
/-! SUPPORT. SERVICE ON answered (R37 to R39). -/

namespace Sys2Proof.Machine

/-- R37, R38: what SERVICE ON does with the inspection's outcome. -/
def State.inspected (v : State) (k : Chamber) : Inspection → Judged
  | .stray => (v.tidy k).done .state
  | .refused => v.refuse .state
  | .midLevel => v.refuse .state [.byte 0]
  | .found c => ((v.intoService k c).push (.rest k)).done .ok
  | .empties => (((v.intoService k .empty).openWater k .empty).enterPhase k .empty).done .ok

section ServiceOn

variable {s : State} {st : Station} {k : Chamber} (takes : s.takes st) (held : s.holder k = some st) (present : s.chamberPresent k = true)

include takes held present in
theorem serviceOn_refused (why : s.store.defaulted = true ∨ (s.chamber k).state ≠ .outOfService) :
    exec (.serviceOn st k) s = .next (s.answered st 0x33 .state []) := by
  refine State.exchange_report takes ((State.judged_conductor (s := s.validFrame st) present held _).trans (if_pos ?_))
  have why' : (s.validFrame st).store.defaulted = true ∨ ((s.validFrame st).chamber k).state ≠ .outOfService := why
  simpa using why'

variable (stored : s.store.defaulted = false) (out : (s.chamber k).state = .outOfService)

include held present stored out in
theorem judgeServiceOn_eq : judgeServiceOn st k (s.validFrame st) = (s.validFrame st).inspected k (s.inspect k) := by
  refine (State.judged_conductor (s := s.validFrame st) present held _).trans ?_
  have open_ : ¬ ((s.validFrame st).store.defaulted || decide (((s.validFrame st).chamber k).state ≠ .outOfService)) = true := by
    have stored' : (s.validFrame st).store.defaulted = false := stored
    have out' : ((s.validFrame st).chamber k).state = .outOfService := out
    rw [stored', out']
    nofun
  refine (if_neg open_).trans ?_
  show (match s.inspect k with
    | .stray => _ | .refused => _ | .midLevel => _ | .found c => _ | .empties => _) = _
  cases s.inspect k <;> rfl

include takes held present stored out in
theorem serviceOn_reports {i : Inspection} {l : List WireField} (inspected : s.inspect k = i)
    (answer : (s.validFrame st).inspected k i = (s.validFrame st).refuse .state l) :
    exec (.serviceOn st k) s = .next (s.answered st 0x33 .state l) :=
  State.exchange_report takes (((judgeServiceOn_eq held present stored out).trans (by rw [inspected])).trans answer)

/-! ## Stray plant (R37) -/

include takes held present stored out in
theorem serviceOn_tidies (calm : s.Calm) (stray : s.inspect k = .stray) :
    ∃ t, exec (.serviceOn st k) s = .next t
      ∧ t = { s.answered st 0x33 .state [] with drive := t.drive, levels := t.levels, signals := t.signals }
      ∧ ∃ w, PlantTidied (s.validFrame st) w k ∧ t.drive = w.drive ∧ t.levels = w.levels := by
  have tidied := (s.validFrame st).tidy_tidied k
  obtain ⟨w, hw⟩ : ∃ w, (s.validFrame st).tidy k = w := ⟨_, rfl⟩
  rw [hw] at tidied
  have plant : w = { s.validFrame st with drive := w.drive, levels := w.levels } := tidied.plant
  have wcalm : w.Calm := by
    rw [plant]
    exact calm
  have judged : judgeServiceOn st k (s.validFrame st) = (w.derive, some (.state, [])) := by
    rw [judgeServiceOn_eq held present stored out, stray]
    show ((s.validFrame st).tidy k).done .state = _
    rw [hw, State.done, State.finish_calm wcalm]
  have chambers : w.chambers = s.chambers := tidied.chambers
  have arbiter : w.arbiter = s.arbiter := tidied.arbiter
  have book : w.book = s.book := tidied.book
  have signals : w.signals = s.signals := by rw [plant]; rfl
  obtain ⟨S, run⟩ := State.exchange_steps takes judged (by rw [chambers, arbiter, book, signals]; exact plant)
  refine ⟨_, run, ?_, w, tidied, rfl, rfl⟩
  rw [chambers, arbiter, book]
  rfl

/-! ## Into service (R38) -/

/-- R38, R126: a chamber taken into service: its lamp test cut, and its sequencer's record. -/
theorem State.intoService_frame (v : State) (k : Chamber) (c : ChamberState) :
    v.intoService k c = { v with chambers := (v.intoService k c).chambers, signals := (v.intoService k c).signals }
      ∧ (v.intoService k c).chamber k = { v.chamber k with state := c, pendingOrder := none, water := none }
      ∧ (v.intoService k c).chamber k.other = v.chamber k.other
      ∧ (v.intoService k c).signals.tests.get k = none := by
  have cut : v.cutTest k = { v with signals := (v.cutTest k).signals } ∧ (v.cutTest k).signals.tests.get k = none := by
    unfold State.cutTest State.tested
    cases running : v.signals.tests.get k with
    | none => exact ⟨rfl, running⟩
    | some x =>
      refine ⟨rfl, ?_⟩
      cases k <;> rfl
  obtain ⟨frame, tests⟩ := cut
  unfold State.intoService
  generalize v.cutTest k = x at frame tests ⊢
  have own : x.chamber k = v.chamber k := by rw [frame]; rfl
  have other : x.chamber k.other = v.chamber k.other := by rw [frame]; rfl
  dsimp only
  refine ⟨?_, (stepped_own _).trans (by rw [own]), stepped_other _ other, tests⟩
  obtain ⟨z, hz⟩ : ∃ z, x.setChamber k { x.chamber k with state := c, pendingOrder := none, water := none } = z := ⟨_, rfl⟩
  have set : z = { x with chambers := z.chambers } := by rw [← hz]; rfl
  have signals : z.signals = x.signals := by rw [set]
  rw [hz, signals]
  generalize z.chambers = C at set ⊢
  generalize x.signals = S at frame set ⊢
  rw [set, frame]

include takes held present stored out in
/-- R38, R41: the chamber taken into service in a rest state, without a batch and with an empty book. -/
theorem serviceOn_found {c : ChamberState} (calm : s.Calm) (none_ : s.batch k = none) (empty : s.book.lists = ⟨[], []⟩)
    (found : s.inspect k = .found c) :
    ∃ t, exec (.serviceOn st k) s = .next t
      ∧ t = { s.answered st 0x33 .ok [] with chambers := t.chambers, signals := t.signals }
      ∧ t.signals.tests.get k = none
      ∧ t.chamber k = { s.chamber k with state := c, pendingOrder := none, water := none }
      ∧ t.chamber k.other = s.chamber k.other := by
  obtain ⟨frame, own, other, tests⟩ := (s.validFrame st).intoService_frame k c
  obtain ⟨y, hy⟩ : ∃ y, (s.validFrame st).intoService k c = y := ⟨_, rfl⟩
  rw [hy] at frame own other tests
  have ycalm : y.Calm := by
    rw [frame]
    exact calm
  have ends := State.finish_rest_empty (s := y) (k := k) ycalm (by rw [frame]; exact none_) (by rw [frame]; exact empty)
  have unordered : (y.chamber k).unordered = y.chamber k := by
    rw [own]
    unfold Sequencer.unordered
    dsimp only
    rw [ite_self]
  have same : y.derive.setChamber k (y.chamber k) = y.derive := State.setChamber_self y.derive k
  rw [unordered, same, State.derive_derive] at ends
  obtain ⟨u, hu⟩ : ∃ u, y.derive = u := ⟨_, rfl⟩
  have chambers : u.chambers = y.chambers := by rw [← hu]; rfl
  have drive : u.drive = s.drive := by
    have same : u.drive = y.drive := by rw [← hu]; rfl
    rw [same, frame]
    rfl
  have levels : u.levels = s.levels := by
    have same : u.levels = y.levels := by rw [← hu]; rfl
    rw [same, frame]
    rfl
  have shape : u = { s.validFrame st with drive := u.drive, levels := u.levels, chambers := u.chambers, signals := u.signals } := by
    have derived : u = { y with signals := u.signals } := by rw [← hu]; rfl
    rw [drive, levels, chambers]
    generalize u.signals = S at derived ⊢
    generalize y.chambers = C at frame ⊢
    rw [derived, frame]
    rfl
  have judged : judgeServiceOn st k (s.validFrame st) = (u, some (.ok, [])) := by
    rw [judgeServiceOn_eq held present stored out, found]
    show (((s.validFrame st).intoService k c).push (.rest k)).done .ok = _
    rw [hy, State.done, ends, hu]
  have run := State.exchange_answered (code := 0x33) takes judged (by rw [shape]; rfl) (by rw [shape]; rfl) (by rw [shape]; rfl)
  refine ⟨_, run, ?_, ?_, (chamber_of_chambers chambers k).trans own, (chamber_of_chambers chambers _).trans other⟩
  · rw [State.answered_plant (u := u) shape, drive, levels]
    rfl
  · show u.signals.tests.get k = none
    rw [← hu]
    exact tests

include takes held present stored out in
/-- R38, R45: the chamber taken into service between its pounds: it empties. -/
theorem serviceOn_empties (calm : s.Calm) (empties : s.inspect k = .empties) (unequal : s.pair (.across .lower k) ≠ .equalised)
    (foot : (s.sluice (.chamber k .lower)).atFoot) (limit : 0 < s.headLimit (.chamber k .lower))
    (passes : s.judge (.sluice (.chamber k .lower)) (.move 1) = none) :
    ∃ t, exec (.serviceOn st k) s = .next t
      ∧ t = { s.answered st 0x33 .ok [] with drive := t.drive, levels := t.levels, chambers := t.chambers, signals := t.signals }
      ∧ SameLevels s t ∧ PhaseBegun s t k .empty
      ∧ (t.chamber k).water = some ⟨.empty, s.batchNumber k, s.level k.body, false, none⟩ := by
  obtain ⟨frame, own, other, -⟩ := (s.validFrame st).intoService_frame k .empty
  obtain ⟨x, hx⟩ : ∃ x, (s.validFrame st).intoService k .empty = x := ⟨_, rfl⟩
  rw [hx] at frame own other
  obtain ⟨y, hy⟩ : ∃ y, x.openWater k .empty = y := ⟨_, rfl⟩
  have number : x.batchNumber k = s.batchNumber k := by rw [frame]; rfl
  have level : x.level k.body = s.level k.body := by rw [frame]; rfl
  have yframe : y = { s.validFrame st with chambers := y.chambers, signals := y.signals } := by
    have opened : y = { x with chambers := y.chambers } := by rw [← hy]; rfl
    have signals : y.signals = x.signals := by rw [opened]
    rw [signals]
    generalize y.chambers = C at opened ⊢
    generalize x.signals = S at frame ⊢
    rw [opened, frame]
  have yown : y.chamber k = { s.chamber k with
      state := .empty, pendingOrder := none, water := some ⟨.empty, s.batchNumber k, s.level k.body, false, none⟩ } := by
    rw [← hy]
    refine (stepped_own _).trans ?_
    rw [own, number, level]
    rfl
  have yother : y.chamber k.other = s.chamber k.other := by
    rw [← hy]
    exact stepped_other _ other
  have ydrive : y.drive = s.drive := by rw [yframe]; rfl
  have ylevels : y.levels = s.levels := by rw [yframe]; rfl
  have ysettings : y.settings = s.settings := by rw [yframe]; rfl
  have entered : PhaseEntered y (y.enterPhase k .empty) k .empty :=
    State.enterPhase_entered (s := y) (kind := .empty) (by rw [yframe]; exact unequal) (by rw [yframe]; exact foot)
      (by rw [yframe]; exact limit) (by rw [yframe]; exact passes) (y.enterPhase k .empty).signals
  obtain ⟨w, hw⟩ : ∃ w, y.enterPhase k .empty = w := ⟨_, rfl⟩
  rw [hw] at entered
  have plant := entered.frame
  have wcalm : w.Calm := by
    rw [plant]
    show y.agenda = [] ∧ y.book.deferred = _
    rw [yframe]
    exact calm
  have wframe : w = { s.validFrame st with drive := w.drive, levels := w.levels, chambers := w.chambers, signals := w.signals } := by
    generalize w.drive = D at plant ⊢
    generalize w.levels = L at plant ⊢
    generalize w.chambers = C at plant ⊢
    generalize w.signals = G at plant ⊢
    rw [plant, yframe]
  have arbiter : w.arbiter = s.arbiter := by rw [wframe]; rfl
  have book : w.book = s.book := by rw [wframe]; rfl
  have judged : judgeServiceOn st k (s.validFrame st) = (w.derive, some (.ok, [])) := by
    rw [judgeServiceOn_eq held present stored out, empties]
    show ((((s.validFrame st).intoService k .empty).openWater k .empty).enterPhase k .empty).done .ok = _
    rw [hx, hy, hw, State.done, State.finish_calm wcalm]
  obtain ⟨S, run⟩ := State.exchange_steps takes judged (by rw [arbiter, book]; exact wframe)
  have begun : PhaseBegun s w k .empty := by
    refine entered.begun ydrive ylevels ysettings ?_ yother
    rw [yown]
  refine ⟨_, run, ?_, entered.levels.of_levels ylevels.symm rfl, begun.later rfl rfl rfl ?_, ?_⟩
  · rw [arbiter, book]
    rfl
  · show s.now = w.now
    rw [wframe]
    rfl
  · show (w.chamber k).water = _
    rw [entered.own, yown]
    rfl

end ServiceOn

/-- Settles O27. -/
theorem serviceOnInspectsTheChamber : Obligations.ServiceOnInspectsTheChamber := by
  intro s st k takes held present gate sluice rests equal between
  have equal_eq (b : Body) : s.equalBodies b k.body = equal b := s.equalBodies_eq b k.body
  have between_eq : s.midLevel k = between := s.midLevel_eq k
  refine ⟨serviceOn_refused takes held present, fun stored out => ⟨fun atRest why => ?_, fun atRest upper lower low high mid => ?_,
    fun atRest calm none_ empty c why => ?_, fun stray calm => ?_⟩⟩
  · refine serviceOn_reports takes held present stored out (i := .refused) ?_ rfl
    have rests' := State.plantAtRest_iff.mpr atRest
    rcases why with ⟨upper, lower⟩ | ⟨upper, lower, away⟩ | ⟨upper, lower, away⟩ | ⟨upper, lower, low, high, apart⟩
    · exact State.inspect_both rests' upper lower
    · rw [State.inspect_low rests' upper lower, equal_eq, away]
      rfl
    · rw [State.inspect_high rests' upper lower, equal_eq, away]
      rfl
    · rw [State.inspect_shut rests' upper lower, equal_eq, equal_eq, between_eq, low, high, apart]
      rfl
  · have inspected : s.inspect k = if (s.chamber k).mode = .automatic then .empties else .midLevel := by
      rw [State.inspect_shut (State.plantAtRest_iff.mpr atRest) upper lower, equal_eq, equal_eq, between_eq, low, high, mid]
      rfl
    refine ⟨fun directed => ?_, fun automatic calm unequal foot limit passes => ?_⟩
    · exact serviceOn_reports takes held present stored out (inspected.trans (if_neg (by rw [directed]; nofun))) rfl
    · exact serviceOn_empties takes held present stored out calm (inspected.trans (if_pos automatic)) unequal
        (.inl ⟨atRest.2.1 .lower, foot⟩) limit passes
  · refine serviceOn_found takes held present stored out calm none_ empty ?_
    have rests' := State.plantAtRest_iff.mpr atRest
    rcases why with ⟨upper, lower, level, rfl⟩ | ⟨upper, lower, level, rfl⟩ | ⟨upper, lower, level, rfl⟩ | ⟨upper, lower, low, level, rfl⟩
    · rw [State.inspect_low rests' upper lower, equal_eq, level]
      rfl
    · rw [State.inspect_high rests' upper lower, equal_eq, level]
      rfl
    · rw [State.inspect_shut rests' upper lower, equal_eq, level]
      rfl
    · rw [State.inspect_shut rests' upper lower, equal_eq, equal_eq, low, level]
      rfl
  · intro strayGate straySluice
    have inspected : s.inspect k = .stray := if_neg fun atRest => stray (State.plantAtRest_iff.mp atRest)
    obtain ⟨t, run, frame, w, tidied, drive, levels⟩ := serviceOn_tidies takes held present stored out calm inspected
    have same : SameLevels (s.validFrame st) w := SameLevels.of_core tidied.core
    obtain ⟨overflow, cycle, fast⟩ := tidied.guards
    obtain ⟨queries, polls⟩ := tidied.line
    refine ⟨t, run, frame, same.of_levels rfl levels, ⟨?_, ?_, ?_⟩, ⟨?_, ?_⟩, fun e => (gate_of_drive drive k e).trans (tidied.gates e),
      fun e => (sluice_of_drive drive _).trans (tidied.sluices e), fun e => (gate_of_drive drive _ e).trans (tidied.otherGates e),
      fun e => (sluice_of_drive drive _).trans (tidied.otherSluices e), (sluice_of_drive drive _).trans tidied.cross, ?_⟩
    · rw [drive]; exact overflow
    · rw [drive]; exact cycle
    · rw [levels]; exact fast
    · rw [drive]; exact queries
    · rw [drive]; exact polls
    · rw [drive]; exact tidied.ordered

end Sys2Proof.Machine
end

section
/-! SUPPORT. The steps of a ramp after its first (R31, R33), the ones asked again (R30), and a directed SLUICE (R60). -/

namespace Sys2Proof.Machine

/-! ## A step ordered, its event at an end -/

theorem SluiceRec.stands_rest {r : SluiceRec} {m n : Nat} (rest : r.state = .shut ∨ r.state = .held) (step : r.step = some m)
    (away : m < n) : r.stands n = false := by
  have other : (some m : Option Nat) ≠ some n := fun same => absurd (Option.some.inj same) (Nat.ne_of_lt away)
  unfold SluiceRec.stands
  rcases rest with h | h <;> rw [h, step] <;> exact decide_eq_false other

theorem SluiceRec.movedTo_rest {r : SluiceRec} (rest : r.state = .shut ∨ r.state = .held) (n x : Nat) (ramp : Option Ramp) :
    r.movedTo n x ramp =
      { r with state := .moving, target := some (.step n), superseded := none, timer := some x, ramp := ramp } := by
  unfold SluiceRec.movedTo
  rw [if_neg (by rcases rest with h | h <;> rw [h] <;> nofun)]

/-- The end of an event that has changed one actuator alone. -/
theorem ActuatorMoved.derived {s w : State} {a : Actuator} (moved : ActuatorMoved s w a) :
    SameLevels s w.derive ∧ SameOthers s w.derive a ∧ SameLine s w.derive :=
  ⟨SameLevels.of_core ((State.derive_core w).trans moved.core), moved.sameOthers, moved.line⟩

/-- R31: a ramp whose interval has run out orders its next step. -/
theorem rampInterval_orders {s : State} {q : Sluice} {r : Ramp} {x m : Nat} (calm : s.Calm) (ramp : (s.sluice q).ramp = some r)
    (waits : r.waiting = .interval) (last : r.lastOrder = some x) (held : (s.sluice q).state = .held)
    (step : (s.sluice q).step = some m) (above : m < r.next) (within : r.next ≤ r.endStep) (usable : s.sidesUsable q = true)
    (limit : r.next ≤ s.headLimit q) (passes : s.judge (.sluice q) (.move r.next) = none) :
    ∃ w, exec (.rampIntervalExpiry q) s = .next w.derive
      ∧ SluiceOrdered (s.reach (x + seconds s.settings.stepInterval)) w q r.next
        { s.sluice q with
          state := .moving, target := some (.step r.next), superseded := none
          timer := some (max s.now (x + seconds s.settings.stepInterval) + seconds s.settings.sluiceLimit)
          ramp := some { r with
            waiting := .nothing, first := false, lastOrder := some (max s.now (x + seconds s.settings.stepInterval)) } } := by
  let y := s.reach (x + seconds s.settings.stepInterval)
  have due : y.rampDue r = some (x + seconds s.settings.stepInterval) := by
    unfold State.rampDue
    rw [last]
    rfl
  have past : y.rampEarly r = false := by
    unfold State.rampEarly
    rw [due]
    exact decide_eq_false (not_lt.mpr (le_max_right ..))
  have decided : y.rampDecide q r = y.rampOrder q r :=
    State.rampDecide_orders (s := y) within (.inr ⟨past, usable⟩) limit
  have ordered := State.rampOrder_sent (s := y) (q := q) (r := r) (SluiceRec.stands_rest (.inr held) step above) passes
  rw [SluiceRec.movedTo_rest (r := y.sluice q) (.inr held)] at ordered
  refine ⟨y.rampOrder q r, ?_, ordered⟩
  have run : exec (.rampIntervalExpiry q) s = .next (y.rampDecide q r).finish := by
    show execRampIntervalExpiry q s = _
    unfold execRampIntervalExpiry
    rw [ramp]
    dsimp only
    rw [waits, show s.rampDue r = _ from due]
  rw [run, decided, State.finish_calm (ordered.calm calm)]

/-! ## What a ramp and the interlock read -/

section Read

variable {s t : State} (levels : SameLevels s t) (settings : t.settings = s.settings)

include levels in
theorem usable_of_levels (b : Body) : t.usable b = s.usable b := by
  rw [State.usable, State.usable, (levels.1 b).handedState]

include levels in
theorem usableLevel_of_levels (b : Body) : t.usableLevel b = s.usableLevel b := by
  unfold State.usableLevel State.level
  rw [usable_of_levels levels, (levels.1 b).handedLevel]

include levels settings in
theorem headLimit_of_levels (q : Sluice) : t.headLimit q = s.headLimit q := by
  unfold State.headLimit State.head State.level
  rw [settings, (levels.1 _).handedLevel, (levels.1 _).handedLevel]

include levels in
theorem sidesUsable_of_levels (q : Sluice) : t.sidesUsable q = s.sidesUsable q := by
  rw [State.sidesUsable, State.sidesUsable, usable_of_levels levels, usable_of_levels levels]

include levels settings in
/-- R29: the interlock reads the actuators, the levels, the pairs, the settings and the arbiter's phase. -/
theorem judge_of_plant (gates : ∀ k e, t.gate k e = s.gate k e) (sluices : ∀ q, t.sluice q = s.sluice q)
    (loaded : t.loaded = s.loaded) (owner : t.arbiter.owner = s.arbiter.owner) (a : Actuator) (o : DriveOrder) :
    t.judge a o = s.judge a o := by
  have closed (k : Chamber) (e : Side) : t.gateClosed k e = s.gateClosed k e := by rw [State.gateClosed, State.gateClosed, gates]
  have shut (q : Sluice) : t.sluiceShut q = s.sluiceShut q := by rw [State.sluiceShut, State.sluiceShut, sluices]
  have cross : t.crossShut = s.crossShut := by
    rw [State.crossShut, State.crossShut, shut, State.crossPresent, State.crossPresent, loaded]
  have equal (p : Pair) : t.pairEqualised p = s.pairEqualised p := by
    rw [State.pairEqualised, State.pairEqualised, levels.2.1]
  have one (k : Chamber) (e : Side) : t.clause1 k e = s.clause1 k e := by
    simp only [State.clause1, gates, closed, shut, cross, equal]
  have two (k : Chamber) (e : Side) : t.clause2 k e = s.clause2 k e := by
    simp only [State.clause2, State.gatesClosed, sluices, closed, shut, cross, usable_of_levels levels]
  have three : t.clause3 = s.clause3 := by
    have same : t.drive.crossSluice = s.drive.crossSluice := sluices .cross
    simp only [State.clause3, State.gatesClosed, closed, shut, owner, same]
  have four (k : Chamber) : t.clause4 k = s.clause4 k := by
    unfold State.clause4
    rw [usableLevel_of_levels levels, settings]
  unfold State.judge
  split <;> simp only [one, two, three, four]

end Read

/-! ## A step asked again at a gate's report (R30) -/

/-- R30, R33: of the sluices one alone has a step to ask again. -/
theorem State.rampRetries_one {s w : State} {h : Handed} {q : Sluice} (asked : s.rampRetry h q = w)
    (others : ∀ y, y ≠ q → w.sluice y = s.sluice y)
    (kept : ∀ y z, y ≠ q → (s.sluice y).ramp = some z → ∀ c, z.waiting ≠ .retry c)
    (ordered : ∀ z, (w.sluice q).ramp = some z → ∀ c, z.waiting ≠ .retry c) : s.rampRetries h = w := by
  have still {u : State} {y : Sluice} (none_ : ∀ z, (u.sluice y).ramp = some z → ∀ c, z.waiting ≠ .retry c) :
      u.rampRetry h y = u := by
    rcases u.rampRetry_cases h y with same | ⟨z, c, ramp, waits, -⟩
    · exact same
    · exact absurd waits (none_ z ramp c)
  have after (l : List Sluice) : l.foldl (fun u y => u.rampRetry h y) w = w := by
    induction l with
    | nil => rfl
    | cons y l ih =>
      have same : w.rampRetry h y = w := by
        by_cases own : y = q
        · rw [own]
          exact still ordered
        · exact still fun z ramp => kept y z own (by rw [← others y own]; exact ramp)
      rw [List.foldl_cons, same, ih]
  have reached (l : List Sluice) : l.foldl (fun u y => u.rampRetry h y) s = if q ∈ l then w else s := by
    induction l with
    | nil => rfl
    | cons y l ih =>
      rw [List.foldl_cons]
      by_cases own : y = q
      · rw [own, asked, after, if_pos List.mem_cons_self]
      · have same : s.rampRetry h y = s := still fun z ramp => kept y z own ramp
        rw [same, ih]
        simp only [List.mem_cons, Ne.symm own, false_or]
  have among : q ∈ allSluices := by
    rcases q with ⟨k, e⟩ | _
    · cases k <;> cases e <;> decide
    · decide
  exact (reached allSluices).trans (if_pos among)

/-- R30, R33: a sequencer's ramp asks its refused step again at an event that the clause reads. -/
theorem State.rampRetry_asks {s : State} {h : Handed} {q : Sluice} {r : Ramp} {c : Clause} {k : Chamber}
    (ramp : (s.sluice q).ramp = some r) (waits : r.waiting = .retry c) (own : r.requester = .sequencer k)
    (reads : c.reads (.sluice q) h = true) : s.rampRetry h q = s.rampDecide q { r with first := false } := by
  obtain ⟨who, endStep, next, last, first, waiting⟩ := r
  dsimp only at waits own
  subst waits own
  unfold State.rampRetry
  rw [ramp]
  exact if_pos reads

theorem State.retryPending_none {s : State} {k : Chamber} (none_ : (s.chamber k).pendingOrder = none) (h : Handed) :
    s.retryPending h k = s := by
  unfold State.retryPending
  rw [none_]

/-- R21, R42: a gate that has closed while its chamber is not in its closing state. -/
theorem State.gateDone_closed {s : State} {k : Chamber} {e : Side} (state : (s.chamber k).state ≠ closingState e)
    (closed : (s.gate k e).state = .closed) : s.gateDone k e = s := by
  unfold State.gateDone
  rw [if_neg (by simp [state]), if_neg (by simp [closed])]

/-- An order sent while a consequence waits, the consequence then taken off the list. -/
theorem SluiceOrdered.unpushed {w z : State} {l : List Task} {q : Sluice} {n : Nat} {r : SluiceRec}
    (h : SluiceOrdered { w with agenda := l } z q n r) : SluiceOrdered w { z with agenda := w.agenda } q n r := by
  refine ⟨⟨⟨?_, ?_, h.guards, h.line, h.sent, h.notices⟩, h.gates, h.sluices⟩, ?_, h.sluice, h.ordered⟩
  · have frame := congrArg (fun u : State => { u with agenda := w.agenda }) h.frame
    exact frame
  · exact h.core
  · exact congrArg (fun u : State => { u with agenda := w.agenda }) h.plant

section GateReport

variable {s : State} {k : Chamber} {e : Side} (calm : s.Calm) (unpending : ∀ x, (s.chamber x).pendingOrder = none)
  (present : s.chamberPresent k = true) (head : s.drive.polls.head? = some (.gate k e))

include calm unpending present head in
/-- R30, R33, R20: the gate that the refusing clause names has closed, and the ramp sends its step. -/
theorem gateReport_retries {i : Side} {r : Ramp} {m : Nat} (closing : (s.gate k e).state = .closing)
    (outstanding : (s.gate k e).outstanding = some .cls) (away : (s.chamber k).state ≠ closingState e)
    (alone : ∀ y z, y ≠ .chamber k i → (s.sluice y).ramp = some z → ∀ c, z.waiting ≠ .retry c)
    (ramp : (s.sluice (.chamber k i)).ramp = some r) (waits : r.waiting = .retry .i2) (own : r.requester = .sequencer k)
    (past : ∀ x, r.lastOrder = some x → x + seconds s.settings.stepInterval ≤ s.now)
    (rest : (s.sluice (.chamber k i)).state = .shut ∨ (s.sluice (.chamber k i)).state = .held)
    (step : (s.sluice (.chamber k i)).step = some m) (above : m < r.next) (within : r.next ≤ r.endStep)
    (usable : s.sidesUsable (.chamber k i) = true) (limit : r.next ≤ s.headLimit (.chamber k i))
    (passes : (s.putGate k e { state := .closed }).judge (.sluice (.chamber k i)) (.move r.next) = none) :
    ∃ w z, exec (.gateReport k e .closedReached) s = .next z.derive
      ∧ ActuatorTold s.pollClosed w (.gate k e) (s.pollClosed.write (.move (.gate k e) .reachedClosed s.time)).journal
      ∧ w.gate k e = { state := .closed }
      ∧ SluiceOrdered w z (.chamber k i) r.next
        { s.sluice (.chamber k i) with
          state := .moving, target := some (.step r.next), superseded := none
          timer := some (s.now + seconds s.settings.sluiceLimit)
          ramp := some { r with waiting := .nothing, first := false, lastOrder := some s.now } } := by
  let q : Sluice := .chamber k i
  obtain ⟨told, gate⟩ := s.pollClosed.atPosition_told (k := k) (e := e) (x := .closed) nofun
  obtain ⟨w, hw⟩ : ∃ w, s.pollClosed.atPosition k e .closed = w := ⟨_, rfl⟩
  rw [hw] at told gate
  have sluice (y : Sluice) : w.sluice y = s.sluice y := told.sluices y nofun
  have settings : w.settings = s.settings := told.settings
  have now : w.now = s.now := told.now
  have wcalm : w.Calm := told.calm calm.pollClosed
  have levels := SameLevels.of_core told.core
  obtain ⟨p, hp⟩ : ∃ p : State, { w with agenda := [.gateDone k e] } = p := ⟨_, rfl⟩
  have pushed : w.push (.gateDone k e) = p := (State.push_calm wcalm _).trans hp
  have sluice' (y : Sluice) : p.sluice y = s.sluice y := by rw [← hp]; exact sluice y
  have levels' : SameLevels s p := by rw [← hp]; exact levels.of_levels rfl rfl
  have settings' : p.settings = s.settings := by rw [← hp]; exact settings
  have now' : p.now = s.now := by rw [← hp]; exact now
  have passes' : p.judge (.sluice q) (.move r.next) = none := by
    refine Eq.trans ?_ passes
    refine judge_of_plant (s := s.putGate k e { state := .closed }) (levels'.of_levels rfl rfl) settings' (fun a x => ?_)
      (fun y => (sluice' y).trans (State.putGate_sluice ..).symm) (by rw [← hp]; exact (SameRecords.of_core told.core).loaded)
      (by rw [← hp]; exact congrArg Arbiter.owner told.arbiter) _ _
    rw [State.putGate_gate, ← hp]
    by_cases same : a = k ∧ x = e
    · obtain ⟨rfl, rfl⟩ := same
      rw [if_pos ⟨rfl, rfl⟩]
      exact gate
    · rw [if_neg same]
      exact told.gates a x fun h => same (by injection h with h h'; exact ⟨h.symm, h'.symm⟩)
  have decided : p.rampDecide q { r with first := false } = p.rampOrder q { r with first := false } := by
    refine State.rampDecide_orders within (.inr ⟨?_, ?_⟩) ?_
    · unfold State.rampEarly State.rampDue
      dsimp only
      cases last : r.lastOrder with
      | none => rfl
      | some x =>
        show decide (p.now < x + seconds p.settings.stepInterval) = false
        rw [now', settings']
        exact decide_eq_false (not_lt.mpr (past x last))
    · exact (sidesUsable_of_levels levels' q).trans usable
    · exact le_of_le_of_eq limit (headLimit_of_levels levels' settings' q).symm
  have ordered := State.rampOrder_sent (s := p) (q := q) (r := { r with first := false })
    (by rw [sluice']; exact SluiceRec.stands_rest rest step above) passes'
  rw [sluice', SluiceRec.movedTo_rest rest, State.sluiceExpiry, now', settings'] at ordered
  obtain ⟨z, hz⟩ : ∃ z, p.rampOrder q { r with first := false } = z := ⟨_, rfl⟩
  rw [hz] at ordered decided
  have asked : p.rampRetry (.drive (.gate k e)) q = z := by
    refine (State.rampRetry_asks (c := .i2) ?_ waits own ?_).trans decided
    · rw [sluice' q]
      exact ramp
    · simp [q, Clause.reads, spokenOf]
  have retried : p.retries (.drive (.gate k e)) = z := by
    have ramps : p.rampRetries (.drive (.gate k e)) = z := by
      refine State.rampRetries_one asked (fun y out => ordered.sluices y fun same => out (by injection same with same; exact same.symm))
        (fun y x out has => alone y x out (by rw [← sluice']; exact has)) fun x has => ?_
      rw [ordered.sluice] at has
      cases has
      nofun
    have pending (j : Chamber) : (z.chamber j).pendingOrder = none := by
      rw [ordered.chamber, ← hp]
      exact (congrArg Sequencer.pendingOrder (told.chamber j)).trans (unpending j)
    unfold State.retries
    rw [ramps, State.retryPending_none (pending .c1), State.retryPending_none (pending .c2)]
  have run : exec (.gateReport k e .closedReached) s = .next z.finish := by
    rw [exec_gateReport present head, State.applyGateReport_ordered (s := s.pollClosed) (r := .closedReached) outstanding
      (by rw [State.pollClosed_gate, closing]; nofun) nofun,
      if_pos (show gatePosition .closedReached = some GateMove.cls.ends from rfl)]
    show Host.Outcome.next ((((s.pollClosed.atPosition k e .closed).push (.gateDone k e))).driveEvent (.gate k e)) = _
    rw [hw, pushed, State.driveEvent, retried]
  rw [← hp] at ordered
  have unpushed := ordered.unpushed
  have agenda : w.agenda = [] := wcalm.1
  rw [agenda] at unpushed
  have ends : z.finish = ({ z with agenda := [] } : State).derive := by
    rw [State.finish_idle z (.gateDone k e) (by rw [ordered.agenda])]
    · exact State.clearDeferred_self (s := ({ z with agenda := [] } : State).derive) (unpushed.calm wcalm).2
    · refine State.gateDone_closed ?_ ?_
      · exact fun same => away ((congrArg Sequencer.state ((unpushed.chamber k).trans (told.chamber k))).symm.trans same)
      · exact congrArg Gate.state ((unpushed.gates k e nofun).trans gate)
  exact ⟨w, { z with agenda := [] }, by rw [run, ends], told, gate, unpushed⟩

end GateReport

end Sys2Proof.Machine
end

section
/-! SUPPORT. A report that asks nothing again (R30), and a directed SLUICE (R60). -/

namespace Sys2Proof.Machine

/-- R30: a step refused by I4 is none of a drive report's. -/
theorem State.retries_i4 {s : State} {a : Actuator} (unpending : ∀ x, (s.chamber x).pendingOrder = none)
    (only : ∀ q r c, (s.sluice q).ramp = some r → r.waiting = .retry c → c = .i4) : s.retries (.drive a) = s := by
  refine s.retries_unread _ (fun q r c ramp waits => ?_) fun k e c pending => ?_
  · rw [only q r c ramp waits]
    rcases q with ⟨k, e⟩ | _ <;> rfl
  · rw [unpending k] at pending
    cases pending

/-- R21, R30: a CLOSED gate's report of its position asks nothing again. -/
theorem gateReport_unread {s : State} {k : Chamber} {e : Side} (calm : s.Calm) (unpending : ∀ x, (s.chamber x).pendingOrder = none)
    (only : ∀ q r c, (s.sluice q).ramp = some r → r.waiting = .retry c → c = .i4) (present : s.chamberPresent k = true)
    (head : s.drive.polls.head? = some (.gate k e)) (closed : (s.gate k e).state = .closed)
    (idle : (s.gate k e).outstanding = none) :
    exec (.gateReport k e .closedReached) s = .next s.pollClosed.derive := by
  have nothing : s.pollClosed.applyGateReport k e .closedReached = s.pollClosed := by
    unfold State.applyGateReport
    dsimp only
    rw [State.pollClosed_gate, closed, idle]
    unfold State.idleReport
    dsimp only
    rw [State.pollClosed_gate, closed]
    rfl
  rw [exec_gateReport present head, nothing, State.driveEvent, State.retries_i4 (s := s.pollClosed) unpending only,
    State.finish_calm calm.pollClosed]

/-! ## Requests that change one actuator -/

/-- A request that changes one actuator, with nothing following. -/
theorem State.exchange_actuator {s w : State} {st : Station} {code : Nat} {a : Actuator} {judge : State → Judged} {o : ReplyOutcome}
    (takes : s.takes st) (calm : s.Calm) (moved : ActuatorMoved (s.validFrame st) w a) (plant : PlantOnly (s.validFrame st) w)
    (judged : judge (s.validFrame st) = w.done o) :
    ∃ t, s.exchange st code judge = .next t
      ∧ t = { s.answered st code o [] with drive := t.drive, levels := t.levels, signals := t.signals }
      ∧ SameLevels s t ∧ SameOthers s t a ∧ SameLine s t ∧ t.drive = w.drive := by
  have frame : w = { s.validFrame st with drive := w.drive, levels := w.levels } := plant
  have chambers : w.chambers = s.chambers := moved.chambers
  have arbiter : w.arbiter = s.arbiter := moved.arbiter
  have book : w.book = s.book := moved.book
  have signals : w.signals = s.signals := by rw [frame]; rfl
  have wcalm : w.Calm := moved.calm calm
  obtain ⟨S, run⟩ := State.exchange_steps (w := w) (code := code) (judge := judge) (o := o) (l := []) takes
    (by rw [judged, State.done, State.finish_calm wcalm])
    (by rw [chambers, arbiter, book, signals]; exact frame)
  obtain ⟨overflow, cycle, fast⟩ := moved.guards
  refine ⟨_, run, ?_, (SameLevels.of_core moved.core).of_levels rfl rfl,
    ⟨fun j e out => (gate_of_drive (s := w) rfl j e).trans (moved.gates j e out),
      fun q out => (sluice_of_drive (s := w) rfl q).trans (moved.sluices q out), overflow, cycle, fast⟩, moved.line, rfl⟩
  rw [chambers, arbiter, book]
  rfl

section Sluice

variable {s : State} {st : Station} {k : Chamber} {e : Side} {w : SluiceChoice} (same : e = .upper ∧ w = .upper ∨ e = .lower ∧ w = .lower)
  (takes : s.takes st) (held : s.holder k = some st) (present : s.chamberPresent k = true) (directed : (s.chamber k).mode = .directed)
  (live : (s.chamber k).state.live = true)

include held present directed live in
theorem judgeSluice_cross (n : Nat) : judgeSluice st k .cross n (s.validFrame st) = (s.validFrame st).outOfRange 2 :=
  State.directed_own (s := s.validFrame st) present held directed live _

include same held present directed live in
theorem judgeSluice_eq (n : Nat) :
    judgeSluice st k w n (s.validFrame st) =
      if 8 < n then (s.validFrame st).outOfRange 3 else (s.validFrame st).directSluice st k e n := by
  refine (State.directed_own (s := s.validFrame st) present held directed live _).trans ?_
  rcases same with ⟨rfl, rfl⟩ | ⟨rfl, rfl⟩ <;> rfl

variable (calm : s.Calm)

include same takes held present directed live calm in
/-- R60: SLUICE to 0 shuts a HELD sluice. -/
theorem sluice_shuts (rest : (s.sluice (.chamber k e)).state = .held) (away : (s.sluice (.chamber k e)).step ≠ some 0) :
    ∃ t, exec (.sluice st k w 0) s = .next t
      ∧ t = { s.answered st 0x3D .ok [] with drive := t.drive, levels := t.levels, signals := t.signals }
      ∧ SameLevels s t ∧ SameOthers s t (.sluice (.chamber k e)) ∧ SameLine s t
      ∧ t.sluice (.chamber k e) =
        { state := .moving, step := (s.sluice (.chamber k e)).step, target := some (.step 0)
          timer := some (s.now + seconds s.settings.sluiceLimit) }
      ∧ t.drive.sent = s.drive.sent ++ [⟨.sluice (.chamber k e), .move 0, false⟩] := by
  let v := s.validFrame st
  let q : Sluice := .chamber k e
  obtain ⟨tidied, own⟩ := v.tidySluice_tidied q
  have strays : (v.sluice q).strays := .inr ⟨rest, away⟩
  have eq : v.tidySluice q = v.shutSluice q := by
    unfold State.tidySluice
    rw [show (v.sluice q).state = _ from rest]
  rw [eq, if_pos strays] at tidied
  have own' : (v.shutSluice q).sluice q = { state := .moving, step := (s.sluice q).step, target := some (.step 0), timer := some v.sluiceExpiry } := by
    rw [← eq, own]
    exact if_pos strays
  have judged : judgeSluice st k w 0 v = (v.shutSluice q).done .ok :=
    (judgeSluice_eq same held present directed live 0).trans (if_neg (by decide))
  obtain ⟨t, run, frame, levels, others, line, drive⟩ :=
    State.exchange_actuator (code := 0x3D) takes calm tidied.toActuatorMoved tidied.plant judged
  exact ⟨t, run, frame, levels, others, line, (sluice_of_drive drive q).trans own', (congrArg Drive.sent drive).trans tidied.ordered⟩

include same takes held present directed live calm in
/-- R60, R31: SLUICE above the last reported step, in the phase it works for, starts a ramp. -/
theorem sluice_ramps {n m : Nat} (phase : (s.chamber k).state = (kindAt e).phase) (rest : (s.sluice (.chamber k e)).state = .held)
    (step : (s.sluice (.chamber k e)).step = some m) (above : m < n) (top : n ≤ 8) (limit : m < s.headLimit (.chamber k e))
    (passes : s.judge (.sluice (.chamber k e)) (.move (m + 1)) = none) :
    ∃ t, exec (.sluice st k w n) s = .next t
      ∧ t = { s.answered st 0x3D (if s.headLimit (.chamber k e) < n then .limited else .ok) [] with
          drive := t.drive, levels := t.levels, signals := t.signals }
      ∧ SameLevels s t ∧ SameOthers s t (.sluice (.chamber k e)) ∧ SameLine s t
      ∧ t.sluice (.chamber k e) =
        { state := .moving, step := some m, target := some (.step (m + 1))
          timer := some (s.now + seconds s.settings.sluiceLimit)
          ramp := some ⟨.station st, min n (s.headLimit (.chamber k e)), m + 1, some s.now, false, .nothing⟩ }
      ∧ t.drive.sent = s.drive.sent ++ [⟨.sluice (.chamber k e), .move (m + 1), false⟩] := by
  let v := s.validFrame st
  let q : Sluice := .chamber k e
  have start : v.rampStart q = m := by
    have rest' : (v.sluice q).state = .held := rest
    have step' : (v.sluice q).step = some m := step
    unfold State.rampStart
    dsimp only
    rw [rest', step']
    rfl
  have ordered := State.rampOrder_sent (s := v) (q := q) (r := ⟨.station st, min n (s.headLimit q), m + 1, none, true, .nothing⟩)
    (SluiceRec.stands_rest (.inr rest) step (Nat.lt_succ_self m)) passes
  have ramps : v.startRamp q (.station st) (min n (v.headLimit q))
      = v.rampOrder q ⟨.station st, min n (s.headLimit q), m + 1, none, true, .nothing⟩ :=
    State.startRamp_orders (s := v) start (lt_min above limit) limit (.station st)
  rw [SluiceRec.movedTo_rest (r := v.sluice q) (.inr rest)] at ordered
  obtain ⟨z, hz⟩ : ∃ z, v.startRamp q (.station st) (min n (v.headLimit q)) = z := ⟨_, rfl⟩
  rw [← ramps, hz] at ordered
  have sent : z.firstRefused q = none := by
    unfold State.firstRefused
    rw [ordered.sluice]
  have judged : judgeSluice st k w n v = z.done (if s.headLimit q < n then .limited else .ok) := by
    have positive : n ≠ 0 := fun zero => absurd above (by rw [zero]; exact Nat.not_lt_zero m)
    refine (judgeSluice_eq same held present directed live n).trans ((if_neg (not_lt.mpr top)).trans
      ((if_neg positive).trans ((if_pos phase).trans ?_)))
    have reached : (v.sluice q).step.getD (min 8 Config.startWithoutStep) = m := by
      rw [show (v.sluice q).step = some m from step]
      rfl
    refine (if_pos (by rw [reached]; exact above)).trans ?_
    dsimp only
    rw [hz, sent]
    rfl
  obtain ⟨t, run, frame, levels, others, line, drive⟩ :=
    State.exchange_actuator (code := 0x3D) takes calm ordered.toActuatorMoved ordered.plant judged
  refine ⟨t, run, frame, levels, others, line, (sluice_of_drive drive q).trans (ordered.sluice.trans ?_),
    (congrArg Drive.sent drive).trans ordered.ordered⟩
  rw [show (v.sluice q).step = some m from step]
  rfl

end Sluice

/-- Settles O35. -/
theorem rampsOrderTheirSteps : Obligations.RampsOrderTheirSteps := by
  refine ⟨fun s q r x m idle deferred ramp waits last held step above within usable limit passes => ?_,
    fun s k e i r m calm unpending head present closing outstanding away => ?_,
    fun s k e calm unpending only present head closed idle => ?_,
    fun s st k e w n same takes held present directed service unhalted calm => ?_⟩
  · obtain ⟨z, run, ordered⟩ :=
      rampInterval_orders ⟨idle, deferred⟩ ramp waits last held step above within usable limit passes
    obtain ⟨levels, others, line⟩ := ordered.toActuatorMoved.derived
    have now : z.derive.now = max s.now (x + seconds s.settings.stepInterval) := ordered.now
    have plant : z = { s.reach (x + seconds s.settings.stepInterval) with drive := z.drive, levels := z.levels } := ordered.plant
    refine ⟨z.derive, run, ?_, now, levels.of_levels rfl rfl, others, line, ?_, ordered.ordered⟩
    · rw [now, State.derive_frame z]
      generalize z.derive.signals = G
      generalize z.drive = D at plant ⊢
      generalize z.levels = L at plant ⊢
      rw [plant]
      rfl
    · rw [now]
      exact ordered.sluice
  · intro q alone ramp waits own past rest step above within usable limit passes
    obtain ⟨v, z, run, told, gate, ordered⟩ := gateReport_retries calm unpending present head closing outstanding away alone ramp
      waits own past rest step above within usable limit passes
    have plant : z = { v with drive := z.drive, levels := z.levels } := ordered.plant
    have journal : v.journal = (s.write (.move (.gate k e) .reachedClosed s.time)).journal :=
      told.journal.trans (State.write_journal_congr (s := s) (t := s.pollClosed) rfl rfl _)
    have levels : SameLevels s.pollClosed z.derive :=
      SameLevels.of_core ((State.derive_core z).trans (ordered.core.trans told.core))
    have line : SameLine s.pollClosed z.derive :=
      ⟨ordered.line.1.trans told.line.1, ordered.line.2.trans told.line.2⟩
    have vframe := told.frame
    rw [told.capture, journal] at vframe
    refine ⟨z.derive, run, ?_, levels.of_levels rfl rfl, line.1, line.2, (ordered.gates k e nofun).trans gate, ?_, fun a x out => ?_,
      fun y out => ?_, ordered.sluice, ordered.ordered.trans (by rw [told.unsent]; rfl)⟩
    · rw [State.derive_frame z]
      have journal' : z.journal = v.journal := by rw [plant]
      have stations : z.stations = v.stations := by rw [plant]
      show ({ z with signals := _ } : State) = { s with
        drive := z.drive, levels := z.levels, signals := _, journal := z.journal, stations := z.stations }
      rw [journal', journal, stations]
      generalize z.derive.signals = G
      generalize z.drive = D at plant ⊢
      generalize z.levels = L at plant ⊢
      generalize v.drive = D' at vframe
      generalize v.levels = L' at vframe
      generalize v.stations = N at vframe ⊢
      rw [plant, vframe]
      rfl
    · show z.journal = _
      rw [plant]
      exact journal
    · exact (ordered.gates a x nofun).trans (told.gates a x fun same => out (by injection same with h h'; rw [h, h']))
    · exact (ordered.sluices y fun same => out (by injection same with same; exact same.symm)).trans (told.sluices y nofun)
  · exact ⟨_, gateReport_unread calm unpending only present head closed idle, rfl⟩
  · have live : (s.chamber k).state.live = true := (ChamberState.live_iff _).mpr ⟨service, unhalted⟩
    refine ⟨fun top => ?_, ?_, fun rest away => ?_, fun m phase rest step above top limit passes => ?_⟩
    · exact State.exchange_report takes ((judgeSluice_eq same held present directed live n).trans (if_pos top))
    · exact State.exchange_report takes (judgeSluice_cross held present directed live n)
    · exact sluice_shuts same takes held present directed live calm rest away
    · exact sluice_ramps same takes held present directed live calm phase rest step above top limit passes

end Sys2Proof.Machine
end

section
/-! SUPPORT. SERVICE OFF: the plant ordered to rest, the water record closed, and the chamber OUT_OF_SERVICE (R39, R44, R137). -/

namespace Sys2Proof.Machine

/-! ## The journal as two states see it -/

/-- Two states write the next frame alike: the same journal, and the same words reserved. -/
structure SamePages (u v : State) : Prop where
  journal : u.journal = v.journal
  reserved : u.reserved = v.reserved

theorem SamePages.refl (s : State) : SamePages s s := ⟨rfl, rfl⟩

theorem SamePages.write {u v : State} (h : SamePages u v) (f : Frame) : SamePages (u.write f) (v.write f) :=
  ⟨State.write_journal_congr h.journal h.reserved f,
    ((u.write_moved f).reserved.trans h.reserved).trans (v.write_moved f).reserved.symm⟩

theorem SamePages.of_moved {s t u : State} (h : SamePages s u) (moved : PlantMoved s t) (journal : t.journal = s.journal) : SamePages t u :=
  ⟨journal.trans h.journal, moved.reserved.trans h.reserved⟩

/-! ## The moving gates stopped (R19, R39) -/

/-- R19, R26: the MOVE frame of a gate that is stopped while it moves. -/
def State.stopFrame (s : State) (k : Chamber) (u : State) (e : Side) : State :=
  if (s.gate k e).state = .opening ∨ (s.gate k e).state = .closing then u.write (.move (.gate k e) .stopped s.time) else u

/-- R39: the MOVE frames of a chamber's moving gates, the upper one's before the lower one's. -/
def State.stopFrames (s : State) (k : Chamber) (u : State) : State := s.stopFrame k (s.stopFrame k u .upper) .lower

theorem State.stopMoving_pages {s v u : State} {k : Chamber} {e : Side} (gate : v.gate k e = s.gate k e) (time : v.time = s.time)
    (pages : SamePages v u) : SamePages (v.stopMoving k e) (s.stopFrame k u e) := by
  unfold State.stopFrame
  by_cases moving : (s.gate k e).state.moving = true
  · have moves : (v.gate k e).state.moving = true := by rw [gate]; exact moving
    rw [if_pos ((GateState.moving_iff _).mp moving)]
    have stops : v.stopMoving k e = v.stopGate k e := if_pos moves
    rw [stops, State.stopGate_eq moves]
    have set := (v.send_moved (.gate k e) .stop).trans
      (State.setGate_moved _ k e { v.gate k e with state := .stopped, outstanding := none, timer := none })
    have journal := State.setGate_journal (v.send (.gate k e) .stop) k e
      { v.gate k e with state := .stopped, outstanding := none, timer := none }
    generalize (v.send (.gate k e) .stop).setGate k e { v.gate k e with state := .stopped, outstanding := none, timer := none } = w
      at set journal ⊢
    rw [State.moveFrame, set.time, time]
    exact (pages.of_moved set journal).write _
  · rw [if_neg fun h => moving ((GateState.moving_iff _).mpr h), State.stopMoving_rest (by rw [gate]; simpa using moving)]
    exact pages

theorem State.stopMoving_orders {v : State} {k : Chamber} {e : Side} (moving : (v.gate k e).state.moving = true) :
    (v.stopMoving k e).drive.sent = v.drive.sent ++ [⟨.gate k e, .stop, false⟩] := by
  have stops : v.stopMoving k e = v.stopGate k e := if_pos moving
  rw [stops, State.stopGate_eq moving, State.moveFrame, State.write_drive', setGate_sent]
  rfl

/-- R39: a chamber's plant ordered to rest. -/
def State.plantShut (y : State) (k : Chamber) : State := ((y.shutBoth k).stopMoving k .upper).stopMoving k .lower

/-- R39, R19: the plant ordered to rest, with the STOPs sent and their frames written. -/
structure PlantServed (y z : State) (k : Chamber) : Prop extends PlantRested y z k none where
  pages : SamePages z (y.stopFrames k y)
  stops : ∀ e, (y.gate k e).state = .opening ∨ (y.gate k e).state = .closing →
    ⟨.gate k e, .stop, false⟩ ∈ z.drive.sent.drop y.drive.sent.length

theorem State.plantShut_served (y : State) (k : Chamber) : PlantServed y (y.plantShut k) k := by
  have rested : PlantRested y (y.plantShut k) k none := y.plantRested k none
  have shut : PlantMoved y (y.shutBoth k) := (y.shutSluice_moved _).trans (State.shutSluice_moved ..)
  have gates (e : Side) : (y.shutBoth k).gate k e = y.gate k e := by
    rw [State.shutBoth, State.shutSluice_gate, State.shutSluice_gate]
  have journal : (y.shutBoth k).journal = y.journal := by
    rw [State.shutBoth, State.shutSluice_journal, State.shutSluice_journal]
  have first : SamePages ((y.shutBoth k).stopMoving k .upper) (y.stopFrame k y .upper) :=
    State.stopMoving_pages (gates .upper) shut.time ((SamePages.refl y).of_moved shut journal)
  have upper := (y.shutBoth k).stopMoving_moved k .upper
  have lowGate : ((y.shutBoth k).stopMoving k .upper).gate k .lower = y.gate k .lower := by
    rw [State.stopMoving_gate, if_neg (by simp), gates]
  have lower := ((y.shutBoth k).stopMoving k .upper).stopMoving_moved k .lower
  refine ⟨rested, State.stopMoving_pages lowGate (upper.time.trans shut.time) first, fun e moves => ?_⟩
  have moving := (GateState.moving_iff _).mpr moves
  cases e with
  | upper =>
    have sent := State.stopMoving_orders (v := y.shutBoth k) (e := .upper) (by rw [gates]; exact moving)
    refine drop_mem_of_prefix lower.sent ?_
    rw [sent]
    refine drop_mem_of_le shut.sent.length_le ?_
    rw [List.drop_left]
    exact List.mem_singleton_self _
  | lower =>
    have sent := State.stopMoving_orders (v := (y.shutBoth k).stopMoving k .upper) (e := .lower) (by rw [lowGate]; exact moving)
    show _ ∈ (((y.shutBoth k).stopMoving k .upper).stopMoving k .lower).drive.sent.drop _
    rw [sent]
    refine drop_mem_of_le (shut.sent.trans upper.sent).length_le ?_
    rw [List.drop_left]
    exact List.mem_singleton_self _

/-! ## The record closed, the chamber out of service (R39, R44) -/

/-- R39: the steps of SERVICE OFF after the arbiter's. -/
def State.serviceEnd (y : State) (k : Chamber) : State :=
  let t := (y.plantShut k).closeWater k false
  t.setChamber k (t.chamber k).outOfService

theorem State.serviceOff_eq (s : State) (st : Station) (k : Chamber) :
    s.serviceOff st k = ((s.unbind k st).leaveCross k (.serviceOff k)).serviceEnd k := rfl

/-- R44, R137: what the water record of a chamber that leaves service posts and writes. -/
def State.Closes (y t : State) (k : Chamber) : Option WaterRec → Prop
  | none => t.site = y.site ∧ t.journal = (y.stopFrames k y).journal
  | some w => t.site = y.site.posted w.kind (y.siteRecord k w (y.level k.body)).charge (y.siteRecord k w (y.level k.body))
    ∧ t.journal = ((y.stopFrames k y).write (y.waterFrame k w.kind none w.crossed (y.siteRecord k w (y.level k.body)))).journal

/-- R39: the chamber has left service. -/
structure ServedOut (y t : State) (k : Chamber) : Prop where
  frame : t = { y with
    drive := t.drive, levels := t.levels, chambers := t.chambers, journal := t.journal, stations := t.stations, site := t.site }
  core : t.core = y.core
  guards : SameGuards y t
  line : SameLine y t
  sent : y.drive.sent <+: t.drive.sent
  own : t.chamber k = (y.chamber k).outOfService
  other : t.chamber k.other = y.chamber k.other
  shut : PlantShut y t k none
  otherSluices : ∀ q, (∀ e, q ≠ .chamber k e) → t.sluice q = y.sluice q
  otherGates : ∀ e, t.gate k.other e = y.gate k.other e
  stops : ∀ e, (y.gate k e).state = .opening ∨ (y.gate k e).state = .closing →
    ⟨.gate k e, .stop, false⟩ ∈ t.drive.sent.drop y.drive.sent.length
  closes : y.Closes t k (y.chamber k).water

theorem State.serviceEnd_served (y : State) (k : Chamber) : ServedOut y (y.serviceEnd k) k := by
  have served := y.plantShut_served k
  unfold State.serviceEnd
  generalize y.plantShut k = z at served ⊢
  have zown : z.chamber k = y.chamber k := served.chamber k
  have zframe := served.frame
  rw [served.capture] at zframe
  have closed := z.closeWater_closed k false
  have told : y.Closes (z.closeWater k false) k (y.chamber k).water ∧ (z.closeWater k false).book = z.book := by
    cases water : (y.chamber k).water with
    | none =>
      rw [State.closeWater_none (s := z) (by rw [zown]; exact water)]
      exact ⟨⟨served.site, served.pages.journal⟩, rfl⟩
    | some w =>
      have level : z.level k.body = y.level k.body := ((SameLevels.of_core served.core).1 k.body).handedLevel
      have record : (z.dry k).siteRecord k w (y.level k.body) = y.siteRecord k w (y.level k.body) := by
        have settings : (z.dry k).settings = y.settings := served.settings
        have active : (z.dry k).active = y.active := (SameRecords.of_core served.core).active
        unfold State.siteRecord
        rw [settings, active]
      have frame : (z.dry k).waterFrame k w.kind none w.crossed (y.siteRecord k w (y.level k.body))
          = y.waterFrame k w.kind none w.crossed (y.siteRecord k w (y.level k.body)) := by
        have time : (z.dry k).time = y.time := served.time
        unfold State.waterFrame
        rw [time]
      have site : (z.dry k).site = y.site := served.site
      rw [State.closeWater_site (s := z) (by rw [zown]; exact water) (.inl rfl), State.takeForSite_eq, level, record, frame, site]
      refine ⟨⟨rfl, ?_⟩, State.write_book ..⟩
      have pages : SamePages (z.dry k) (y.stopFrames k y) := ⟨served.pages.journal, served.pages.reserved⟩
      exact (pages.write _).journal
  obtain ⟨told, book⟩ := told
  generalize z.closeWater k false = c at closed told book ⊢
  have cframe := closed.frame
  have cown : c.chamber k = { y.chamber k with water := none } := by
    rw [cframe]
    refine (PerChamber.get_set ..).trans ((if_pos rfl).trans ?_)
    rw [zown]
  have cother : c.chamber k.other = y.chamber k.other := by
    rw [cframe]
    exact ((PerChamber.get_set ..).trans (if_neg (by cases k <;> nofun))).trans (served.chamber _)
  have drive : c.drive = z.drive := by rw [cframe]
  obtain ⟨t, ht⟩ : ∃ t, c.setChamber k (c.chamber k).outOfService = t := ⟨_, rfl⟩
  have tframe : t = { c with chambers := t.chambers } := by rw [← ht]; rfl
  have tdrive : t.drive = z.drive := by
    rw [tframe]
    exact drive
  have levels : t.levels = z.levels := by rw [tframe, cframe]
  have journal : t.journal = c.journal := by rw [tframe]
  have stations : t.stations = c.stations := by rw [tframe]
  have site : t.site = c.site := by rw [tframe]
  have sluice (q : Sluice) : t.sluice q = z.sluice q := sluice_of_drive tdrive q
  have gate (j : Chamber) (e : Side) : t.gate j e = z.gate j e := gate_of_drive tdrive j e
  have shut := served.toPlantRested.shut
  show ServedOut y (c.setChamber k (c.chamber k).outOfService) k
  rw [ht]
  refine ⟨?_, ?_, ?_, ?_, by rw [tdrive]; exact served.sent, ?_, ?_, ⟨fun e => ?_, fun e out => ?_⟩, fun q out => (sluice q).trans (served.otherSluices q out),
    fun e => (gate _ e).trans (served.otherGates e), fun e moves => by rw [tdrive]; exact served.stops e moves, ?_⟩
  · rw [tdrive, levels, journal, stations, site]
    have cbook : c.book = y.book := book.trans served.book
    generalize t.chambers = C at tframe ⊢
    generalize c.journal = J at cframe ⊢
    generalize c.stations = N at cframe ⊢
    generalize c.site = A at cframe ⊢
    have same : c.book.batches = z.book.batches := by rw [book]
    rw [same] at cframe
    generalize z.chambers.set k _ = C' at cframe
    generalize z.drive = D at zframe cframe ⊢
    generalize z.levels = L at zframe cframe ⊢
    generalize z.journal = J' at zframe
    generalize z.stations = N' at zframe
    rw [tframe, cframe, zframe]
  · rw [← ht, State.setChamber_core, closed.core, served.core]
  · exact ⟨by rw [tdrive]; exact served.guards.1, by rw [tdrive]; exact served.guards.2.1, by rw [levels]; exact served.guards.2.2⟩
  · exact ⟨by rw [tdrive]; exact served.line.1, by rw [tdrive]; exact served.line.2⟩
  · rw [← ht]
    refine (stepped_own _).trans ?_
    rw [cown]
    rfl
  · rw [← ht]
    exact ((State.setChamber_chamber ..).trans (if_neg (by cases k <;> nofun))).trans cother
  · rw [sluice]
    exact shut.sluices e
  · rw [gate]
    exact shut.gates e out
  · cases water : (y.chamber k).water with
    | none =>
      rw [water] at told
      exact ⟨site.trans told.1, journal.trans told.2⟩
    | some w =>
      rw [water] at told
      exact ⟨site.trans told.1, journal.trans told.2⟩

end Sys2Proof.Machine
end

section
/-! SUPPORT. SERVICE OFF: the chamber leaves the arbiter, and the request is answered (R39, R66, R72). -/

namespace Sys2Proof.Machine

/-- What an answer leaves beside the stations, when the request has changed the plant, the sequencers, the arbiter, the journal and the
site account alone. -/
theorem State.answered_service {s u : State} {st : Station} {code : Nat} {o : ReplyOutcome} {l : List WireField}
    (shape : u = { s with
      drive := u.drive, levels := u.levels, chambers := u.chambers, arbiter := u.arbiter, signals := u.signals, journal := u.journal
      stations := u.stations, site := u.site }) :
    u.answered st code o l = { s.answered st code o l with
      drive := u.drive, levels := u.levels, chambers := u.chambers, arbiter := u.arbiter, signals := u.signals, journal := u.journal
      stations := (u.answered st code o l).stations, site := u.site } := by
  have ends : u.answered st code o l = { u with stations := (u.answered st code o l).stations } := rfl
  generalize u.answered st code o l = t at ends ⊢
  generalize t.stations = N at ends ⊢
  generalize u.drive = D at shape ⊢
  generalize u.levels = L at shape ⊢
  generalize u.chambers = C at shape ⊢
  generalize u.arbiter = A at shape ⊢
  generalize u.signals = G at shape ⊢
  generalize u.journal = J at shape ⊢
  generalize u.site = B at shape ⊢
  rw [ends, shape]
  rfl

/-- R39, R66, R72: chamber k has left the arbiter, with water record `w`; its own plant is as it was. -/
structure ArbiterLeft (s y : State) (k : Chamber) (w : Option WaterRec) : Prop where
  frame : y = { s with drive := y.drive, levels := y.levels, chambers := y.chambers, arbiter := y.arbiter }
  core : y.core = s.core
  guards : SameGuards s y
  line : SameLine s y
  sent : s.drive.sent <+: y.drive.sent
  own : y.chamber k = { s.chamber k with water := w }
  sluices : ∀ e, y.sluice (.chamber k e) = s.sluice (.chamber k e)
  gates : ∀ j e, y.gate j e = s.gate j e

/-- R39: what SERVICE OFF leaves of chamber k, of the plant and of the accounts. -/
structure LeftService (s t : State) (st : Station) (k : Chamber) (w : Option WaterRec) : Prop where
  frame : t = { s.answered st 0x33 .ok [] with
    drive := t.drive, levels := t.levels, chambers := t.chambers, arbiter := t.arbiter, signals := t.signals
    journal := t.journal, stations := t.stations, site := t.site }
  cores : ∀ x, (t.station x).core = ((s.answered st 0x33 .ok []).station x).core
  own : t.chamber k = (s.chamber k).outOfService
  levels : SameLevels s t
  guards : SameGuards s t
  line : SameLine s t
  shut : PlantShut s t k none
  stops : ∀ e, (s.gate k e).state = .opening ∨ (s.gate k e).state = .closing →
    ⟨.gate k e, .stop, false⟩ ∈ t.drive.sent.drop s.drive.sent.length
  closes : s.Closes t k w

theorem State.stopFrames_pages {s y u : State} {k : Chamber} (gates : ∀ e, y.gate k e = s.gate k e) (time : y.time = s.time)
    {v : State} (pages : SamePages u v) : SamePages (y.stopFrames k u) (s.stopFrames k v) := by
  have one {a b : State} (e : Side) (pages : SamePages a b) : SamePages (y.stopFrame k a e) (s.stopFrame k b e) := by
    unfold State.stopFrame
    rw [gates, time]
    split
    · exact pages.write _
    · exact pages
  exact one .lower (one .upper pages)

/-- R44, R137: the closing seen from before the chamber left the arbiter. -/
theorem ArbiterLeft.closes {s y t : State} {k : Chamber} {w : Option WaterRec} (left : ArbiterLeft s y k w) (closes : y.Closes t k w) :
    s.Closes t k w := by
  have frame := left.frame
  have site : y.site = s.site := by rw [frame]
  have time : y.time = s.time := by rw [frame]; rfl
  have settings : y.settings = s.settings := by rw [frame]
  have active : y.active = s.active := by rw [frame]
  have level : y.level k.body = s.level k.body := ((SameLevels.of_core left.core).1 k.body).handedLevel
  have pages : SamePages y s := ⟨by rw [frame], by rw [frame]; rfl⟩
  have stops := State.stopFrames_pages (k := k) (fun e => left.gates k e) time pages
  cases w with
  | none => exact ⟨closes.1.trans site, closes.2.trans stops.journal⟩
  | some x =>
    have record : y.siteRecord k x (s.level k.body) = s.siteRecord k x (s.level k.body) := by
      unfold State.siteRecord
      rw [settings, active]
    have written : y.waterFrame k x.kind none x.crossed (s.siteRecord k x (s.level k.body))
        = s.waterFrame k x.kind none x.crossed (s.siteRecord k x (s.level k.body)) := by
      unfold State.waterFrame
      rw [time]
    obtain ⟨account, journal⟩ := closes
    rw [level, record, site] at account
    rw [level, record, written] at journal
    exact ⟨account, journal.trans (stops.write _).journal⟩

section ServiceOff

variable {s : State} {st : Station} {k : Chamber} (takes : s.takes st) (held : s.holder k = some st) (present : s.chamberPresent k = true)

include takes held present in
theorem serviceOff_refused (out : (s.chamber k).state = .outOfService) :
    exec (.serviceOff st k) s = .next (s.answered st 0x33 .state []) :=
  State.exchange_report takes ((State.judged_conductor (s := s.validFrame st) present held _).trans (if_pos out))

variable (service : (s.chamber k).state ≠ .outOfService)

include takes held present service in
theorem serviceOff_inFlight {b : Batch} (batch : s.batch k = some b) (past : b.state ≠ .bound) :
    exec (.serviceOff st k) s = .next (s.answered st 0x33 .inFlight []) := by
  have flying : (s.validFrame st).inFlight k = true := by
    unfold State.inFlight
    rw [show (s.validFrame st).batch k = some b from batch]
    exact decide_eq_true past
  exact State.exchange_report takes ((State.judged_conductor (s := s.validFrame st) present held _).trans
    ((if_neg service).trans (if_pos flying)))

include held present service in
theorem judgeServiceOff_eq (grounded : s.inFlight k = false) :
    judgeServiceOff st k (s.validFrame st) = ((s.validFrame st).serviceOff st k).done .ok := by
  refine (State.judged_conductor (s := s.validFrame st) present held _).trans ((if_neg service).trans (if_neg ?_))
  rw [show (s.validFrame st).inFlight k = false from grounded]
  nofun

include takes held present service in
/-- R39: SERVICE OFF of a chamber without a batch, once it has left the arbiter. -/
theorem serviceOff_leaves {y : State} {w : Option WaterRec} (calm : s.Calm) (none_ : s.batch k = none)
    (leaves : (s.validFrame st).leaveCross k (.serviceOff k) = y) (left : ArbiterLeft (s.validFrame st) y k w) :
    ∃ t, exec (.serviceOff st k) s = .next t ∧ LeftService s t st k w ∧ t.arbiter = y.arbiter
      ∧ t.chamber k.other = y.chamber k.other ∧ (∀ e, t.gate k.other e = s.gate k.other e)
      ∧ (∀ q, (∀ e, q ≠ .chamber k e) → t.sluice q = y.sluice q) ∧ y.drive.sent <+: t.drive.sent := by
  let v := s.validFrame st
  have served := y.serviceEnd_served k
  obtain ⟨x, hx⟩ : ∃ x, y.serviceEnd k = x := ⟨_, rfl⟩
  rw [hx] at served
  have yframe := left.frame
  have xframe := served.frame
  have arbiter : x.arbiter = y.arbiter := by rw [xframe]
  have signals : x.signals = s.signals := by
    have same : x.signals = y.signals := by rw [xframe]
    rw [same, yframe]
    rfl
  have wide : x = { v with
      drive := x.drive, levels := x.levels, chambers := x.chambers, arbiter := x.arbiter, journal := x.journal
      stations := x.stations, site := x.site } := by
    rw [arbiter]
    generalize x.drive = D at xframe ⊢
    generalize x.levels = L at xframe ⊢
    generalize x.chambers = C at xframe ⊢
    generalize x.journal = J at xframe ⊢
    generalize x.stations = N at xframe ⊢
    generalize x.site = B at xframe ⊢
    generalize y.drive = D' at yframe
    generalize y.levels = L' at yframe
    generalize y.chambers = C' at yframe
    generalize y.arbiter = A at yframe xframe ⊢
    rw [xframe, yframe]
  have xcalm : x.Calm := by
    rw [wide]
    exact calm
  have unbound : v.unbind k st = v := by
    unfold State.unbind
    rw [show v.batch k = none from none_]
  have grounded : s.inFlight k = false := by
    unfold State.inFlight
    rw [none_]
  have judged : judgeServiceOff st k v = (x.derive, some (.ok, [])) := by
    rw [judgeServiceOff_eq held present service grounded, State.serviceOff_eq, unbound, leaves, hx, State.done, State.finish_calm xcalm]
  obtain ⟨u, hu⟩ : ∃ u, x.derive = u := ⟨_, rfl⟩
  rw [hu] at judged
  have uframe : u = { x with signals := u.signals } := by
    rw [← hu]
    exact State.derive_frame x
  have core : u.core = v.core := by
    rw [← hu, State.derive_core, served.core, left.core]
  have drive : u.drive = x.drive := by rw [uframe]
  have levels : u.levels = x.levels := by rw [uframe]
  have chambers : u.chambers = x.chambers := by rw [uframe]
  have uarbiter : u.arbiter = x.arbiter := by rw [uframe]
  have journal : u.journal = x.journal := by rw [uframe]
  have stations : u.stations = x.stations := by rw [uframe]
  have site : u.site = x.site := by rw [uframe]
  have shape : u = { s with
      drive := u.drive, levels := u.levels, chambers := u.chambers, arbiter := u.arbiter, signals := u.signals, journal := u.journal
      stations := u.stations, site := u.site } := by
    rw [drive, levels, chambers, uarbiter, journal, stations, site]
    generalize u.signals = G at uframe ⊢
    generalize x.drive = D at wide ⊢
    generalize x.levels = L at wide ⊢
    generalize x.chambers = C at wide ⊢
    generalize x.arbiter = A at wide ⊢
    generalize x.journal = J at wide ⊢
    generalize x.stations = N at wide ⊢
    generalize x.site = B at wide ⊢
    rw [uframe, wide]
    rfl
  have now : u.now = s.now := by rw [shape]
  have limit : u.settings.silenceLimit = s.settings.silenceLimit := by rw [shape]
  have run := State.exchange_answered (code := 0x33) takes judged (station_core_of_core core st) now limit
  obtain ⟨t, ht⟩ : ∃ t, u.answered st 0x33 .ok [] = t := ⟨_, rfl⟩
  have tframe := State.answered_service (st := st) (code := 0x33) (o := .ok) (l := []) shape
  have tdrive : t.drive = x.drive := by rw [← ht]; exact drive
  have tlevels : t.levels = x.levels := by rw [← ht]; exact levels
  have tchambers : t.chambers = x.chambers := by rw [← ht]; exact chambers
  have tjournal : t.journal = x.journal := by rw [← ht]; exact journal
  have tsite : t.site = x.site := by rw [← ht]; exact site
  have tarbiter : t.arbiter = y.arbiter := by
    rw [← ht]
    exact uarbiter.trans arbiter
  have same : SameLevels v u := SameLevels.of_core core
  have shut := served.shut
  have closes : s.Closes x k w := by
    have closed := served.closes
    rw [left.own] at closed
    have wcloses := left.closes closed
    have stops : SamePages (v.stopFrames k v) (s.stopFrames k s) :=
      State.stopFrames_pages (s := s) (y := v) (k := k) (u := v) (v := s) (fun _ => rfl) rfl ⟨rfl, rfl⟩
    cases w with
    | none => exact ⟨wcloses.1, wcloses.2.trans stops.journal⟩
    | some z => exact ⟨wcloses.1, wcloses.2.trans (stops.write (s.waterFrame k z.kind none z.crossed (s.siteRecord k z (s.level k.body)))).journal⟩
  rw [ht] at run
  refine ⟨t, run, ⟨?_, fun z => ?_, (chamber_of_chambers tchambers k).trans (served.own.trans (by rw [left.own]; rfl)),
    same.of_levels rfl (tlevels.trans levels.symm), ⟨?_, ?_, ?_⟩, ⟨?_, ?_⟩, ⟨fun e => ?_, fun e out => ?_⟩, fun e moves => ?_, ?_⟩, tarbiter,
    (chamber_of_chambers tchambers _).trans served.other, fun e => (gate_of_drive tdrive _ e).trans ((served.otherGates e).trans (left.gates _ e)),
    fun q out => (sluice_of_drive tdrive q).trans (served.otherSluices q out), by rw [tdrive]; exact served.sent⟩
  · rw [← ht]
    exact tframe
  · rw [← ht]
    exact State.answered_core now limit (station_core_of_core core) z
  · rw [tdrive]; exact served.guards.1.trans left.guards.1
  · rw [tdrive]; exact served.guards.2.1.trans left.guards.2.1
  · rw [tlevels]; exact served.guards.2.2.trans left.guards.2.2
  · rw [tdrive]; exact served.line.1.trans left.line.1
  · rw [tdrive]; exact served.line.2.trans left.line.2
  · have own := shut.sluices e
    rw [left.sluices] at own
    rw [sluice_of_drive tdrive]
    exact own
  · have own := shut.gates e out
    rw [left.gates] at own
    rw [gate_of_drive tdrive]
    exact own
  · rw [tdrive]
    refine drop_mem_of_le left.sent.length_le (served.stops e ?_)
    rw [left.gates]
    exact moves
  · cases w with
    | none => exact ⟨tsite.trans closes.1, tjournal.trans closes.2⟩
    | some z => exact ⟨tsite.trans closes.1, tjournal.trans closes.2⟩

end ServiceOff

end Sys2Proof.Machine
end

section
/-! SUPPORT. A chamber leaves the arbiter: its wish withdrawn, the waiting chamber alone, the phase ended and delivered (R66, R70 to R72). -/

namespace Sys2Proof.Machine

/-! ## The end of a phase handed on (R71) -/

theorem State.deliver_chamber (s : State) (k j : Chamber) :
    (s.deliver k).chamber j =
      if j = k then { s.chamber k with water := takenWater k (s.chamber k).water s.arbiter.record } else s.chamber j := by
  rw [State.deliver_eq]
  exact State.setChamber_chamber ..

theorem State.deliver_drive (s : State) (k : Chamber) : (s.deliver k).drive = s.drive := by
  rw [State.deliver_eq]
  rfl

theorem State.deliver_levels (s : State) (k : Chamber) : (s.deliver k).levels = s.levels := by
  rw [State.deliver_eq]
  rfl

theorem State.deliverEnd_taken {s : State} {k : Chamber} {r : CrossRec} (record : s.arbiter.record = some r)
    (taken : r.delivered.get k = true) (kind : WaterKind) : s.deliverEnd k kind = s := by
  unfold State.deliverEnd
  rw [record]
  exact if_pos taken

theorem State.deliverEnd_enters {s : State} {k : Chamber} {r : CrossRec} {kind : WaterKind} (record : s.arbiter.record = some r)
    (untaken : r.delivered.get k = false) (crossing : (s.chamber k).state = kind.cross) :
    s.deliverEnd k kind = (s.deliver k).enterPhase k kind := by
  have state : ((s.deliver k).chamber k).state = kind.cross := by
    rw [State.deliver_chamber, if_pos rfl]
    exact crossing
  unfold State.deliverEnd
  rw [record]
  exact (if_neg (by rw [untaken]; nofun)).trans (if_pos state)

theorem State.crossDone_delivers {s : State} {r : CrossRec} (ending : s.arbiter.owner = .ending) (shut : (s.sluice .cross).state = .shut)
    (record : s.arbiter.record = some r) :
    s.crossDone = { (s.deliverEnd r.filling .fill).deliverEnd r.filling.other .empty with arbiter.owner := .idle, arbiter.record := none } := by
  unfold State.crossDone
  rw [if_pos (by unfold State.sluiceShut; simp [ending, shut]), record]

/-! ## Chamber k has left the arbiter -/

/-- The steps that leave the arbiter, before the record is delivered. -/
theorem ArbiterLeft.start {s y : State} (k : Chamber) (ordered : CrossOrdered s y) : ArbiterLeft s y k (s.chamber k).water := by
  have frame := ordered.frame
  have chambers : y.chambers = s.chambers := by rw [frame]
  refine ⟨?_, ordered.core, ordered.guards, ordered.line, ordered.sent, (chamber_of_chambers chambers k), fun e => ordered.sluices _ nofun,
    ordered.gates⟩
  rw [chambers]
  exact frame

/-- R71, R72: the record delivered to a chamber. -/
theorem ArbiterLeft.delivered {s y : State} {k j : Chamber} {w x : Option WaterRec} (left : ArbiterLeft s y k w)
    (own : (y.deliver j).chamber k = { s.chamber k with water := x }) : ArbiterLeft s (y.deliver j) k x := by
  have drive := y.deliver_drive j
  have levels := y.deliver_levels j
  have frame := left.frame
  have core : (y.deliver j).core = y.core := by rw [State.deliver_core]
  have whole : y.deliver j = { y with chambers := (y.deliver j).chambers, arbiter := (y.deliver j).arbiter } := by
    rw [State.deliver_eq]
    rfl
  generalize y.deliver j = t at *
  refine ⟨?_, core.trans left.core, ?_, ?_, by rw [drive]; exact left.sent, own, fun e => (sluice_of_drive drive _).trans (left.sluices e),
    fun j e => (gate_of_drive drive j e).trans (left.gates j e)⟩
  · rw [drive, levels]
    generalize t.chambers = C at whole ⊢
    generalize t.arbiter = A at whole ⊢
    generalize y.drive = D at frame ⊢
    generalize y.levels = L at frame ⊢
    generalize y.arbiter = A' at frame
    rw [whole, frame]
  · exact ⟨by rw [drive]; exact left.guards.1, by rw [drive]; exact left.guards.2.1, by rw [levels]; exact left.guards.2.2⟩
  · exact ⟨by rw [drive]; exact left.line.1, by rw [drive]; exact left.line.2⟩

theorem ArbiterLeft.deliver {s y : State} {k : Chamber} (left : ArbiterLeft s y k (s.chamber k).water) :
    ArbiterLeft s (y.deliver k) k (takenWater k (s.chamber k).water y.arbiter.record) :=
  left.delivered (((y.deliver_chamber k k).trans (if_pos rfl)).trans (by rw [left.own]))

theorem ArbiterLeft.deliverOther {s y : State} {k : Chamber} {w : Option WaterRec} (left : ArbiterLeft s y k w) :
    ArbiterLeft s (y.deliver k.other) k w :=
  left.delivered (((y.deliver_chamber k.other k).trans (if_neg (by cases k <;> nofun))).trans left.own)

/-- R66, R71: the other chamber's phase begins. -/
theorem ArbiterLeft.phase {s y t : State} {k : Chamber} {w : Option WaterRec} (left : ArbiterLeft s y k w) {kind : WaterKind} {r : SluiceRec}
    (ordered : SluiceOrdered (y.beginPhase k.other kind) t (.chamber k.other kind.side) 1 r) : ArbiterLeft s t k w := by
  have away : k ≠ k.other := by cases k <;> nofun
  have plant : t = { y.beginPhase k.other kind with drive := t.drive, levels := t.levels } := ordered.plant
  have frame := left.frame
  have begins : y.beginPhase k.other kind = { y with chambers := (y.beginPhase k.other kind).chambers } := rfl
  have guards : SameGuards y t := ordered.guards
  have line : SameLine y t := ordered.line
  refine ⟨?_, ordered.core.trans left.core, ?_, ?_, left.sent.trans ordered.sent, ?_, fun e => ?_, fun j e => ?_⟩
  · generalize y.beginPhase k.other kind = b at plant begins
    have chambers : t.chambers = b.chambers := by rw [plant]
    have arbiter : t.arbiter = y.arbiter := by rw [plant, begins]
    rw [chambers, arbiter]
    generalize t.drive = D at plant ⊢
    generalize t.levels = L at plant ⊢
    generalize b.chambers = C at begins ⊢
    generalize y.drive = D' at frame
    generalize y.levels = L' at frame
    generalize y.chambers = C' at frame
    generalize y.arbiter = A at frame ⊢
    rw [plant, begins, frame]
  · exact ⟨guards.1.trans left.guards.1, guards.2.1.trans left.guards.2.1, guards.2.2.trans left.guards.2.2⟩
  · exact ⟨line.1.trans left.line.1, line.2.trans left.line.2⟩
  · exact (ordered.chamber k).trans (((State.beginPhase_chamber ..).trans (if_neg away)).trans left.own)
  · exact (ordered.sluices (.chamber k e) (fun same => away (by injection same with same; injection same with same; exact same.symm))).trans (left.sluices e)
  · exact (ordered.gates j e nofun).trans (left.gates j e)

end Sys2Proof.Machine
end

section
/-! SUPPORT. SERVICE OFF's four ways out of the arbiter (R66, R70 to R72). -/

namespace Sys2Proof.Machine

/-- R29: an order of a chamber sluice is judged by its own chamber's gates and sluices, the cross sluice, the levels and the settings. -/
theorem judgeSluice_of_plant {s t : State} {k : Chamber} (levels : SameLevels s t) (settings : t.settings = s.settings)
    (loaded : t.loaded = s.loaded) (gates : ∀ x, t.gate k x = s.gate k x)
    (own : ∀ x, (t.sluice (.chamber k x)).state = (s.sluice (.chamber k x)).state)
    (crossed : (t.sluice .cross).state = (s.sluice .cross).state) (e : Side) (n : Nat) :
    t.judge (.sluice (.chamber k e)) (.move n) = s.judge (.sluice (.chamber k e)) (.move n) := by
  have closed (x : Side) : t.gateClosed k x = s.gateClosed k x := by rw [State.gateClosed, State.gateClosed, gates]
  have shut (x : Side) : t.sluiceShut (.chamber k x) = s.sluiceShut (.chamber k x) := by rw [State.sluiceShut, State.sluiceShut, own]
  have cross : t.crossShut = s.crossShut := by
    rw [State.crossShut, State.crossShut, State.sluiceShut, State.sluiceShut, crossed, State.crossPresent, State.crossPresent, loaded]
  have two : t.clause2 k e = s.clause2 k e := by
    simp only [State.clause2, State.gatesClosed, own, closed, shut, cross, usable_of_levels levels]
  have four : t.clause4 k = s.clause4 k := by
    unfold State.clause4
    rw [usableLevel_of_levels levels, settings]
  cases n with
  | zero => rw [State.judge_zero, State.judge_zero]
  | succ n =>
    cases e with
    | upper =>
      show (if t.clause2 k .upper = true then (if t.clause4 k = true then none else some Clause.i4) else some Clause.i2) = _
      rw [two, four]
      rfl
    | lower =>
      show (if t.clause2 k .lower = true then none else some Clause.i2) = _
      rw [two]
      rfl

theorem judgeSluice_of_drive {s t : State} (drive : t.drive = s.drive) (levels : t.levels = s.levels) (settings : t.settings = s.settings)
    (loaded : t.loaded = s.loaded) (k : Chamber) (e : Side) (n : Nat) :
    t.judge (.sluice (.chamber k e)) (.move n) = s.judge (.sluice (.chamber k e)) (.move n) :=
  judgeSluice_of_plant ((SameLevels.of_core (s := s) (t := s) rfl).of_levels rfl levels) settings loaded (gate_of_drive drive k)
    (fun _ => by rw [sluice_of_drive drive]) (by rw [sluice_of_drive drive]) e n

theorem CrossOrdered.arbiter (s : State) (A : Arbiter) : CrossOrdered s { s with arbiter := A } :=
  ⟨rfl, rfl, ⟨rfl, rfl, rfl⟩, ⟨rfl, rfl⟩, List.prefix_refl _, fun _ _ => rfl, fun _ _ => rfl⟩

theorem PerChamber.set_other_none {α : Type} (p : PerChamber (Option α)) (k : Chamber) (empty : p.get k.other = none) :
    p.set k none = ⟨none, none⟩ := by
  obtain ⟨a, b⟩ := p
  cases k
  · exact congrArg (PerChamber.mk none) empty
  · exact congrArg (PerChamber.mk · none) empty

theorem PerChamber.set_both {α : Type} (p : PerChamber α) (k : Chamber) (a : α) : (p.set k a).set k.other a = ⟨a, a⟩ := by
  cases k <;> rfl

/-- R66: the arbiter once a chamber's wish and the other's are gone, and its record, if there is one, is delivered. -/
def Arbiter.withdrawn (a : Arbiter) (k : Chamber) : Arbiter :=
  { a with wishes := ⟨none, none⟩, record := a.record.map fun r => { r with delivered := r.delivered.set k true } }

section Left

variable {s : State} {k : Chamber} (cause : CrossEnd)

/-- R66: neither chamber waits with a wish once this one's is withdrawn. -/
theorem leaveCross_alone (unengaged : s.arbiter.owner ≠ .engaged) (unwished : s.wish k.other = none) :
    ∃ y, s.leaveCross k cause = y ∧ ArbiterLeft s y k (takenWater k (s.chamber k).water s.arbiter.record)
      ∧ y.arbiter = s.arbiter.withdrawn k ∧ y.drive = s.drive ∧ y.chamber k.other = s.chamber k.other := by
  have gone : s.arbiter.wishes.set k none = ⟨none, none⟩ := PerChamber.set_other_none _ k unwished
  let v : State := { s with arbiter.wishes := ⟨none, none⟩ }
  have same : s.setWish k none = v := by
    unfold State.setWish
    rw [gone]
  have alone : v.proceedAlone k.other = v := by
    unfold State.proceedAlone State.wish
    cases k <;> rfl
  have left : s.leaveCross k cause = v.deliver k := by
    unfold State.leaveCross
    rw [same, alone]
    exact if_neg unengaged
  have start := (ArbiterLeft.start k (CrossOrdered.arbiter s v.arbiter)).deliver
  refine ⟨v.deliver k, left, start, ?_, v.deliver_drive k, (v.deliver_chamber k k.other).trans (if_neg (by cases k <;> nofun))⟩
  rw [State.deliver_eq]
  rfl

/-- R66: the other chamber waited, and proceeds alone. -/
theorem leaveCross_proceeds {w : Wish} (unengaged : s.arbiter.owner ≠ .engaged) (wished : s.wish k.other = some w)
    (unequal : s.pair (.across w.kind.side k.other) ≠ .equalised) (foot : (s.sluice (.chamber k.other w.kind.side)).atFoot)
    (limit : 0 < s.headLimit (.chamber k.other w.kind.side))
    (passes : s.judge (.sluice (.chamber k.other w.kind.side)) (.move 1) = none) :
    ∃ y, s.leaveCross k cause = y ∧ ArbiterLeft s y k (takenWater k (s.chamber k).water s.arbiter.record)
      ∧ y.arbiter = s.arbiter.withdrawn k ∧ y.chamber k.other = (s.chamber k.other).inPhase w.kind s.newPhase
      ∧ y.sluice (.chamber k.other w.kind.side) =
        (s.sluice (.chamber k.other w.kind.side)).movedTo 1 s.sluiceExpiry (some (firstStep k.other s.now))
      ∧ y.drive.sent = s.drive.sent ++ [⟨.sluice (.chamber k.other w.kind.side), .move 1, false⟩] := by
  let v : State := { s with arbiter.wishes := ⟨none, none⟩ }
  have wish : (s.setWish k none).wish k.other = some w := by
    refine Eq.trans ?_ wished
    exact (PerChamber.get_set ..).trans (if_neg (by cases k <;> nofun))
  have gone : (s.setWish k none).setWish k.other none = v := by
    have both : ((s.arbiter.wishes.set k none).set k.other none : PerChamber (Option Wish)) = ⟨none, none⟩ := PerChamber.set_both _ k none
    show ({ s with arbiter.wishes := (s.arbiter.wishes.set k none).set k.other none } : State) = v
    rw [both]
  have alone : (s.setWish k none).proceedAlone k.other = v.enterPhase k.other w.kind := by
    unfold State.proceedAlone
    rw [wish, ← gone]
  have ordered := State.enterPhase_orders (s := v) (k := k.other) unequal foot limit 
    ((judgeSluice_of_drive (s := s) (t := v) rfl rfl rfl rfl _ _ _).trans passes)
  have start := (ArbiterLeft.start k (CrossOrdered.arbiter s v.arbiter)).phase ordered
  obtain ⟨z, hz⟩ : ∃ z, v.enterPhase k.other w.kind = z := ⟨_, rfl⟩
  rw [hz] at ordered start alone
  have arbiter : z.arbiter = v.arbiter := by
    have plant : z = { v.beginPhase k.other w.kind with drive := z.drive, levels := z.levels } := ordered.plant
    rw [plant]
    rfl
  have left : s.leaveCross k cause = z.deliver k := by
    unfold State.leaveCross
    rw [alone]
    exact if_neg (by rw [arbiter]; exact unengaged)
  have away : k.other ≠ k := by cases k <;> nofun
  have taken := start.deliver
  rw [arbiter] at taken
  refine ⟨z.deliver k, left, taken, ?_, ((z.deliver_chamber k k.other).trans (if_neg away)).trans ((ordered.chamber _).trans
    ((State.beginPhase_chamber ..).trans (if_pos rfl))), (sluice_of_drive (z.deliver_drive k) _).trans ordered.sluice, ?_⟩
  · rw [State.deliver_eq]
    show ({ z.arbiter with record := _ } : Arbiter) = _
    rw [arbiter]
    rfl
  · rw [State.deliver_drive]
    exact ordered.ordered

/-- R70: the record of a phase that ends now. -/
def State.crossEnded (s : State) (r : CrossRec) (cause : CrossEnd) : CrossRec :=
  { r with stop := ⟨s.level .c1, s.level .c2⟩, cause := some cause }

variable {cause} {r : CrossRec} (engaged : s.arbiter.owner = .engaged) (record : s.arbiter.record = some r)
  (unwished : s.arbiter.wishes = ⟨none, none⟩)

include engaged record unwished

/-- R72: the phase ends; its sluice is ordered to 0. -/
theorem leaveCross_ends (away : (s.sluice .cross).stands 0 = false) :
    ∃ y, s.leaveCross k cause = y
      ∧ ArbiterLeft s y k (takenWater k (s.chamber k).water (some (s.crossEnded r cause)))
      ∧ y.arbiter = { s.arbiter with owner := .ending, timer := none, record := some ((s.crossEnded r cause).taken k) }
      ∧ y.chamber k.other = s.chamber k.other ∧ (∀ e, y.sluice (.chamber k.other e) = s.sluice (.chamber k.other e))
      ∧ y.sluice .cross = (s.sluice .cross).shutBy s.sluiceExpiry
      ∧ y.drive.sent = s.drive.sent ++ [⟨.sluice .cross, .move 0, false⟩] := by
  have ordered := s.endCross_ordered cause
  obtain ⟨cross, arbiter, sent⟩ := s.endCross_facts cause
  rw [record] at arbiter
  rw [away] at sent
  have left : s.leaveCross k cause = s.quitCross k cause := by
    rw [State.leaveCross_unwished unwished, if_pos engaged]
  obtain ⟨z, hz⟩ : ∃ z, s.endCross cause = z := ⟨_, rfl⟩
  rw [State.quitCross, hz] at left
  rw [hz] at ordered cross arbiter sent
  have moving : ((z.deliver k).sluice .cross).state = .moving := by
    rw [sluice_of_drive (z.deliver_drive k), cross]
    unfold SluiceRec.shutBy
    rw [away]
    rfl
  rw [State.crossDone_still (.inr (by unfold State.sluiceShut; rw [moving]; rfl))] at left
  have start := (ArbiterLeft.start k ordered).deliver
  rw [arbiter] at start
  have chambers : z.chambers = s.chambers := by rw [ordered.frame]
  refine ⟨z.deliver k, left, start, ?_, ((z.deliver_chamber k k.other).trans (if_neg (by cases k <;> nofun))).trans (chamber_of_chambers chambers _),
    fun e => (sluice_of_drive (z.deliver_drive k) _).trans (ordered.sluices _ nofun), (sluice_of_drive (z.deliver_drive k) _).trans cross, ?_⟩
  · rw [State.deliver_eq]
    show ({ z.arbiter with record := _ } : Arbiter) = _
    rw [arbiter]
    rfl
  · rw [State.deliver_drive]
    exact sent

/-- R70, R71, R72: the phase ends on a cross sluice that is SHUT, and the other chamber enters its phase proper. -/
theorem leaveCross_hands (undelivered : r.delivered = ⟨false, false⟩) (shut : (s.sluice .cross).state = .shut)
    (step : (s.sluice .cross).step = some 0) {kind : WaterKind} (kinded : kind = if k.other = r.filling then .fill else .empty)
    (crossing : (s.chamber k.other).state = kind.cross) (unequal : s.pair (.across kind.side k.other) ≠ .equalised)
    (foot : (s.sluice (.chamber k.other kind.side)).atFoot) (limit : 0 < s.headLimit (.chamber k.other kind.side))
    (passes : s.judge (.sluice (.chamber k.other kind.side)) (.move 1) = none) :
    ∃ y, s.leaveCross k cause = y
      ∧ ArbiterLeft s y k (takenWater k (s.chamber k).water (some (s.crossEnded r cause)))
      ∧ y.arbiter = ⟨.idle, ⟨none, none⟩, none, none⟩
      ∧ y.chamber k.other = Sequencer.inPhase
          { s.chamber k.other with water := takenWater k.other (s.chamber k.other).water (some (s.crossEnded r cause)) } kind s.newPhase
      ∧ y.sluice .cross = { s.sluice .cross with ramp := none }
      ∧ y.sluice (.chamber k.other kind.side) =
        (s.sluice (.chamber k.other kind.side)).movedTo 1 s.sluiceExpiry (some (firstStep k.other s.now))
      ∧ y.drive.sent = s.drive.sent ++ [⟨.sluice (.chamber k.other kind.side), .move 1, false⟩]
      ∧ ∀ x, x ≠ .chamber k.other kind.side → x ≠ .cross → y.sluice x = s.sluice x := by
  have away : k.other ≠ k := by cases k <;> nofun
  have stands : (s.sluice .cross).stands 0 = true := by
    unfold SluiceRec.stands
    rw [shut, step]
    rfl
  have ordered := s.endCross_ordered cause
  obtain ⟨cross, arbiter, sent⟩ := s.endCross_facts cause
  rw [record] at arbiter
  rw [stands] at sent
  have left : s.leaveCross k cause = s.quitCross k cause := by
    rw [State.leaveCross_unwished unwished, if_pos engaged]
  obtain ⟨z, hz⟩ : ∃ z, s.endCross cause = z := ⟨_, rfl⟩
  rw [State.quitCross, hz] at left
  rw [hz] at ordered cross arbiter sent
  have cross' : z.sluice .cross = { s.sluice .cross with ramp := none } := by
    rw [cross]
    exact if_pos stands
  have zchambers : z.chambers = s.chambers := by rw [ordered.frame]
  have zchamber (j : Chamber) : z.chamber j = s.chamber j := chamber_of_chambers zchambers j
  have zlevels : SameLevels s z := SameLevels.of_core ordered.core
  -- the record delivered to the chamber that leaves
  have start := (ArbiterLeft.start k ordered).deliver
  rw [arbiter] at start
  have udrive := z.deliver_drive k
  have ulevels := z.deliver_levels k
  have uother := ((z.deliver_chamber k k.other).trans (if_neg away)).trans (zchamber _)
  have uarbiter : (z.deliver k).arbiter =
      { s.arbiter with owner := .ending, timer := none, record := some ((s.crossEnded r cause).taken k) } := by
    rw [State.deliver_eq]
    show ({ z.arbiter with record := _ } : Arbiter) = _
    rw [arbiter]
    rfl
  generalize z.deliver k = u at *
  have urecord : u.arbiter.record = some ((s.crossEnded r cause).taken k) := by rw [uarbiter]
  have untaken : ((s.crossEnded r cause).taken k).delivered.get k.other = false :=
    ((PerChamber.get_set ..).trans (if_neg away)).trans (by
      show r.delivered.get k.other = false
      rw [undelivered]
      cases k <;> rfl)
  have taken : ((s.crossEnded r cause).taken k).delivered.get k = true := (PerChamber.get_set ..).trans (if_pos rfl)
  have enters := State.deliverEnd_enters urecord untaken (by rw [uother]; exact crossing)
  -- the record delivered to the other chamber
  have first := start.deliverOther
  have xdrive := (u.deliver_drive k.other).trans udrive
  have xown := (u.deliver_chamber k.other k.other).trans (if_pos rfl)
  have xarbiter : (u.deliver k.other).arbiter =
      { s.arbiter with owner := .ending, timer := none, record := some (((s.crossEnded r cause).taken k).taken k.other) } := by
    rw [State.deliver_eq]
    show ({ u.arbiter with record := _ } : Arbiter) = _
    rw [uarbiter]
    rfl
  have late : takenWater k.other (s.chamber k.other).water (some ((s.crossEnded r cause).taken k))
      = takenWater k.other (s.chamber k.other).water (some (s.crossEnded r cause)) := by
    have fresh : (s.crossEnded r cause).delivered.get k.other = false := by
      show r.delivered.get k.other = false
      rw [undelivered]
      cases k <;> rfl
    have one (c : CrossRec) (c0 : c.delivered.get k.other = false) : takenWater k.other (s.chamber k.other).water (some c)
        = (s.chamber k.other).water.map (fun x => x.takeCross c k.other) := if_neg (by rw [c0]; nofun)
    rw [one _ untaken, one _ fresh]
    rfl
  rw [uother, urecord, late] at xown
  generalize u.deliver k.other = x at *
  -- its phase proper
  have xlevels : SameLevels s x := SameLevels.of_core first.core
  have xsluice (q : Sluice) : x.sluice q = z.sluice q := sluice_of_drive xdrive q
  have xsettings : x.settings = s.settings := by rw [first.frame]
  have xloaded : x.loaded = s.loaded := by rw [first.frame]
  have xnow : x.now = s.now := by rw [first.frame]
  have own : x.sluice (.chamber k.other kind.side) = s.sluice (.chamber k.other kind.side) := (xsluice _).trans (ordered.sluices _ nofun)
  have states (q : Sluice) : (x.sluice q).state = (s.sluice q).state := by
    rw [xsluice]
    by_cases crossed : q = .cross
    · rw [crossed, cross']
    · rw [ordered.sluices q crossed]
  have entered := State.enterPhase_orders (s := x) (k := k.other) (kind := kind)
    (by rw [xlevels.2.1]; exact unequal) (by rw [own]; exact foot) (by rw [headLimit_of_levels xlevels xsettings]; exact limit)
    ((judgeSluice_of_plant xlevels xsettings xloaded (fun e => first.gates _ e) (fun _ => states _) (states _) _ _).trans passes)
  have second := first.phase entered
  have expiry : x.sluiceExpiry = s.sluiceExpiry := by rw [State.sluiceExpiry, State.sluiceExpiry, xnow, xsettings]
  have begins : x.newPhase = s.newPhase := by rw [State.newPhase, State.newPhase, xnow, xsettings]
  rw [own, expiry, xnow] at entered
  obtain ⟨y, hy⟩ : ∃ y, x.enterPhase k.other kind = y := ⟨_, rfl⟩
  rw [hy] at enters entered second
  have yarbiter : y.arbiter = x.arbiter := by
    have plant : y = { x.beginPhase k.other kind with drive := y.drive, levels := y.levels } := entered.plant
    rw [plant]
    rfl
  have hands : (u.deliverEnd r.filling .fill).deliverEnd r.filling.other .empty = y := by
    by_cases fills : k.other = r.filling
    · have other : r.filling.other = k := by rw [← fills]; cases k <;> rfl
      rw [other, ← fills, ← kinded.trans (if_pos fills), enters]
      refine State.deliverEnd_taken (r := ((s.crossEnded r cause).taken k).taken k.other) (by rw [yarbiter, xarbiter]) ?_ _
      exact ((PerChamber.get_set ..).trans (if_neg away.symm)).trans taken
    · have first : r.filling = k := by
        cases k <;> cases hf : r.filling <;> first | rfl | exact absurd hf.symm fills
      rw [first, State.deliverEnd_taken urecord taken, ← kinded.trans (if_neg fills), enters]
  have ushut : (u.sluice .cross).state = .shut := by rw [sluice_of_drive udrive, cross']; exact shut
  rw [State.crossDone_delivers (r := (s.crossEnded r cause).taken k) (by rw [uarbiter]) ushut urecord] at left
  have filling : ((s.crossEnded r cause).taken k).filling = r.filling := rfl
  rw [filling, hands] at left
  have frame := second.frame
  refine ⟨{ y with arbiter.owner := .idle, arbiter.record := none }, left, ⟨?_, second.core, second.guards, second.line, second.sent, second.own,
    second.sluices, second.gates⟩, ?_, ?_, ?_, ?_, ?_, fun x out crossed => ?_⟩
  · generalize y.arbiter = A at frame ⊢
    generalize y.drive = D at frame ⊢
    generalize y.levels = L at frame ⊢
    generalize y.chambers = C at frame ⊢
    rw [frame]
  · show ({ y.arbiter with owner := .idle, record := none } : Arbiter) = _
    rw [yarbiter, xarbiter]
    dsimp only
    rw [unwished]
  · refine (entered.chamber k.other).trans (((State.beginPhase_chamber ..).trans (if_pos rfl)).trans ?_)
    rw [xown, begins]
  · exact (entered.sluices .cross nofun).trans ((xsluice .cross).trans cross')
  · exact entered.sluice
  · show y.drive.sent = _
    have xsent : (x.beginPhase k.other kind).drive.sent = s.drive.sent := by
      show x.drive.sent = _
      rw [xdrive, sent, if_pos rfl, List.append_nil]
    rw [entered.ordered, xsent]
  · exact (entered.sluices x (fun same => out (by injection same with same; exact same.symm))).trans ((xsluice x).trans (ordered.sluices x crossed))

end Left

end Sys2Proof.Machine
end

section
/-! SUPPORT. SERVICE OFF: the batch of the chamber unbound (R113). -/

namespace Sys2Proof.Machine

/-! ## Members' orders returned (R113) -/

/-- R113: the RETURNED frames of some members written. -/
def State.writeReturned (st : Station) (x : Option TimeOfDay) (s : State) (ms : List Member) : State :=
  ms.foldl (fun u m => u.write (.order (some m.order) m.slot .returned st x)) s

theorem SamePages.writeReturned {st : Station} {x : Option TimeOfDay} (ms : List Member) :
    ∀ {u v : State}, SamePages u v → SamePages (u.writeReturned st x ms) (v.writeReturned st x ms) := by
  induction ms with
  | nil => exact id
  | cons m ms ih => exact fun h => ih (h.write _)

theorem SamePages.trans {u v w : State} (h : SamePages u v) (g : SamePages v w) : SamePages u w :=
  ⟨h.journal.trans g.journal, h.reserved.trans g.reserved⟩

/-- R113: what the return of the orders of some members leaves, the batch record as it was. -/
structure OrdersReturned (s t : State) (st : Station) (ms : List Member) : Prop where
  frame : t = { s with book.lists := t.book.lists, journal := t.journal, stations := t.stations }
  cores : ∀ x, (t.station x).core = (s.station x).core
  found : ∀ n, (t.book.find n).map (·.slot) = (s.book.find n).map (·.slot)
  pages : SamePages t (s.writeReturned st s.time ms)
  lists : (∀ o ∈ s.book.orders, ∀ m ∈ ms, o.number = m.order → o.slot = m.slot) → ∀ d,
    t.book.lists.get d = (s.book.lists.get d).map (fun o => if o.number ∈ ms.map (·.order) then s.returned o else o)

theorem changed_find {n : Nat} {f : Order → Order} (number : ∀ o, (f o).number = o.number) (slot : ∀ o, (f o).slot = o.slot)
    (s : State) (x : Nat) : ((s.changeOrder n f).book.find x).map (·.slot) = (s.book.find x).map (·.slot) := by
  have orders : (s.changeOrder n f).book.orders = changeIn n f s.book.orders := by
    show _ ++ _ = changeIn n f (_ ++ _)
    exact List.map_append.symm
  show (List.find? _ (s.changeOrder n f).book.orders).map _ = _
  rw [orders, changeIn, List.find?_map, Option.map_map]
  have same : (fun o : Order => decide (o.number = x)) ∘ (fun o => if o.number = n then f o else o) = fun o => decide (o.number = x) := by
    funext o
    dsimp only [Function.comp_apply]
    split
    · rw [number]
    · rfl
  have slots : (fun o : Order => o.slot) ∘ (fun o => if o.number = n then f o else o) = fun o => o.slot := by
    funext o
    dsimp only [Function.comp_apply]
    split
    · exact slot o
    · rfl
  rw [same, slots]
  rfl

/-- R113: one member's order returned. -/
theorem State.returnMember_returned {s : State} {m : Member} {o : Order} (st : Station) (found : s.book.find m.order = some o)
    (slot : o.slot = m.slot) : OrdersReturned s (s.returnMember st m.order) st [m] := by
  obtain ⟨held, number⟩ := Book.mem_of_find found
  let f := fun y : Order => { y with state := s.orderState (s.vessel o.slot) }
  let v := s.changeOrder o.number f
  let w := v.write (.order (some m.order) m.slot .returned st s.time)
  have returned : s.returnMember st m.order = w := by
    unfold State.returnMember
    rw [found]
    show v.write (.order (some o.number) o.slot .returned st _) = _
    rw [number, slot]
    rfl
  rw [returned]
  have frame : w = { v with journal := w.journal, stations := w.stations } := State.write_frame ..
  have book : w.book = v.book := State.write_book ..
  refine ⟨?_, State.write_station_core v _, fun n => ?_, SamePages.write (u := v) (v := s) ⟨rfl, rfl⟩ _, fun slots d => ?_⟩
  · rw [book]
    generalize w.journal = J at frame ⊢
    generalize w.stations = N at frame ⊢
    rw [frame]
    rfl
  · rw [book]
    exact changed_find (f := f) (fun _ => rfl) (fun _ => rfl) s n
  · rw [book]
    have lists : v.book.lists.get d = changeIn o.number f (s.book.lists.get d) := by cases d <;> rfl
    rw [lists, changeIn]
    refine List.map_congr_left fun y inList => ?_
    rw [number]
    by_cases h : y.number = m.order
    · have same : y.slot = o.slot :=
        (slots y (Book.mem_orders.mpr ⟨d, inList⟩) m List.mem_cons_self h).trans slot.symm
      rw [if_pos h, if_pos (by simp [h])]
      show ({ y with state := s.orderState (s.vessel o.slot) } : Order) = { y with state := s.orderState (s.vessel y.slot) }
      rw [← same]
    · rw [if_neg h, if_neg (by simpa using h)]

theorem OrdersReturned.trans {s t u : State} {st : Station} {m : Member} {ms : List Member} (h : OrdersReturned s t st [m])
    (g : OrdersReturned t u st ms) : OrdersReturned s u st (m :: ms) := by
  have frame := h.frame
  have time : t.time = s.time := by rw [frame]; rfl
  have returns (o : Order) : t.returned o = s.returned o := by
    rw [frame]
    rfl
  refine ⟨?_, fun x => (g.cores x).trans (h.cores x), fun n => (g.found n).trans (h.found n), ?_, fun slots d => ?_⟩
  · have last := g.frame
    generalize t.book.lists = B at frame
    generalize t.journal = J at frame
    generalize t.stations = N at frame
    generalize u.book.lists = B' at last ⊢
    generalize u.journal = J' at last ⊢
    generalize u.stations = N' at last ⊢
    rw [last, frame]
  · have pages := g.pages
    rw [time] at pages
    exact pages.trans (h.pages.writeReturned ms)
  · have first := h.lists (fun o held x mem => slots o held x (List.mem_cons.mpr (.inl (List.mem_singleton.mp mem))))
    have later : ∀ o ∈ t.book.orders, ∀ x ∈ ms, o.number = x.order → o.slot = x.slot := by
      intro o held x mem same
      obtain ⟨c, inList⟩ := Book.mem_orders.mp held
      rw [first] at inList
      obtain ⟨y, inOld, rfl⟩ := List.mem_map.mp inList
      have old := slots y (Book.mem_orders.mpr ⟨c, inOld⟩) x (List.mem_cons_of_mem _ mem)
      let back := fun y : Order => if y.number ∈ [m].map (·.order) then s.returned y else y
      have key : (back y).number = y.number ∧ (back y).slot = y.slot := by
        dsimp only [back]
        split <;> exact ⟨rfl, rfl⟩
      exact key.2.trans (old (key.1.symm.trans same))
    rw [g.lists later, first, List.map_map]
    refine List.map_congr_left fun o _ => ?_
    dsimp only [Function.comp_apply]
    by_cases own : o.number = m.order
    · rw [if_pos (show o.number ∈ [m].map (·.order) by simp [own]),
        if_pos (show o.number ∈ (m :: ms).map (·.order) by simp [own])]
      split
      · rw [returns]
        rfl
      · rfl
    · rw [if_neg (show o.number ∉ [m].map (·.order) by simpa using own), returns]
      exact if_congr (by simp [own]) rfl rfl

theorem returnMembers_returned (st : Station) (ms : List Member) : ∀ s : State,
    (∀ m ∈ ms, ∃ o, s.book.find m.order = some o ∧ o.slot = m.slot) →
    OrdersReturned s ((ms.map (·.order)).foldl (fun u n => u.returnMember st n) s) st ms := by
  induction ms with
  | nil =>
    intro s _
    exact ⟨rfl, fun _ => rfl, fun _ => rfl, .refl s, fun _ d => by simp⟩
  | cons m ms ih =>
    intro s booked
    obtain ⟨o, found, slot⟩ := booked m List.mem_cons_self
    have first := State.returnMember_returned st found slot
    refine first.trans (ih _ fun x mem => ?_)
    obtain ⟨y, yfound, yslot⟩ := booked x (List.mem_cons_of_mem _ mem)
    have same := first.found x.order
    rw [yfound, Option.map_some, yslot] at same
    exact Option.map_eq_some_iff.mp same

end Sys2Proof.Machine
end

section
/-! SUPPORT. SERVICE OFF (R39, R113): of a chamber whose plant is at rest, with and without a batch. -/

namespace Sys2Proof.Machine

/-! ## A chamber whose plant is at rest -/

/-- R23: MOVE(0) to a sluice that is SHUT, no ramp on it, is complete. -/
theorem State.shutSluice_still {s : State} {q : Sluice} (shut : (s.sluice q).state = .shut) (step : (s.sluice q).step = some 0)
    (ramp : (s.sluice q).ramp = none) : s.shutSluice q = s := by
  have stands : (s.sluice q).stands 0 = true := by
    unfold SluiceRec.stands
    rw [shut, step]
    rfl
  have same : { s.sluice q with ramp := none } = s.sluice q := by rw [← ramp]
  rw [State.shutSluice_eq, if_pos stands]
  show s.putSluice q { s.sluice q with ramp := none } = s
  rw [same]
  rcases q with ⟨⟨⟩, ⟨⟩⟩ | _ <;> rfl

/-- The plant of a chamber at rest. -/
structure State.PlantStill (s : State) (k : Chamber) : Prop where
  gates : ∀ e, (s.gate k e).state ≠ .opening ∧ (s.gate k e).state ≠ .closing
  sluices : ∀ e, (s.sluice (.chamber k e)).state = .shut ∧ (s.sluice (.chamber k e)).step = some 0 ∧ (s.sluice (.chamber k e)).ramp = none

/-- R39, R50: such a plant ordered to rest is left as it is. -/
theorem State.PlantStill.shut {s : State} {k : Chamber} (rest : s.PlantStill k) : s.plantShut k = s := by
  have gate (e : Side) : (s.gate k e).state.moving = false := by
    obtain ⟨opening, closing⟩ := rest.gates e
    cases moving : (s.gate k e).state.moving with
    | false => rfl
    | true => exact absurd ((GateState.moving_iff _).mp moving) (by rintro (h | h); exacts [opening h, closing h])
  have shut : s.shutBoth k = s := by
    obtain ⟨u1, u2, u3⟩ := rest.sluices .upper
    obtain ⟨l1, l2, l3⟩ := rest.sluices .lower
    unfold State.shutBoth
    rw [State.shutSluice_still u1 u2 u3, State.shutSluice_still l1 l2 l3]
  unfold State.plantShut
  rw [shut, State.stopMoving_rest (gate .upper), State.stopMoving_rest (gate .lower)]

/-- The plant of a chamber at rest, its water record closed, with nothing on the arbiter's hand. -/
structure State.AtRest (s : State) (k : Chamber) : Prop extends s.PlantStill k where
  free : s.CrossFree
  water : (s.chamber k).water = none

theorem State.AtRest.serviceEnd {s : State} {k : Chamber} (rest : s.AtRest k) (cause : CrossEnd) :
    (s.leaveCross k cause).serviceEnd k = s.setChamber k (s.chamber k).outOfService := by
  rw [State.leaveCross_free rest.free]
  unfold State.serviceEnd
  dsimp only
  rw [rest.shut, State.closeWater_none rest.water]

/-- R98: a formation asked for by a chamber that then leaves service comes to nothing. -/
theorem State.finish_outOfService {s p : State} {k : Chamber} (calm : s.Calm) (asked : p = s ∨ p = s.push (.form k)) :
    (p.setChamber k (p.chamber k).outOfService).finish = (s.setChamber k (s.chamber k).outOfService).derive := by
  let x := s.setChamber k (s.chamber k).outOfService
  rcases asked with rfl | rfl
  · exact State.finish_calm calm
  · have pushed : s.push (.form k) = { s with agenda := [.form k] } := by
      have idle : s.agenda = [] := calm.1
      unfold State.push
      rw [idle]
      rfl
    have cleared : ({ (s.push (.form k)).setChamber k ((s.push (.form k)).chamber k).outOfService with agenda := [] } : State) = x := by
      have idle : s.agenda = [] := calm.1
      rw [pushed]
      show ({ x with agenda := [] } : State) = x
      rw [← show x.agenda = [] from idle]
    have out : x.derive.available k = false := by
      have own : x.derive.chamber k = (s.chamber k).outOfService :=
        (State.setChamber_chamber s k _ k).trans (if_pos rfl)
      unfold State.available
      rw [own]
      rfl
    have done : x.derive.form k = x.derive := by
      unfold State.form
      rw [out]
      rfl
    refine (State.finish_one (task := .form k) (u := x.derive) (by rw [pushed]; rfl) ?_ calm).trans (State.derive_derive x)
    rw [cleared]
    exact done

/-! ## The batch unbound (R113) -/

/-- R113: a batch leaves its chamber, and with a waiting order returned the chamber, where it is available alone, is to form again. -/
theorem State.unbind_eq {s : State} {st : Station} {k : Chamber} {b : Batch} (calm : s.Calm) (batch : s.batch k = some b)
    (unfilled : b.fill = none) (alone : s.available k.other = false) {w : State}
    (returned : (b.members.map (·.order)).foldl (fun u n => u.returnMember st n) s = w)
    (frame : w = { s with book.lists := w.book.lists, journal := w.journal, stations := w.stations }) :
    ∃ u, (s.unbind k st = u ∨ s.unbind k st = u.push (.form k)) ∧ u.Calm
      ∧ u = { w with
          book.batches := w.book.batches.set k none
          chambers := w.chambers.set k { s.chamber k with
            entry := none, entryOverdue := false, leave := none, clearOut := false, leaveOverdue := false } } := by
  have wcalm : w.Calm := by rw [frame]; exact calm
  have wbatch (j : Chamber) : w.batch j = s.batch j := by rw [frame]; rfl
  have wchamber (j : Chamber) : w.chamber j = s.chamber j := by rw [frame]; rfl
  let u := (w.setBatch k none).setChamber k
    { w.chamber k with entry := none, entryOverdue := false, leave := none, clearOut := false, leaveOverdue := false }
  have removed : (w.reapportion k true).removeBatch k = u := by
    rw [State.reapportion_unfilled ((wbatch k).trans batch) unfilled, State.removeBatch_calm wcalm.2]
  have away : k.other ≠ k := by cases k <;> nofun
  have other : u.available k.other = false := by
    have chamber : u.chamber k.other = s.chamber k.other := ((State.setChamber_chamber ..).trans (if_neg away)).trans (wchamber _)
    have same : u.batch k.other = s.batch k.other := ((w.setBatch_batch k none k.other).trans (if_neg away)).trans (wbatch _)
    rw [State.available, chamber, same]
    exact alone
  have unbinds : s.unbind k st = if u.anyWaiting (b.members.map (·.order)) then u.pushAvailable else u := by
    unfold State.unbind
    rw [batch]
    dsimp only
    rw [returned, removed]
  refine ⟨u, ?_, wcalm, by rw [← wchamber]; rfl⟩
  rw [unbinds]
  split
  · cases own : u.available k with
    | true => exact .inr (State.pushAvailable_one own other)
    | false =>
      refine .inl (State.pushAvailable_none fun j => ?_)
      by_cases same : j = k
      · rw [same, own]
      · rw [((Chamber.eq_or_other j k).resolve_left same).1, other]
  · exact .inl rfl

end Sys2Proof.Machine
end

section
/-! SUPPORT. SERVICE OFF (R39, R66, R72, R113, R137). -/

namespace Sys2Proof.Machine

section Rested

variable {s : State} {st : Station} {k : Chamber} (takes : s.takes st) (held : s.holder k = some st) (present : s.chamberPresent k = true)
  (service : (s.chamber k).state ≠ .outOfService)

include held present service in
/-- R39: SERVICE OFF of a chamber whose plant is at rest. -/
theorem judgeServiceOff_rested (grounded : s.inFlight k = false) {u : State} (calm : u.Calm) (rest : ((s.validFrame st).unbind k st).AtRest k)
    (asked : (s.validFrame st).unbind k st = u ∨ (s.validFrame st).unbind k st = u.push (.form k)) :
    judgeServiceOff st k (s.validFrame st) = ((u.setChamber k (u.chamber k).outOfService).derive, some (.ok, [])) := by
  rw [judgeServiceOff_eq held present service grounded, State.serviceOff_eq, rest.serviceEnd, State.done, State.finish_outOfService calm asked]

variable (calm : s.Calm) (rest : s.AtRest k)

include takes held present service calm rest

theorem serviceOff_empty (none_ : s.batch k = none) :
    ∃ t, exec (.serviceOff st k) s = .next t
      ∧ t = { s.answered st 0x33 .ok [] with chambers := t.chambers, signals := t.signals }
      ∧ t.chamber k = { state := .outOfService, mode := (s.chamber k).mode } ∧ t.chamber k.other = s.chamber k.other := by
  let v := s.validFrame st
  have grounded : s.inFlight k = false := by
    unfold State.inFlight
    rw [none_]
  have unbound : v.unbind k st = v := by
    unfold State.unbind
    rw [show v.batch k = none from none_]
  have restv : v.AtRest k := ⟨⟨rest.gates, rest.sluices⟩, rest.free, rest.water⟩
  have judged := judgeServiceOff_rested held present service grounded (u := v) calm (by rw [unbound]; exact restv) (.inl unbound)
  obtain ⟨u, hu⟩ : ∃ u, (v.setChamber k (v.chamber k).outOfService).derive = u := ⟨_, rfl⟩
  rw [hu] at judged
  have frame : u = { v with chambers := v.chambers.set k (v.chamber k).outOfService, signals := u.signals } := by
    rw [← hu]
    exact State.derive_frame _
  have now : u.now = s.now := by rw [frame]; rfl
  have limit : u.settings.silenceLimit = s.settings.silenceLimit := by rw [frame]; rfl
  have core : u.core = v.core := by rw [← hu, State.derive_core, State.setChamber_core]
  have chambers : u.chambers = v.chambers.set k (v.chamber k).outOfService := by rw [frame]
  refine ⟨_, State.exchange_answered (code := 0x33) takes judged (station_core_of_core core st) now limit, ?_, ?_, ?_⟩
  · have drive : u.drive = v.drive := by rw [frame]
    have levels : u.levels = v.levels := by rw [frame]
    have shape : u = { v with drive := u.drive, levels := u.levels, chambers := u.chambers, signals := u.signals } := by
      rw [drive, levels, chambers]
      exact frame
    have whole := State.answered_plant (st := st) (code := 0x33) (o := .ok) (l := []) shape
    rw [drive, levels] at whole
    exact whole
  · show u.chambers.get k = _
    rw [chambers]
    exact (PerChamber.get_set ..).trans (if_pos rfl)
  · show u.chambers.get k.other = _
    rw [chambers]
    exact (PerChamber.get_set ..).trans (if_neg (by cases k <;> nofun))

/-- R113: its BOUND batch unbound. -/
theorem serviceOff_unbinds {b : Batch} (batch : s.batch k = some b) (bound : b.state = .bound) (unfilled : b.fill = none)
    (alone : s.available k.other = false) (booked : ∀ m ∈ b.members, ∃ o, s.book.find m.order = some o ∧ o.slot = m.slot) :
    ∃ t, exec (.serviceOff st k) s = .next t
      ∧ t = { s.answered st 0x33 .ok [] with
          book := t.book, chambers := t.chambers, journal := t.journal, signals := t.signals, stations := t.stations }
      ∧ (∀ x, (t.station x).core = ((s.answered st 0x33 .ok []).station x).core)
      ∧ t.batch k = none ∧ t.batch k.other = s.batch k.other
      ∧ ((∀ o ∈ s.book.orders, ∀ m ∈ b.members, o.number = m.order → o.slot = m.slot) → ∀ d,
        t.book.lists.get d = (s.book.lists.get d).map (fun o => if o.number ∈ b.members.map (·.order) then s.returned o else o))
      ∧ t.book.nextOrder = s.book.nextOrder ∧ t.book.nextBatch = s.book.nextBatch
      ∧ t.book.entrySequence = s.book.entrySequence ∧ t.book.timer = s.book.timer ∧ t.book.deferred = s.book.deferred
      ∧ t.journal = (s.writeReturned st s.time b.members).journal
      ∧ t.chamber k = { state := .outOfService, mode := (s.chamber k).mode } ∧ t.chamber k.other = s.chamber k.other := by
  let v := s.validFrame st
  have grounded : s.inFlight k = false := by
    unfold State.inFlight
    rw [batch]
    exact decide_eq_false (not_not.mpr bound)
  have returned := returnMembers_returned st b.members v booked
  obtain ⟨w, hw⟩ : ∃ w, (b.members.map (·.order)).foldl (fun u n => u.returnMember st n) v = w := ⟨_, rfl⟩
  rw [hw] at returned
  have wframe := returned.frame
  obtain ⟨u, asked, ucalm, uframe⟩ := State.unbind_eq (s := v) (k := k) calm batch unfilled alone hw wframe
  have pushed : (v.unbind k st).AtRest k ↔ u.AtRest k := by
    have same (q : State) (h : q = { u with agenda := q.agenda }) : q.AtRest k ↔ u.AtRest k := by
      rw [h]
      exact ⟨fun r => ⟨⟨r.gates, r.sluices⟩, r.free, r.water⟩, fun r => ⟨⟨r.gates, r.sluices⟩, r.free, r.water⟩⟩
    rcases asked with h | h
    · rw [h]
    · rw [h]
      refine same _ ?_
      unfold State.push
      split <;> rfl
  have shape : u = { v with
      book := u.book, chambers := u.chambers, journal := u.journal, stations := u.stations } := by
    generalize w.book.lists = B at wframe
    generalize w.journal = J at wframe
    generalize w.stations = N at wframe
    rw [uframe, wframe]
  have uchamber (j : Chamber) : u.chamber j = if j = k then { s.chamber k with
      entry := none, entryOverdue := false, leave := none, clearOut := false, leaveOverdue := false } else s.chamber j := by
    have chambers : u.chambers = w.chambers.set k { s.chamber k with
        entry := none, entryOverdue := false, leave := none, clearOut := false, leaveOverdue := false } := by
      rw [uframe]
      rfl
    have old : w.chambers = s.chambers := by rw [wframe]; rfl
    show u.chambers.get j = _
    rw [chambers, old]
    exact PerChamber.get_set ..
  have urest : u.AtRest k := by
    have arbiter : u.arbiter = s.arbiter := by rw [shape]; rfl
    have drive : u.drive = s.drive := by rw [shape]; rfl
    obtain ⟨⟨gates, sluices⟩, free, water⟩ := rest
    refine ⟨⟨fun e => by rw [gate_of_drive drive]; exact gates e, fun e => by rw [sluice_of_drive drive]; exact sluices e⟩, ?_, ?_⟩
    · unfold State.CrossFree
      rw [arbiter]
      exact free
    · rw [uchamber, if_pos rfl]
      exact water
  have judged := judgeServiceOff_rested held present service grounded (u := u) ucalm (pushed.mpr urest) asked
  obtain ⟨x, hx⟩ : ∃ x, (u.setChamber k (u.chamber k).outOfService).derive = x := ⟨_, rfl⟩
  rw [hx] at judged
  have xframe : x = { u with chambers := u.chambers.set k (u.chamber k).outOfService, signals := x.signals } := by
    rw [← hx]
    exact State.derive_frame _
  have book : x.book = u.book := by rw [xframe]
  have journal : x.journal = u.journal := by rw [xframe]
  have stations : x.stations = u.stations := by rw [xframe]
  have chambers : x.chambers = u.chambers.set k (u.chamber k).outOfService := by rw [xframe]
  have xshape : x = { s with
      book := x.book, chambers := x.chambers, journal := x.journal, signals := x.signals, stations := x.stations } := by
    rw [← chambers] at xframe
    rw [book, journal, stations]
    generalize x.chambers = C at xframe ⊢
    generalize x.signals = G at xframe ⊢
    generalize u.chambers = C' at shape
    generalize u.book = B at shape ⊢
    generalize u.journal = J at shape ⊢
    generalize u.stations = N at shape ⊢
    rw [xframe, shape]
    rfl
  have core : ∀ y, (x.station y).core = (v.station y).core := by
    intro y
    have ustations : u.stations = w.stations := by rw [uframe]
    have stationed : x.station y = w.station y := congrArg (fun r : PerStation StationRec => r.get y) (stations.trans ustations)
    rw [stationed]
    exact returned.cores y
  have now : x.now = s.now := by rw [xshape]
  have limit : x.settings.silenceLimit = s.settings.silenceLimit := by rw [xshape]
  have away : k.other ≠ k := by cases k <;> nofun
  have ubook : u.book = { w.book with batches := w.book.batches.set k none } := by rw [uframe]
  have wbook : w.book = { s.book with lists := w.book.lists } := by
    rw [wframe]
    rfl
  have tbook : x.book = { s.book with lists := w.book.lists, batches := s.book.batches.set k none } := by
    rw [book, ubook, wbook]
  have xchamber (j : Chamber) : x.chamber j = if j = k then (u.chamber k).outOfService else u.chamber j := by
    show x.chambers.get j = _
    rw [chambers]
    exact PerChamber.get_set ..
  refine ⟨_, State.exchange_answered (code := 0x33) takes judged (core st) now limit, State.answered_passages xshape,
    State.answered_core now limit core, ?_, ?_, fun slots d => ?_, ?_, ?_, ?_, ?_, ?_, ?_, ?_, ?_⟩
  · show x.book.batches.get k = none
    rw [tbook]
    exact (PerChamber.get_set ..).trans (if_pos rfl)
  · show x.book.batches.get k.other = s.book.batches.get k.other
    rw [tbook]
    exact (PerChamber.get_set ..).trans (if_neg away)
  · show x.book.lists.get d = _
    rw [tbook]
    exact returned.lists slots d
  · show x.book.nextOrder = _
    rw [tbook]
  · show x.book.nextBatch = _
    rw [tbook]
  · show x.book.entrySequence = _
    rw [tbook]
  · show x.book.timer = _
    rw [tbook]
  · show x.book.deferred = _
    rw [tbook]
  · show x.journal = _
    have ujournal : u.journal = w.journal := by rw [uframe]
    rw [journal, ujournal, returned.pages.journal]
    exact (SamePages.writeReturned (u := v) (v := s) b.members ⟨rfl, rfl⟩).journal
  · show x.chamber k = _
    rw [xchamber, if_pos rfl, uchamber, if_pos rfl]
    rfl
  · show x.chamber k.other = _
    rw [xchamber, if_neg away, uchamber, if_neg away]

end Rested

/-- R23, R70: a sluice above 0, or on its way there, ordered to 0. -/
theorem SluiceRec.shutBy_open {r : SluiceRec} {m : Nat}
    (away : r.state = .held ∧ r.step = some (m + 1) ∨ r.state = .moving ∧ r.target = some (.step (m + 1))) :
    r.stands 0 = false ∧ ∀ x, r.shutBy x =
      { state := .moving, step := r.step, target := some (.step 0), superseded := if r.state = .moving then some (m + 1) else none
        timer := some x } := by
  have open_ : r.stands 0 = false := by
    unfold SluiceRec.stands
    rcases away with ⟨state, step⟩ | ⟨state, target⟩
    · rw [state, step]
      exact decide_eq_false (by simp)
    · rw [state, target]
      exact decide_eq_false (by simp)
  refine ⟨open_, fun x => ?_⟩
  unfold SluiceRec.shutBy
  rw [open_]
  rcases away with ⟨state, -⟩ | ⟨state, target⟩
  · rw [state]
    rfl
  · have late : r.supersede = some (m + 1) := by
      unfold SluiceRec.supersede
      rw [target]
      rfl
    rw [state, late]
    rfl

/-- Settles O28. -/
theorem serviceOffLeavesAndUnbinds : Obligations.ServiceOffLeavesAndUnbinds := by
  intro s st k takes held present
  refine ⟨serviceOff_refused takes held present, fun b service => serviceOff_inFlight takes held present service,
    fun service calm free water gates sluices => ?_, fun service calm none_ => ?_⟩
  · have rest : s.AtRest k := ⟨⟨gates, sluices⟩, free, water⟩
    refine ⟨serviceOff_empty takes held present service calm rest, fun b batch bound unfilled alone booked => ?_⟩
    exact serviceOff_unbinds takes held present service calm rest batch bound unfilled alone booked
  · intro stopped stops leaves
    have told : ∀ w t, LeftService s t st k w → leaves w t := by
      intro w t left
      refine ⟨left.frame, left.cores, left.own, left.levels, left.guards, left.line, left.shut, left.stops, ?_⟩
      have closes := left.closes
      cases w with
      | none => exact closes
      | some x =>
        obtain ⟨site, journal⟩ := closes
        rw [siteRecord_eq] at site journal
        obtain ⟨kind, batch, start, crossed, crossEnd⟩ := x
        refine ⟨site.trans ?_, journal.trans (congrArg (fun f => (stops.write f).journal) ?_)⟩
        · cases kind <;> rfl
        · cases kind <;> cases crossed <;> rfl
    let v := s.validFrame st
    have apart (e x : Side) : Sluice.chamber k.other e ≠ .chamber k x := by
      cases k <;> nofun
    refine ⟨fun unengaged => ⟨fun unwished => ?_, fun w wished => ?_⟩,
      fun r m engaged record undelivered unwished away => ?_, fun r engaged record undelivered unwished shut step => ?_⟩
    · obtain ⟨y, left, arbiter, own, drive, other⟩ := leaveCross_alone (s := v) (k := k) (.serviceOff k) unengaged unwished
      obtain ⟨t, run, served, tarbiter, tother, tgates, tsluices, -⟩ :=
        serviceOff_leaves takes held present service calm none_ left arbiter
      exact ⟨t, run, told _ t served, tarbiter.trans own, ⟨tother.trans other, tgates, fun e =>
        (tsluices (.chamber k.other e) (apart e)).trans (sluice_of_drive drive _)⟩, (tsluices .cross fun _ => nofun).trans (sluice_of_drive drive .cross)⟩
    · intro q unequal shut step limit passes
      have foot : (v.sluice (.chamber k.other w.kind.side)).atFoot := .inl ⟨shut, step⟩
      obtain ⟨y, left, arbiter, own, other, sluice, sent⟩ :=
        leaveCross_proceeds (s := v) (k := k) (.serviceOff k) unengaged wished unequal foot limit
          ((judgeSluice_of_drive (s := s) (t := v) rfl rfl rfl rfl _ _ _).trans passes)
      obtain ⟨t, run, served, tarbiter, tother, tgates, tsluices, tsent⟩ :=
        serviceOff_leaves takes held present service calm none_ left arbiter
      have moved := (tsluices (.chamber k.other w.kind.side) (apart _)).trans sluice
      refine ⟨t, run, told _ t served, tarbiter.trans own, tgates, tother.trans other, by rw [moved]; rfl, by rw [moved]; rfl,
        by rw [moved]; rfl, ?_⟩
      refine drop_mem_of_prefix tsent ?_
      rw [sent, show s.drive.sent = v.drive.sent from rfl, List.drop_left]
      exact List.mem_singleton_self _
    · intro ended
      obtain ⟨open_, shut⟩ := SluiceRec.shutBy_open away
      obtain ⟨y, left, arbiter, own, other, sluices, cross, sent⟩ :=
        leaveCross_ends (s := v) (k := k) (cause := .serviceOff k) engaged record unwished open_
      obtain ⟨t, run, served, tarbiter, tother, tgates, tsluices, tsent⟩ :=
        serviceOff_leaves takes held present service calm none_ left arbiter
      refine ⟨t, run, told _ t served, ⟨tother.trans other, tgates, fun e => (tsluices (.chamber k.other e) (apart e)).trans (sluices e)⟩,
        tarbiter.trans own, ((tsluices .cross fun _ => nofun).trans cross).trans (shut _), ?_⟩
      refine drop_mem_of_prefix tsent ?_
      rw [sent, show s.drive.sent = v.drive.sent from rfl, List.drop_left]
      exact List.mem_singleton_self _
    · intro kind q ended crossing unequal qshut qstep limit passes
      have foot : (v.sluice (.chamber k.other kind.side)).atFoot := .inl ⟨qshut, qstep⟩
      obtain ⟨y, left, arbiter, own, other, cross, sluice, sent, -⟩ :=
        leaveCross_hands (s := v) (k := k) (cause := .serviceOff k) engaged record unwished undelivered shut step (kind := kind) rfl crossing
          unequal foot limit
          ((judgeSluice_of_drive (s := s) (t := v) rfl rfl rfl rfl _ _ _).trans passes)
      obtain ⟨t, run, served, tarbiter, tother, tgates, tsluices, tsent⟩ :=
        serviceOff_leaves takes held present service calm none_ left arbiter
      have moved := (tsluices (.chamber k.other kind.side) (apart _)).trans sluice
      refine ⟨t, run, told _ t served, tarbiter.trans own, tgates, (tsluices .cross fun _ => nofun).trans cross, tother.trans other,
        by rw [moved]; rfl, by rw [moved]; rfl, by rw [moved]; rfl, ?_⟩
      refine drop_mem_of_prefix tsent ?_
      rw [sent, show s.drive.sent = v.drive.sent from rfl, List.drop_left]
      exact List.mem_singleton_self _

end Sys2Proof.Machine
end

section
/-! SUPPORT. A HALT while a cross phase is engaged, of a chamber whose plant is at rest (R50, R70 to R72). -/

namespace Sys2Proof.Machine

/-- R50: the sequencer of a chamber whose halt has begun. -/
def Sequencer.halting (c : Sequencer) : Sequencer := { c with interrupted := some c.state, haltCause := some .request }

theorem State.PlantStill.haltRest {s : State} {k : Chamber} (rest : s.PlantStill k) :
    s.haltRest k .request none = s.setChamber k (s.chamber k).halting := by
  have still : (s.setChamber k (s.chamber k).halting).PlantStill k := ⟨rest.gates, rest.sluices⟩
  unfold State.haltRest
  dsimp only
  rw [if_neg (by nofun), if_neg (by nofun)]
  exact still.shut

section Halt

variable {s : State} {st : Station} {k : Chamber} (takes : s.takes st) (present : s.chamberPresent k = true) (calm : s.Calm)
  (rest : s.PlantStill k) (crossing : (s.chamber k).state = .fillCross ∨ (s.chamber k).state = .emptyCross)

include takes present calm rest crossing in
/-- R50: HALT of a chamber in a cross state, once it has left the arbiter. -/
theorem halt_leaves {y : State} {w : Option WaterRec}
    (leaves : ((s.validFrame st).setChamber k (s.chamber k).halting).leaveCross k (.halt k) = y)
    (left : ArbiterLeft ((s.validFrame st).setChamber k (s.chamber k).halting) y k w) :
    ∃ t, exec (.halt st k) s = .next t
      ∧ t = { s.answered st 0x34 .ok [] with
          drive := t.drive, levels := t.levels, chambers := t.chambers, arbiter := t.arbiter, signals := t.signals }
      ∧ t.drive = y.drive ∧ t.levels = y.levels ∧ t.arbiter = y.arbiter ∧ t.now = s.now
      ∧ t.chamber k =
        { s.chamber k with
          state := .halted, interrupted := some (s.chamber k).state, haltCause := some .request, pendingOrder := none
          phase := none, water := w }
      ∧ t.chamber k.other = y.chamber k.other := by
  let s' := s.validFrame st
  have rest' : s'.PlantStill k := ⟨rest.gates, rest.sluices⟩
  have halts : s'.haltChamber k .request none (.halt k) = y.haltEnd k := by
    rw [State.haltChamber_eq, rest'.haltRest]
    exact congrArg (State.haltEnd · k) leaves
  have judged : judgeHalt st k s' = (s'.haltChamber k .request none (.halt k)).done .ok := by
    refine (State.judged_anyOf (s := s') present st _).trans ?_
    show (match (s.chamber k).state with | .outOfService => _ | .halted => _ | _ => _) = _
    rcases crossing with h | h <;> rw [h]
  have frame := left.frame
  have own : (y.haltEnd k).chamber k = { y.chamber k with pendingOrder := none, phase := none, state := .halted } :=
    (State.setChamber_chamber ..).trans (if_pos rfl)
  have other : (y.haltEnd k).chamber k.other = y.chamber k.other := (State.setChamber_chamber ..).trans (if_neg (by cases k <;> nofun))
  have begun : (s'.setChamber k (s.chamber k).halting).chamber k = (s.chamber k).halting :=
    (State.setChamber_chamber ..).trans (if_pos rfl)
  rw [left.own, begun] at own
  obtain ⟨w, hw⟩ : ∃ w, y.haltEnd k = w := ⟨_, rfl⟩
  have wframe : w = { y with chambers := w.chambers } := by rw [← hw]; rfl
  have drive : w.drive = y.drive := by rw [wframe]
  have levels : w.levels = y.levels := by rw [wframe]
  have arbiter : w.arbiter = y.arbiter := by rw [wframe]
  have whole : w = { s' with drive := w.drive, levels := w.levels, chambers := w.chambers, arbiter := w.arbiter } := by
    rw [drive, levels, arbiter]
    generalize w.chambers = C at wframe ⊢
    generalize y.drive = D at frame ⊢
    generalize y.levels = L at frame ⊢
    generalize y.chambers = C' at frame
    generalize y.arbiter = A at frame ⊢
    rw [wframe, frame]
    rfl
  have wcalm : w.Calm := by
    rw [whole]
    exact calm
  have book : w.book = s'.book := by rw [whole]
  have signals : w.signals = s'.signals := by rw [whole]
  rw [halts, hw, State.done, State.finish_calm wcalm] at judged
  rw [hw] at own other
  obtain ⟨S, run⟩ := State.exchange_steps (code := 0x34) takes judged (by
    rw [book, signals]
    exact whole)
  rw [book] at run
  exact ⟨_, run, rfl, drive, levels, arbiter, rfl, own, other⟩

end Halt

end Sys2Proof.Machine
end

section
/-! SUPPORT. The cross phase ended by a halt (R70 to R72), by its pair (R70) and by its limit. -/

namespace Sys2Proof.Machine

theorem takenWater_fresh {k : Chamber} {r : CrossRec} (untaken : r.delivered.get k = false) (w : Option WaterRec) :
    takenWater k w (some r) = w.map fun x => { x with start := r.start.get k, crossed := true, crossEnd := r.stop.get k } :=
  if_neg (by rw [untaken]; nofun)

section Halt

variable {s : State} {r : CrossRec} {st : Station} {k : Chamber} (takes : s.takes st) (present : s.chamberPresent k = true) (calm : s.Calm)
  (rest : s.PlantStill k) (engaged : s.arbiter.owner = .engaged) (record : s.arbiter.record = some r)
  (unwished : s.arbiter.wishes = ⟨none, none⟩)

/-- What a halt changes of the plant when chamber k's own is at rest. -/
structure HaltAlone (s t : State) (st : Station) : Prop where
  frame : t = { s.answered st 0x34 .ok [] with
    drive := t.drive, levels := t.levels, chambers := t.chambers, arbiter := t.arbiter, signals := t.signals }
  levels : SameLevels s t
  guards : SameGuards s t
  line : SameLine s t
  gates : ∀ j e, t.gate j e = s.gate j e

/-- Chamber k has left the arbiter in its halt. -/
theorem ArbiterLeft.halted {s t v y : State} {st : Station} {k : Chamber} {w : Option WaterRec} (left : ArbiterLeft v y k w)
    (before : v.drive = s.drive ∧ v.levels = s.levels) (drive : t.drive = y.drive) (levels : t.levels = y.levels)
    (frame : t = { s.answered st 0x34 .ok [] with
      drive := t.drive, levels := t.levels, chambers := t.chambers, arbiter := t.arbiter, signals := t.signals }) :
    HaltAlone s t st := by
  have same : SameLevels v y := SameLevels.of_core left.core
  refine ⟨frame, same.of_levels before.2.symm levels, ⟨?_, ?_, ?_⟩, ⟨?_, ?_⟩, fun j e => ?_⟩
  · rw [drive, ← before.1]; exact left.guards.1
  · rw [drive, ← before.1]; exact left.guards.2.1
  · rw [levels, ← before.2]; exact left.guards.2.2
  · rw [drive, ← before.1]; exact left.line.1
  · rw [drive, ← before.1]; exact left.line.2
  · rw [gate_of_drive drive, left.gates]
    exact gate_of_drive before.1 j e

include takes present calm rest engaged record unwished

/-- R70, R72: the cross sluice above 0, or on its way there. -/
theorem halt_ends {m : Nat}
    (away : (s.sluice .cross).state = .held ∧ (s.sluice .cross).step = some (m + 1)
      ∨ (s.sluice .cross).state = .moving ∧ (s.sluice .cross).target = some (.step (m + 1)))
    (untaken : r.delivered.get k = false) (crossing : (s.chamber k).state = .fillCross ∨ (s.chamber k).state = .emptyCross) :
    ∃ t, exec (.halt st k) s = .next t ∧ HaltAlone s t st ∧ t.now = s.now
      ∧ t.arbiter = { s.arbiter with owner := .ending, timer := none, record := some ((s.crossEnded r (.halt k)).taken k) }
      ∧ t.sluice .cross = (s.sluice .cross).shutBy s.sluiceExpiry ∧ (∀ j e, t.sluice (.chamber j e) = s.sluice (.chamber j e))
      ∧ t.drive.sent = s.drive.sent ++ [⟨.sluice .cross, .move 0, false⟩]
      ∧ t.chamber k.other = s.chamber k.other
      ∧ t.chamber k =
        { s.chamber k with
          state := .halted, interrupted := some (s.chamber k).state, haltCause := some .request, pendingOrder := none, phase := none
          water := (s.chamber k).water.map fun w =>
            { w with start := r.start.get k, crossed := true, crossEnd := s.level k.body } } := by
  obtain ⟨open_, -⟩ := SluiceRec.shutBy_open away
  have away' : k.other ≠ k := by cases k <;> nofun
  let v := (s.validFrame st).setChamber k (s.chamber k).halting
  obtain ⟨y, leaves, left, arbiter, other, sluices, cross, sent⟩ :=
    leaveCross_ends (s := v) (k := k) (cause := .halt k) engaged record unwished open_
  obtain ⟨t, run, frame, drive, levels, tarbiter, now, own, tother⟩ := halt_leaves takes present calm rest crossing leaves left
  have vk : v.chamber k = (s.chamber k).halting := (State.setChamber_chamber ..).trans (if_pos rfl)
  have vo : v.chamber k.other = s.chamber k.other := (State.setChamber_chamber ..).trans (if_neg away')
  refine ⟨t, run, left.halted ⟨rfl, rfl⟩ drive levels frame, now, tarbiter.trans arbiter, (sluice_of_drive drive .cross).trans cross,
    fun j e => (sluice_of_drive drive _).trans ?_, ?_, tother.trans (other.trans vo), own.trans ?_⟩
  · rcases Chamber.eq_or_other j k with rfl | ⟨rfl, -⟩
    · exact left.sluices e
    · exact sluices e
  · rw [drive]; exact sent
  · rw [vk, takenWater_fresh (r := v.crossEnded r (.halt k)) untaken]
    cases k <;> rfl

/-- R70, R71, R72: the cross sluice SHUT already. -/
theorem halt_hands (undelivered : r.delivered = ⟨false, false⟩) (shut : (s.sluice .cross).state = .shut)
    (step : (s.sluice .cross).step = some 0) {kind : WaterKind} (kinded : kind = if k.other = r.filling then .fill else .empty)
    (crossing : (s.chamber k).state = .fillCross ∨ (s.chamber k).state = .emptyCross) (crosses : (s.chamber k.other).state = kind.cross)
    (unequal : s.pair (.across kind.side k.other) ≠ .equalised) (foot : (s.sluice (.chamber k.other kind.side)).atFoot)
    (limit : 0 < s.headLimit (.chamber k.other kind.side)) (passes : s.judge (.sluice (.chamber k.other kind.side)) (.move 1) = none) :
    ∃ t, exec (.halt st k) s = .next t ∧ HaltAlone s t st ∧ t.arbiter = ⟨.idle, ⟨none, none⟩, none, none⟩
      ∧ t.sluice .cross = { s.sluice .cross with ramp := none }
      ∧ t.sluice (.chamber k.other kind.side) =
        (s.sluice (.chamber k.other kind.side)).movedTo 1 s.sluiceExpiry (some (firstStep k.other s.now))
      ∧ (∀ x, x ≠ .chamber k.other kind.side → x ≠ .cross → t.sluice x = s.sluice x)
      ∧ t.drive.sent = s.drive.sent ++ [⟨.sluice (.chamber k.other kind.side), .move 1, false⟩]
      ∧ t.chamber k =
        { s.chamber k with
          state := .halted, interrupted := some (s.chamber k).state, haltCause := some .request, pendingOrder := none, phase := none
          water := (s.chamber k).water.map fun w =>
            { w with start := r.start.get k, crossed := true, crossEnd := s.level k.body } }
      ∧ t.chamber k.other = Sequencer.inPhase
        { s.chamber k.other with
          water := (s.chamber k.other).water.map fun w =>
            { w with start := r.start.get k.other, crossed := true, crossEnd := s.level k.other.body } } kind s.newPhase := by
  have away' : k.other ≠ k := by cases k <;> nofun
  let v := (s.validFrame st).setChamber k (s.chamber k).halting
  have vk : v.chamber k = (s.chamber k).halting := (State.setChamber_chamber ..).trans (if_pos rfl)
  have vo : v.chamber k.other = s.chamber k.other := (State.setChamber_chamber ..).trans (if_neg away')
  obtain ⟨y, leaves, left, arbiter, other, cross, sluice, sent, others⟩ :=
    leaveCross_hands (s := v) (k := k) (cause := .halt k) engaged record unwished undelivered shut step kinded (by rw [vo]; exact crosses)
      unequal foot limit
      ((judgeSluice_of_drive (s := s) (t := v) rfl rfl rfl rfl _ _ _).trans passes)
  obtain ⟨t, run, frame, drive, levels, tarbiter, -, own, tother⟩ := halt_leaves takes present calm rest crossing leaves left
  have untaken (j : Chamber) : r.delivered.get j = false := by
    rw [undelivered]
    cases j <;> rfl
  refine ⟨t, run, left.halted ⟨rfl, rfl⟩ drive levels frame, tarbiter.trans arbiter, (sluice_of_drive drive _).trans cross,
    (sluice_of_drive drive _).trans sluice, fun x out away => (sluice_of_drive drive x).trans ?_, ?_, own.trans ?_, tother.trans (other.trans ?_)⟩
  · exact others x out away
  · rw [drive]; exact sent
  · rw [vk, takenWater_fresh (r := v.crossEnded r (.halt k)) (untaken k)]
    cases k <;> rfl
  · rw [vo, takenWater_fresh (r := v.crossEnded r (.halt k)) (untaken k.other)]
    cases k <;> rfl

end Halt

end Sys2Proof.Machine
end

section
/-! SUPPORT. The cross phase ended by its pair and by its limit (R70). -/

namespace Sys2Proof.Machine

/-- R70: a cross sluice above 0, or on its way there, is ordered to 0, and the arbiter waits for it. -/
theorem State.closeCross_open {s : State} {r : CrossRec} (record : s.arbiter.record = some r) (open_ : (s.sluice .cross).stands 0 = false)
    (cause : CrossEnd) :
    CrossOrdered s (s.closeCross cause) ∧ (s.closeCross cause).sluice .cross = (s.sluice .cross).shutBy s.sluiceExpiry
      ∧ (s.closeCross cause).arbiter = { s.arbiter with owner := .ending, timer := none, record := some (s.crossEnded r cause) }
      ∧ (s.closeCross cause).drive.sent = s.drive.sent ++ [⟨.sluice .cross, .move 0, false⟩] := by
  have ordered := s.endCross_ordered cause
  obtain ⟨cross, arbiter, sent⟩ := s.endCross_facts cause
  rw [record] at arbiter
  rw [open_] at sent
  have moving : ((s.endCross cause).sluice .cross).state = .moving := by
    rw [cross]
    unfold SluiceRec.shutBy
    rw [open_]
    rfl
  have still : s.closeCross cause = s.endCross cause :=
    State.crossDone_still (.inr (by unfold State.sluiceShut; rw [moving]; rfl))
  rw [still]
  exact ⟨ordered, cross, arbiter, sent⟩

theorem CrossOrdered.calm {s t : State} (h : CrossOrdered s t) (calm : s.Calm) : t.Calm := by
  rw [h.frame]
  exact calm

/-- What the end of an event leaves of the cross sluice's order. -/
theorem CrossOrdered.others {s t : State} (h : CrossOrdered s t) : SameOthers s t.derive (.sluice .cross) :=
  ⟨fun k e _ => h.gates k e, fun q out => h.sluices q (fun same => out (by rw [same])), h.guards⟩

section Engaged

variable {s : State} {r : CrossRec} {m : Nat} (calm : s.Calm) (engaged : s.arbiter.owner = .engaged) (record : s.arbiter.record = some r)
  (away : (s.sluice .cross).state = .held ∧ (s.sluice .cross).step = some (m + 1)
    ∨ (s.sluice .cross).state = .moving ∧ (s.sluice .cross).target = some (.step (m + 1)))

include calm engaged record away

/-- R70: the pair of the phase becomes EQUALISED. -/
theorem settleExpiry_ends {x : Nat} (present : s.crossPresent = true) (settling : s.pair .cross = .settling x) :
    ∃ w, exec (.settleExpiry .cross) s = .next w.derive
      ∧ CrossOrdered ((s.reach (x + seconds s.settings.eqSettle)).setPair .cross .equalised) w
      ∧ w.sluice .cross = (s.sluice .cross).shutBy (s.reach (x + seconds s.settings.eqSettle)).sluiceExpiry
      ∧ w.arbiter = { s.arbiter with owner := .ending, timer := none, record := some (s.crossEnded r .equalised) }
      ∧ w.drive.sent = s.drive.sent ++ [⟨.sluice .cross, .move 0, false⟩] := by
  let v := (s.reach (x + seconds s.settings.eqSettle)).setPair .cross .equalised
  obtain ⟨ordered, cross, arbiter, sent⟩ :=
    State.closeCross_open (s := v) record (SluiceRec.shutBy_open away).1 .equalised
  have told : v.tellEqualised .cross = v.closeCross .equalised := by
    have ends : v.equalised .cross = v.closeCross .equalised := by
      refine if_pos ?_
      have here : v.crossPresent = true := present
      have owner : v.arbiter.owner = .engaged := engaged
      rw [here, owner]
      rfl
    unfold State.tellEqualised
    rw [ends]
    exact settle_nil _ _ (ordered.calm calm).1
  have unread : (v.closeCross .equalised).retries (.pair .cross) = v.closeCross .equalised := by
    refine State.retries_unread _ _ (fun q _ c _ _ => ?_) (fun k e c _ => ?_)
    · cases c <;> rcases q with ⟨k, e⟩ | _ <;> rfl
    · cases c <;> rfl
  refine ⟨v.closeCross .equalised, ?_, ordered, cross, arbiter, sent⟩
  show execSettleExpiry .cross s = _
  unfold execSettleExpiry
  rw [settling]
  show Host.Outcome.next (((v.tellEqualised .cross).retries (.pair .cross)).finish) = _
  rw [told, unread, State.finish_calm (ordered.calm calm)]

/-- R70: the limit of the phase. -/
theorem crossSlow_ends {x : Nat} (timer : s.arbiter.timer = some x) :
    ∃ w, exec .crossSlow s = .next w.derive
      ∧ CrossOrdered ((s.reach x).raiseFault .crossSlow (.sluice .cross)) w
      ∧ w.sluice .cross = (s.sluice .cross).shutBy (s.reach x).sluiceExpiry
      ∧ w.arbiter = { s.arbiter with owner := .ending, timer := none, record := some (s.crossEnded r .limit) }
      ∧ w.drive.sent = s.drive.sent ++ [⟨.sluice .cross, .move 0, false⟩] := by
  let u := s.reach x
  have raised := u.raiseFault_moved .crossSlow (.sluice .cross)
  have drive : (u.raiseFault .crossSlow (.sluice .cross)).drive = s.drive := State.raiseFault_drive' ..
  have levels : (u.raiseFault .crossSlow (.sluice .cross)).levels = s.levels := (State.raiseFault_frame ..) ▸ rfl
  have arbiter : (u.raiseFault .crossSlow (.sluice .cross)).arbiter = s.arbiter := raised.arbiter
  have ucalm : (u.raiseFault .crossSlow (.sluice .cross)).Calm := by
    rw [raised.frame]
    exact calm
  have expiry : (u.raiseFault .crossSlow (.sluice .cross)).sluiceExpiry = u.sluiceExpiry := by
    rw [raised.frame]
    rfl
  have run : exec .crossSlow s = .next (((u.raiseFault .crossSlow (.sluice .cross)).closeCross .limit).finish) := by
    show execCrossSlow s = _
    unfold execCrossSlow
    rw [engaged, timer]
  generalize u.raiseFault .crossSlow (.sluice .cross) = v at *
  have cross (q : Sluice) : v.sluice q = s.sluice q := sluice_of_drive drive q
  obtain ⟨ordered, cross', arbiter', sent⟩ :=
    State.closeCross_open (s := v) (by rw [arbiter]; exact record) (by rw [cross]; exact (SluiceRec.shutBy_open away).1) .limit
  refine ⟨v.closeCross .limit, run.trans (by rw [State.finish_calm (ordered.calm ucalm)]), ordered, ?_, ?_, ?_⟩
  · rw [cross', cross, expiry]
  · have level (b : Body) : v.level b = s.level b := by simp only [State.level, State.body, levels]
    rw [arbiter', arbiter]
    unfold State.crossEnded
    rw [level, level]
  · rw [sent, drive]

end Engaged

end Sys2Proof.Machine
end

section
/-! SUPPORT. The end of a cross phase handed to both chambers (R71). -/

namespace Sys2Proof.Machine

/-! ## A ramp started touches its own sluice alone -/

theorem State.moveSluice_actuator (s : State) (q : Sluice) (n : Nat) : ActuatorMoved s (s.moveSluice q n).1 (.sluice q) := by
  rw [State.moveSluice_eq]
  split
  · exact .refl s _
  · split
    · exact .refl s _
    · exact s.sendMove_actuator q n

theorem State.rampOrder_actuator (s : State) (q : Sluice) (r : Ramp) : ActuatorMoved s (s.rampOrder q r) (.sluice q) := by
  have moved := s.moveSluice_actuator q r.next
  unfold State.rampOrder
  generalize s.moveSluice q r.next = p at moved ⊢
  obtain ⟨t, result⟩ := p
  cases result with
  | refused c => exact setRamp_actuator ..
  | complete => exact moved.trans (setRamp_actuator ..)
  | sent => exact moved.trans (setRamp_actuator ..)

theorem State.startRamp_actuator (s : State) (q : Sluice) (who : Requester) (n : Nat) :
    ActuatorMoved s (s.startRamp q who n) (.sluice q) := by
  unfold State.startRamp
  dsimp only
  split
  · exact setRamp_actuator ..
  · split
    · exact setRamp_actuator ..
    · unfold State.rampDecide
      (repeat' split)
      · exact setRamp_actuator ..
      · exact setRamp_actuator ..
      · exact setRamp_actuator ..
      · exact setRamp_actuator ..
      · exact s.rampOrder_actuator q _

/-- R45: a phase proper begins on a pair that is not EQUALISED: the chamber's own sluice has a ramp, and no more of the plant changes. -/
theorem State.enterPhase_starts {s : State} {k : Chamber} {kind : WaterKind} (unequal : s.pair (.across kind.side k) ≠ .equalised) :
    ActuatorMoved (s.beginPhase k kind) (s.enterPhase k kind) (.sluice (.chamber k kind.side))
      ∧ PlantOnly (s.beginPhase k kind) (s.enterPhase k kind) := by
  have ramps : s.enterPhase k kind = (s.beginPhase k kind).startRamp (.chamber k kind.side) (.sequencer k) 8 :=
    if_neg fun equal => unequal (of_decide_eq_true equal)
  rw [ramps]
  exact ⟨State.startRamp_actuator .., State.startRamp_plant ..⟩

/-! ## One chamber -/

/-- R71: a chamber's sequencer once the end of the phase has been handed to it. -/
def Sequencer.handed (c : Sequencer) (k : Chamber) (kind : WaterKind) (r : CrossRec) (p : PhaseTimer) : Sequencer :=
  if r.delivered.get k = true then c
  else
    let taken := { c with
      water := c.water.map fun w => { w with start := r.start.get k, crossed := true, crossEnd := r.stop.get k } }
    if c.state = kind.cross then taken.inPhase kind p else taken

/-- R71: the end of a phase with record `r` has been handed to chamber k. -/
structure EndHanded (s t : State) (k : Chamber) (kind : WaterKind) (r : CrossRec) : Prop where
  frame : t = { s with drive := t.drive, levels := t.levels, chambers := t.chambers, arbiter.record := some (r.taken k) }
  core : t.core = s.core
  guards : SameGuards s t
  line : SameLine s t
  own : t.chamber k = (s.chamber k).handed k kind r s.newPhase
  other : t.chamber k.other = s.chamber k.other
  gates : ∀ j e, t.gate j e = s.gate j e
  sluices : ∀ q, q ≠ .chamber k kind.side → t.sluice q = s.sluice q

theorem CrossRec.taken_taken {r : CrossRec} {k : Chamber} (taken : r.delivered.get k = true) : r.taken k = r := by
  have same : r.delivered.set k true = r.delivered := by rw [← taken, PerChamber.set_get]
  unfold CrossRec.taken
  rw [same]

theorem State.deliverEnd_handed {s : State} {k : Chamber} {kind : WaterKind} {r : CrossRec} (record : s.arbiter.record = some r)
    (unequal : s.pair (.across kind.side k) ≠ .equalised) : EndHanded s (s.deliverEnd k kind) k kind r := by
  have away : k.other ≠ k := by cases k <;> nofun
  cases taken : r.delivered.get k with
  | true =>
    rw [State.deliverEnd_taken record taken]
    refine ⟨?_, rfl, ⟨rfl, rfl, rfl⟩, ⟨rfl, rfl⟩, (if_pos taken).symm, rfl, fun _ _ => rfl, fun _ _ => rfl⟩
    rw [CrossRec.taken_taken taken, ← record]
  | false =>
    obtain ⟨u, hu⟩ : ∃ u, s.deliver k = u := ⟨_, rfl⟩
    have frame : u = { s with chambers := u.chambers, arbiter.record := some (r.taken k) } := by
      rw [← hu, State.deliver_eq, record]
      rfl
    have core : u.core = s.core := by rw [← hu, State.deliver_core]
    have drive : u.drive = s.drive := by rw [frame]
    have own : u.chamber k = { s.chamber k with
        water := (s.chamber k).water.map fun w => { w with start := r.start.get k, crossed := true, crossEnd := r.stop.get k } } := by
      rw [← hu, State.deliver_chamber, if_pos rfl, record, takenWater_fresh taken]
    have other : u.chamber k.other = s.chamber k.other := by
      rw [← hu, State.deliver_chamber, if_neg away]
    have levels : u.levels = s.levels := by rw [frame]
    by_cases crossing : (s.chamber k).state = kind.cross
    · have handed : ∀ c : Sequencer, c.state = kind.cross → c.handed k kind r s.newPhase = Sequencer.inPhase { c with
          water := c.water.map fun w => { w with start := r.start.get k, crossed := true, crossEnd := r.stop.get k } } kind s.newPhase :=
        fun c h => (if_neg (by rw [taken]; nofun)).trans (if_pos h)
      have enters := State.deliverEnd_enters record taken crossing
      rw [hu] at enters
      have pairs : u.pair (.across kind.side k) = s.pair (.across kind.side k) := by simp only [State.pair, levels]
      obtain ⟨moved, plant⟩ := State.enterPhase_starts (s := u) (k := k) (kind := kind) (by rw [pairs]; exact unequal)
      rw [enters]
      have phase : u.newPhase = s.newPhase := by rw [frame]; rfl
      generalize u.enterPhase k kind = t at moved plant ⊢
      have plant' : t = { u.beginPhase k kind with drive := t.drive, levels := t.levels } := plant
      have guards : SameGuards u t := moved.guards
      have line : SameLine u t := moved.line
      refine ⟨?_, moved.core.trans core, ?_, ?_, ?_, ?_, fun j e => ?_, fun q out => ?_⟩
      · have begins : u.beginPhase k kind = { u with chambers := (u.beginPhase k kind).chambers } := rfl
        generalize u.beginPhase k kind = b at plant' begins
        have chambers : t.chambers = b.chambers := by rw [plant']
        rw [chambers]
        generalize t.drive = D at plant' ⊢
        generalize t.levels = L at plant' ⊢
        generalize b.chambers = C at begins ⊢
        generalize u.chambers = C' at frame
        rw [plant', begins, frame]
      · exact ⟨by rw [← drive]; exact guards.1, by rw [← drive]; exact guards.2.1, by rw [← levels]; exact guards.2.2⟩
      · exact ⟨by rw [← drive]; exact line.1, by rw [← drive]; exact line.2⟩
      · rw [moved.chamber, State.beginPhase_chamber, if_pos rfl, own, phase, handed _ crossing]
      · rw [moved.chamber, State.beginPhase_chamber, if_neg away, other]
      · exact (moved.gates j e nofun).trans (gate_of_drive drive j e)
      · exact (moved.sluices q (fun same => out (by injection same with same; exact same.symm))).trans (sluice_of_drive drive q)
    · have stays : s.deliverEnd k kind = u := by
        unfold State.deliverEnd
        rw [record]
        refine (if_neg (by rw [taken]; nofun)).trans ((if_neg ?_).trans hu)
        rw [hu, own]
        exact crossing
      rw [stays]
      refine ⟨?_, core, ⟨by rw [drive], by rw [drive], by rw [levels]⟩, ⟨by rw [drive], by rw [drive]⟩, ?_, other,
        gate_of_drive drive, fun q _ => sluice_of_drive drive q⟩
      · rw [drive, levels]
        exact frame
      · rw [own]
        exact ((if_neg (by rw [taken]; nofun)).trans (if_neg crossing)).symm

end Sys2Proof.Machine
end

section
/-! SUPPORT. The cross sluice's report of step 0 at the end of a phase (R71). -/

namespace Sys2Proof.Machine

/-! ## Both chambers -/

/-- R68: the kind of water phase a chamber has in a cross phase. -/
def CrossRec.kindOf (r : CrossRec) (k : Chamber) : WaterKind := if k = r.filling then .fill else .empty

/-- R71: the end of a phase with record `r` has been handed to both chambers, and the arbiter is IDLE. -/
structure CrossOver (s t : State) (r : CrossRec) : Prop where
  frame : t = { s with
    drive := t.drive, levels := t.levels, chambers := t.chambers, arbiter.owner := .idle, arbiter.record := none }
  core : t.core = s.core
  guards : SameGuards s t
  line : SameLine s t
  chambers : ∀ k, t.chamber k = (s.chamber k).handed k (r.kindOf k) r s.newPhase
  gates : ∀ k e, t.gate k e = s.gate k e
  sluices : ∀ q, (∀ k, q ≠ .chamber k (r.kindOf k).side) → t.sluice q = s.sluice q

theorem Sequencer.handed_taken {c : Sequencer} {k : Chamber} (kind : WaterKind) (r : CrossRec) (p : PhaseTimer) :
    c.handed k.other kind (r.taken k) p = c.handed k.other kind r p := by
  have same : (r.taken k).delivered.get k.other = r.delivered.get k.other :=
    (PerChamber.get_set ..).trans (if_neg (by cases k <;> nofun))
  unfold Sequencer.handed
  rw [same]
  rfl

theorem State.crossDone_over {s : State} {r : CrossRec} (ending : s.arbiter.owner = .ending) (shut : (s.sluice .cross).state = .shut)
    (record : s.arbiter.record = some r) (unequal : ∀ k, s.pair (.across (r.kindOf k).side k) ≠ .equalised) :
    CrossOver s s.crossDone r := by
  have filling : r.kindOf r.filling = .fill := if_pos rfl
  have emptying : r.kindOf r.filling.other = .empty := if_neg (by cases r.filling <;> nofun)
  have away : r.filling ≠ r.filling.other := by cases r.filling <;> nofun
  have twice : r.filling.other.other = r.filling := by cases r.filling <;> rfl
  have first := State.deliverEnd_handed (k := r.filling) (kind := .fill) record (by rw [← filling]; exact unequal _)
  obtain ⟨u, hu⟩ : ∃ u, s.deliverEnd r.filling .fill = u := ⟨_, rfl⟩
  rw [hu] at first
  have levels : SameLevels s u := SameLevels.of_core first.core
  have urecord : u.arbiter.record = some (r.taken r.filling) := by rw [first.frame]
  have second := State.deliverEnd_handed (s := u) (k := r.filling.other) (kind := .empty) urecord
    (by rw [levels.2.1, ← emptying]; exact unequal _)
  have done := State.crossDone_delivers ending shut record
  rw [hu] at done
  rw [done]
  have phase : u.newPhase = s.newPhase := by rw [first.frame]; rfl
  obtain ⟨v, hv⟩ : ∃ v, u.deliverEnd r.filling.other .empty = v := ⟨_, rfl⟩
  rw [hv] at second ⊢
  obtain ⟨t, ht⟩ : ∃ t : State, { v with arbiter.owner := .idle, arbiter.record := none } = t := ⟨_, rfl⟩
  have tframe : t = { v with arbiter.owner := .idle, arbiter.record := none } := ht.symm
  rw [ht]
  have drive : t.drive = v.drive := by rw [tframe]
  have tlevels : t.levels = v.levels := by rw [tframe]
  have tchambers : t.chambers = v.chambers := by rw [tframe]
  have core : t.core = v.core := by rw [tframe]; rfl
  have uframe := first.frame
  have vframe := second.frame
  refine ⟨?_, core.trans (second.core.trans first.core), ⟨?_, ?_, ?_⟩, ⟨?_, ?_⟩, fun k => ?_, fun k e => ?_, fun q out => ?_⟩
  · rw [drive, tlevels, tchambers]
    generalize u.drive = D at uframe
    generalize u.levels = L at uframe
    generalize u.chambers = C at uframe
    generalize v.drive = D' at vframe ⊢
    generalize v.levels = L' at vframe ⊢
    generalize v.chambers = C' at vframe ⊢
    rw [tframe, vframe, uframe]
  · rw [drive]; exact second.guards.1.trans first.guards.1
  · rw [drive]; exact second.guards.2.1.trans first.guards.2.1
  · rw [tlevels]; exact second.guards.2.2.trans first.guards.2.2
  · rw [drive]; exact second.line.1.trans first.line.1
  · rw [drive]; exact second.line.2.trans first.line.2
  · rw [chamber_of_chambers tchambers]
    rcases Chamber.eq_or_other k r.filling with same | ⟨same, -⟩
    · have other := second.other
      rw [twice] at other
      rw [same, other, filling]
      exact first.own
    · have own := second.own
      rw [first.other, phase, Sequencer.handed_taken] at own
      rw [same, emptying]
      exact own
  · rw [gate_of_drive drive]
    exact (second.gates k e).trans (first.gates k e)
  · rw [sluice_of_drive drive]
    refine (second.sluices q ?_).trans (first.sluices q ?_)
    · rw [← emptying]; exact out _
    · have kept := out r.filling
      rw [filling] at kept
      exact kept

/-! ## The report of step 0 -/

theorem crossReport_ends {s : State} {r : CrossRec} (calm : s.Calm) (kept : s.NothingKept) (present : s.crossPresent = true)
    (ending : s.arbiter.owner = .ending) (record : s.arbiter.record = some r) (head : s.drive.polls.head? = some (.sluice .cross))
    (moving : (s.sluice .cross).state = .moving)
    (expected : (s.sluice .cross).target = some (.step 0) ∨ (s.sluice .cross).target = some .stop)
    (unramped : (s.sluice .cross).ramp = none) (unequal : ∀ k, s.pair (.across (r.kindOf k).side k) ≠ .equalised) :
    ∃ u, exec (.sluiceReport .cross 0) s = .next u.derive ∧ CrossOver ((s.pollClosed.atStep .cross 0).derive) u r
      ∧ (s.pollClosed.atStep .cross 0).sluice .cross = { state := .shut, step := some 0 } := by
  obtain ⟨told, own⟩ := s.pollClosed.atStep_told (q := .cross) unramped 0
  have run := exec_sluiceReport (s := s) (q := .cross) (n := 0) present head (Nat.zero_le 8)
  rw [State.applySluiceReport_reaches (s := s.pollClosed) (q := .cross) moving expected,
    State.sluiceReaches_eq (s := s.pollClosed) (q := .cross) unramped] at run
  generalize s.pollClosed.atStep .cross 0 = w at *
  have wcalm : w.Calm := told.calm calm
  have pushed : w.noteSluice .cross = { w with agenda := [.crossShut] } := push_nil wcalm.1 _
  have wkept : w.NothingKept := by
    refine NothingKept.of_moved (s := s.pollClosed) kept told.toActuatorMoved fun q r same ramp => ?_
    injection same with same
    rw [← same, own] at ramp
    cases ramp
  have asked : (w.noteSluice .cross).retries (.drive (.sluice .cross)) = w.noteSluice .cross :=
    State.retries_kept (by rw [pushed]; exact wkept) _
  have arbiter : w.arbiter = s.arbiter := told.arbiter
  have levels : SameLevels s.pollClosed w := SameLevels.of_core told.core
  have handed := State.crossDone_over (s := w.derive) (r := r) (by show w.arbiter.owner = _; rw [arbiter]; exact ending)
    (by show (w.sluice .cross).state = _; rw [own]; rfl) (by show w.arbiter.record = _; rw [arbiter]; exact record)
    (fun k => by rw [show w.derive.pair (.across (r.kindOf k).side k) = w.pair (.across (r.kindOf k).side k) from rfl, levels.2.1]; exact unequal k)
  have ucalm : w.derive.crossDone.Calm := by
    rw [handed.frame]
    exact wcalm
  have cleared : ({ w.noteSluice .cross with agenda := [] } : State) = w := by
    rw [pushed, ← wcalm.1]
  have ends : (w.noteSluice .cross).finish = w.derive.crossDone.derive :=
    State.finish_one (task := .crossShut) (by rw [pushed]) (by rw [cleared]; rfl) ucalm
  refine ⟨w.derive.crossDone, run.trans ?_, handed, own⟩
  rw [State.driveEvent, asked, ends]

end Sys2Proof.Machine
end

section
/-! SUPPORT. An offer made by a request: a directed FILL or EMPTY, or SET MODE in a shut rest state (R41, R59, R65). -/

namespace Sys2Proof.Machine

/-- R59, R41: the requests that offer chamber k's phase of a kind to the arbiter, with the code of the request and the sequencer's
record at the offer. -/
def State.Offers (s : State) (st : Station) (k : Chamber) (kind : WaterKind) (c : Instr) (n : Nat) (own : Sequencer) : Prop :=
  kind = .fill ∧ c = .fill st k true ∧ n = 0x3B ∧ own = s.chamber k
    ∨ kind = .empty ∧ c = .empty st k true ∧ n = 0x3C ∧ own = s.chamber k
    ∨ c = .setMode st k .automatic ∧ n = 0x32 ∧ own = { s.chamber k with mode := .automatic }
      ∧ (∃ b, s.batch k = some b
        ∧ (b.state = .bound ∧ b.direction.entryEnd = kind.side ∨ b.state = .secured ∧ b.direction.exitEnd = kind.side))

/-- R44: the water record with which chamber k makes its offer. -/
def State.newWater (s : State) (k : Chamber) (kind : WaterKind) : WaterRec := ⟨kind, s.batchNumber k, s.level k.body, false, none⟩

/-- The state in which the offer is made. -/
def State.Offering (s : State) (st : Station) (k : Chamber) (kind : WaterKind) (own : Sequencer) (y : State) : Prop :=
  y = { s.validFrame st with
    chambers := s.chambers.set k { own with water := some (s.newWater k kind) }, signals := y.signals }

theorem State.phaseReply_ok {t : State} {k : Chamber} {kind : WaterKind}
    (unrefused : (t.chamber k).crossed = true ∨ t.firstRefused (.chamber k kind.side) = none) (o : ReplyOutcome) :
    t.phaseReply k kind o = t.done o := by
  unfold State.phaseReply
  rcases unrefused with crossed | refused
  · rw [crossed]
    rfl
  · rw [refused]
    split
    · next h =>
      split at h <;> cases h
    · rfl

section Offer

variable {s : State} {st : Station} {k : Chamber} {kind : WaterKind} (takes : s.takes st) (held : s.holder k = some st)
  (present : s.chamberPresent k = true) (calm : s.Calm) (directed : (s.chamber k).mode = .directed)
  (ends : (s.chamber k).state = kind.other.ends)

include takes held present directed ends in
/-- R59: a directed FILL or EMPTY. -/
theorem directPhase_offers {code : Nat} {judge : State → Judged}
    (asks : ∀ v, judge v = v.directed st k fun u => u.directPhase k kind true) :
    ∃ y, s.Offering st k kind (s.chamber k) y ∧ ∀ w, y.offer k kind = w → w.Calm →
      (w.chamber k).crossed = true ∨ w.firstRefused (.chamber k kind.side) = none →
      w = { s.validFrame st with
        drive := w.drive, levels := w.levels, chambers := w.chambers, arbiter := w.arbiter, signals := w.signals } →
      ∃ S, s.exchange st code judge = .next { s.answered st code .ok [] with
        drive := w.drive, levels := w.levels, chambers := w.chambers, arbiter := w.arbiter, signals := S } := by
  refine ⟨(s.validFrame st).openWater k kind, rfl, fun w offered wcalm unrefused frame => ?_⟩
  have live : (s.chamber k).state.live = true := by
    rw [ends]
    cases kind <;> rfl
  have judged : judge (s.validFrame st) = (w.derive, some (.ok, [])) := by
    rw [asks, State.directed_own (s := s.validFrame st) present held directed live]
    refine (if_pos ends).trans ?_
    show (((s.validFrame st).openWater k kind).offer k kind).phaseReply k kind .ok = _
    rw [offered, State.phaseReply_ok unrefused, State.done, State.finish_calm wcalm]
  have book : w.book = s.book := by rw [frame]; rfl
  obtain ⟨S, run⟩ := State.exchange_steps (code := code) takes judged (by
    rw [book]
    exact frame)
  rw [book] at run
  exact ⟨S, run⟩

theorem WaterKind.ends_rest (kind : WaterKind) : kind.other.ends.rest = some (kind.other.side, false) := by cases kind <;> rfl

include takes held present calm directed ends in
/-- R41: SET MODE in a shut rest state whose batch is to go the other way. -/
theorem setMode_offers {b : Batch} (batch : s.batch k = some b) (wants : b.wants = some kind.side) :
    ∃ y, s.Offering st k kind { s.chamber k with mode := .automatic } y ∧ ∀ w, y.offer k kind = w → w.Calm →
      w = { s.validFrame st with
        drive := w.drive, levels := w.levels, chambers := w.chambers, arbiter := w.arbiter, signals := w.signals } →
      ∃ S, exec (.setMode st k .automatic) s = .next { s.answered st 0x32 .ok [] with
        drive := w.drive, levels := w.levels, chambers := w.chambers, arbiter := w.arbiter, signals := S } := by
  let y := (s.automatic st k).derive
  have own : y.chamber k = { s.chamber k with mode := .automatic } := State.automatic_own
  refine ⟨y.openWater k kind, ?_, fun w offered wcalm frame => ?_⟩
  · have chambers : (y.openWater k kind).chambers
        = s.chambers.set k { ({ s.chamber k with mode := .automatic } : Sequencer) with water := some (s.newWater k kind) } := by
      show y.chambers.set k { y.chamber k with water := _ } = _
      rw [own]
      exact PerChamber.set_set ..
    show y.openWater k kind = _
    rw [← chambers]
    rfl
  · have step : y.restStep k = w := by
      have table : restTable kind.other.side false b = .phase := by
        have away : kind.other.side.other = kind.side := by cases kind <;> rfl
        exact restTable_away (by rw [away]; exact wants) false
      rw [State.restStep_batch (s := y) (e := kind.other.side) (isOpen := false) batch (by rw [own, ← kind.ends_rest, ← ends]), table]
      refine (if_pos (by rw [own])).trans ?_
      have here : phaseFrom kind.other.side = kind := by cases kind <;> rfl
      rw [here]
      exact offered
    have finished : ((s.automatic st k).push (.rest k)).finish = w.derive := State.finish_push (s := s.automatic st k) calm step wcalm
    have book : w.book = s.book := by rw [frame]; rfl
    obtain ⟨S, run⟩ := setMode_steps takes held present directed finished (by
      rw [book]
      exact frame)
    rw [book] at run
    exact ⟨S, run⟩

include takes held present calm directed ends in
theorem exec_offers {c : Instr} {n : Nat} {own : Sequencer} (offers : s.Offers st k kind c n own) :
    ∃ y, s.Offering st k kind own y ∧ ∀ w, y.offer k kind = w → w.Calm →
      (w.chamber k).crossed = true ∨ w.firstRefused (.chamber k kind.side) = none →
      w = { s.validFrame st with
        drive := w.drive, levels := w.levels, chambers := w.chambers, arbiter := w.arbiter, signals := w.signals } →
      ∃ S, exec c s = .next { s.answered st n .ok [] with
        drive := w.drive, levels := w.levels, chambers := w.chambers, arbiter := w.arbiter, signals := S } := by
  rcases offers with ⟨rfl, rfl, rfl, rfl⟩ | ⟨rfl, rfl, rfl, rfl⟩ | ⟨rfl, rfl, rfl, b, batch, wanted⟩
  · exact directPhase_offers (code := 0x3B) (judge := judgeFill st k true) takes held present directed ends fun _ => rfl
  · exact directPhase_offers (code := 0x3C) (judge := judgeEmpty st k true) takes held present directed ends fun _ => rfl
  · have wants : b.wants = some kind.side := by
      unfold Batch.wants
      rcases wanted with ⟨state, here⟩ | ⟨state, here⟩ <;> rw [state, ← here]
    obtain ⟨y, offering, run⟩ := setMode_offers takes held present calm directed ends batch wants
    exact ⟨y, offering, fun w offered wcalm _ frame => run w offered wcalm frame⟩

end Offer

end Sys2Proof.Machine
end

section
/-! SUPPORT. The arbiter's answers to an offer (R65 to R68). -/

namespace Sys2Proof.Machine

/-! ## The offering state -/

section Offering

variable {s y : State} {st : Station} {k : Chamber} {kind : WaterKind} {c : Sequencer} (h : s.Offering st k kind c y)

include h

theorem State.Offering.drive : y.drive = s.drive := by rw [h]; rfl
theorem State.Offering.levels : y.levels = s.levels := by rw [h]; rfl
theorem State.Offering.arbiter : y.arbiter = s.arbiter := by rw [h]; rfl
theorem State.Offering.settings : y.settings = s.settings := by rw [h]; rfl
theorem State.Offering.loaded : y.loaded = s.loaded := by rw [h]; rfl
theorem State.Offering.now : y.now = s.now := by rw [h]; rfl
theorem State.Offering.sameLevels : SameLevels s y := (SameLevels.of_core (s := s) (t := s) rfl).of_levels rfl h.levels

theorem State.Offering.own : y.chamber k = { c with water := some (s.newWater k kind) } := by
  rw [h]
  exact (PerChamber.get_set ..).trans (if_pos rfl)

theorem State.Offering.other : y.chamber k.other = s.chamber k.other := by
  rw [h]
  exact (PerChamber.get_set ..).trans (if_neg (by cases k <;> nofun))

theorem State.Offering.accepts (cross : s.crossPresent = true) (service : (s.chamber k.other).state ≠ .outOfService)
    (unhalted : (s.chamber k.other).state ≠ .halted) (idle : s.arbiter.owner = .idle) (shut : (s.sluice .cross).state = .shut)
    (usable : (s.body k.body).handedState.usable = true) : y.declines k = false := by
  have here : y.crossPresent = true := by
    unfold State.crossPresent
    rw [h.loaded]
    exact cross
  have level : y.usable k.body = true := by
    rw [usable_of_levels h.sameLevels]
    exact usable
  unfold State.declines State.sluiceShut
  rw [here, h.other, h.arbiter, idle, sluice_of_drive h.drive, shut, level, decide_eq_false service, decide_eq_false unhalted]
  rfl

end Offering

/-! ## The answers -/

/-- R65: the wish posted. -/
theorem State.offer_posted {y : State} {k : Chamber} {kind : WaterKind} (accepts : y.declines k = false)
    (alone : ∀ w, y.wish k.other = some w → w.kind = kind) (waits : y.settings.crossWait ≠ 0) :
    y.offer k kind = (y.setWish k (some ⟨kind, y.now + seconds y.settings.crossWait⟩)).setChamberState k kind.wait := by
  have unpaired : ¬ (y.wish k.other).map (·.kind) = some kind.other := by
    cases wish : y.wish k.other with
    | none => nofun
    | some w =>
      rw [Option.map_some, alone w wish]
      cases kind <;> nofun
  unfold State.offer
  rw [if_neg (by rw [accepts]; nofun), if_neg unpaired, if_neg waits]

/-- R67: the chamber that fills, of the one that offers a phase and the other. -/
def WaterKind.filler (kind : WaterKind) (k : Chamber) : Chamber :=
  match kind with
  | .fill => k
  | .empty => k.other

/-- R67: a pair of values, of the chamber that offers and of the other one, in the order filling and emptying. -/
def WaterKind.ordered {α : Type} (kind : WaterKind) (x y : α) : α × α :=
  match kind with
  | .fill => (x, y)
  | .empty => (y, x)

/-- R66, R67: the other chamber waits with the opposite wish. -/
theorem State.offer_paired {y : State} {k : Chamber} {kind : WaterKind} {w : Wish} (accepts : y.declines k = false)
    (wish : y.wish k.other = some w) (opposite : w.kind = kind.other) :
    y.offer k kind = match y.gainTest (kind.filler k) with
      | some p => y.engage (kind.filler k) p.1 p.2
      | none => (y.proceedAlone k.other).enterPhase k kind := by
  unfold State.offer
  rw [if_neg (by rw [accepts]; nofun), if_pos (by rw [wish, ← opposite]; rfl)]
  dsimp only
  cases kind with
  | fill =>
    show (match y.gainTest k with | some (hf, he) => y.engage k hf he | none => _) = match y.gainTest k with | some _ => _ | none => _
    cases y.gainTest k <;> rfl
  | empty =>
    show (match y.gainTest k.other with | some (hf, he) => y.engage k.other hf he | none => _)
      = match y.gainTest k.other with | some _ => _ | none => _
    cases y.gainTest k.other <;> rfl

/-- R67: the gain test in the levels of the chamber that offers and of the other one. -/
theorem State.gainTest_eq {y : State} {k : Chamber} {h h' : Nat} (kind : WaterKind) (own : y.usableLevel k.body = some h)
    (other : y.usableLevel k.other.body = some h') :
    y.gainTest (kind.filler k) =
      if (kind.ordered h h').1 + y.settings.crossMinGain
          ≤ ((y.settings.chamber.get k).wetArea * h + (y.settings.chamber.get k.other).wetArea * h'
            + ((y.settings.chamber.get k).wetArea + (y.settings.chamber.get k.other).wetArea) / 2)
            / ((y.settings.chamber.get k).wetArea + (y.settings.chamber.get k.other).wetArea)
      then some (kind.ordered h h') else none := by
  have twice : k.other.other = k := by cases k <;> rfl
  cases kind with
  | fill =>
    show y.gainTest k = _
    unfold State.gainTest
    rw [own, other]
    rfl
  | empty =>
    show y.gainTest k.other = _
    unfold State.gainTest
    rw [twice, own, other, Nat.add_comm ((y.settings.chamber.get k).wetArea * h),
      Nat.add_comm (y.settings.chamber.get k).wetArea]
    rfl

/-! ## The pairing (R68) -/

/-- R68: the record of the cross phase of a pairing. -/
def WaterKind.pairing (kind : WaterKind) (k : Chamber) (h h' : Nat) : CrossRec :=
  { filling := kind.filler k, start := perChamber (kind.filler k) (some (kind.ordered h h').1) (some (kind.ordered h h').2)
    stop := ⟨none, none⟩, cause := none, delivered := ⟨false, false⟩ }

theorem WaterKind.pairing_start (kind : WaterKind) (k : Chamber) (h h' : Nat) :
    (kind.pairing k h h').start.get k = some h ∧ (kind.pairing k h h').start.get k.other = some h' := by
  cases kind <;> cases k <;> exact ⟨rfl, rfl⟩

theorem WaterKind.pairing_kind (kind : WaterKind) (k : Chamber) (h h' : Nat) :
    (kind.pairing k h h').kindOf k = kind ∧ (kind.pairing k h h').kindOf k.other = kind.other := by
  cases kind <;> cases k <;> exact ⟨rfl, rfl⟩

/-- R68: the pairing made: both chambers in their cross states, the arbiter with the phase's record and timer. -/
theorem State.paired_told (y : State) (k : Chamber) (kind : WaterKind) (h h' : Nat) :
    ∃ z, y.paired (kind.filler k) (kind.ordered h h').1 (kind.ordered h h').2 = z
      ∧ z = { y with
          chambers := z.chambers
          arbiter := ⟨.engaged, ⟨none, none⟩, some (y.now + seconds y.settings.crossLimit), some (kind.pairing k h h')⟩ }
      ∧ z.chamber k = { y.chamber k with state := kind.cross, pendingOrder := none }
      ∧ z.chamber k.other = { y.chamber k.other with state := kind.other.cross, pendingOrder := none } := by
  refine ⟨_, rfl, rfl, ?_, ?_⟩ <;> cases kind <;> cases k <;> rfl

end Sys2Proof.Machine
end

section
/-! SUPPORT. The cross sluice's ramp (R68), and the first orders of both chambers at the end of a phase (R71). -/

namespace Sys2Proof.Machine

/-- R68: the first step of the ramp of a cross phase, at `x`. -/
def crossStep (x : Nat) : Ramp := ⟨.arbiter, 8, 1, some x, false, .nothing⟩

/-- R68, R31: the first step of the cross sluice's ramp. -/
theorem State.startCross_orders {z : State} (engaged : z.arbiter.owner = .engaged) (closed : ∀ k e, (z.gate k e).state = .closed)
    (shut : ∀ k e, (z.sluice (.chamber k e)).state = .shut) (foot : (z.sluice .cross).state = .shut ∧ (z.sluice .cross).step = some 0)
    (limit : 0 < z.headLimit .cross) :
    SluiceOrdered z (z.startRamp .cross .arbiter 8) .cross 1 ((z.sluice .cross).movedTo 1 z.sluiceExpiry (some (crossStep z.now))) := by
  have three : z.clause3 = true := by
    have known : z.drive.crossSluice.state ≠ .unknown := by
      rw [show z.drive.crossSluice.state = .shut from foot.1]
      nofun
    simp [State.clause3, State.gatesClosed, State.gateClosed, State.sluiceShut, closed, shut, engaged, known]
  have passes : z.judge (.sluice .cross) (.move 1) = none := if_pos three
  have start := SluiceRec.atFoot_start (s := z) (q := .cross) (.inl foot)
  rw [State.startRamp_orders start (by decide) limit]
  exact State.rampOrder_sent (s := z) (r := ⟨.arbiter, 8, 1, none, true, .nothing⟩) (SluiceRec.atFoot_away (.inl foot)) passes

/-- R45, R31: a chamber's phase proper would begin with the first order of its ramp. -/
structure State.Starts (s : State) (k : Chamber) (kind : WaterKind) : Prop where
  unequal : s.pair (.across kind.side k) ≠ .equalised
  foot : (s.sluice (.chamber k kind.side)).atFoot
  limit : 0 < s.headLimit (.chamber k kind.side)
  passes : s.judge (.sluice (.chamber k kind.side)) (.move 1) = none

theorem State.Starts.of_plant {s t : State} {k : Chamber} {kind : WaterKind} (h : s.Starts k kind) (levels : SameLevels s t)
    (settings : t.settings = s.settings)
    (own : t.sluice (.chamber k kind.side) = s.sluice (.chamber k kind.side))
    (judged : t.judge (.sluice (.chamber k kind.side)) (.move 1) = s.judge (.sluice (.chamber k kind.side)) (.move 1)) :
    t.Starts k kind :=
  ⟨by rw [levels.2.1]; exact h.unequal, by rw [own]; exact h.foot, by rw [headLimit_of_levels levels settings]; exact h.limit,
    judged.trans h.passes⟩

/-- R71, R45: a chamber that leaves its cross state sends the first order of its own ramp. -/
theorem State.deliverEnd_ramps {s : State} {k : Chamber} {kind : WaterKind} {r : CrossRec} (record : s.arbiter.record = some r)
    (untaken : r.delivered.get k = false) (crossing : (s.chamber k).state = kind.cross) (starts : s.Starts k kind) :
    (s.deliverEnd k kind).sluice (.chamber k kind.side)
        = (s.sluice (.chamber k kind.side)).movedTo 1 s.sluiceExpiry (some (firstStep k s.now))
      ∧ (s.deliverEnd k kind).drive.sent = s.drive.sent ++ [⟨.sluice (.chamber k kind.side), .move 1, false⟩] := by
  obtain ⟨u, hu⟩ : ∃ u, s.deliver k = u := ⟨_, rfl⟩
  have frame : u = { s with chambers := u.chambers, arbiter.record := some (r.taken k) } := by
    rw [← hu, State.deliver_eq, record]
    rfl
  have drive : u.drive = s.drive := by rw [frame]
  have levels : u.levels = s.levels := by rw [frame]
  have settings : u.settings = s.settings := by rw [frame]
  have loaded : u.loaded = s.loaded := by rw [frame]
  have now : u.now = s.now := by rw [frame]
  have same : SameLevels s u := (SameLevels.of_core (s := s) (t := s) rfl).of_levels rfl levels
  obtain ⟨unequal, foot, limit, passes⟩ := starts.of_plant same settings (sluice_of_drive drive _)
    (judgeSluice_of_drive drive levels settings loaded _ _ _)
  have ordered := State.enterPhase_orders unequal foot limit passes
  have expiry : u.sluiceExpiry = s.sluiceExpiry := by rw [State.sluiceExpiry, State.sluiceExpiry, now, settings]
  rw [State.deliverEnd_enters record untaken crossing, hu]
  refine ⟨?_, ?_⟩
  · rw [ordered.sluice, sluice_of_drive drive, expiry, now]
  · rw [ordered.ordered]
    show u.drive.sent ++ _ = _
    rw [drive]

/-- R71, R45: both chambers leave their cross states with the first orders of their own ramps. -/
theorem State.crossDone_ramps {s : State} {r : CrossRec} (ending : s.arbiter.owner = .ending) (shut : (s.sluice .cross).state = .shut)
    (record : s.arbiter.record = some r) (undelivered : r.delivered = ⟨false, false⟩)
    (crossing : ∀ k, (s.chamber k).state = (r.kindOf k).cross) (starts : ∀ k, s.Starts k (r.kindOf k)) :
    (∀ k, s.crossDone.sluice (.chamber k (r.kindOf k).side)
        = (s.sluice (.chamber k (r.kindOf k).side)).movedTo 1 s.sluiceExpiry (some (firstStep k s.now)))
      ∧ s.crossDone.drive.sent = s.drive.sent ++ [⟨.sluice (.chamber r.filling .upper), .move 1, false⟩]
        ++ [⟨.sluice (.chamber r.filling.other .lower), .move 1, false⟩] := by
  have filling : r.kindOf r.filling = .fill := if_pos rfl
  have emptying : r.kindOf r.filling.other = .empty := if_neg (by cases r.filling <;> nofun)
  have away : r.filling.other ≠ r.filling := by cases r.filling <;> nofun
  have untaken (k : Chamber) : r.delivered.get k = false := by
    rw [undelivered]
    cases k <;> rfl
  have fills := starts r.filling
  have empties := starts r.filling.other
  have fillsIn := crossing r.filling
  have emptiesIn := crossing r.filling.other
  rw [filling] at fills fillsIn
  rw [emptying] at empties emptiesIn
  have first := State.deliverEnd_handed (k := r.filling) (kind := .fill) record fills.unequal
  have one := State.deliverEnd_ramps record (untaken _) fillsIn fills
  have done := State.crossDone_delivers ending shut record
  rw [done]
  generalize s.deliverEnd r.filling .fill = u at first one ⊢
  have levels : SameLevels s u := SameLevels.of_core first.core
  have settings : u.settings = s.settings := by rw [first.frame]
  have loaded : u.loaded = s.loaded := by rw [first.frame]
  have now : u.now = s.now := by rw [first.frame]
  have expiry : u.sluiceExpiry = s.sluiceExpiry := by rw [State.sluiceExpiry, State.sluiceExpiry, now, settings]
  have urecord : u.arbiter.record = some (r.taken r.filling) := by rw [first.frame]
  have kept (e : Side) : u.sluice (.chamber r.filling.other e) = s.sluice (.chamber r.filling.other e) :=
    first.sluices _ fun same => away (by injection same)
  have crossed : u.sluice .cross = s.sluice .cross := first.sluices .cross nofun
  have judged : u.judge (.sluice (.chamber r.filling.other .lower)) (.move 1)
      = s.judge (.sluice (.chamber r.filling.other .lower)) (.move 1) :=
    judgeSluice_of_plant levels settings loaded (fun e => first.gates _ e) (fun e => by rw [kept]) (by rw [crossed]) _ _
  have second := State.deliverEnd_handed (s := u) (k := r.filling.other) (kind := .empty) urecord
    (by rw [levels.2.1]; exact empties.unequal)
  have two := State.deliverEnd_ramps (s := u) (k := r.filling.other) (kind := .empty) urecord
    ((PerChamber.get_set ..).trans ((if_neg away).trans (untaken _))) (by rw [first.other]; exact emptiesIn)
    (empties.of_plant levels settings (kept _) judged)
  generalize u.deliverEnd r.filling.other .empty = v at second two ⊢
  refine ⟨fun k => ?_, two.2.trans (by rw [one.2]; rfl)⟩
  have final (q : Sluice) : ({ v with arbiter.owner := .idle, arbiter.record := none } : State).sluice q = v.sluice q :=
    sluice_of_drive (s := v) (t := { v with arbiter.owner := .idle, arbiter.record := none }) rfl q
  rw [final]
  rcases Chamber.eq_or_other k r.filling with same | ⟨same, -⟩
  · rw [same, filling]
    exact (second.sluices _ fun h => away.symm (by injection h)).trans one.1
  · rw [same, emptying, ← expiry, ← now, ← kept]
    exact two.1

end Sys2Proof.Machine
end

section
/-! SUPPORT. What a request that offers a phase leaves (R65 to R68). -/

namespace Sys2Proof.Machine

theorem State.Offering.whole {s y w : State} {st : Station} {k : Chamber} {kind : WaterKind} {c : Sequencer}
    (h : s.Offering st k kind c y)
    (frame : w = { y with drive := w.drive, levels := w.levels, chambers := w.chambers, arbiter := w.arbiter }) :
    w = { s.validFrame st with
      drive := w.drive, levels := w.levels, chambers := w.chambers, arbiter := w.arbiter, signals := w.signals } := by
  have signals : w.signals = y.signals := by rw [frame]
  have shape : y = { s.validFrame st with chambers := y.chambers, signals := y.signals } := by
    have chambers : y.chambers = s.chambers.set k { c with water := some (s.newWater k kind) } := by rw [h]
    rw [chambers]
    exact h
  rw [signals]
  generalize w.drive = D at frame ⊢
  generalize w.levels = L at frame ⊢
  generalize w.chambers = C at frame ⊢
  generalize w.arbiter = A at frame ⊢
  generalize y.chambers = C' at shape
  generalize y.signals = G at shape ⊢
  rw [frame, shape]

/-- A ramp that has sent its first order, or none at all, is not refused. -/
theorem State.firstRefused_none {t : State} {q : Sluice} (sent : ∀ r, (t.sluice q).ramp = some r → r.first = false) :
    t.firstRefused q = none := by
  unfold State.firstRefused
  cases ramp : (t.sluice q).ramp with
  | none => rfl
  | some r =>
    dsimp only
    rw [sent r ramp]

/-- R65: a request's offer to an arbiter that is free to take it. -/
structure State.FreeOffer (s : State) (st : Station) (k : Chamber) (kind : WaterKind) (c : Instr) (n : Nat) (own : Sequencer) : Prop where
  offers : s.Offers st k kind c n own
  calm : s.Calm
  takes : s.takes st
  held : s.holder k = some st
  present : s.chamberPresent k = true
  directed : (s.chamber k).mode = .directed
  ends : (s.chamber k).state = kind.other.ends
  cross : s.crossPresent = true
  service : (s.chamber k.other).state ≠ .outOfService
  unhalted : (s.chamber k.other).state ≠ .halted
  idle : s.arbiter.owner = .idle
  shut : (s.sluice .cross).state = .shut
  usable : (s.body k.body).handedState.usable = true

/-- R66, R67: the other chamber waits with the opposite wish, both levels usable. -/
structure State.Opposed (s : State) (k : Chamber) (kind : WaterKind) (w : Wish) (h h' : Nat) : Prop where
  wished : s.wish k.other = some w
  opposite : w.kind = kind.other
  level : (s.body k.body).handedLevel = some h
  level' : (s.body k.other.body).handedLevel = some h'
  usable' : (s.body k.other.body).handedState.usable = true

/-- R67: the projected equal level of the two chambers. -/
def State.equalLevel (s : State) (k : Chamber) (h h' : Nat) : Nat :=
  ((s.settings.chamber.get k).wetArea * h + (s.settings.chamber.get k.other).wetArea * h'
    + ((s.settings.chamber.get k).wetArea + (s.settings.chamber.get k.other).wetArea) / 2)
    / ((s.settings.chamber.get k).wetArea + (s.settings.chamber.get k.other).wetArea)

section Offer

variable {s : State} {st : Station} {k : Chamber} {kind : WaterKind} {c : Instr} {n : Nat} {own : Sequencer}

theorem State.FreeOffer.accepts (o : s.FreeOffer st k kind c n own) {y : State} (offering : s.Offering st k kind own y) :
    y.declines k = false := offering.accepts o.cross o.service o.unhalted o.idle o.shut o.usable

/-- The offer made, the request answered with what the arbiter's answer leaves. -/
theorem State.FreeOffer.runs (o : s.FreeOffer st k kind c n own) :
    ∃ y, s.Offering st k kind own y ∧ ∀ w, y.offer k kind = w →
      (w.chamber k).crossed = true ∨ w.firstRefused (.chamber k kind.side) = none →
      w = { y with drive := w.drive, levels := w.levels, chambers := w.chambers, arbiter := w.arbiter } →
      ∃ t, exec c s = .next t
        ∧ t = { s.answered st n .ok [] with
            drive := t.drive, levels := t.levels, chambers := t.chambers, signals := t.signals, arbiter := w.arbiter }
        ∧ t.drive = w.drive ∧ t.levels = w.levels ∧ t.chambers = w.chambers := by
  obtain ⟨y, offering, runs⟩ := exec_offers o.takes o.held o.present o.calm o.directed o.ends o.offers
  refine ⟨y, offering, fun w offered unrefused frame => ?_⟩
  have whole := offering.whole frame
  obtain ⟨S, run⟩ := runs w offered (by rw [whole]; exact o.calm) unrefused whole
  exact ⟨_, run, rfl, rfl, rfl, rfl⟩

/-- R65: a wish is posted. -/
theorem State.FreeOffer.posts (o : s.FreeOffer st k kind c n own) (unramped : (s.sluice (.chamber k kind.side)).ramp = none)
    (alone : ∀ w, s.wish k.other = some w → w.kind = kind) (waits : s.settings.crossWait ≠ 0) :
    ∃ t, exec c s = .next t
      ∧ t = { s.answered st n .ok [] with
          chambers := t.chambers, signals := t.signals
          arbiter.wishes := s.arbiter.wishes.set k (some ⟨kind, s.now + seconds s.settings.crossWait⟩) }
      ∧ t.chamber k = { own with state := kind.wait, pendingOrder := none, water := some (s.newWater k kind) }
      ∧ t.chamber k.other = s.chamber k.other := by
  obtain ⟨y, offering, runs⟩ := o.runs
  have wish : y.wish k.other = s.wish k.other := by unfold State.wish; rw [offering.arbiter]
  have posted := State.offer_posted (o.accepts offering) (by rw [wish]; exact alone) (by rw [offering.settings]; exact waits)
  obtain ⟨w, hw⟩ : ∃ w, (y.setWish k (some ⟨kind, y.now + seconds y.settings.crossWait⟩)).setChamberState k kind.wait = w := ⟨_, rfl⟩
  have frame : w = { y with chambers := w.chambers, arbiter := w.arbiter } := by rw [← hw]; rfl
  have wdrive : w.drive = y.drive := by rw [frame]
  have wlevels : w.levels = y.levels := by rw [frame]
  have arbiter : w.arbiter = { s.arbiter with
      wishes := s.arbiter.wishes.set k (some ⟨kind, s.now + seconds s.settings.crossWait⟩) } := by
    rw [← hw]
    show ({ y.arbiter with wishes := y.arbiter.wishes.set k (some ⟨kind, y.now + seconds y.settings.crossWait⟩) } : Arbiter) = _
    rw [offering.arbiter, offering.now, offering.settings]
  have chamber (j : Chamber) : w.chamber j = if j = k then { y.chamber k with state := kind.wait, pendingOrder := none } else y.chamber j := by
    rw [← hw]
    exact State.setChamber_chamber ..
  obtain ⟨t, run, whole, drive, levels, chambers⟩ := runs w (posted.trans hw)
    (.inr (State.firstRefused_none fun r ramp => by
      rw [sluice_of_drive (wdrive.trans offering.drive), unramped] at ramp
      cases ramp))
    (by rw [wdrive, wlevels]; exact frame)
  rw [drive, levels, wdrive, wlevels, offering.drive, offering.levels, arbiter] at whole
  refine ⟨t, run, whole, ?_, ?_⟩
  · rw [chamber_of_chambers chambers, chamber, if_pos rfl, offering.own]
  · rw [chamber_of_chambers chambers, chamber, if_neg (by cases k <;> nofun), offering.other]

/-- R66, R67: the arbiter's answer while the other chamber waits with the opposite wish, by the gain test. -/
theorem State.FreeOffer.answer (o : s.FreeOffer st k kind c n own) {w : Wish} {h h' : Nat} (opposed : s.Opposed k kind w h h')
    {y : State} (offering : s.Offering st k kind own y) :
    y.offer k kind =
      if (kind.ordered h h').1 + s.settings.crossMinGain ≤ s.equalLevel k h h' then
        y.engage (kind.filler k) (kind.ordered h h').1 (kind.ordered h h').2
      else (y.proceedAlone k.other).enterPhase k kind := by
  have wish : y.wish k.other = some w := by
    rw [← opposed.wished]
    unfold State.wish
    rw [offering.arbiter]
  have read {b : Body} {x : Nat} (level : (s.body b).handedLevel = some x) (usable : (s.body b).handedState.usable = true) :
      y.usableLevel b = some x := by
    rw [usableLevel_of_levels offering.sameLevels, ← level]
    exact if_pos usable
  rw [State.offer_paired (o.accepts offering) wish opposed.opposite,
    State.gainTest_eq kind (read opposed.level o.usable) (read opposed.level' opposed.usable'), offering.settings]
  show (match (if _ ≤ s.equalLevel k h h' then some (kind.ordered h h') else none) with | some p => _ | none => _) = _
  split
  · next p hp =>
    split at hp <;> cases hp
    next gains => rw [if_pos gains]
  · next hp =>
    split at hp <;> cases hp
    next short => rw [if_neg short]

end Offer

end Sys2Proof.Machine
end

section
/-! SUPPORT. A pairing: the cross phase engaged, or ended at once, or both chambers alone (R66 to R68). -/

namespace Sys2Proof.Machine

/-! ## A phase that ends on a cross sluice already SHUT (R70, R71) -/

/-- R70, R71: the phase with record `r` has ended at once: each chamber is in its phase proper, the first order of its ramp sent. -/
structure PhaseCut (z v : State) (r : CrossRec) : Prop where
  frame : v = { z with
    drive := v.drive, levels := v.levels, chambers := v.chambers
    arbiter := { z.arbiter with owner := .idle, timer := none, record := none } }
  core : v.core = z.core
  line : SameLine z v
  chambers : ∀ j, v.chamber j = Sequencer.inPhase { z.chamber j with
    water := (z.chamber j).water.map fun w => { w with start := r.start.get j, crossed := true, crossEnd := z.level j.body } } (r.kindOf j)
    z.newPhase
  gates : ∀ j e, v.gate j e = z.gate j e
  sluices : ∀ q, q ≠ .cross → (∀ j, q ≠ .chamber j (r.kindOf j).side) → v.sluice q = z.sluice q
  cross : v.sluice .cross = { z.sluice .cross with ramp := none }
  ramps : ∀ j, v.sluice (.chamber j (r.kindOf j).side)
    = (z.sluice (.chamber j (r.kindOf j).side)).movedTo 1 z.sluiceExpiry (some (firstStep j z.now))
  sent : v.drive.sent = z.drive.sent
    ++ [⟨.sluice (.chamber r.filling .upper), .move 1, false⟩, ⟨.sluice (.chamber r.filling.other .lower), .move 1, false⟩]

theorem State.closeCross_cuts {z : State} {r : CrossRec} (record : z.arbiter.record = some r) (undelivered : r.delivered = ⟨false, false⟩)
    (shut : (z.sluice .cross).state = .shut) (step : (z.sluice .cross).step = some 0)
    (crossing : ∀ j, (z.chamber j).state = (r.kindOf j).cross) (starts : ∀ j, z.Starts j (r.kindOf j)) (cause : CrossEnd) :
    PhaseCut z (z.closeCross cause) r := by
  have stands : (z.sluice .cross).stands 0 = true := by
    unfold SluiceRec.stands
    rw [shut, step]
    rfl
  have ordered := z.endCross_ordered cause
  obtain ⟨cross, arbiter, sent⟩ := z.endCross_facts cause
  rw [record] at arbiter
  rw [stands] at sent
  rw [State.closeCross]
  generalize z.endCross cause = e at ordered cross arbiter sent
  have ecross : e.sluice .cross = { z.sluice .cross with ramp := none } := cross.trans (if_pos stands)
  have eshut : (e.sluice .cross).state = .shut := by rw [ecross]; exact shut
  have echamber (j : Chamber) : e.chamber j = z.chamber j := chamber_of_chambers (by rw [ordered.frame]) j
  have settings : e.settings = z.settings := by rw [ordered.frame]
  have loaded : e.loaded = z.loaded := by rw [ordered.frame]
  have now : e.now = z.now := by rw [ordered.frame]
  have levels : SameLevels z e := SameLevels.of_core ordered.core
  have esluice (j : Chamber) (x : Side) : e.sluice (.chamber j x) = z.sluice (.chamber j x) := ordered.sluices (.chamber j x) nofun
  have estarts (j : Chamber) : e.Starts j (r.kindOf j) :=
    (starts j).of_plant levels settings (esluice _ _) (judgeSluice_of_plant levels settings loaded (fun x => ordered.gates _ x)
      (fun x => by rw [esluice]) (by rw [ecross]) _ _)
  let x : CrossRec := z.crossEnded r cause
  have kinds : x.kindOf = r.kindOf := rfl
  have erecord : e.arbiter.record = some x := by rw [arbiter]; rfl
  have handed := State.crossDone_over (s := e) (r := x) (by rw [arbiter]) eshut erecord fun j => (estarts j).unequal
  obtain ⟨ramps, both⟩ := State.crossDone_ramps (s := e) (r := x) (by rw [arbiter]) eshut erecord undelivered
    (fun j => by rw [echamber]; exact crossing j) estarts
  generalize e.crossDone = v at handed ramps both ⊢
  have phase : e.newPhase = z.newPhase := by rw [State.newPhase, State.newPhase, now, settings]
  have expiry : e.sluiceExpiry = z.sluiceExpiry := by rw [State.sluiceExpiry, State.sluiceExpiry, now, settings]
  refine ⟨?_, handed.core.trans ordered.core, ⟨handed.line.1.trans ordered.line.1, handed.line.2.trans ordered.line.2⟩, fun j => ?_,
    fun j e => (handed.gates j e).trans (ordered.gates j e), fun q out away => (handed.sluices q away).trans (ordered.sluices q out),
    (handed.sluices .cross fun _ => nofun).trans ecross, fun j => ?_, ?_⟩
  · have eframe := ordered.frame
    have vframe := handed.frame
    rw [arbiter] at vframe
    generalize e.drive = D at eframe
    generalize e.levels = L at eframe
    generalize e.arbiter = A at eframe
    generalize v.drive = D' at vframe ⊢
    generalize v.levels = L' at vframe ⊢
    generalize v.chambers = C at vframe ⊢
    rw [vframe, eframe]
  · have untaken : x.delivered.get j = false := by
      show r.delivered.get j = false
      rw [undelivered]
      cases j <;> rfl
    have stop : x.stop.get j = z.level j.body := by cases j <;> rfl
    rw [handed.chambers, echamber, phase, ← stop]
    exact (if_neg (by rw [untaken]; nofun)).trans (if_pos (crossing j))
  · have moved := ramps j
    rw [esluice, expiry, now] at moved
    exact moved
  · rw [both, sent, if_pos rfl, List.append_nil, List.append_assoc]
    rfl

/-! ## The offer (R66 to R68) -/

section Offer

variable {s : State} {st : Station} {k : Chamber} {kind : WaterKind} {c : Instr} {n : Nat} {own : Sequencer}

/-- R68: an offer whose pairing engages the cross phase. -/
theorem State.FreeOffer.engages (o : s.FreeOffer st k kind c n own) (unramped : (s.sluice (.chamber k kind.side)).ramp = none)
    {w : Wish} {h h' : Nat} (opposed : s.Opposed k kind w h h')
    (gains : (kind.ordered h h').1 + s.settings.crossMinGain ≤ s.equalLevel k h h') (unequal : s.pair .cross ≠ .equalised)
    (step : (s.sluice .cross).step = some 0) (limit : 0 < s.headLimit .cross) (closed : ∀ k e, (s.gate k e).state = .closed)
    (shut : ∀ k e, (s.sluice (.chamber k e)).state = .shut) :
    ∃ t, exec c s = .next t
      ∧ t = { s.answered st n .ok [] with
          drive := t.drive, levels := t.levels, chambers := t.chambers, signals := t.signals
          arbiter := ⟨.engaged, ⟨none, none⟩, some (s.now + seconds s.settings.crossLimit), some (kind.pairing k h h')⟩ }
      ∧ t.chamber k = { own with state := kind.cross, pendingOrder := none, water := some (s.newWater k kind) }
      ∧ t.chamber k.other = { s.chamber k.other with state := kind.other.cross, pendingOrder := none }
      ∧ SameLevels s t ∧ SameOthers s t (.sluice .cross) ∧ SameLine s t
      ∧ t.sluice .cross = (s.sluice .cross).movedTo 1 s.sluiceExpiry (some (crossStep s.now))
      ∧ t.drive.sent = s.drive.sent ++ [⟨.sluice .cross, .move 1, false⟩] := by
  obtain ⟨y, offering, runs⟩ := o.runs
  have answer := (o.answer opposed offering).trans (if_pos gains)
  obtain ⟨z, hz, zframe, zown, zother⟩ := y.paired_told k kind h h'
  have zdrive : z.drive = s.drive := by rw [zframe]; exact offering.drive
  have zlevels : z.levels = s.levels := by rw [zframe]; exact offering.levels
  have znow : z.now = s.now := by rw [zframe]; exact offering.now
  have zsettings : z.settings = s.settings := by rw [zframe]; exact offering.settings
  have same : SameLevels s z := (SameLevels.of_core (s := s) (t := s) rfl).of_levels rfl zlevels
  have open_ : ¬ z.pairEqualised .cross = true := fun equal => unequal ((same.2.1 .cross).symm.trans (of_decide_eq_true equal))
  rw [State.engage_eq, hz, if_neg open_] at answer
  have arbiter : z.arbiter = ⟨.engaged, ⟨none, none⟩, some (s.now + seconds s.settings.crossLimit), some (kind.pairing k h h')⟩ := by
    rw [zframe, ← offering.now, ← offering.settings]
  have ordered := State.startCross_orders (z := z) (by rw [arbiter]) (fun j e => by rw [gate_of_drive zdrive]; exact closed j e)
    (fun j e => by rw [sluice_of_drive zdrive]; exact shut j e) (by rw [sluice_of_drive zdrive]; exact ⟨o.shut, step⟩)
    (by rw [headLimit_of_levels same zsettings]; exact limit)
  have expiry : z.sluiceExpiry = s.sluiceExpiry := by rw [State.sluiceExpiry, State.sluiceExpiry, znow, zsettings]
  rw [sluice_of_drive zdrive, expiry, znow] at ordered
  generalize z.startRamp .cross .arbiter 8 = v at ordered answer
  have plant : v = { z with drive := v.drive, levels := v.levels } := ordered.plant
  have vchambers : v.chambers = z.chambers := by rw [plant]
  have varbiter : v.arbiter = z.arbiter := by rw [plant]
  have kept : v.sluice (.chamber k kind.side) = s.sluice (.chamber k kind.side) :=
    (ordered.sluices _ (by nofun)).trans (sluice_of_drive zdrive _)
  obtain ⟨t, run, whole, drive, levels, chambers⟩ := runs v answer
    (.inr (State.firstRefused_none fun r ramp => by rw [kept, unramped] at ramp; cases ramp)) (by
      rw [vchambers, varbiter]
      generalize v.drive = D at plant ⊢
      generalize v.levels = L at plant ⊢
      generalize z.chambers = C at zframe ⊢
      rw [arbiter, plant, zframe, offering.now, offering.settings])
  rw [varbiter, arbiter] at whole
  have moved : SameOthers s t (.sluice .cross) := by
    obtain ⟨gates, sluices, guards⟩ := ordered.sameOthers
    refine ⟨fun j e out => ?_, fun q out => ?_, ?_, ?_, ?_⟩
    · rw [gate_of_drive drive, gates j e out, gate_of_drive zdrive]
    · rw [sluice_of_drive drive, sluices q out, sluice_of_drive zdrive]
    · rw [drive, guards.1, zdrive]
    · rw [drive, guards.2.1, zdrive]
    · rw [levels, guards.2.2, zlevels]
  refine ⟨t, run, whole, ?_, ?_, (SameLevels.of_core ordered.core : SameLevels z v).of_levels zlevels.symm levels, moved, ⟨?_, ?_⟩,
    (sluice_of_drive drive _).trans ordered.sluice, ?_⟩
  · rw [chamber_of_chambers (chambers.trans vchambers), zown, offering.own]
  · rw [chamber_of_chambers (chambers.trans vchambers), zother, offering.other]
  · rw [drive, ordered.line.1, zdrive]
  · rw [drive, ordered.line.2, zdrive]
  · rw [drive, ordered.ordered, zdrive]

/-- R68, R71: an offer whose pairing finds the two chambers EQUALISED: the phase ends at once. -/
theorem State.FreeOffer.equalises (o : s.FreeOffer st k kind c n own) {w : Wish} {h h' : Nat} (opposed : s.Opposed k kind w h h')
    (gains : (kind.ordered h h').1 + s.settings.crossMinGain ≤ s.equalLevel k h h') (equal : s.pair .cross = .equalised)
    (step : (s.sluice .cross).step = some 0) (starts : s.Starts k kind) (starts' : s.Starts k.other kind.other) :
    ∃ t, exec c s = .next t
      ∧ t = { s.answered st n .ok [] with
          drive := t.drive, levels := t.levels, chambers := t.chambers, signals := t.signals
          arbiter := ⟨.idle, ⟨none, none⟩, none, none⟩ }
      ∧ t.chamber k = Sequencer.inPhase
          { own with water := some { s.newWater k kind with start := some h, crossed := true, crossEnd := s.level k.body } } kind s.newPhase
      ∧ t.chamber k.other = Sequencer.inPhase
          { s.chamber k.other with water := (s.chamber k.other).water.map fun x =>
            { x with start := some h', crossed := true, crossEnd := s.level k.other.body } } kind.other s.newPhase
      ∧ SameLevels s t ∧ SameLine s t ∧ (∀ j e, t.gate j e = s.gate j e)
      ∧ (∀ x, x ≠ .chamber k kind.side → x ≠ .chamber k.other kind.other.side → x ≠ .cross → t.sluice x = s.sluice x)
      ∧ t.sluice .cross = { s.sluice .cross with ramp := none }
      ∧ t.sluice (.chamber k kind.side) = (s.sluice (.chamber k kind.side)).movedTo 1 s.sluiceExpiry (some (firstStep k s.now))
      ∧ t.sluice (.chamber k.other kind.other.side)
        = (s.sluice (.chamber k.other kind.other.side)).movedTo 1 s.sluiceExpiry (some (firstStep k.other s.now))
      ∧ ∃ l : List Sent, t.drive.sent = s.drive.sent ++ l ∧ l.length = 2
        ∧ ⟨.sluice (.chamber k kind.side), .move 1, false⟩ ∈ l ∧ ⟨.sluice (.chamber k.other kind.other.side), .move 1, false⟩ ∈ l := by
  obtain ⟨y, offering, runs⟩ := o.runs
  have answer := (o.answer opposed offering).trans (if_pos gains)
  obtain ⟨z, hz, zframe, zown, zother⟩ := y.paired_told k kind h h'
  have zdrive : z.drive = s.drive := by rw [zframe]; exact offering.drive
  have zlevels : z.levels = s.levels := by rw [zframe]; exact offering.levels
  have zarbiter : z.arbiter = ⟨.engaged, ⟨none, none⟩, some (y.now + seconds y.settings.crossLimit), some (kind.pairing k h h')⟩ := by
    rw [zframe]
  have same : SameLevels s z := (SameLevels.of_core (s := s) (t := s) rfl).of_levels rfl zlevels
  have paired : z.pairEqualised .cross = true := decide_eq_true ((same.2.1 .cross).trans equal)
  rw [State.engage_eq, hz, if_pos paired] at answer
  obtain ⟨kinded, kinded'⟩ := kind.pairing_kind k h h'
  obtain ⟨start, start'⟩ := kind.pairing_start k h h'
  have every {p : Chamber → Prop} (hk : p k) (hk' : p k.other) : ∀ j, p j := fun j => by
    rcases Chamber.eq_or_other j k with same | ⟨same, -⟩
    · rw [same]; exact hk
    · rw [same]; exact hk'
  have zsettings : z.settings = s.settings := by rw [zframe]; exact offering.settings
  have zloaded : z.loaded = s.loaded := by rw [zframe]; exact offering.loaded
  have znow : z.now = s.now := by rw [zframe]; exact offering.now
  have zsluice (q : Sluice) : z.sluice q = s.sluice q := sluice_of_drive zdrive q
  have zstarts {j : Chamber} {x : WaterKind} (h : s.Starts j x) : z.Starts j x :=
    h.of_plant same zsettings (zsluice _) (judgeSluice_of_drive zdrive zlevels zsettings zloaded _ _ _)
  have cut := State.closeCross_cuts (z := z) (r := kind.pairing k h h') (by rw [zarbiter]) rfl (by rw [zsluice]; exact o.shut)
    (by rw [zsluice]; exact step) (every (by rw [kinded, zown]) (by rw [kinded', zother]))
    (every (by rw [kinded]; exact zstarts starts) (by rw [kinded']; exact zstarts starts')) .equalised
  generalize z.closeCross .equalised = v at cut answer
  have phase : z.newPhase = s.newPhase := by rw [State.newPhase, State.newPhase, znow, zsettings]
  have expiry : z.sluiceExpiry = s.sluiceExpiry := by rw [State.sluiceExpiry, State.sluiceExpiry, znow, zsettings]
  have level (b : Body) : z.level b = s.level b := (same.1 b).handedLevel
  have vown := cut.chambers k
  rw [kinded, zown, offering.own, start, phase, level] at vown
  have vother := cut.chambers k.other
  rw [kinded', zother, offering.other, start', phase, level] at vother
  have vframe := cut.frame
  rw [zarbiter] at vframe
  have varbiter : v.arbiter = ⟨.idle, ⟨none, none⟩, none, none⟩ := by rw [vframe]
  obtain ⟨t, run, whole, drive, levels, chambers⟩ := runs v answer (.inl (by rw [vown]; rfl)) (by
    rw [varbiter]
    generalize v.drive = D at vframe ⊢
    generalize v.levels = L at vframe ⊢
    generalize v.chambers = C at vframe ⊢
    generalize z.chambers = C' at zframe
    rw [vframe, zframe])
  rw [varbiter] at whole
  have tsluice (q : Sluice) : t.sluice q = v.sluice q := sluice_of_drive drive q
  refine ⟨t, run, whole, (chamber_of_chambers chambers _).trans vown, (chamber_of_chambers chambers _).trans vother,
    (SameLevels.of_core cut.core : SameLevels z v).of_levels zlevels.symm levels, ⟨?_, ?_⟩,
    fun j x => (gate_of_drive drive j x).trans ((cut.gates j x).trans (gate_of_drive zdrive j x)), fun x out out' crossed => ?_, ?_, ?_, ?_,
    ⟨[⟨.sluice (.chamber (kind.pairing k h h').filling .upper), .move 1, false⟩,
      ⟨.sluice (.chamber (kind.pairing k h h').filling.other .lower), .move 1, false⟩], ?_, rfl, ?_, ?_⟩⟩
  · rw [drive, cut.line.1, zdrive]
  · rw [drive, cut.line.2, zdrive]
  · rw [tsluice, cut.sluices x crossed (every (by rw [kinded]; exact out) (by rw [kinded']; exact out')), zsluice]
  · rw [tsluice, cut.cross, zsluice]
  · have moved := cut.ramps k
    rw [kinded, zsluice, expiry, znow] at moved
    rw [tsluice, moved]
  · have moved := cut.ramps k.other
    rw [kinded', zsluice, expiry, znow] at moved
    rw [tsluice, moved]
  · rw [drive, cut.sent, zdrive]
  · cases kind <;> simp [WaterKind.pairing, WaterKind.filler, WaterKind.side]
    cases k <;> rfl
  · cases kind <;> simp [WaterKind.pairing, WaterKind.filler, WaterKind.side, WaterKind.other]

end Offer

end Sys2Proof.Machine
end

section
/-! SUPPORT. The cross phase (R65 to R72). -/

namespace Sys2Proof.Machine

/-- R67: an offer whose pairing gains too little: both chambers proceed alone. -/
theorem State.FreeOffer.proceeds {s : State} {st : Station} {k : Chamber} {kind : WaterKind} {c : Instr} {n : Nat} {own : Sequencer}
    (o : s.FreeOffer st k kind c n own) {w : Wish} {h h' : Nat} (opposed : s.Opposed k kind w h h')
    (short : s.equalLevel k h h' < (kind.ordered h h').1 + s.settings.crossMinGain)
    (unequal : s.pair (.across kind.other.side k.other) ≠ .equalised) (starts : s.Starts k kind) :
    ∃ t, exec c s = .next t
      ∧ t = { s.answered st n .ok [] with
          drive := t.drive, levels := t.levels, chambers := t.chambers, signals := t.signals
          arbiter.wishes := s.arbiter.wishes.set k.other none }
      ∧ t.chamber k = Sequencer.inPhase { own with water := some (s.newWater k kind) } kind s.newPhase
      ∧ t.chamber k.other = (s.chamber k.other).inPhase kind.other s.newPhase
      ∧ (t.sluice (.chamber k kind.side)).target = some (.step 1)
      ∧ ⟨.sluice (.chamber k kind.side), .move 1, false⟩ ∈ t.drive.sent.drop s.drive.sent.length := by
  have away : k.other ≠ k := by cases k <;> nofun
  obtain ⟨y, offering, runs⟩ := o.runs
  have answer := (o.answer opposed offering).trans (if_neg (not_le.mpr short))
  let z := y.setWish k.other none
  have wish : y.wish k.other = some w := by
    rw [← opposed.wished]
    unfold State.wish
    rw [offering.arbiter]
  have alone : y.proceedAlone k.other = z.enterPhase k.other kind.other := by
    unfold State.proceedAlone
    rw [wish, ← opposed.opposite]
  have zdrive : z.drive = s.drive := offering.drive
  have bdrive : (z.beginPhase k.other kind.other).drive = s.drive := offering.drive
  have zlevels : z.levels = s.levels := offering.levels
  have same : SameLevels s z := (SameLevels.of_core (s := s) (t := s) rfl).of_levels rfl zlevels
  -- the other chamber begins its phase
  obtain ⟨moved, plant⟩ := State.enterPhase_starts (s := z) (k := k.other) (kind := kind.other) (by rw [same.2.1]; exact unequal)
  rw [alone] at answer
  generalize z.enterPhase k.other kind.other = u at moved plant answer
  have uframe : u = { z.beginPhase k.other kind.other with drive := u.drive, levels := u.levels } := plant
  have ulevels : SameLevels s u := (SameLevels.of_core moved.core : SameLevels z u).of_levels zlevels.symm rfl
  have usettings : u.settings = s.settings := by rw [uframe]; exact offering.settings
  have uloaded : u.loaded = s.loaded := by rw [uframe]; exact offering.loaded
  have unow : u.now = s.now := by rw [uframe]; exact offering.now
  have ugate (j : Chamber) (e : Side) : u.gate j e = s.gate j e := (moved.gates j e nofun).trans (gate_of_drive bdrive j e)
  have usluice (e : Side) : u.sluice (.chamber k e) = s.sluice (.chamber k e) :=
    (moved.sluices (.chamber k e) (fun h => away (by injection h with h; injection h))).trans (sluice_of_drive bdrive _)
  have ucross : u.sluice .cross = s.sluice .cross := (moved.sluices .cross nofun).trans (sluice_of_drive bdrive _)
  have uchamber (j : Chamber) : u.chamber j = if j = k.other then (y.chamber k.other).inPhase kind.other y.newPhase else y.chamber j :=
    (moved.chamber j).trans (State.beginPhase_chamber ..)
  -- and then the chamber that made the offer
  obtain ⟨uneq, foot, limit, passes⟩ := starts.of_plant ulevels usettings (usluice _)
    (judgeSluice_of_plant ulevels usettings uloaded (fun e => ugate k e) (fun e => by rw [usluice]) (by rw [ucross]) _ _)
  have ordered := State.enterPhase_orders uneq foot limit passes
  generalize u.enterPhase k kind = v at ordered answer
  have vframe : v = { u.beginPhase k kind with drive := v.drive, levels := v.levels } := ordered.plant
  have vchamber (j : Chamber) : v.chamber j = if j = k then (u.chamber k).inPhase kind u.newPhase else u.chamber j :=
    (ordered.chamber j).trans (State.beginPhase_chamber ..)
  have varbiter : v.arbiter = { s.arbiter with wishes := s.arbiter.wishes.set k.other none } := by
    have far : u.arbiter = z.arbiter := by rw [uframe]; rfl
    have near : v.arbiter = u.arbiter := by rw [vframe]; rfl
    rw [near, far]
    show ({ y.arbiter with wishes := y.arbiter.wishes.set k.other none } : Arbiter) = _
    rw [offering.arbiter]
  obtain ⟨t, run, whole, drive, levels, chambers⟩ := runs v answer
    (.inr (State.firstRefused_none fun r ramp => by
      rw [ordered.sluice] at ramp
      cases ramp
      rfl)) (by
      have begins : u.beginPhase k kind = { u with chambers := (u.beginPhase k kind).chambers } := rfl
      have zbegins : z.beginPhase k.other kind.other = { z with chambers := (z.beginPhase k.other kind.other).chambers } := rfl
      have zframe : z = { y with arbiter := z.arbiter } := rfl
      generalize z.beginPhase k.other kind.other = b at uframe zbegins
      generalize u.beginPhase k kind = a at vframe begins
      have chambers : v.chambers = a.chambers := by rw [vframe]
      have far : v.arbiter = z.arbiter := by rw [vframe, begins, uframe, zbegins]
      rw [chambers, far]
      generalize v.drive = D at vframe ⊢
      generalize v.levels = L at vframe ⊢
      generalize a.chambers = C at begins ⊢
      generalize u.drive = D' at uframe
      generalize u.levels = L' at uframe
      generalize b.chambers = C' at zbegins
      rw [vframe, begins, uframe, zbegins]
      rfl)
  have phase : y.newPhase = s.newPhase := by rw [State.newPhase, State.newPhase, offering.now, offering.settings]
  have phase' : u.newPhase = s.newPhase := by rw [State.newPhase, State.newPhase, unow, usettings]
  rw [varbiter] at whole
  refine ⟨t, run, whole, ?_, ?_, ?_, ?_⟩
  · rw [chamber_of_chambers chambers, vchamber, if_pos rfl, uchamber, if_neg away.symm, offering.own, phase']
  · rw [chamber_of_chambers chambers, vchamber, if_neg away, uchamber, if_pos rfl, offering.other, phase]
  · rw [sluice_of_drive drive, ordered.sluice]
    rfl
  · rw [drive, ordered.ordered]
    have before : s.drive.sent <+: u.drive.sent := by
      rw [← zdrive]
      exact moved.sent
    refine drop_mem_of_le before.length_le ?_
    show _ ∈ (u.drive.sent ++ _).drop _
    rw [List.drop_left]
    exact List.mem_singleton_self _

end Sys2Proof.Machine
end

section
/-! SUPPORT. The cross phase: offers, engagement, end and delivery (R65 to R72). -/

namespace Sys2Proof.Machine

theorem SluiceRec.movedTo_foot {r : SluiceRec} (shut : r.state = .shut) (step : r.step = some 0) (n x : Nat) (ramp : Option Ramp) :
    r.movedTo n x ramp = { state := .moving, step := some 0, target := some (.step n), timer := some x, ramp := ramp } := by
  rw [SluiceRec.movedTo_rest (.inl shut), step]

theorem Sequencer.handed_eq {s : State} {r : CrossRec} {k : Chamber} {kind : WaterKind} :
    (s.chamber k).handed k kind r s.newPhase =
      if r.delivered.get k = true then s.chamber k
      else if (s.chamber k).state = kind.cross then
        { s.chamber k with
          water := (s.chamber k).water.map fun w => { w with start := r.start.get k, crossed := true, crossEnd := r.stop.get k }
          state := kind.phase, pendingOrder := none, phase := some ⟨s.now, seconds s.settings.fillLimit⟩, slowRaised := false }
      else
        { s.chamber k with
          water := (s.chamber k).water.map fun w => { w with start := r.start.get k, crossed := true, crossEnd := r.stop.get k } } := rfl

/-- Settles O36. -/
theorem crossPhasesBeginAndEnd : Obligations.CrossPhasesBeginAndEnd := by
  refine ⟨fun s st k kind c n own offers calm takes held present directed ends cross service unhalted idle shut usable unramped => ?_,
    fun s r m calm engaged record away => ?_,
    fun s r st k calm takes present engaged record unwished undelivered shut step => ?_,
    fun s r calm kept present ending record head moving expected unramped => ?_⟩
  · intro water
    have o : s.FreeOffer st k kind c n own :=
      ⟨offers, calm, takes, held, present, directed, ends, cross, service, unhalted, idle, shut, usable⟩
    refine ⟨fun alone waits => o.posts unramped alone waits, fun w h h' wished opposite level level' usable' => ?_⟩
    have opposed : s.Opposed k kind w h h' := ⟨wished, opposite, level, level', usable'⟩
    intro area equal fillingLevel
    have lvl : (kind.ordered h h').1 = fillingLevel := by cases kind <;> rfl
    refine ⟨fun gains unequal step limit closed sluices => ?_, fun gains pair step => ?_, fun short unequal unequal' qshut qstep limit passes => ?_⟩
    · obtain ⟨t, run, whole, own', other, levels, others, line, moved, sent⟩ :=
        o.engages unramped opposed (by rw [lvl]; exact gains) unequal step limit closed sluices
      obtain ⟨start, start'⟩ := kind.pairing_start k h h'
      refine ⟨t, kind.pairing k h h', run, whole, ?_, start, start', rfl, rfl, rfl, own', other, levels, others, line, ?_, sent⟩
      · cases kind <;> rfl
      · rw [moved, SluiceRec.movedTo_foot shut step]
        rfl
    · intro own' kindOf q starts
      have away : k.other ≠ k := by cases k <;> nofun
      have mine : kindOf k = kind := if_pos rfl
      have others : kindOf k.other = kind.other := if_neg away
      have every {p : Chamber → Prop} (hk : p k) (hk' : p k.other) : ∀ j, p j := fun j => by
        rcases Chamber.eq_or_other j k with same | ⟨same, -⟩
        · rw [same]; exact hk
        · rw [same]; exact hk'
      obtain ⟨u, f, f', l, j⟩ := starts k
      obtain ⟨u', g, g', l', j'⟩ := starts k.other
      simp only [q, mine] at u f f' l j
      simp only [q, others] at u' g g' l' j'
      obtain ⟨t, run, whole, own'', other, levels, line, gates, sluices, crossed, ramp, ramp', list, sent, two, mem, mem'⟩ :=
        o.equalises opposed (by rw [lvl]; exact gains) pair step ⟨u, .inl ⟨f, f'⟩, l, j⟩ ⟨u', .inl ⟨g, g'⟩, l', j'⟩
      refine ⟨t, run, whole, every ?_ ?_, levels, line, gates, fun x out out' crossed' => ?_, crossed, every ?_ ?_, ?_, every ?_ ?_⟩
      · rw [own'']
        simp only [own', mine, if_pos]
        rfl
      · rw [other]
        simp only [own', others, if_neg away]
        rfl
      · have apart : x ≠ q k ∧ x ≠ q k.other := by
          cases k with
          | c1 => exact ⟨out, out'⟩
          | c2 => exact ⟨out', out⟩
        obtain ⟨near, far⟩ := apart
        simp only [q, mine] at near
        simp only [q, others] at far
        exact sluices x near far crossed'
      · simp only [q, mine]
        rw [ramp, SluiceRec.movedTo_foot f f']
        rfl
      · simp only [q, others]
        rw [ramp', SluiceRec.movedTo_foot g g']
        rfl
      · rw [sent, List.length_append, two]
      · simp only [q, mine]
        rw [sent, List.drop_left]
        exact mem
      · simp only [q, others]
        rw [sent, List.drop_left]
        exact mem'
    · obtain ⟨t, run, whole, own', other, target, sent⟩ :=
        o.proceeds opposed (by rw [lvl]; exact short) unequal' ⟨unequal, .inl ⟨qshut, qstep⟩, limit, passes⟩
      exact ⟨t, run, whole, own', other, target, sent⟩
  · intro ended shuts
    obtain ⟨open_, shut⟩ := SluiceRec.shutBy_open away
    refine ⟨fun x present settling => ?_, fun x timer => ?_, fun st k takes present unwished untaken crossing still gates => ?_⟩
    · obtain ⟨w, run, ordered, cross, arbiter, sent⟩ := settleExpiry_ends calm engaged record away present settling
      have frame := ordered.frame
      refine ⟨_, run, ordered.others, ⟨ordered.line.1, ordered.line.2⟩, ?_, arbiter, ?_, (SameLevels.of_core ordered.core).of_levels rfl rfl, sent⟩
      · rw [frame]
        rfl
      · have now : w.now = max s.now (x + seconds s.settings.eqSettle) := by rw [frame]; rfl
        have timer : (s.reach (x + seconds s.settings.eqSettle)).sluiceExpiry = w.derive.now + seconds s.settings.sluiceLimit := by
          show _ = w.now + _
          rw [now]
          rfl
        show w.sluice .cross = _
        rw [cross, shut, timer]
    · obtain ⟨w, run, ordered, cross, arbiter, sent⟩ := crossSlow_ends calm engaged record away timer
      have raised := (s.reach x).raiseFault_moved .crossSlow (.sluice .cross)
      have journal := (s.reach x).raiseFault_journal .crossSlow (.sluice .cross)
      have drive : ((s.reach x).raiseFault .crossSlow (.sluice .cross)).drive = s.drive := State.raiseFault_drive' ..
      have others := ordered.others
      have frame := ordered.frame
      generalize (s.reach x).raiseFault .crossSlow (.sluice .cross) = v at raised journal drive ordered others frame
      have vframe := raised.frame
      have same : SameLevels s w.derive := (SameLevels.of_core ((State.derive_core w).trans (ordered.core.trans raised.core))).of_levels rfl rfl
      have now : w.now = max s.now x := by rw [frame, vframe]; rfl
      have timer : (s.reach x).sluiceExpiry = w.derive.now + seconds s.settings.sluiceLimit := by
        show _ = w.now + _
        rw [now]
        rfl
      have records : SameRecords s w.derive :=
        (reach_records s x).trans (SameRecords.of_core ((State.derive_core w).trans (ordered.core.trans raised.core)))
      obtain ⟨gates, sluices, overflow, cycle, fast⟩ := others
      refine ⟨_, run, records, ⟨fun k e out => ?_, fun q out => ?_, overflow.trans raised.guards.1, cycle.trans raised.guards.2.1,
        fast.trans raised.guards.2.2⟩, ⟨ordered.line.1.trans raised.line.1, ordered.line.2.trans raised.line.2⟩, ?_, arbiter,
        ⟨?_, same, sent⟩, ?_⟩
      · rw [gates k e out, gate_of_drive drive]
      · rw [sluices q out, sluice_of_drive drive]
      · have wjournal : w.journal = v.journal := by rw [frame]
        have wstations : w.stations = v.stations := by rw [frame]
        have wcapture : w.capture = v.capture := by rw [frame]
        show w.derive = { s with
          now := _, drive := w.drive, levels := w.levels, signals := w.derive.signals, journal := w.journal, stations := w.stations
          capture := w.capture, arbiter := w.arbiter }
        rw [State.derive_frame, wjournal, wstations, wcapture]
        generalize w.derive.signals = G
        generalize w.drive = D at frame ⊢
        generalize w.levels = L at frame ⊢
        generalize w.arbiter = A at frame ⊢
        generalize v.drive = D' at vframe
        generalize v.levels = L' at vframe
        generalize v.journal = J at vframe ⊢
        generalize v.stations = N at vframe ⊢
        generalize v.capture = C at vframe ⊢
        rw [frame, vframe]
        rfl
      · show w.sluice .cross = _
        rw [cross, shut, timer]
      · have wjournal : w.journal = v.journal := by rw [frame]
        show w.journal = _
        rw [wjournal, journal]
        exact State.write_journal_congr (s := s) (t := s.reach x) rfl rfl _
    · obtain ⟨t, run, alone, now, arbiter, cross, sluices, sent, other, own⟩ :=
        halt_ends takes present calm ⟨gates, still⟩ engaged record unwished away untaken crossing
      refine ⟨t, run, alone.frame, arbiter, ⟨?_, alone.levels, sent⟩, ⟨fun j e _ => alone.gates j e, fun x out => ?_, alone.guards⟩, other, own⟩
      · rw [cross, shut, now]
        rfl
      · rcases x with ⟨j, e⟩ | _
        · exact sluices j e
        · exact absurd rfl out
  · intro kind q taken crossing still gates unequal qshut qstep limit passes
    have away : k.other ≠ k := by cases k <;> nofun
    have either : (s.chamber k).state = .fillCross ∨ (s.chamber k).state = .emptyCross := by
      rw [crossing k]
      cases kind k
      · exact .inl rfl
      · exact .inr rfl
    obtain ⟨t, run, alone, arbiter, cross, moved, others, sent, own, other⟩ :=
      halt_hands takes present calm ⟨gates, still⟩ engaged record unwished undelivered shut step (kind := kind k.other) rfl either
        (crossing k.other) unequal (.inl ⟨qshut, qstep⟩) limit passes
    refine ⟨t, run, ?_, alone.levels, alone.guards, alone.line, alone.gates, others, cross, ?_, other, ?_, sent⟩
    · have frame := alone.frame
      rw [arbiter] at frame
      exact frame
    · rw [own, crossing k]
    · rw [moved, SluiceRec.movedTo_foot qshut qstep]
      rfl
  · intro kind unequal
    obtain ⟨u, run, handed, own⟩ := crossReport_ends calm kept present ending record head moving expected unramped unequal
    obtain ⟨told, -⟩ := s.pollClosed.atStep_told (q := .cross) unramped 0
    generalize s.pollClosed.atStep .cross 0 = w at told own handed
    have core : u.derive.core = s.pollClosed.core := by rw [State.derive_core, handed.core, State.derive_core, told.core]
    have now : u.now = s.now := now_of_core (s := s.pollClosed) core
    have wchamber (k : Chamber) : w.chamber k = s.chamber k := told.chamber k
    have frame := handed.frame
    have wframe := told.frame
    have arbiter : u.arbiter = { s.arbiter with owner := .idle, record := none } := by
      have same : w.arbiter = s.arbiter := told.arbiter
      rw [frame]
      show ({ w.arbiter with owner := .idle, record := none } : Arbiter) = _
      rw [same]
    have phase : w.derive.newPhase = s.newPhase := by
      rw [State.newPhase, State.newPhase, show w.derive.now = w.now from rfl, show w.derive.settings = w.settings from rfl, wframe]
      rfl
    refine ⟨_, run, (SameRecords.pollClosed s).trans (SameRecords.of_core core), (SameLevels.of_core core).of_levels rfl rfl, now, ?_, arbiter,
      ?_, fun k => ?_⟩
    · have ujournal : u.journal = w.journal := by rw [frame]; rfl
      have ustations : u.stations = w.stations := by rw [frame]; rfl
      show u.derive = { s with
        drive := u.drive, levels := u.levels, chambers := u.chambers, arbiter := u.arbiter, signals := u.derive.signals
        journal := u.journal, stations := u.stations }
      rw [told.capture] at wframe
      rw [State.derive_frame u, arbiter, ujournal, ustations]
      generalize u.derive.signals = G
      generalize u.drive = D at frame ⊢
      generalize u.levels = L at frame ⊢
      generalize u.chambers = C at frame ⊢
      have derived := State.derive_frame w
      generalize w.derive = x at frame derived
      generalize x.signals = G' at derived
      generalize w.drive = D' at wframe
      generalize w.levels = L' at wframe
      generalize w.journal = J at wframe ⊢
      generalize w.stations = N at wframe ⊢
      rw [frame, derived, wframe]
      rfl
    · exact (handed.sluices .cross fun _ => nofun).trans own
    · have mine : u.derive.chamber k = (s.chamber k).handed k (r.kindOf k) r s.newPhase := by
        show u.chamber k = _
        rw [handed.chambers, phase]
        exact congrArg (fun c : Sequencer => c.handed k (r.kindOf k) r s.newPhase) (wchamber k)
      exact mine.trans Sequencer.handed_eq

end Sys2Proof.Machine
end

section
/-! SUPPORT. The settings as numbers (R182, R187): which value a write of one setting leaves in which field. -/
namespace Sys2Proof.Machine

/-! ## One setting read as a number -/

/-- The number that a field of a SETTINGS record carries; `none` where the record has no such field. -/
def State.setting (s : State) (i n : Nat) : Option Nat := (settingField i n).map (·.get s)

/-- The numbers of a whole SETTINGS record. -/
def State.settingRow (s : State) (i : Nat) : List Nat := (settingFields i).map (·.get s)

theorem State.setting_eq_row (s : State) (i n : Nat) : s.setting i n = (s.settingRow i)[n - 1]? := by
  simp [State.setting, settingField, State.settingRow]

/-- The rows read the settings and DEFAULTED alone. -/
theorem settingRow_congr {s t : State} {c : Settings} (settings : t.settings = c) (defaulted : t.store.defaulted = s.store.defaulted)
    (i : Nat) : t.settingRow i = ({ s with settings := c } : State).settingRow i := by
  subst settings
  match i with
  | 0 => exact congrArg (fun d : Bool => siteFields.map (·.get t) ++ [if d then 0 else 1]) defaulted
  | 1 | 2 | 3 | 4 | 5 | 6 | 7 | 8 | 9 | 10 => rfl
  | _ + 11 => rfl

theorem readField_settings_congr {s t : State} {i n : Nat} (same : t.setting i n = s.setting i n) :
    t.readField .settings i n = s.readField .settings i n := by
  unfold State.setting at same
  unfold State.readField
  dsimp only
  cases field : settingField i n with
  | none => rfl
  | some f =>
    rw [field] at same
    exact congrArg (fun x => [fieldOf f.width x]) (Option.some.inj same)

/-! ## One setting replaced -/

/-- A field stands for one value of its record: putting it replaces that value, which is then what the field reads. -/
structure SettingField.Puts (f : SettingField) (i n kept : Nat) : Prop where
  reads (s : State) : f.get { s with settings := f.put s.settings kept } = kept
  row (s : State) (j : Nat) : ({ s with settings := f.put s.settings kept } : State).settingRow j =
    if j = i then (s.settingRow i).set (n - 1) (f.get { s with settings := f.put s.settings kept }) else s.settingRow j
  trim (c : Settings) (b : Body) (g : GaugeSide) :
    ((f.put c kept).trim.get b).get g = if i = gaugeRecord b g then signedHalf kept else (c.trim.get b).get g

/-- A field of the site record leaves the chambers' and the gauges' records as they are. -/
theorem SettingField.puts_site {f : SettingField} {n kept : Nat}
    (reads : ∀ s : State, f.get { s with settings := f.put s.settings kept } = kept)
    (own : ∀ s : State, ({ s with settings := f.put s.settings kept } : State).settingRow 0 =
      (s.settingRow 0).set (n - 1) (f.get { s with settings := f.put s.settings kept }))
    (chamber : ∀ c, (f.put c kept).chamber = c.chamber) (trim : ∀ c, (f.put c kept).trim = c.trim) : f.Puts 0 n kept where
  reads := reads
  row s j := by
    have others (k : Nat) : ({ s with settings := f.put s.settings kept } : State).settingRow (k + 1) = s.settingRow (k + 1) := by
      have same : ({ s with settings := { f.put s.settings kept with chamber := s.settings.chamber, trim := s.settings.trim } } :
          State).settingRow (k + 1) = s.settingRow (k + 1) := by
        match k with
        | 0 | 1 | 2 | 3 | 4 | 5 | 6 | 7 | 8 | 9 => rfl
        | _ + 10 => rfl
      rw [← same]
      have put : f.put s.settings kept =
          { f.put s.settings kept with chamber := s.settings.chamber, trim := s.settings.trim } := by
        rw [← chamber s.settings, ← trim s.settings]
      exact congrArg (fun c => ({ s with settings := c } : State).settingRow (k + 1)) put
    cases j with
    | zero => exact own s
    | succ k => exact others k
  trim c b g := by
    rw [trim, if_neg]
    cases b <;> cases g <;> nofun

theorem settingPuts_site {n kept : Nat} (first : 1 ≤ n) (last : n ≤ 37) {f : SettingField} (field : settingField 0 n = some f)
    (yes : n = 2 ∨ n = 12 ∨ n = 25 ∨ n = 36 ∨ n = 37 → kept ≤ 1) : f.Puts 0 n kept := by
  have bit (h : kept ≤ 1) : (if decide (kept = 1) then 1 else 0) = kept := by
    interval_cases kept <;> rfl
  refine SettingField.puts_site (fun s => ?_) ?_ ?_ ?_
  · by_cases named : n = 2 ∨ n = 12 ∨ n = 25 ∨ n = 36 ∨ n = 37
    · have small := bit (yes named)
      rcases named with rfl | rfl | rfl | rfl | rfl <;> cases field <;> exact small
    · have numeric : 1 ≤ n ∧ n ≤ 1 ∨ 3 ≤ n ∧ n ≤ 11 ∨ 13 ≤ n ∧ n ≤ 24 ∨ 26 ≤ n ∧ n ≤ 35 := by omega
      rcases numeric with ⟨low, high⟩ | ⟨low, high⟩ | ⟨low, high⟩ | ⟨low, high⟩ <;> interval_cases n <;> cases field <;> rfl
  all_goals interval_cases n <;> cases field <;> intro _ <;> rfl

/-- A field of a chamber's record. -/
theorem settingPuts_chamber {k : Chamber} {n : Nat} (first : 1 ≤ n) (last : n ≤ 6) {f : SettingField}
    (field : settingField (chamberRecord k) n = some f) (kept : Nat) : f.Puts (chamberRecord k) n kept := by
  refine ⟨?_, fun s j => ?_, fun c b g => ?_⟩
  · cases k <;> interval_cases n <;> cases field <;> intro _ <;> rfl
  · match j with
    | 0 | 1 | 2 | 3 | 4 | 5 | 6 | 7 | 8 | 9 | 10 => cases k <;> interval_cases n <;> cases field <;> rfl
    | j + 11 =>
      rw [if_neg (by cases k <;> simp [chamberRecord])]
      rfl
  · rw [if_neg (by cases k <;> cases b <;> cases g <;> nofun)]
    cases k <;> interval_cases n <;> cases field <;> rfl

theorem halfOfSigned_signedHalf {x : Nat} (small : x < 65536) : halfOfSigned (signedHalf x) = x := by
  unfold halfOfSigned signedHalf
  split <;> omega

/-- The one field of a gauge's record. -/
theorem settingPuts_gauge {b : Body} {g : GaugeSide} {f : SettingField} (field : settingField (gaugeRecord b g) 1 = some f)
    {kept : Nat} (small : kept < 65536) : f.Puts (gaugeRecord b g) 1 kept := by
  have own := halfOfSigned_signedHalf small
  have reads (s : State) : f.get { s with settings := f.put s.settings kept } = kept := by
    refine .trans ?_ own
    cases b <;> cases g <;> cases field <;> rfl
  refine ⟨reads, fun s j => ?_, fun c b' g' => ?_⟩
  · match j with
    | 0 | 1 | 2 | 3 | 4 | 5 | 6 | 7 | 8 | 9 | 10 => cases b <;> cases g <;> cases field <;> rfl
    | j + 11 =>
      rw [if_neg (by cases b <;> cases g <;> simp [gaugeRecord])]
      rfl
  · cases b <;> cases g <;> cases field <;> cases b' <;> cases g' <;> rfl

/-! ## What a write makes of a value (R187) -/

/-- R187, R182: a setting's field, as wide as the manual gives it, brings a value in as the manual says. -/
structure Brings (i n x kept : Nat) (f : SettingField) : Prop where
  field : settingField i n = some f
  first : 1 ≤ n
  record : i ≤ 10
  width : f.width = settingBytes i n
  brings : f.bring x = kept
  puts : f.Puts i n kept

theorem flashRate_eq (x : Nat) :
    flashRate x = if 20 ≤ x then 20 else if 15 ≤ x then 15 else if 10 ≤ x then 10 else 5 := by
  simp only [flashRate, lowerOf, List.foldl_cons, List.foldl_nil]
  (repeat' split) <;> omega

theorem flashDuty_eq (x : Nat) :
    flashDuty x = if 75 ≤ x then 75 else if 67 ≤ x then 67 else if 50 ≤ x then 50 else 33 := by
  simp only [flashDuty, lowerOf, List.foldl_cons, List.foldl_nil]
  (repeat' split) <;> omega

theorem trimOf_eq {x : Nat} (small : x < 65536) :
    trimOf x = if x ≤ 500 then x else if x < 32768 then 500 else if x < 65036 then 65036 else x := by
  unfold trimOf halfOfSigned signedHalf
  (repeat' split) <;> omega

theorem settingKept_site {n x kept : Nat} (taken : settingKept 0 n x = some kept) :
    1 ≤ n ∧ n ≤ 37 ∧ (n = 2 ∨ n = 12 ∨ n = 25 ∨ n = 36 ∨ n = 37 → kept ≤ 1)
      ∧ ∃ f, settingField 0 n = some f ∧ f.width = settingBytes 0 n ∧ f.bring x = kept := by
  have first : 1 ≤ n := by
    by_contra none
    obtain rfl : n = 0 := by omega
    cases taken
  have last : n ≤ 37 := by
    by_contra beyond
    obtain ⟨m, rfl⟩ : ∃ m, n = m + 38 := ⟨n - 38, by omega⟩
    cases taken
  refine ⟨first, last, ?_, ?_⟩
  · rintro (rfl | rfl | rfl | rfl | rfl) <;> cases taken <;> exact min_le_left ..
  · by_cases listed : n = 10 ∨ 32 ≤ n ∧ n ≤ 35
    · obtain rfl | rfl | rfl | rfl | rfl : n = 10 ∨ n = 32 ∨ n = 33 ∨ n = 34 ∨ n = 35 := by omega
      all_goals cases taken
      · have multiple : x / 50 * 50 = x - x % 50 := by omega
        exact ⟨_, rfl, rfl, congrArg (clampTo 100 2000) multiple⟩
      · exact ⟨_, rfl, rfl, flashRate_eq x⟩
      · exact ⟨_, rfl, rfl, flashDuty_eq x⟩
      · exact ⟨_, rfl, rfl, flashRate_eq x⟩
      · exact ⟨_, rfl, rfl, flashDuty_eq x⟩
    · have plain : 1 ≤ n ∧ n ≤ 9 ∨ 11 ≤ n ∧ n ≤ 31 ∨ 36 ≤ n ∧ n ≤ 37 := by omega
      rcases plain with ⟨low, high⟩ | ⟨low, high⟩ | ⟨low, high⟩ <;> interval_cases n <;> cases taken <;> exact ⟨_, rfl, rfl, rfl⟩

theorem settingKept_chamber {k : Chamber} {n x kept : Nat} (taken : settingKept (chamberRecord k) n x = some kept) :
    1 ≤ n ∧ n ≤ 6 ∧ ∃ f, settingField (chamberRecord k) n = some f ∧ f.width = settingBytes (chamberRecord k) n ∧ f.bring x = kept := by
  have first : 1 ≤ n := by
    by_contra none
    obtain rfl : n = 0 := by omega
    cases k <;> cases taken
  have last : n ≤ 6 := by
    by_contra beyond
    obtain ⟨m, rfl⟩ : ∃ m, n = m + 7 := ⟨n - 7, by omega⟩
    cases k <;> cases taken
  refine ⟨first, last, ?_⟩
  cases k <;> interval_cases n <;> cases taken <;> exact ⟨_, rfl, rfl, rfl⟩

theorem settingKept_gauge {b : Body} {g : GaugeSide} {n x kept : Nat} (taken : settingKept (gaugeRecord b g) n x = some kept)
    (small : x < 65536) :
    n = 1 ∧ kept < 65536
      ∧ ∃ f, settingField (gaugeRecord b g) 1 = some f ∧ f.width = settingBytes (gaugeRecord b g) 1 ∧ f.bring x = kept := by
  obtain ⟨rfl, rfl⟩ : n = 1 ∧ trimOf x = kept := by
    have shape : settingKept (gaugeRecord b g) n x = if n = 1 then some (trimOf x) else none := by
      rw [trimOf_eq small]
      cases b <;> cases g <;> by_cases one : n = 1 <;> simp [settingKept, settingRange, gaugeRecord, one]
    rw [shape] at taken
    split at taken
    · next one => exact ⟨one, Option.some.inj taken⟩
    · cases taken
  refine ⟨rfl, ?_, ?_⟩
  · unfold trimOf halfOfSigned
    omega
  · cases b <;> cases g <;> exact ⟨_, rfl, rfl, rfl⟩

/-- The records of the SETTINGS collection that hold settings. -/
theorem settingKept_record {i n x kept : Nat} (taken : settingKept i n x = some kept) :
    i = 0 ∨ (∃ k, i = chamberRecord k) ∨ ∃ b g, i = gaugeRecord b g := by
  match i with
  | 0 => exact .inl rfl
  | 1 => exact .inr (.inl ⟨.c1, rfl⟩)
  | 2 => exact .inr (.inl ⟨.c2, rfl⟩)
  | 3 => exact .inr (.inr ⟨.up, .a, rfl⟩)
  | 4 => exact .inr (.inr ⟨.up, .b, rfl⟩)
  | 5 => exact .inr (.inr ⟨.lp, .a, rfl⟩)
  | 6 => exact .inr (.inr ⟨.lp, .b, rfl⟩)
  | 7 => exact .inr (.inr ⟨.c1, .a, rfl⟩)
  | 8 => exact .inr (.inr ⟨.c1, .b, rfl⟩)
  | 9 => exact .inr (.inr ⟨.c2, .a, rfl⟩)
  | 10 => exact .inr (.inr ⟨.c2, .b, rfl⟩)
  | j + 11 =>
    have none : settingKept (j + 11) n x = none := by simp [settingKept, settingRange]
    cases none.symm.trans taken

theorem settingKept_brings {i n x kept : Nat} (taken : settingKept i n x = some kept) (small : x < 65536) :
    ∃ f, Brings i n x kept f := by
  rcases settingKept_record taken with rfl | ⟨k, rfl⟩ | ⟨b, g, rfl⟩
  · obtain ⟨first, last, yes, f, field, width, brings⟩ := settingKept_site taken
    exact ⟨f, field, first, by omega, width, brings, settingPuts_site first last field yes⟩
  · obtain ⟨first, last, f, field, width, brings⟩ := settingKept_chamber taken
    exact ⟨f, field, first, by cases k <;> decide, width, brings, settingPuts_chamber first last field kept⟩
  · obtain ⟨rfl, fits, f, field, width, brings⟩ := settingKept_gauge taken small
    exact ⟨f, field, le_rfl, by cases b <;> cases g <;> decide, width, brings, settingPuts_gauge field fits⟩

end Sys2Proof.Machine
end

section
/-! SUPPORT. What a settings write sets off (R5, R6, R11, R13, R91, R116): the pairs, the gauges' histories, the trail timer and the
orders. -/
namespace Sys2Proof.Machine

/-! ## A setting written -/

section
variable {s t : State} {i n x kept : Nat} {f : SettingField} (h : Brings i n x kept f)
  (settings : t.settings = f.put s.settings kept) (defaulted : t.store.defaulted = s.store.defaulted)

include h settings defaulted

theorem Brings.setting {j m : Nat} (named : 1 ≤ m) :
    t.setting j m = if j = i ∧ m = n then some kept else s.setting j m := by
  have row : t.settingRow j = if j = i then (s.settingRow i).set (n - 1) kept else s.settingRow j := by
    rw [settingRow_congr settings defaulted, h.puts.row, h.puts.reads]
  have inside : n - 1 < (s.settingRow i).length := by
    have := (List.getElem?_eq_some_iff.mp h.field).1
    simpa [State.settingRow] using this
  have first := h.first
  rw [State.setting_eq_row, row]
  by_cases record : j = i
  · subst record
    by_cases same : m = n
    · subst same
      simp [inside]
    · have apart : n - 1 ≠ m - 1 := by omega
      simp [same, List.getElem?_set_ne apart, State.setting_eq_row]
  · simp [record, State.setting_eq_row]

theorem Brings.reads : t.readField .settings i n = [fieldOf (settingBytes i n) kept] := by
  have own : t.setting i n = some kept := (h.setting settings defaulted h.first).trans (if_pos ⟨rfl, rfl⟩)
  unfold State.setting at own
  unfold State.readField
  rw [h.field] at own ⊢
  rw [← h.width]
  exact congrArg (fun x => [fieldOf f.width x]) (Option.some.inj own)

theorem Brings.others {j m : Nat} (named : 0 < m) (other : j ≠ i ∨ m ≠ n) :
    t.readField .settings j m = s.readField .settings j m :=
  readField_settings_congr ((h.setting settings defaulted named).trans (if_neg (by omega)))

/-- A setting of the site's record or of a chamber's, `value` in the old settings, stays unless it is the one written. -/
theorem Brings.value {j m value value' : Nat} (named : 1 ≤ m) (old : s.setting j m = some value) (new : t.setting j m = some value') :
    value' = if j = i ∧ m = n then kept else value := by
  have := h.setting settings defaulted (j := j) named
  rw [old, new] at this
  split at this
  · next own => rw [if_pos own, Option.some.inj this]
  · next own => rw [if_neg own, Option.some.inj this]

end

/-! ## The pairs under a changed EQ_SETTLE (R11) -/

/-- R11: what a changed EQ_SETTLE makes of a pair. -/
def State.settledState (s : State) (x : PairState) : PairState :=
  match x with
  | .settling y => if y + seconds s.settings.eqSettle ≤ s.now then .equalised else .settling y
  | y => y

/-- Nothing but the pairs. -/
def PairsOnly (s t : State) : Prop := t = { s with levels.pairs := t.levels.pairs, levels.crossPair := t.levels.crossPair }

/-- No phase runs, no order is kept and no consequence waits: a pair is told of to nobody. -/
structure State.Unread (s : State) : Prop where
  agenda : s.agenda = []
  kept : s.NothingKept
  phase (k : Chamber) : (s.chamber k).phase = none
  owner : s.arbiter.owner ≠ .engaged

theorem setPair_only (s : State) (p : Pair) (x : PairState) : PairsOnly s (s.setPair p x) := by cases p <;> rfl

theorem PairsOnly.trans {s t u : State} (h : PairsOnly s t) (h' : PairsOnly t u) : PairsOnly s u := by
  unfold PairsOnly at h h' ⊢
  rw [h']
  rw [h]

theorem State.Unread.of_pairs {s t : State} (h : s.Unread) (only : PairsOnly s t) : t.Unread := by
  rw [only]
  exact ⟨h.agenda, h.kept, h.phase, h.owner⟩

theorem settledState_congr {s t : State} (only : PairsOnly s t) : t.settledState = s.settledState := by
  rw [only]
  rfl

theorem settledState_idem (s : State) (x : PairState) : s.settledState (s.settledState x) = s.settledState x := by
  cases x with
  | notEqual => rfl
  | equalised => rfl
  | settling y =>
    by_cases reached : y + seconds s.settings.eqSettle ≤ s.now <;> simp [State.settledState, reached]

/-- R11, R12: with nobody to tell, the pair's state is all that a changed EQ_SETTLE touches. -/
theorem State.Unread.resettlePair {s : State} (h : s.Unread) (p : Pair) :
    s.resettlePair p = s.setPair p (s.settledState (s.pair p)) := by
  unfold State.resettlePair State.settledState
  cases state : s.pair p with
  | notEqual => exact (state ▸ s.setPair_self p).symm
  | equalised => exact (state ▸ s.setPair_self p).symm
  | settling y =>
    dsimp only
    split
    · have told := h.of_pairs (setPair_only s p .equalised)
      rw [State.pairSettled, State.tellEqualised_idle _ p told.agenda told.phase told.owner, State.retries_kept told.kept]
    · exact (state ▸ s.setPair_self p).symm

theorem State.Unread.resettled (l : List Pair) : ∀ s : State, s.Unread →
    PairsOnly s (l.foldl State.resettlePair s)
      ∧ ∀ p, (l.foldl State.resettlePair s).pair p = if p ∈ l then s.settledState (s.pair p) else s.pair p := by
  induction l with
  | nil => exact fun s _ => ⟨rfl, fun p => by simp⟩
  | cons q l ih =>
    intro s h
    have only := setPair_only s q (s.settledState (s.pair q))
    obtain ⟨rest, pairs⟩ := ih _ (h.of_pairs only)
    rw [List.foldl_cons, h.resettlePair]
    refine ⟨only.trans rest, fun p => ?_⟩
    rw [pairs, settledState_congr only, State.setPair_pair]
    by_cases same : p = q
    · simp [same, settledState_idem]
    · simp [same]

theorem State.Unread.resettle {s : State} (h : s.Unread) :
    PairsOnly s s.resettle ∧ ∀ p, s.resettle.pair p = s.settledState (s.pair p) := by
  obtain ⟨only, pairs⟩ := State.Unread.resettled allPairs s h
  refine ⟨only, fun p => (pairs p).trans (if_pos ?_)⟩
  rcases p with ⟨e, k⟩ | _
  · cases e <;> cases k <;> decide
  · decide

/-! ## The histories under a changed AVG_DEPTH, TRIM_ENABLE or GAUGE_TRIM (R5, R6) -/

/-- The gauges that `cleared` names lose their histories; of the polls only the record kept of a gauge A whose round is under way. -/
structure LevelsCleared (cleared : Body → GaugeSide → Prop) (l m : Levels) : Prop where
  poll : m.poll.map (fun p => { p with before := none }) = l.poll.map (fun p => { p with before := none })
  emptied (b : Body) (g : GaugeSide) (named : cleared b g) : (m.bodies.get b).gauges.get g = ((l.bodies.get b).gauges.get g).cleared
  kept (b : Body) (g : GaugeSide) (other : ¬cleared b g) : (m.bodies.get b).gauges.get g = (l.bodies.get b).gauges.get g
  body (b : Body) : { m.bodies.get b with gauges := (l.bodies.get b).gauges } = l.bodies.get b

theorem LevelsCleared.refl (l : Levels) : LevelsCleared (fun _ _ => False) l l :=
  ⟨rfl, fun _ _ named => named.elim, fun _ _ _ => rfl, fun _ => rfl⟩

theorem LevelsCleared.trans {c d : Body → GaugeSide → Prop} {l m n : Levels} (h : LevelsCleared c l m) (h' : LevelsCleared d m n) :
    LevelsCleared (fun b g => c b g ∨ d b g) l n where
  poll := h'.poll.trans h.poll
  emptied b g named := by
    by_cases second : d b g
    · rw [h'.emptied b g second]
      by_cases first : c b g
      · rw [h.emptied b g first]
        rfl
      · rw [h.kept b g first]
    · rw [h'.kept b g second, h.emptied b g (named.resolve_right second)]
  kept b g other := by
    obtain ⟨first, second⟩ := not_or.mp other
    rw [h'.kept b g second, h.kept b g first]
  body b := by
    rw [← h.body b, ← h'.body b]

/-- The gauges that `cleared` names lose their histories; nothing else changes. -/
structure HistoriesCleared (cleared : Body → GaugeSide → Prop) (s t : State) : Prop where
  frame : t = { s with levels.bodies := t.levels.bodies, levels.poll := t.levels.poll }
  levels : LevelsCleared cleared s.levels t.levels

theorem HistoriesCleared.refl (s : State) : HistoriesCleared (fun _ _ => False) s s := ⟨rfl, .refl _⟩

theorem HistoriesCleared.trans {c d : Body → GaugeSide → Prop} {s t u : State} (h : HistoriesCleared c s t)
    (h' : HistoriesCleared d t u) : HistoriesCleared (fun b g => c b g ∨ d b g) s u where
  frame := by
    rw [h'.frame]
    rw [h.frame]
  levels := h.levels.trans h'.levels

theorem HistoriesCleared.congr {c d : Body → GaugeSide → Prop} {s t : State} (h : HistoriesCleared c s t)
    (same : ∀ b g, c b g ↔ d b g) : HistoriesCleared d s t :=
  (funext fun b => funext fun g => propext (same b g)) ▸ h

/-- R5: one gauge's history cleared. -/
theorem clearHistory_clears (s : State) (b : Body) (g : GaugeSide) :
    HistoriesCleared (fun b' g' => b' = b ∧ g' = g) s (s.clearHistory b g) where
  frame := rfl
  levels.poll := by
    show (s.levels.poll.map _).map _ = _
    rw [Option.map_map]
    refine Option.map_congr fun p _ => ?_
    show ({ p.cleared b g with before := none } : Poll) = _
    unfold Poll.cleared
    split <;> rfl
  levels.emptied b' g' named := by
    obtain ⟨rfl, rfl⟩ := named
    cases b' <;> cases g' <;> rfl
  levels.kept b' g' other := by
    show ((s.setGauge b g _).body b').gauges.get g' = _
    by_cases same : b' = b
    · subst same
      have apart : g' ≠ g := fun h => other ⟨rfl, h⟩
      rw [State.setGauge, State.setBody_body, if_pos rfl]
      exact (PerGauge.get_set ..).trans (if_neg apart)
    · rw [State.setGauge, State.setBody_body, if_neg same]
      rfl
  levels.body b' := by cases b <;> cases b' <;> rfl

theorem clearEach_clears (l : List (Body × GaugeSide)) (named : Body → GaugeSide → Prop) [∀ b g, Decidable (named b g)] :
    ∀ s : State, HistoriesCleared (fun b g => (b, g) ∈ l ∧ named b g) s
      (l.foldl (fun t x => if named x.1 x.2 then t.clearHistory x.1 x.2 else t) s) := by
  induction l with
  | nil => exact fun s => (HistoriesCleared.refl s).congr (by simp)
  | cons x l ih =>
    intro s
    have one : HistoriesCleared (fun b g => (b, g) = x ∧ named b g) s (if named x.1 x.2 then s.clearHistory x.1 x.2 else s) := by
      split
      · next yes =>
        refine (clearHistory_clears s x.1 x.2).congr fun b g => ⟨?_, ?_⟩
        · rintro ⟨rfl, rfl⟩
          exact ⟨rfl, yes⟩
        · rintro ⟨rfl, -⟩
          exact ⟨rfl, rfl⟩
      · next no =>
        refine (HistoriesCleared.refl s).congr fun b g => ⟨False.elim, ?_⟩
        rintro ⟨rfl, yes⟩
        exact no yes
    exact (one.trans (ih _)).congr fun b g => by simp [or_and_right]

theorem mem_allGauges (b : Body) (g : GaugeSide) : (b, g) ∈ allGauges := by cases b <;> cases g <;> decide

/-- R5, R6: all histories cleared. -/
theorem clearHistories_clears (s : State) : HistoriesCleared (fun _ _ => True) s s.clearHistories := by
  have all := clearEach_clears allGauges (fun _ _ => True) s
  simp only [if_true] at all
  exact all.congr fun b g => by simp [mem_allGauges]

/-- R5: the histories of the gauges whose GAUGE_TRIM has changed. -/
theorem trimsChanged_clears (s : State) (old : Settings) :
    HistoriesCleared (fun b g => (s.settings.trim.get b).get g ≠ (old.trim.get b).get g) s
      (allGauges.foldl (fun u g => u.trimChanged old g) s) := by
  have all := clearEach_clears allGauges (fun b g => (s.settings.trim.get b).get g ≠ (old.trim.get b).get g) s
  have same (l : List (Body × GaugeSide)) : ∀ t : State, t.settings = s.settings →
      l.foldl (fun u g => u.trimChanged old g) t =
        l.foldl (fun t x => if (s.settings.trim.get x.1).get x.2 ≠ (old.trim.get x.1).get x.2 then t.clearHistory x.1 x.2 else t) t := by
    induction l with
    | nil => exact fun _ _ => rfl
    | cons x l ih =>
      intro t settings
      have one : t.trimChanged old x =
          if (s.settings.trim.get x.1).get x.2 ≠ (old.trim.get x.1).get x.2 then t.clearHistory x.1 x.2 else t := by
        rw [State.trimChanged, settings, ite_not]
      rw [List.foldl_cons, List.foldl_cons, one]
      refine ih _ ?_
      split
      · exact settings
      · exact settings
  rw [same allGauges s rfl]
  exact all.congr fun b g => by simp [mem_allGauges]

end Sys2Proof.Machine
end

section
/-! SUPPORT. Every order of the book judged again (R90, R91), and the passing-over counts lowered (R116). -/
namespace Sys2Proof.Machine

/-! ## The orders judged again (R91) -/

/-- R90, R91: an order judged by its vessel's record, unless it is BOUND. -/
def State.judgedOrder (s : State) (o : Order) : Order :=
  if o.state.isBound then o else { o with state := s.orderState (s.vessel o.slot) }

@[simp] theorem State.judgedOrder_number (s : State) (o : Order) : (s.judgedOrder o).number = o.number := by
  unfold State.judgedOrder
  split <;> rfl

theorem State.judgedOrder_bound {s : State} {o : Order} (bound : o.state.isBound = true) : s.judgedOrder o = o := if_pos bound

theorem State.judgedOrder_free {s : State} {o : Order} (free : o.state.isBound = false) :
    s.judgedOrder o = { o with state := s.orderState (s.vessel o.slot) } := if_neg (by simp [free])

/-- R91: the orders of these numbers judged. -/
def State.judgedOf (s : State) (done : List Nat) (o : Order) : Order := if o.number ∈ done then s.judgedOrder o else o

@[simp] theorem State.judgedOf_number (s : State) (done : List Nat) (o : Order) : (s.judgedOf done o).number = o.number := by
  unfold State.judgedOf
  split
  · exact s.judgedOrder_number o
  · rfl

@[simp] theorem State.judgedOf_isBound (s : State) (done : List Nat) (o : Order) :
    (s.judgedOf done o).state.isBound = o.state.isBound := by
  unfold State.judgedOf State.judgedOrder
  split
  · split
    · rfl
    · next free => exact (s.orderState_isBound _).trans (Bool.eq_false_of_not_eq_true free).symm
  · rfl

theorem Book.mapLists_congr {b : Book} {f g : Order → Order} (same : ∀ y ∈ b.orders, f y = g y) :
    b.mapLists (List.map f) = b.mapLists (List.map g) := by
  have up : b.lists.up.map f = b.lists.up.map g := List.map_congr_left fun y mem => same y (List.mem_append_left _ mem)
  have down : b.lists.down.map f = b.lists.down.map g := List.map_congr_left fun y mem => same y (List.mem_append_right _ mem)
  simp only [Book.mapLists, up, down]

/-- The orders that stand in the book under one number are one order. -/
theorem eq_of_number {l : List Order} (distinct : (l.map (·.number)).Nodup) {x y : Order} (hx : x ∈ l) (hy : y ∈ l)
    (same : x.number = y.number) : x = y := List.inj_on_of_nodup_map distinct hx hy same

theorem find_mapped {b : Book} (distinct : (b.orders.map (·.number)).Nodup) {o : Order} (mem : o ∈ b.orders) {f : Order → Order}
    (number : ∀ y, (f y).number = y.number) : (b.mapLists (List.map f)).find o.number = some (f o) := by
  have some_found : (b.orders.find? fun y => decide (y.number = o.number)).isSome = true :=
    List.find?_isSome.mpr ⟨o, mem, by simp⟩
  obtain ⟨y, found⟩ := Option.isSome_iff_exists.mp some_found
  have number' : y.number = o.number := by simpa using List.find?_some found
  obtain rfl : y = o := eq_of_number distinct (List.mem_of_find?_eq_some found) mem number'
  rw [Book.find, Book.mapLists_orders, List.find?_map]
  have same : (fun z : Order => decide (z.number = y.number)) ∘ f = fun z => decide (z.number = y.number) := by
    funext z
    simp [number]
  rw [same, found]
  rfl

/-- R90: one more order judged. -/
theorem rejudge_next {s : State} (order : s.BookInOrder) (shut : ∀ k, s.available k = false) {o : Order} (mem : o ∈ s.book.orders)
    (done : List Nat) :
    ({ s with book := s.book.mapLists (List.map (s.judgedOf done)) } : State).rejudge o.slot =
      { s with book := s.book.mapLists (List.map (s.judgedOf (o.number :: done))) } := by
  obtain ⟨-, distinct, -, records, -⟩ := order
  obtain ⟨-, record, -⟩ := records o mem
  obtain ⟨t, ht⟩ : ∃ t, ({ s with book := s.book.mapLists (List.map (s.judgedOf done)) } : State) = t := ⟨_, rfl⟩
  have state : t.orderState (t.vessel o.slot) = s.orderState (s.vessel o.slot) := by rw [← ht]; rfl
  have closed (k : Chamber) : t.available k = false := by rw [← ht]; exact shut k
  have named : (t.vessel o.slot).order = some o.number := by rw [← ht]; exact record
  have found : t.book.find o.number = some (s.judgedOf done o) := by
    rw [← ht]
    exact find_mapped distinct mem (s.judgedOf_number done)
  have book : t.rejudgedBook o.slot (s.orderState (s.vessel o.slot)) =
      s.book.mapLists (List.map (s.judgedOf (o.number :: done))) := by
    rw [State.rejudgedBook, named, Option.bind_some, found]
    dsimp only
    rw [State.judgedOf_isBound, State.judgedOf_number, ← ht]
    by_cases bound : o.state.isBound = true
    · rw [if_pos bound]
      refine Book.mapLists_congr fun y hy => ?_
      by_cases same : y.number = o.number
      · obtain rfl := eq_of_number distinct hy mem same
        simp [State.judgedOf, State.judgedOrder_bound bound]
      · simp [State.judgedOf, same]
    · rw [if_neg bound]
      refine (s.book.mapLists_mapLists _ _).trans (Book.mapLists_congr fun y hy => ?_)
      by_cases same : y.number = o.number
      · obtain rfl := eq_of_number distinct hy mem same
        have judged := State.judgedOrder_free (s := s) (Bool.eq_false_of_not_eq_true bound)
        by_cases already : y.number ∈ done <;> simp [State.judgedOf, judged, already]
      · have other : (s.judgedOf done y).number ≠ o.number := (s.judgedOf_number done y).trans_ne same
        exact (if_neg other).trans (by simp [State.judgedOf, same])
  rw [ht, State.rejudge_eq state (.inr closed), book, ← ht]

/-- R91: without an available chamber, every order that is not BOUND takes the state its vessel's record gives. -/
theorem rejudgeAll_judges {s : State} (order : s.BookInOrder) (shut : ∀ k, s.available k = false) :
    s.rejudgeAll = { s with book := s.book.mapLists (List.map s.judgedOrder) } := by
  have each (l : List Order) : ∀ done : List Nat, (∀ o ∈ l, o ∈ s.book.orders) →
      l.foldl (fun t o => t.rejudge o.slot) ({ s with book := s.book.mapLists (List.map (s.judgedOf done)) } : State) =
        { s with book := s.book.mapLists (List.map (s.judgedOf (l.map (·.number) ++ done))) } := by
    induction l with
    | nil => exact fun _ _ => rfl
    | cons o l ih =>
      intro done mem
      rw [List.foldl_cons, rejudge_next order shut (mem o (List.mem_cons_self ..)), ih _ fun y hy => mem y (List.mem_cons_of_mem _ hy)]
      refine congrArg (fun b : Book => ({ s with book := b } : State)) (Book.mapLists_congr fun y _ => ?_)
      unfold State.judgedOf
      refine if_congr ?_ rfl rfl
      simp only [List.map_cons, List.cons_append, List.mem_append, List.mem_cons]
      tauto
  have none : s.book.mapLists (List.map (s.judgedOf [])) = s.book :=
    (Book.mapLists_congr fun y _ => if_neg List.not_mem_nil).trans (Book.mapLists_id _)
  have all := each s.book.orders [] fun _ h => h
  rw [none] at all
  refine all.trans (congrArg (fun b : Book => ({ s with book := b } : State)) (Book.mapLists_congr fun y hy => if_pos ?_))
  rw [List.append_nil]
  exact List.mem_map_of_mem hy

end Sys2Proof.Machine
end

section
/-! SUPPORT. What follows a settings write, taken together (R16, R187). -/
namespace Sys2Proof.Machine

/-- A gauge loses its history by the settings that have changed (R5, R6). -/
def State.loses (s : State) (old : Settings) (b : Body) (g : GaugeSide) : Prop :=
  (s.settings.avgDepth ≠ old.avgDepth ∨ s.settings.trimEnable ≠ old.trimEnable)
    ∨ (s.settings.trim.get b).get g ≠ (old.trim.get b).get g

/-- R91: a chamber's room has changed. -/
def State.anyRoom (s : State) (old : Settings) : Bool := s.roomChanged old .c1 || s.roomChanged old .c2

/-- What a settings write makes of an order (R91, R116). -/
def State.rewritten (s : State) (old : Settings) (limit : Bool) (o : Order) : Order :=
  if limit then { o with passOver := min s.settings.passLimit o.passOver }
  else if s.anyRoom old then s.judgedOrder o else o

/-- R16: what a settings write leaves, its values having replaced those of `old` in `s`. -/
structure WrittenUp (s : State) (old : Settings) (limit : Bool) (t : State) : Prop where
  frame : t = { s with levels := t.levels, book.lists := t.book.lists }
  levels : t.levels.queue = s.levels.queue ∧ t.levels.forceFast = s.levels.forceFast
  pairs (p : Pair) : t.pair p = if s.settings.eqSettle = old.eqSettle then s.pair p else s.settledState (s.pair p)
  gauges : LevelsCleared (s.loses old) s.levels t.levels
  trail : t.levels.trail = if s.settings.trailPeriod = old.trailPeriod then s.levels.trail
    else if s.settings.trailPeriod = 0 then none else some (s.now + seconds s.settings.trailPeriod)
  lists (d : Direction) : t.book.lists.get d = (s.book.lists.get d).map (s.rewritten old limit)

/-- R11: the first step of the follow-up. -/
theorem resettled_if {s : State} {old : Settings} (unread : s.settings.eqSettle ≠ old.eqSettle → s.Unread) :
    ∃ t, (if s.settings.eqSettle = old.eqSettle then s else s.resettle) = t ∧ PairsOnly s t
      ∧ ∀ p, t.pair p = if s.settings.eqSettle = old.eqSettle then s.pair p else s.settledState (s.pair p) := by
  by_cases same : s.settings.eqSettle = old.eqSettle
  · simp only [if_pos same]
    exact ⟨_, rfl, rfl, fun _ => rfl⟩
  · obtain ⟨only, pairs⟩ := (unread same).resettle
    simp only [if_neg same]
    exact ⟨_, rfl, only, pairs⟩

theorem clearHistories_if (s : State) (same : Prop) [Decidable same] :
    HistoriesCleared (fun _ _ => ¬same) s (if same then s else s.clearHistories) := by
  split
  · next yes => exact (HistoriesCleared.refl s).congr fun _ _ => by simp [yes]
  · next no => exact (clearHistories_clears s).congr fun _ _ => by simp [no]

/-- R13: the trail timer after the follow-up. -/
def State.trailed (s : State) (old : Settings) (l : Levels) : Levels :=
  { l with
    trail := if s.settings.trailPeriod = old.trailPeriod then l.trail
      else if s.settings.trailPeriod = 0 then none else some (s.now + seconds s.settings.trailPeriod) }

theorem startTrail_if {s : State} {old : Settings} {l : Levels} {b : Book} :
    (if s.settings.trailPeriod = old.trailPeriod then ({ s with levels := l, book := b } : State)
      else ({ s with levels := l, book := b } : State).startTrail) = { s with levels := s.trailed old l, book := b } := by
  unfold State.trailed
  split
  · rfl
  · rfl

/-- R116: the passing-over counts after the follow-up. -/
def State.lowered (s : State) (limit : Bool) : Book :=
  if limit then s.book.mapLists (List.map fun o => { o with passOver := min s.settings.passLimit o.passOver }) else s.book

/-- R91, R116: the orders after the follow-up, whatever the levels have become. -/
theorem rewritten_if {s : State} {old : Settings} {limit : Bool} (l : Levels)
    (room : s.anyRoom old = true → limit = false ∧ s.BookInOrder ∧ ∀ k, s.available k = false) :
    (if s.anyRoom old then ({ s with levels := l, book := s.lowered limit } : State).rejudgeAll
      else { s with levels := l, book := s.lowered limit }) =
      { s with levels := l, book := s.book.mapLists (List.map (s.rewritten old limit)) } := by
  by_cases any : s.anyRoom old = true
  · obtain ⟨rfl, order, shut⟩ := room any
    have judged : s.rewritten old false = s.judgedOrder := funext fun o => by simp [State.rewritten, any]
    rw [if_pos any, judged]
    exact rejudgeAll_judges (s := { s with levels := l }) order shut
  · rw [if_neg any]
    cases limit with
    | true => rfl
    | false =>
      have same : s.rewritten old false = id := funext fun o => by simp [State.rewritten, any]
      rw [same, Book.mapLists_id]
      rfl

/-- R5, R6, R11: the part of the follow-up that the level monitor does first. -/
def State.remeasured (s : State) (old : Settings) : State :=
  let t := if s.settings.eqSettle = old.eqSettle then s else s.resettle
  let t := if s.settings.avgDepth = old.avgDepth then t else t.clearHistories
  if s.settings.trimEnable = old.trimEnable then t else t.clearHistories

theorem remeasured_levels {s : State} {old : Settings} (unread : s.settings.eqSettle ≠ old.eqSettle → s.Unread) :
    ∃ l : Levels, s.remeasured old = { s with levels := l }
      ∧ (∀ p, ({ s with levels := l } : State).pair p =
        if s.settings.eqSettle = old.eqSettle then s.pair p else s.settledState (s.pair p))
      ∧ l = { s.levels with bodies := l.bodies, poll := l.poll, pairs := l.pairs, crossPair := l.crossPair }
      ∧ LevelsCleared (fun _ _ => s.settings.avgDepth ≠ old.avgDepth ∨ s.settings.trimEnable ≠ old.trimEnable) s.levels l := by
  obtain ⟨t₁, settled, only, pairs⟩ := resettled_if unread
  have depth := clearHistories_if t₁ (s.settings.avgDepth = old.avgDepth)
  have cleared := depth.trans (clearHistories_if _ (s.settings.trimEnable = old.trimEnable))
  obtain ⟨t, whole⟩ : ∃ t, s.remeasured old = t := ⟨_, rfl⟩
  have last : HistoriesCleared (fun _ _ => s.settings.avgDepth ≠ old.avgDepth ∨ s.settings.trimEnable ≠ old.trimEnable) t₁ t := by
    have same := whole
    rw [State.remeasured, settled] at same
    exact same ▸ cleared
  have bodies : t₁.levels.bodies = s.levels.bodies := by rw [only]
  have poll : t₁.levels.poll = s.levels.poll := by rw [only]
  have shape : t = { s with levels := t.levels } := by
    rw [last.frame]
    rw [only]
  refine ⟨t.levels, whole.trans shape, fun p => ?_, ?_, ?_⟩
  · rw [← shape, ← pairs p, last.frame]
    cases p <;> rfl
  · rw [last.frame]
    rw [only]
  · obtain ⟨poll', emptied, kept, body⟩ := last.levels
    rw [poll] at poll'
    rw [bodies] at emptied kept body
    exact ⟨poll', emptied, kept, body⟩

theorem settingsWritten_eq {s : State} {old : Settings} {limit : Bool} {l : Levels} (measured : s.remeasured old = { s with levels := l })
    (room : s.anyRoom old = true → limit = false ∧ s.BookInOrder ∧ ∀ k, s.available k = false) :
    s.settingsWritten old limit = allGauges.foldl (fun u g => u.trimChanged old g)
      { s with levels := s.trailed old l, book := s.book.mapLists (List.map (s.rewritten old limit)) } := by
  have counts : (if limit then ({ s with levels := l } : State).lowerCounts else { s with levels := l }) =
      { s with levels := l, book := s.lowered limit } := by
    cases limit <;> rfl
  rw [← rewritten_if _ room, ← startTrail_if, ← counts, ← measured]
  rfl

theorem settingsWritten_up {s : State} {old : Settings} {limit : Bool}
    (unread : s.settings.eqSettle ≠ old.eqSettle → s.Unread)
    (room : s.anyRoom old = true → limit = false ∧ s.BookInOrder ∧ ∀ k, s.available k = false) :
    WrittenUp s old limit (s.settingsWritten old limit) := by
  obtain ⟨l, measured, pairs, rest, cleared⟩ := remeasured_levels unread
  rw [settingsWritten_eq measured room]
  obtain ⟨u, begun⟩ : ∃ u, ({ s with
      levels := s.trailed old l, book := s.book.mapLists (List.map (s.rewritten old limit)) } : State) = u := ⟨_, rfl⟩
  have last := trimsChanged_clears u old
  rw [begun]
  generalize allGauges.foldl (fun u g => u.trimChanged old g) u = t at last
  obtain ⟨frame, trims⟩ := last
  subst begun
  have first : LevelsCleared _ s.levels (s.trailed old l) := ⟨cleared.poll, cleared.emptied, cleared.kept, cleared.body⟩
  have gauges := first.trans trims
  rw [frame]
  refine ⟨rfl, ⟨congrArg (·.queue) rest, congrArg (·.forceFast) rest⟩, fun p => ?_, ?_, ?_, fun d => ?_⟩
  · rw [← pairs p]
    cases p <;> rfl
  · exact ⟨gauges.poll, gauges.emptied, gauges.kept, gauges.body⟩
  · have trail : l.trail = s.levels.trail := congrArg (·.trail) rest
    show (if _ then l.trail else _) = _
    rw [trail]
  · cases d <;> rfl

end Sys2Proof.Machine
end

section
/-! SUPPORT. The write of any one setting (R16, R182, R187), settled. -/
namespace Sys2Proof.Machine

/-! ## The value list -/

theorem bytesNat_lt (l : List Byte) : bytesNat l < 256 ^ l.length := by
  have each (l : List Byte) : ∀ n k : Nat, n < 256 ^ k → l.foldl (fun n b => n * 256 + b.toNat) n < 256 ^ (k + l.length) := by
    induction l with
    | nil => exact fun _ _ small => small
    | cons b l ih =>
      intro n k small
      have byte : b.toNat < 256 := b.isLt
      have next : n * 256 + b.toNat < 256 ^ (k + 1) := by
        rw [Nat.pow_succ]
        omega
      rw [List.foldl_cons, List.length_cons, Nat.add_comm l.length, ← Nat.add_assoc]
      exact ih _ _ next
  have all := each l 0 0 (by decide)
  rwa [Nat.zero_add] at all

theorem settingBytes_le (i n : Nat) : settingBytes i n ≤ 2 := by
  unfold settingBytes
  split <;> decide

theorem bytesNat_setting {i n : Nat} {data : List Byte} (length : data.length = settingBytes i n) : bytesNat data < 65536 :=
  (bytesNat_lt data).trans_le (Nat.pow_le_pow_right (by decide) (length ▸ settingBytes_le i n))

/-- Whether a field is a setting does not rest on the value given. -/
theorem settingKept_zero {i n x kept : Nat} (taken : settingKept i n x = some kept) : ∃ y, settingKept i n 0 = some y := by
  have same : (settingKept i n 0).isSome = (settingKept i n x).isSome := by
    unfold settingKept
    cases settingRange i n with
    | some r => rfl
    | none =>
      dsimp only
      simp only [apply_ite Option.isSome, Option.isSome_some]
  rw [taken] at same
  exact Option.isSome_iff_exists.mp same

theorem Brings.count {i n x kept : Nat} {f : SettingField} (h : Brings i n x kept f) : n ≤ Collection.settings.fieldCount i := by
  have := (List.getElem?_eq_some_iff.mp h.field).1
  show n ≤ (settingFields i).length
  omega

theorem Brings.wide {i n x kept : Nat} {f : SettingField} (h : Brings i n x kept f) :
    Collection.settings.width i n = settingBytes i n := by
  show ((settingField i n).map (·.width)).getD 0 = _
  rw [h.field]
  exact h.width

/-! ## The write -/

/-- A value that has been written as `kept` where its field is the one named. -/
theorem written_differs {i n j m value value' kept : Nat} (written : value' = if j = i ∧ m = n then kept else value) :
    value' ≠ value ↔ i = j ∧ n = m ∧ kept ≠ value := by
  subst written
  split
  · next own =>
    obtain ⟨rfl, rfl⟩ := own
    simp
  · next other => 
    refine ⟨fun h => absurd rfl h, fun ⟨hi, hn, _⟩ => absurd ⟨hi.symm, hn.symm⟩ other⟩

/-- R187: what the write of one setting comes to, its follow-up `t` leaving nothing that waits. -/
theorem WritesField.setting {s t : State} {i n kept : Nat} {data : List Byte} {c : Instr} {code : Nat} {f : SettingField}
    (h : WritesField s .tc .settings i n data c code none) (takes : s.takes .tc) (brings : Brings i n (bytesNat data) kept f)
    (written : ({ s.validFrame .tc with settings := f.put s.settings kept } : State).settingsWritten s.settings
      (givesPassLimit i [(n, data)]) = t)
    (calm : t.Calm) (stations : t.stations = (s.validFrame .tc).stations) :
    exec c s = .next { t.derive with stations := (s.answered .tc code (if kept = bytesNat data then .ok else .limited) []).stations } := by
  obtain ⟨judge, run, judged⟩ := h.judged
  have put : putSetting i s.settings (n, data) = f.put s.settings kept := by
    rw [putSetting, brings.field, ← brings.brings]
  have brought : broughtIn ([(n, data)].any (notAllowed i)) = if kept = bytesNat data then .ok else .limited := by
    have bad : notAllowed i (n, data) = decide (kept ≠ bytesNat data) := by
      rw [notAllowed, brings.field, ← brings.brings]
    rw [broughtIn_single, bad]
    by_cases same : kept = bytesNat data <;> simp [same]
  have record : (s.validFrame .tc).writeRecord .settings i [(n, data)] =
      (t, if kept = bytesNat data then .ok else .limited, []) := by
    show (State.settingsWritten { s.validFrame .tc with settings := putSetting i s.settings (n, data) } s.settings
      (givesPassLimit i [(n, data)]), broughtIn _, _) = _
    rw [put, written, brought]
  have accepted : (if kept = bytesNat data then ReplyOutcome.ok else .limited).accepted = true := by split <;> rfl
  have result : judge (s.validFrame .tc) = (t.derive, some (if kept = bytesNat data then .ok else .limited, [])) := by
    have permitted (own : State → Judged) :
        (s.validFrame .tc).judged .tc Collection.settings.writers own = own (s.validFrame .tc) := rfl
    have finished : (t.movedTo .tc none).finish = t.derive := State.finish_calm calm
    rw [judged, permitted, record, Written.judged, if_pos accepted, finished]
  rw [run, State.exchange_takes takes result]
  obtain ⟨u, derived⟩ : ∃ u, t.derive = u := ⟨_, rfl⟩
  have same : u.stations = (s.validFrame .tc).stations := by
    rw [← derived]
    exact stations
  rw [derived]
  have record (x : ReplyOutcome) :
      (u.setStation .tc { u.station .tc with tx := [⟨code, x, []⟩], service := .idle }).stations = (s.answered .tc code x []).stations := by
    have idle : (s.stations.get .tc).service = .idle := takes.2
    simp [State.setStation, State.station, same, State.validFrame, State.answered, ← idle]
  refine congrArg Host.Outcome.next ?_
  rw [← record]
  rfl

/-! ## Which settings have changed -/

/-- The settings that act at their write, one setting having been written. -/
structure NewSettings (s u : State) (i n kept : Nat) : Prop where
  eqSettle : u.settings.eqSettle = if 0 = i ∧ 6 = n then kept else s.settings.eqSettle
  avgDepth : u.settings.avgDepth = if 0 = i ∧ 8 = n then kept else s.settings.avgDepth
  enable : (if u.settings.trimEnable then 1 else 0) = if 0 = i ∧ 12 = n then kept else if s.settings.trimEnable then 1 else 0
  limit : u.settings.passLimit = if 0 = i ∧ 26 = n then kept else s.settings.passLimit
  trail : u.settings.trailPeriod = if 0 = i ∧ 31 = n then kept else s.settings.trailPeriod
  long (k : Chamber) : (u.settings.chamber.get k).usableLength =
    if chamberRecord k = i ∧ 1 = n then kept else (s.settings.chamber.get k).usableLength
  wide (k : Chamber) : (u.settings.chamber.get k).usableWidth =
    if chamberRecord k = i ∧ 2 = n then kept else (s.settings.chamber.get k).usableWidth
  trim (b : Body) (g : GaugeSide) : (u.settings.trim.get b).get g =
    if i = gaugeRecord b g then signedHalf kept else (s.settings.trim.get b).get g

theorem Brings.newSettings {s u : State} {i n x kept : Nat} {f : SettingField} (h : Brings i n x kept f)
    (settings : u.settings = f.put s.settings kept) (defaulted : u.store.defaulted = s.store.defaulted) :
    NewSettings s u i n kept where
  eqSettle := h.value settings defaulted (j := 0) (m := 6) (by decide) rfl rfl
  avgDepth := h.value settings defaulted (j := 0) (m := 8) (by decide) rfl rfl
  enable := h.value settings defaulted (j := 0) (m := 12) (by decide) rfl rfl
  limit := h.value settings defaulted (j := 0) (m := 26) (by decide) rfl rfl
  trail := h.value settings defaulted (j := 0) (m := 31) (by decide) rfl rfl
  long k := by cases k <;> exact h.value settings defaulted (m := 1) (by decide) rfl rfl
  wide k := by cases k <;> exact h.value settings defaulted (m := 2) (by decide) rfl rfl
  trim b g := settings ▸ h.puts.trim s.settings b g

section
variable {s u : State} {i n kept : Nat} (h : NewSettings s u i n kept)
include h

theorem NewSettings.loses (b : Body) (g : GaugeSide) :
    u.loses s.settings b g ↔ (i = 0 ∧ n = 8 ∧ kept ≠ s.settings.avgDepth)
      ∨ (i = 0 ∧ n = 12 ∧ kept ≠ if s.settings.trimEnable then 1 else 0)
      ∨ i = gaugeRecord b g ∧ signedHalf kept ≠ (s.settings.trim.get b).get g := by
  have enabled : u.settings.trimEnable ≠ s.settings.trimEnable ↔ i = 0 ∧ n = 12 ∧ kept ≠ if s.settings.trimEnable then 1 else 0 := by
    rw [← written_differs h.enable]
    cases u.settings.trimEnable <;> cases s.settings.trimEnable <;> simp
  have trimmed : (u.settings.trim.get b).get g ≠ (s.settings.trim.get b).get g ↔
      i = gaugeRecord b g ∧ signedHalf kept ≠ (s.settings.trim.get b).get g := by
    rw [h.trim]
    split
    · next own => simp [own]
    · next other => simp [other]
  rw [State.loses, written_differs h.avgDepth, enabled, trimmed, or_assoc]

/-- R91: the room of a chamber present has changed. -/
theorem NewSettings.roomChanged (k : Chamber) (present : u.chamberPresent k = s.chamberPresent k) :
    u.roomChanged s.settings k = true ↔ s.chamberPresent k = true ∧ i = chamberRecord k
      ∧ (n = 1 ∧ kept ≠ (s.settings.chamber.get k).usableLength ∨ n = 2 ∧ kept ≠ (s.settings.chamber.get k).usableWidth) := by
  have long := written_differs (h.long k)
  have wide := written_differs (h.wide k)
  have changed : u.roomChanged s.settings k = true ↔ s.chamberPresent k = true
      ∧ ((u.settings.chamber.get k).usableLength ≠ (s.settings.chamber.get k).usableLength
        ∨ (u.settings.chamber.get k).usableWidth ≠ (s.settings.chamber.get k).usableWidth) := by
    rw [State.roomChanged, present]
    simp
  rw [changed, long, wide, ← and_or_left]

/-- R11: what the write makes of a pair. -/
theorem NewSettings.settles (x : PairState) :
    (if u.settings.eqSettle = s.settings.eqSettle then x else u.settledState x) = match x with
      | .settling y => if (i = 0 ∧ n = 6 ∧ kept ≠ s.settings.eqSettle) ∧ y + seconds kept ≤ u.now then .equalised else .settling y
      | y => y := by
  have differs := written_differs h.eqSettle
  by_cases same : u.settings.eqSettle = s.settings.eqSettle
  · rw [if_pos same]
    cases x with
    | notEqual => rfl
    | equalised => rfl
    | settling y => exact (if_neg fun h => differs.mpr h.1 same).symm
  · have changed := differs.mp same
    have period : u.settings.eqSettle = kept := h.eqSettle.trans (if_pos ⟨changed.1.symm, changed.2.1.symm⟩)
    rw [if_neg same]
    cases x with
    | notEqual => rfl
    | equalised => rfl
    | settling y =>
      rw [State.settledState, period]
      exact if_congr (iff_and_self.mpr fun _ => changed) rfl rfl

/-- R13: the trail timer after the write. -/
theorem NewSettings.trailed {t : State} {limit : Bool} (up : WrittenUp u s.settings limit t) :
    t.levels.trail = if i = 0 ∧ n = 31 ∧ kept ≠ s.settings.trailPeriod then if kept = 0 then none else some (u.now + seconds kept)
      else u.levels.trail := by
  have differs := written_differs h.trail
  refine up.trail.trans ?_
  by_cases same : u.settings.trailPeriod = s.settings.trailPeriod
  · rw [if_pos same, if_neg fun changed => differs.mpr changed same]
  · have changed := differs.mp same
    have period : u.settings.trailPeriod = kept := h.trail.trans (if_pos ⟨changed.1.symm, changed.2.1.symm⟩)
    rw [if_neg same, if_pos changed, period]

/-- R91, R116: what the write makes of an order. -/
theorem NewSettings.rewritten {data : List Byte} (o : Order) :
    u.rewritten s.settings (givesPassLimit i [(n, data)]) o =
      if i = 0 ∧ n = 26 then { o with passOver := min kept o.passOver }
      else if u.anyRoom s.settings = true ∧ o.state.isBound = false then { o with state := u.orderState (u.vessel o.slot) }
      else o := by
  by_cases limit : i = 0 ∧ n = 26
  · have given : givesPassLimit i [(n, data)] = true := by simp [givesPassLimit, limit]
    have value : u.settings.passLimit = kept := h.limit.trans (if_pos ⟨limit.1.symm, limit.2.symm⟩)
    rw [given, if_pos limit, ← value]
    rfl
  · have given : givesPassLimit i [(n, data)] = false := by simpa [givesPassLimit] using limit
    rw [given, if_neg limit]
    cases any : u.anyRoom s.settings <;> cases bound : o.state.isBound <;> simp [State.rewritten, State.judgedOrder, any, bound]

end

/-- Settles O49: the field written is the one whose value differs, and what has its value for a premise follows. -/
theorem settingsWritesTakeEffect : Obligations.SettingsWritesTakeEffect := by
  intro s st i n kept data x takes taken
  refine ⟨fun length => ?format, fun length other => ?barred, fun length tc calm settle room => ?written⟩
  case format =>
    obtain ⟨y, zero⟩ := settingKept_zero taken
    obtain ⟨f, brings⟩ := settingKept_brings zero (by decide)
    exact exec_writeAt_format takes rfl brings.first brings.count (brings.wide.symm ▸ length)
  all_goals obtain ⟨f, brings⟩ := settingKept_brings taken (bytesNat_setting length)
  all_goals have write := writesField_at s st (c := 3) rfl brings.record brings.first brings.count (length.trans brings.wide.symm)
  case barred => exact write.notPermitted takes rfl other
  case written =>
    subst tc
    obtain ⟨c, named⟩ : ∃ c, f.put s.settings kept = c := ⟨_, rfl⟩
    obtain ⟨u, begun⟩ : ∃ u, ({ s.validFrame .tc with settings := c } : State) = u := ⟨_, rfl⟩
    have settings : u.settings = f.put s.settings kept := by rw [← begun, named]
    have defaulted : u.store.defaulted = s.store.defaulted := by rw [← begun]; rfl
    have new := brings.newSettings settings defaulted
    have unread (changed : u.settings.eqSettle ≠ s.settings.eqSettle) : u.Unread := by
      obtain ⟨record, field, -⟩ := (written_differs new.eqSettle).mp changed
      obtain ⟨none, phase, owner⟩ := settle ⟨record, field⟩
      rw [← begun]
      exact ⟨calm.1, none, phase, owner⟩
    have one := new.roomChanged .c1 (by rw [← begun]; rfl)
    have two := new.roomChanged .c2 (by rw [← begun]; rfl)
    have resized : u.anyRoom s.settings = true ↔ _ := (Iff.of_eq (Bool.or_eq_true ..)).trans (or_congr one two)
    have small (changed : u.anyRoom s.settings = true) : (i = 1 ∨ i = 2) ∧ n ≤ 2 := by
      rcases resized.mp changed with ⟨-, record, field⟩ | ⟨-, record, field⟩
      · exact ⟨.inl record, by omega⟩
      · exact ⟨.inr record, by omega⟩
    have ordered (changed : u.anyRoom s.settings = true) :
        givesPassLimit i [(n, data)] = false ∧ u.BookInOrder ∧ ∀ k, u.available k = false := by
      obtain ⟨order, shut⟩ := room (small changed)
      have other : ¬i = 0 := by
        have := (small changed).1
        omega
      rw [← begun]
      exact ⟨by simp [givesPassLimit, other], order, shut⟩
    have up := settingsWritten_up unread ordered
    obtain ⟨t, written⟩ : ∃ t, u.settingsWritten s.settings (givesPassLimit i [(n, data)]) = t := ⟨_, rfl⟩
    rw [written] at up
    have frame : t = { s.validFrame .tc with settings := c, levels := t.levels, book.lists := t.book.lists } := by
      rw [up.frame, ← begun]
    have quiet : t.Calm := by
      rw [frame]
      exact calm
    have levels : u.levels = s.levels := by
      rw [← begun]
      rfl
    have now : u.now = s.now := by
      rw [← begun]
      rfl
    have lists : u.book.lists = s.book.lists := by
      rw [← begun]
      rfl
    have gauges := levels ▸ up.gauges
    have run := write.setting takes brings (by rw [named]; exact begun ▸ written) quiet (by rw [frame])
    refine ⟨_, run, ?frame, ?own, ?others, ?pairs, ?gauges, ?body, ?queue, ?force, ?poll, ?trail, ?lists⟩
    case frame =>
      rw [frame]
      rfl
    case own => exact brings.reads (by rw [frame]; exact named.symm) (by rw [frame]; rfl)
    case others => exact fun j m => brings.others (by rw [frame]; exact named.symm) (by rw [frame]; rfl)
    case pairs =>
      intro p
      have stands : u.pair p = s.pair p := by
        rw [← begun]
        cases p <;> rfl
      have settled := (up.pairs p).trans (new.settles (u.pair p))
      rw [stands, now] at settled
      refine Eq.trans (by cases p <;> rfl) (settled.trans ?_)
      cases s.pair p <;> rfl
    case gauges =>
      intro b g
      by_cases lost : u.loses s.settings b g
      · refine (gauges.emptied b g lost).trans ?_
        exact congrArg (fun l => { (s.body b).gauges.get g with history := l }) (if_pos ((new.loses b g).mp lost)).symm
      · refine (gauges.kept b g lost).trans ?_
        exact congrArg (fun l => { (s.body b).gauges.get g with history := l }) (if_neg fun h => lost ((new.loses b g).mpr h)).symm
    case body => exact gauges.body
    case queue => exact up.levels.1.trans (congrArg (·.queue) levels)
    case force => exact up.levels.2.trans (congrArg (·.forceFast) levels)
    case poll => exact gauges.poll
    case trail =>
      have trail := new.trailed up
      rw [levels, now] at trail
      exact trail
    case lists =>
      intro d
      refine (up.lists d).trans ?_
      rw [lists]
      refine List.map_congr_left fun o _ => ?_
      refine (new.rewritten o).trans (if_congr Iff.rfl rfl (if_congr (and_congr_left' resized) ?_ rfl))
      have vessel : u.vessel o.slot = s.vessel o.slot := by
        rw [← begun]
        rfl
      have fits : u.fits = t.fits := by
        rw [up.frame]
        rfl
      rw [vessel, State.orderState, fits]
      cases (s.vessel o.slot).state <;> rfl

end Sys2Proof.Machine
end

section
/-! SUPPORT. What the consequences of a level handed on leave alone (R9, R34, R35): the overflow memories, the orders already sent, the
notices, a cross sluice on its way to 0, and the chambers that take no part. -/
namespace Sys2Proof.Machine

/-! ## The relation -/

/-- A sluice MOVING to 0 with no ramp of its own. -/
def SluiceRec.goesShut (r : SluiceRec) : Prop := r.state = .moving ∧ r.target = some (.step 0) ∧ r.ramp = none

/-- Chamber k takes no part: of its record only the water record may change, its gates stand, a sluice of it without a ramp stands,
and no wish of it is posted. -/
structure Untouched (k : Chamber) (s t : State) : Prop where
  chamber : t.chamber k = { s.chamber k with water := (t.chamber k).water }
  gates (e : Side) : t.gate k e = s.gate k e
  sluices (i : Side) (still : (s.sluice (.chamber k i)).ramp = none) : t.sluice (.chamber k i) = s.sluice (.chamber k i)
  wish (unposted : s.wish k = none) : t.wish k = none

/-- What every consequence leaves, the chambers of `K` taking no part in it. -/
structure Acts (K : Chamber → Prop) (s t : State) : Prop where
  overflow : t.drive.overflow = s.drive.overflow
  sent : s.drive.sent <+: t.drive.sent
  notices (st : Station) (n : NoticeKind) (raised : n ∈ (s.station st).notices) : n ∈ (t.station st).notices
  cross (shutting : (s.sluice .cross).goesShut) : t.sluice .cross = s.sluice .cross
  untouched (k : Chamber) (out : K k) : Untouched k s t

/-- A consequence that halts no chamber. -/
structure Reacts (K : Chamber → Prop) (s t : State) : Prop extends Acts K s t where
  live (k : Chamber) (was : (s.chamber k).state.live = true) : (t.chamber k).state.live = true

theorem Untouched.refl (k : Chamber) (s : State) : Untouched k s s := ⟨rfl, fun _ => rfl, fun _ _ => rfl, id⟩

theorem Untouched.trans {k : Chamber} {s t u : State} (h : Untouched k s t) (h' : Untouched k t u) : Untouched k s u where
  chamber := by rw [h'.chamber, h.chamber]
  gates e := (h'.gates e).trans (h.gates e)
  sluices i still := by
    have same := h.sluices i still
    exact (h'.sluices i (by rw [same]; exact still)).trans same
  wish unposted := h'.wish (h.wish unposted)

theorem Untouched.state {k : Chamber} {s t : State} (h : Untouched k s t) : (t.chamber k).state = (s.chamber k).state := by
  rw [h.chamber]

section
variable {K L : Chamber → Prop} {s t u : State}

theorem Acts.refl (K : Chamber → Prop) (s : State) : Acts K s s :=
  ⟨rfl, List.prefix_refl _, fun _ _ => id, fun _ => rfl, fun k _ => .refl k s⟩

theorem Acts.trans (h : Acts K s t) (h' : Acts K t u) : Acts K s u where
  overflow := h'.overflow.trans h.overflow
  sent := h.sent.trans h'.sent
  notices st n raised := h'.notices st n (h.notices st n raised)
  cross shutting := by
    have same := h.cross shutting
    exact (h'.cross (by rw [same]; exact shutting)).trans same
  untouched k out := (h.untouched k out).trans (h'.untouched k out)

theorem Acts.mono (h : Acts K s t) (fewer : ∀ k, L k → K k) : Acts L s t :=
  ⟨h.overflow, h.sent, h.notices, h.cross, fun k out => h.untouched k (fewer k out)⟩

theorem Reacts.refl (K : Chamber → Prop) (s : State) : Reacts K s s := ⟨.refl K s, fun _ => id⟩

theorem Reacts.trans (h : Reacts K s t) (h' : Reacts K t u) : Reacts K s u :=
  ⟨h.toActs.trans h'.toActs, fun k was => h'.live k (h.live k was)⟩

theorem Reacts.mono (h : Reacts K s t) (fewer : ∀ k, L k → K k) : Reacts L s t := ⟨h.toActs.mono fewer, h.live⟩

/-- Nothing of the plant, the sequencers or the arbiter changes. -/
theorem Reacts.of_same (drive : t.drive = s.drive) (chambers : t.chambers = s.chambers) (arbiter : t.arbiter = s.arbiter)
    (notices : ∀ st n, n ∈ (s.station st).notices → n ∈ (t.station st).notices) : Reacts K s t where
  overflow := by rw [drive]
  sent := by rw [drive]
  notices := notices
  cross _ := sluice_of_drive drive _
  untouched k _ := ⟨by rw [State.chamber, chambers]; rfl, gate_of_drive drive k, fun _ _ => sluice_of_drive drive _,
    fun unposted => by rw [State.wish, arbiter]; exact unposted⟩
  live k was := by
    rw [State.chamber, chambers]
    exact was

/-- An order to one actuator, or what becomes of it. -/
theorem Reacts.of_moved {a : Actuator} (h : ActuatorMoved s t a) (gate : ∀ k e, K k → a ≠ .gate k e)
    (sluice : ∀ k i, K k → a = .sluice (.chamber k i) → (s.sluice (.chamber k i)).ramp = none →
      t.sluice (.chamber k i) = s.sluice (.chamber k i))
    (cross : a = .sluice .cross → (s.sluice .cross).goesShut → t.sluice .cross = s.sluice .cross) : Reacts K s t where
  overflow := h.guards.1
  sent := h.sent
  notices := h.notices
  cross shutting := by
    by_cases own : a = .sluice .cross
    · exact cross own shutting
    · exact h.sluices _ own
  untouched k out :=
    { chamber := by rw [h.chamber k]
      gates := fun e => h.gates k e (gate k e out)
      sluices := fun i still => by
        by_cases own : a = .sluice (.chamber k i)
        · exact sluice k i out own still
        · exact h.sluices _ own
      wish := fun unposted => by rw [State.wish, h.arbiter]; exact unposted }
  live k was := by rw [h.chamber k]; exact was

/-- A gate of one chamber. -/
theorem Reacts.of_gate {k : Chamber} {e : Side} (h : ActuatorMoved s t (.gate k e)) : Reacts (· ≠ k) s t :=
  .of_moved h (fun _ _ out same => out (by cases same; rfl)) nofun nofun

/-- A sluice of one chamber. -/
theorem Reacts.of_sluice {k : Chamber} {i : Side} (h : ActuatorMoved s t (.sluice (.chamber k i))) : Reacts (· ≠ k) s t :=
  .of_moved h nofun (fun _ _ out same => absurd (by cases same; rfl) out) nofun

/-- The cross sluice, unless it was on its way to 0. -/
theorem Reacts.of_cross (h : ActuatorMoved s t (.sluice .cross))
    (keeps : (s.sluice .cross).goesShut → t.sluice .cross = s.sluice .cross) : Reacts K s t :=
  .of_moved h nofun nofun fun _ => keeps

theorem Acts.setChamber (s : State) (k : Chamber) (c : Sequencer) : Acts (· ≠ k) s (s.setChamber k c) where
  overflow := rfl
  sent := List.prefix_refl _
  notices _ _ := id
  cross _ := rfl
  untouched k' out := by
    have same : (s.setChamber k c).chamber k' = s.chamber k' := (State.setChamber_chamber ..).trans (if_neg out)
    exact ⟨by rw [same], fun _ => rfl, fun _ _ => rfl, id⟩

/-- A chamber's sequencer changed, a live one staying live. -/
theorem Reacts.setChamber (s : State) (k : Chamber) (c : Sequencer) (stays : (s.chamber k).state.live = true → c.state.live = true) :
    Reacts (· ≠ k) s (s.setChamber k c) where
  toActs := .setChamber s k c
  live k' was := by
    rw [State.setChamber_chamber]
    split
    · next own => exact stays (own ▸ was)
    · exact was

/-- A water record changed. -/
theorem Reacts.setWater (s : State) (k : Chamber) (w : Option WaterRec) : Reacts K s (s.setChamber k { s.chamber k with water := w }) where
  overflow := rfl
  sent := List.prefix_refl _
  notices _ _ := id
  cross _ := rfl
  untouched k' _ := by
    refine ⟨?_, fun _ => rfl, fun _ _ => rfl, id⟩
    rw [State.setChamber_chamber]
    split
    · next own => rw [own]
    · rfl
  live k' was := by
    rw [State.setChamber_chamber]
    split
    · next own => exact own ▸ was
    · exact was

/-- The arbiter changed in all but the wishes of `K`. -/
theorem Reacts.arbiter (s : State) (a : Arbiter) (wishes : ∀ k, K k → s.arbiter.wishes.get k = none → a.wishes.get k = none) :
    Reacts K s { s with arbiter := a } :=
  ⟨⟨rfl, List.prefix_refl _, fun _ _ => id, fun _ => rfl, fun k out => ⟨rfl, fun _ => rfl, fun _ _ => rfl, wishes k out⟩⟩, fun _ => id⟩

theorem Reacts.foldl {α : Type} {f : State → α → State} (each : ∀ t x, Reacts K t (f t x)) (l : List α) (s : State) :
    Reacts K s (l.foldl f s) := by
  induction l generalizing s with
  | nil => exact .refl K s
  | cons x l ih => exact (each s x).trans (ih _)

end

/-! ## Notices, frames and the cascade's list -/

section
variable {K : Chamber → Prop}

theorem AgendaOnly.reacts {s t : State} (h : AgendaOnly s t) : Reacts K s t := by
  rw [h]
  exact .of_same rfl rfl rfl fun _ _ => id

theorem PlantMoved.reacts {s t : State} (h : PlantMoved s t) (drive : t.drive = s.drive) : Reacts K s t :=
  .of_same drive h.chambers h.arbiter h.notices

theorem State.push_reacts (s : State) (t : Task) : Reacts K s (s.push t) := (s.push_agendaOnly t).reacts

theorem State.raiseFault_reacts (s : State) (f : FaultKind) (x : Subject) : Reacts K s (s.raiseFault f x) :=
  (s.raiseFault_moved f x).reacts (s.raiseFault_drive' f x)

theorem State.derive_reacts (s : State) : Reacts K s s.derive := by
  rw [State.derive_frame]
  exact .of_same rfl rfl rfl fun _ _ => id

theorem State.raiseAll_reacts (s : State) (n : NoticeKind) : Reacts K s (s.raiseAll n) :=
  .of_same rfl rfl rfl fun _ _ raised => by
    rw [State.raiseAll_station]
    exact StationRec.mem_notices_raise.mpr (.inr raised)

theorem WaterClosed.reacts {s t : State} {k : Chamber} (h : WaterClosed s t k) : Reacts K s t := by
  have dried : Reacts K s (s.setChamber k { s.chamber k with water := none }) := .setWater s k none
  have rest : Reacts K (s.setChamber k { s.chamber k with water := none }) t := by
    refine .of_same ?_ ?_ ?_ h.notices <;> rw [h.frame] <;> rfl
  exact dried.trans rest

theorem State.closeWater_reacts (s : State) (k : Chamber) (x : Bool) : Reacts K s (s.closeWater k x) :=
  (s.closeWater_closed k x).reacts

end

end Sys2Proof.Machine
end

section
/-! SUPPORT. Water phases and the arbiter leave alone the chambers that take no part (R43 to R46, R65 to R72). -/
namespace Sys2Proof.Machine

/-! ## Chambers that take no part -/

/-- A chamber that no consequence finds at work: out of service, halted, or waiting for its gate to open with no wish posted. -/
def State.aside (s : State) (k : Chamber) : Prop :=
  (s.chamber k).state.live = false
    ∨ (∃ e, (s.chamber k).state = openingState e ∧ (s.gate k e).state = .opening) ∧ s.wish k = none

theorem State.aside_states {s : State} {k : Chamber} (out : s.aside k) :
    (s.chamber k).state = .outOfService ∨ (s.chamber k).state = .halted ∨ (s.chamber k).state = .highOpening
      ∨ (s.chamber k).state = .lowOpening := by
  rcases out with dead | ⟨⟨e, state, -⟩, -⟩
  · have := (ChamberState.live_iff (s.chamber k).state).not.mp (by simp [dead])
    tauto
  · cases e <;> simp [state, openingState]

section
variable {K : Chamber → Prop} {s t u : State}

theorem Untouched.aside {k : Chamber} (h : Untouched k s t) (out : s.aside k) : t.aside k := by
  unfold State.aside
  rw [h.state]
  rcases out with dead | ⟨⟨e, state, gate⟩, unposted⟩
  · exact .inl dead
  · exact .inr ⟨⟨e, state, by rw [h.gates]; exact gate⟩, h.wish unposted⟩

theorem Acts.aside (h : Acts s.aside s t) {k : Chamber} (out : s.aside k) : t.aside k := (h.untouched k out).aside out

/-- One consequence after another, the same chambers standing aside. -/
theorem Reacts.andThen (h : Reacts s.aside s t) (h' : Reacts t.aside t u) : Reacts s.aside s u :=
  h.trans (h'.mono fun _ out => h.aside out)

/-- A chamber at work does not stand aside. -/
theorem Reacts.of_other {k : Chamber} (h : Reacts (· ≠ k) s t) (works : ¬s.aside k) : Reacts s.aside s t :=
  h.mono fun _ out same => works (same ▸ out)

end

/-! ## Actuators ordered -/

theorem SluiceRec.shutBy_goesShut {r : SluiceRec} (shutting : r.goesShut) (x : Nat) : r.shutBy x = r := by
  obtain ⟨state, target, ramp⟩ := shutting
  have there : r.stands 0 = true := by simp [SluiceRec.stands, state, target]
  rw [SluiceRec.shutBy, if_pos there, ← ramp]

theorem State.shutSluice_actuator (s : State) (q : Sluice) : ActuatorMoved s (s.shutSluice q) (.sluice q) :=
  ⟨s.shutSluice_moved q, fun _ _ _ => s.shutSluice_gate ..,
    fun q' out => (s.shutSluice_sluice ..).trans (if_neg fun same => out (by rw [same]))⟩

section
variable {K : Chamber → Prop} (s : State)

theorem State.shutSluice_reacts (k : Chamber) (i : Side) : Reacts (· ≠ k) s (s.shutSluice (.chamber k i)) :=
  .of_sluice (s.shutSluice_actuator _)

theorem State.shutCross_reacts : Reacts K s (s.shutSluice .cross) :=
  .of_cross (s.shutSluice_actuator _) fun shutting => by
    rw [State.shutSluice_sluice, if_pos rfl, SluiceRec.shutBy_goesShut shutting]

theorem State.setChamberState_reacts (k : Chamber) {x : ChamberState} (live : x.live = true) :
    Reacts (· ≠ k) s (s.setChamberState k x) := .setChamber s k _ fun _ => live

/-! ## The phase proper (R45) -/

theorem State.phaseDone_reacts (k : Chamber) (kind : WaterKind) : Reacts (· ≠ k) s (s.phaseDone k kind) := by
  unfold State.phaseDone
  dsimp only
  split
  · exact (s.closeWater_reacts k true).trans
      ((State.setChamberState_reacts _ k (by cases kind <;> rfl)).trans (State.push_reacts _ _))
  · exact .refl _ s

theorem State.endPhase_reacts (k : Chamber) (kind : WaterKind) : Reacts (· ≠ k) s (s.endPhase k kind) :=
  (Reacts.setChamber s k { s.chamber k with phase := none } id).trans
    ((State.shutSluice_reacts _ k kind.side).trans (State.phaseDone_reacts _ k kind))

theorem State.enterPhase_reacts (k : Chamber) (kind : WaterKind) : Reacts (· ≠ k) s (s.enterPhase k kind) := by
  have began : Reacts (· ≠ k) s (s.beginPhase k kind) := .setChamber s k _ fun _ => by cases kind <;> rfl
  unfold State.enterPhase
  dsimp only
  split
  · exact began.trans (State.endPhase_reacts _ k kind)
  · exact began.trans (.of_sluice (State.startRamp_actuator ..))

/-- A chamber that is not filling or emptying has no phase to end. -/
theorem State.phaseDone_aside (k : Chamber) (kind : WaterKind) : Reacts s.aside s (s.phaseDone k kind) := by
  by_cases out : s.aside k
  · have same : s.phaseDone k kind = s := by
      unfold State.phaseDone
      refine if_neg ?_
      rcases State.aside_states out with state | state | state | state <;> cases kind <;> simp [state, WaterKind.phase]
    rw [same]
    exact .refl _ s
  · exact (s.phaseDone_reacts k kind).of_other out

/-! ## The arbiter (R66 to R72) -/

theorem State.setWish_reacts (k : Chamber) (w : Option Wish) : Reacts (· ≠ k) s (s.setWish k w) :=
  .arbiter s { s.arbiter with wishes := s.arbiter.wishes.set k w } fun _ out unposted =>
    (PerChamber.get_set ..).trans ((if_neg out).trans unposted)

/-- A wish withdrawn. -/
theorem State.unsetWish_reacts (k : Chamber) : Reacts K s (s.setWish k none) :=
  .arbiter s { s.arbiter with wishes := s.arbiter.wishes.set k none } fun j _ unposted => by
    rw [PerChamber.get_set]
    split
    · rfl
    · exact unposted

theorem State.proceedAlone_reacts (k : Chamber) : Reacts (· ≠ k) s (s.proceedAlone k) := by
  unfold State.proceedAlone
  split
  · exact (s.setWish_reacts k none).trans (State.enterPhase_reacts _ k _)
  · exact .refl _ s

theorem State.deliver_reacts (k : Chamber) : Reacts K s (s.deliver k) := by
  unfold State.deliver
  split
  · next r _ =>
    split
    · exact .refl _ s
    · exact (Reacts.setWater s k _).trans (.arbiter _ _ fun _ _ => id)
  · exact .refl _ s

theorem State.endCross_reacts (cause : CrossEnd) : Reacts K s (s.endCross cause) :=
  (Reacts.arbiter s { s.arbiter with
    record := s.arbiter.record.map fun x => { x with stop := ⟨s.level .c1, s.level .c2⟩, cause := some cause }, timer := none }
      fun _ _ => id).trans ((State.shutCross_reacts _).trans (.arbiter _ _ fun _ _ => id))

theorem State.deliverEnd_reacts (k : Chamber) (kind : WaterKind) : Reacts (· ≠ k) s (s.deliverEnd k kind) := by
  unfold State.deliverEnd
  dsimp only
  (repeat' split)
  · exact .refl _ s
  · exact (s.deliver_reacts k).trans (State.enterPhase_reacts _ k kind)
  · exact s.deliver_reacts k
  · exact .refl _ s

/-- R71: only a chamber in its cross state enters the phase proper. -/
theorem State.deliverEnd_aside (k : Chamber) (kind : WaterKind) : Reacts s.aside s (s.deliverEnd k kind) := by
  by_cases out : s.aside k
  · have delivered : Reacts s.aside s (s.deliver k) := s.deliver_reacts k
    have state := (delivered.untouched k out).state
    unfold State.deliverEnd
    dsimp only
    (repeat' split)
    · exact .refl _ s
    · next crossing =>
      rw [state] at crossing
      rcases State.aside_states out with state | state | state | state <;> rw [state] at crossing <;> cases kind <;> cases crossing
    · exact delivered
    · exact .refl _ s
  · exact (s.deliverEnd_reacts k kind).of_other out

theorem State.crossDone_aside : Reacts s.aside s s.crossDone := by
  unfold State.crossDone
  split
  · refine Reacts.trans ?_ (.arbiter _ _ fun _ _ => id)
    split
    · exact (s.deliverEnd_aside ..).andThen (State.deliverEnd_aside ..)
    · exact .refl _ s
  · exact .refl _ s

theorem State.closeCross_aside (cause : CrossEnd) : Reacts s.aside s (s.closeCross cause) :=
  (s.endCross_reacts cause).andThen (State.crossDone_aside _)

/-- A pairing; whom it pairs is for the offer to say. -/
theorem State.engage_reacts (f : Chamber) (hf he : Nat) (shut : s.sluiceShut .cross = true) :
    Reacts (fun _ => False) s (s.engage f hf he) := by
  have paired : Reacts (fun _ => False) s (s.paired f hf he) :=
    (Reacts.arbiter s _ nofun).trans
      (((State.setChamberState_reacts _ f (x := .fillCross) rfl).mono nofun).trans
        (((State.setChamberState_reacts _ f.other (x := .emptyCross) rfl).mono nofun).trans (.arbiter _ _ nofun)))
  have rests : ¬((s.paired f hf he).sluice .cross).goesShut := by
    have state : (s.sluice .cross).state = .shut := of_decide_eq_true shut
    rintro ⟨moving, -⟩
    cases state.symm.trans moving
  rw [State.engage_eq]
  split
  · exact paired.trans ((State.closeCross_aside _ _).mono nofun)
  · exact paired.trans (.of_cross (State.startRamp_actuator ..) fun shutting => absurd shutting rests)

/-- R65: what declines no offer. -/
theorem State.declines_false {s : State} {k : Chamber} (accepts : s.declines k = false) :
    (s.chamber k.other).state.live = true ∧ s.sluiceShut .cross = true := by
  simp only [State.declines, Bool.or_eq_false_iff, decide_eq_false_iff_not, Bool.not_eq_false'] at accepts
  obtain ⟨⟨⟨⟨⟨-, service⟩, halted⟩, -⟩, shut⟩, -⟩ := accepts
  exact ⟨(ChamberState.live_iff _).mpr ⟨service, halted⟩, shut⟩

/-- R65: an offer pairs with no chamber that stands aside. -/
theorem State.offer_aside (k : Chamber) (kind : WaterKind) : Reacts (fun j => j ≠ k ∧ s.aside j) s (s.offer k kind) := by
  have alone : Reacts (fun j => j ≠ k ∧ s.aside j) s (s.enterPhase k kind) := (s.enterPhase_reacts k kind).mono fun _ out => out.1
  unfold State.offer
  split
  · exact alone
  · next declines =>
    obtain ⟨live, shut⟩ := State.declines_false (Bool.eq_false_of_not_eq_true declines)
    split
    · next wished =>
      have nobody (j : Chamber) : ¬(j ≠ k ∧ s.aside j) := by
        rintro ⟨apart, out⟩
        obtain ⟨rfl, -⟩ := (Chamber.eq_or_other j k).resolve_left apart
        rcases out with dead | ⟨-, unposted⟩
        · rw [live] at dead
          cases dead
        · rw [unposted] at wished
          cases wished
      refine Reacts.mono (K := fun _ => False) ?_ fun j out => nobody j out
      dsimp only
      split
      · exact s.engage_reacts _ _ _ shut
      · exact ((s.proceedAlone_reacts _).mono nofun).trans ((State.enterPhase_reacts _ k kind).mono nofun)
    · split
      · exact alone
      · exact ((s.setWish_reacts k _).trans (State.setChamberState_reacts _ k (by cases kind <;> rfl))).mono fun _ out => out.1

end

end Sys2Proof.Machine
end

section
/-! SUPPORT. The sequencers, the formation of batches and the cascade leave alone the chambers that stand aside (R41, R42, R47, R49,
R98 to R105, R118). -/
namespace Sys2Proof.Machine

/-! ## Gates ordered -/

theorem State.startGate_actuator (s : State) (k : Chamber) (e : Side) (m : GateMove) : ActuatorMoved s (s.startGate k e m) (.gate k e) := by
  cases m <;> exact (s.send_actuator _ _).trans (State.setGate_actuator ..)

theorem State.openGate_actuator (s : State) (k : Chamber) (e : Side) : ActuatorMoved s (s.openGate k e).1 (.gate k e) := by
  unfold State.openGate
  (repeat' split)
  · exact .refl s _
  · exact .refl s _
  · exact .refl s _
  · exact s.startGate_actuator k e .opn

theorem State.closeGate_actuator (s : State) (k : Chamber) (e : Side) : ActuatorMoved s (s.closeGate k e).1 (.gate k e) := by
  unfold State.closeGate
  split
  · exact .refl s _
  · exact .refl s _
  · exact s.send_actuator _ _
  · exact s.startGate_actuator k e .cls

section
variable {K : Chamber → Prop} (s : State)

theorem State.noteComplete_reacts (k : Chamber) (e : Side) (r : OrderResult) : Reacts K s (s.noteComplete k e r) := by
  cases r with
  | complete => exact s.push_reacts _
  | sent => exact .refl K s
  | refused c => exact .refl K s

theorem State.sequenceClose_reacts (k : Chamber) (e : Side) : Reacts (· ≠ k) s (s.sequenceClose k e) :=
  (Reacts.of_gate (s.closeGate_actuator k e)).trans
    ((State.setChamberState_reacts _ k (by cases e <;> rfl)).trans (State.noteComplete_reacts ..))

theorem State.sequenceOpen_reacts (k : Chamber) (e : Side) : Reacts (· ≠ k) s (s.sequenceOpen k e) := by
  have asked := Reacts.of_gate (s.openGate_actuator k e)
  unfold State.sequenceOpen
  generalize s.openGate k e = p at asked ⊢
  obtain ⟨t, r⟩ := p
  have opens (r : OrderResult) : Reacts (· ≠ k) s ((t.setChamberState k (openingState e)).noteComplete k e r) :=
    asked.trans ((State.setChamberState_reacts t k (by cases e <;> rfl)).trans (State.noteComplete_reacts ..))
  cases r with
  | refused c => exact asked.trans (.setChamber t k _ id)
  | complete => exact opens .complete
  | sent => exact opens .sent

/-! ## The rest-state table (R41) -/

theorem State.sequencePhase_aside (k : Chamber) (kind : WaterKind) (works : ¬s.aside k) : Reacts s.aside s (s.sequencePhase k kind) := by
  have opened : Reacts s.aside s (s.openWater k kind) := .setWater s k _
  refine opened.trans ((State.offer_aside _ k kind).mono fun j out => ⟨fun same => works (same ▸ out), opened.aside out⟩)

theorem State.dropPending_reacts (k : Chamber) : Reacts (· ≠ k) s (s.dropPending k) := .setChamber s k _ id

theorem State.setBatch_reacts (k : Chamber) (b : Option Batch) : Reacts K s (s.setBatch k b) := .of_same rfl rfl rfl fun _ _ => id

theorem State.book_reacts (b : Book) : Reacts K s { s with book := b } := .of_same rfl rfl rfl fun _ _ => id

theorem State.becomeEntering_reacts (k : Chamber) (b : Batch) : Reacts (· ≠ k) s (s.becomeEntering k b) := by
  unfold State.becomeEntering
  exact (s.setBatch_reacts k _).trans (.setChamber _ k _ id)

theorem State.becomeLeaving_reacts (k : Chamber) (b : Batch) : Reacts (· ≠ k) s (s.becomeLeaving k b) := by
  unfold State.becomeLeaving
  exact (s.setBatch_reacts k _).trans (.setChamber _ k _ id)

theorem State.takeRest_aside (k : Chamber) (e : Side) (b : Batch) (x : RestStep) (works : ¬s.aside k) :
    Reacts s.aside s (s.takeRest k e b x) := by
  have dropped := (s.dropPending_reacts k).of_other works
  have automatic {t : State} (acts : Reacts s.aside s t) :
      Reacts s.aside s (if (s.chamber k).mode = .automatic then t else s.dropPending k) := by
    split
    · exact acts
    · exact dropped
  cases x with
  | nothing => exact dropped
  | entering => exact (s.becomeEntering_reacts k b).of_other works
  | leaving => exact (s.becomeLeaving_reacts k b).of_other works
  | close => exact automatic ((s.sequenceClose_reacts k e).of_other works)
  | opn => exact automatic ((s.sequenceOpen_reacts k e).of_other works)
  | phase => exact automatic (s.sequencePhase_aside k _ works)

theorem State.aside_rest {k : Chamber} (out : s.aside k) : (s.chamber k).state.rest = none := by
  rcases State.aside_states out with state | state | state | state <;> rw [state] <;> rfl

theorem State.restStep_aside (k : Chamber) : Reacts s.aside s (s.restStep k) := by
  unfold State.restStep
  split
  · exact .refl _ s
  · next e isOpen resting =>
    have works : ¬s.aside k := fun out => by
      rw [s.aside_rest out] at resting
      cases resting
    split
    · exact s.takeRest_aside k e _ _ works
    · have dropped := (s.dropPending_reacts k).of_other works
      split
      · exact dropped.trans (State.push_reacts _ _)
      · exact dropped

theorem State.gateDone_reacts (k : Chamber) (e : Side) : Reacts (· ≠ k) s (s.gateDone k e) := by
  unfold State.gateDone
  (repeat' split)
  · exact (s.setChamberState_reacts k (by cases e <;> rfl)).trans (State.push_reacts _ _)
  · exact (s.setChamberState_reacts k (by cases e <;> rfl)).trans (State.push_reacts _ _)
  · exact .refl _ s

/-- R42: a gate that is still OPENING completes no movement of its chamber. -/
theorem State.gateDone_aside (k : Chamber) (e : Side) : Reacts s.aside s (s.gateDone k e) := by
  by_cases out : s.aside k
  · have closing : (s.chamber k).state ≠ closingState e := by
      rcases State.aside_states out with state | state | state | state <;> rw [state] <;> cases e <;> nofun
    have opening : ¬((s.chamber k).state = openingState e ∧ (s.gate k e).state = .opened) := by
      rintro ⟨state, opened⟩
      rcases out with dead | ⟨⟨e', state', gate⟩, -⟩
      · rw [state] at dead
        cases e <;> cases dead
      · obtain rfl : e' = e := by
          rw [state'] at state
          cases e <;> cases e' <;> first | rfl | cases state
        cases gate.symm.trans opened
    have same : s.gateDone k e = s := by
      unfold State.gateDone
      rw [if_neg (by simp [closing]), if_neg (by simpa using opening)]
    rw [same]
    exact .refl _ s
  · exact (s.gateDone_reacts k e).of_other out

/-! ## Formation (R98 to R105) -/

theorem State.changeOrder_reacts (n : Nat) (f : Order → Order) : Reacts K s (s.changeOrder n f) := s.book_reacts _

theorem State.bindBatch_reacts (k : Chamber) (d : Direction) (c : Scan) : Reacts K s (s.bindBatch k d c) := by
  have marked (t : State) : Reacts K t (c.members.foldl
      (fun u m => u.changeOrder m.order fun o => { o with state := .bound (s.newBatch k d c).number }) t) :=
    .foldl (f := fun u (m : Member) => u.changeOrder m.order fun o => { o with state := .bound (s.newBatch k d c).number })
      (fun u m => u.changeOrder_reacts m.order _) _ t
  unfold State.bindBatch
  exact (s.setBatch_reacts k _).trans ((marked _).trans ((State.book_reacts _ _).trans
    ((State.raiseAll_reacts _ .batchBound).trans (State.push_reacts _ _))))

theorem State.bindScan_reacts (k : Chamber) (d : Direction) (c : Scan) : Reacts K s (s.bindScan k d c).1 := by
  obtain ⟨g, counted, -⟩ := s.raiseCounts_map c
  have counts : Reacts K s (s.raiseCounts c) := by
    rw [counted]
    exact s.book_reacts _
  unfold State.bindScan
  split
  · next t asked =>
    obtain ⟨granted, -⟩ := State.askReserve_frame asked
    have reserved : Reacts K (s.raiseCounts c) t := by
      rw [granted]
      exact .of_same rfl rfl rfl fun _ _ => id
    exact counts.trans (reserved.trans (t.bindBatch_reacts k d c))
  · have raised : Reacts K s (s.raiseAll .journalPressure) := s.raiseAll_reacts _
    dsimp only
    split
    · exact raised.trans (State.book_reacts _ _)
    · exact raised

theorem State.form_reacts (k : Chamber) : Reacts K s (s.form k) := by
  unfold State.form
  dsimp only
  (repeat' split)
  · exact s.bindScan_reacts ..
  · exact s.bindScan_reacts ..
  · exact .refl K s
  · exact .refl K s
  · exact .refl K s

/-! ## The cascade (R12, R118) -/

theorem State.runTask_aside (t : Task) : Reacts s.aside s (s.runTask t) := by
  cases t with
  | rest k => exact s.restStep_aside k
  | gateDone k e => exact s.gateDone_aside k e
  | phaseDone k => exact (s.phaseDone_aside k .fill).andThen (State.phaseDone_aside _ k .empty)
  | crossShut => exact s.crossDone_aside
  | form k => exact s.form_reacts k

end

theorem settle_aside (n : Nat) (s : State) : Reacts s.aside s (settle n s) := by
  induction n generalizing s with
  | zero => exact .refl _ s
  | succ n ih =>
    unfold settle
    split
    · exact .refl _ s
    · next t ts _ =>
      have dropped : Reacts s.aside s { s with agenda := ts } := .of_same rfl rfl rfl fun _ _ => id
      exact dropped.andThen ((State.runTask_aside _ t).andThen ((State.derive_reacts _).andThen (ih _)))

theorem State.finish_aside (s : State) : Reacts s.aside s s.finish := by
  have cleared (t : State) : Reacts t.aside t t.clearDeferred := t.book_reacts _
  exact s.derive_reacts.andThen ((settle_aside _ _).andThen ((State.derive_reacts _).andThen (cleared _)))

/-- R12: of the phases only one that runs is ended. -/
theorem State.equalised_aside (s : State) (p : Pair) : Reacts s.aside s (s.equalised p) := by
  have ends (k : Chamber) (kind : WaterKind) (running : (s.chamber k).running kind = true) : Reacts s.aside s (s.endPhase k kind) := by
    refine (s.endPhase_reacts k kind).of_other fun out => ?_
    simp only [Sequencer.running, Bool.and_eq_true, decide_eq_true_eq] at running
    rcases State.aside_states out with state | state | state | state <;> rw [state] at running <;> cases kind <;> cases running.1
  unfold State.equalised
  (repeat' split)
  · next running => exact ends _ .fill running
  · exact .refl _ s
  · next running => exact ends _ .empty running
  · exact .refl _ s
  · exact s.closeCross_aside _
  · exact .refl _ s

theorem State.tellEqualised_aside (s : State) (p : Pair) : Reacts s.aside s (s.tellEqualised p) :=
  (s.equalised_aside p).andThen (settle_aside _ _)

end Sys2Proof.Machine
end

section
/-! SUPPORT. A halt leaves alone the chambers that take no part, and the halted one stands as R50 leaves it, whatever the arbiter has on
hand (R50, R51, R66, R72). -/
namespace Sys2Proof.Machine

/-! ## The arbiter through a phase begun (R45) -/

theorem State.closeWater_arbiter (s : State) (k : Chamber) (x : Bool) : (s.closeWater k x).arbiter = s.arbiter := by
  rw [(s.closeWater_closed k x).frame]

theorem State.push_arbiter (s : State) (t : Task) : (s.push t).arbiter = s.arbiter := by
  have only := s.push_agendaOnly t
  unfold AgendaOnly at only
  rw [only]

theorem State.phaseDone_arbiter (s : State) (k : Chamber) (kind : WaterKind) : (s.phaseDone k kind).arbiter = s.arbiter := by
  unfold State.phaseDone
  dsimp only
  split
  · rw [State.push_arbiter]
    exact s.closeWater_arbiter k true
  · rfl

theorem State.enterPhase_arbiter (s : State) (k : Chamber) (kind : WaterKind) : (s.enterPhase k kind).arbiter = s.arbiter := by
  unfold State.enterPhase
  dsimp only
  split
  · rw [State.endPhase, State.phaseDone_arbiter]
    exact (State.shutSluice_moved ..).arbiter
  · exact (State.startRamp_actuator ..).arbiter

/-! ## The record taken at a halt (R72) -/

/-- The record on hand, if any, has been delivered to chamber k. -/
def State.taken (s : State) (k : Chamber) : Prop := ∀ r, s.arbiter.record = some r → r.delivered.get k = true

theorem State.deliver_taken (s : State) (k j : Chamber) (already : s.taken k ∨ j = k) : (s.deliver j).taken k := by
  intro r record
  rw [State.deliver_eq] at record
  obtain ⟨r', old, rfl⟩ := Option.map_eq_some_iff.mp record
  show (r'.delivered.set j true).get k = true
  rw [PerChamber.get_set]
  split
  · rfl
  · next apart => exact already.elim (fun h => h r' old) fun same => absurd same.symm apart

theorem State.deliverEnd_taken_self {s : State} {k : Chamber} (taken : s.taken k) (kind : WaterKind) : s.deliverEnd k kind = s := by
  unfold State.deliverEnd
  split
  · next r record => exact if_pos (taken r record)
  · rfl

theorem State.deliverEnd_taken_other {s : State} {k : Chamber} (taken : s.taken k) (j : Chamber) (kind : WaterKind) :
    (s.deliverEnd j kind).taken k := by
  have delivered := s.deliver_taken k j (.inl taken)
  unfold State.deliverEnd
  dsimp only
  (repeat' split)
  · exact taken
  · intro r record
    rw [State.enterPhase_arbiter] at record
    exact delivered r record
  · exact delivered
  · exact taken

section
variable {K : Chamber → Prop} {s t : State}

/-- One more chamber that takes no part. -/
theorem Reacts.along (h : Reacts K s t) {k : Chamber} (out : Untouched k s t) : Reacts (fun j => j = k ∨ K j) s t :=
  ⟨⟨h.overflow, h.sent, h.notices, h.cross, fun j either => either.elim (fun same => same ▸ out) (h.untouched j)⟩, h.live⟩

end

/-- R71, R72: a chamber that has the record already is not led out of the phase. -/
theorem State.crossDone_taken {s : State} {k : Chamber} (taken : s.taken k) : Untouched k s s.crossDone := by
  have one (t : State) (took : t.taken k) (j : Chamber) (kind : WaterKind) : Untouched k t (t.deliverEnd j kind) := by
    by_cases own : j = k
    · subst own
      rw [State.deliverEnd_taken_self took]
      exact .refl j t
    · exact (t.deliverEnd_reacts j kind).untouched k (Ne.symm own)
  have freed (t : State) : Untouched k t { t with arbiter.owner := .idle, arbiter.record := none } :=
    (Reacts.arbiter (K := fun _ => True) t { t.arbiter with owner := .idle, record := none } fun _ _ => id).untouched k trivial
  unfold State.crossDone
  split
  · refine Untouched.trans ?_ (freed _)
    split
    · exact (one s taken _ _).trans (one _ (State.deliverEnd_taken_other taken _ _) _ _)
    · exact .refl k s
  · exact .refl k s

section
variable (s : State) (k : Chamber)

theorem State.quitCross_reacts (cause : CrossEnd) : Reacts (fun j => j = k ∨ s.aside j) s (s.quitCross k cause) := by
  have ended (K : Chamber → Prop) : Reacts K s ((s.endCross cause).deliver k) :=
    (s.endCross_reacts cause).trans (State.deliver_reacts _ k)
  have done := (ended s.aside).andThen (State.crossDone_aside _)
  refine done.along ?_
  exact ((ended fun _ => True).untouched k trivial).trans (State.crossDone_taken (State.deliver_taken _ k k (.inr rfl)))

/-- The chambers that another one's leaving the arbiter leaves alone. -/
def State.unpaired (j : Chamber) : Prop := s.wish j = none ∧ (s.aside j ∨ s.arbiter.owner ≠ .engaged)

/-- R50, R66, R72: a chamber leaves the arbiter. -/
theorem State.leaveCross_reacts (cause : CrossEnd) : Reacts (fun j => j = k ∨ s.unpaired j) s (s.leaveCross k cause) := by
  have away (j : Chamber) (out : j = k) : j ≠ k.other := by
    subst out
    cases j <;> nofun
  unfold State.leaveCross
  obtain ⟨t, left⟩ : ∃ t, (s.setWish k none).proceedAlone k.other = t := ⟨_, rfl⟩
  have unset (K : Chamber → Prop) : Reacts K s (s.setWish k none) := s.unsetWish_reacts k
  have withdrawn : Reacts (fun j => j = k ∨ s.wish j = none) s t
      ∧ ((∃ j, j ≠ k ∧ s.wish j = none) → t.arbiter.owner = s.arbiter.owner) := by
    have other : (s.setWish k none).wish k.other = s.wish k.other := by
      refine (PerChamber.get_set ..).trans (if_neg ?_)
      cases k <;> nofun
    rw [← left]
    unfold State.proceedAlone
    rw [other]
    cases posted : s.wish k.other with
    | none => exact ⟨unset _, fun _ => rfl⟩
    | some w =>
      refine ⟨(unset _).trans (((State.setWish_reacts _ k.other none).trans (State.enterPhase_reacts _ k.other _)).mono ?_), ?_⟩
      · rintro j (own | unposted)
        · exact away j own
        · rintro rfl
          cases posted.symm.trans unposted
      · rintro ⟨j, apart, unposted⟩
        obtain ⟨rfl, -⟩ := (Chamber.eq_or_other j k).resolve_left apart
        cases posted.symm.trans unposted
  obtain ⟨first, owner⟩ := withdrawn
  have began := first.mono (L := fun j => j = k ∨ s.unpaired j) fun j out => out.imp_right And.left
  rw [left]
  dsimp only
  split
  · next engaged =>
    refine began.trans ((t.quitCross_reacts k cause).mono ?_)
    rintro j (own | ⟨unposted, out⟩)
    · exact .inl own
    · by_cases own : j = k
      · exact .inl own
      · refine .inr ?_
        rcases out with aside | idle
        · exact (first.untouched j (.inr unposted)).aside aside
        · rw [owner ⟨j, own, unposted⟩] at engaged
          exact absurd engaged idle
  · exact began.trans (State.deliver_reacts t k)

end

/-! ## The halt (R50) -/

theorem PlantRested.acts {s t : State} {k : Chamber} {spare : Option Side} (h : PlantRested s t k spare) : Acts (· ≠ k) s t where
  overflow := h.guards.1
  sent := h.sent
  notices := h.notices
  cross _ := h.otherSluices _ nofun
  untouched j out := by
    obtain ⟨rfl, -⟩ := (Chamber.eq_or_other j k).resolve_left out
    refine ⟨by rw [h.chamber], h.otherGates, fun i _ => h.otherSluices _ fun e same => out (Sluice.chamber.inj same).1, fun unposted => ?_⟩
    rw [State.wish, h.arbiter]
    exact unposted

/-- R50: a chamber halted, whatever the arbiter has on hand. -/
structure HaltActs (s t : State) (k : Chamber) (why : HaltCause) (spare : Option Side) : Prop where
  acts : Acts (fun j => j ≠ k ∧ s.unpaired j) s t
  chamber : t.chamber k = { (s.chamber k).haltedBy why with water := (t.chamber k).water }
  gates (e : Side) : t.gate k e =
    if spare ≠ some e ∧ (s.gate k e).state.moving = true then (s.gate k e).stoppedBy else s.gate k e
  sluices (i : Side) : t.sluice (.chamber k i) = (s.sluice (.chamber k i)).shutBy s.sluiceExpiry
  wish (unposted : s.wish k = none) : t.wish k = none

theorem State.haltChamber_acts (s : State) (k : Chamber) (why : HaltCause) (spare : Option Side) (cause : CrossEnd) :
    HaltActs s (s.haltChamber k why spare cause) k why spare := by
  let marked : Sequencer := { s.chamber k with interrupted := some (s.chamber k).state, haltCause := some why }
  have began := Acts.setChamber s k marked
  have rested := (s.setChamber k marked).plantRested k spare
  obtain ⟨w, stopped⟩ : ∃ w, (let t := (s.setChamber k marked).shutBoth k
      let t := if spare = some .upper then t else t.stopMoving k .upper
      if spare = some .lower then t else t.stopMoving k .lower) = w := ⟨_, rfl⟩
  rw [stopped] at rested
  have plant := began.trans rested.acts
  have left := w.leaveCross_reacts k cause
  obtain ⟨x, gone⟩ : ∃ x, w.leaveCross k cause = x := ⟨_, rfl⟩
  rw [gone] at left
  have whole : s.haltChamber k why spare cause =
      x.setChamber k { x.chamber k with pendingOrder := none, phase := none, state := .halted } := by
    rw [← gone, ← stopped]
    rfl
  have own := left.untouched k (.inl rfl)
  have chamber : w.chamber k = marked := (rested.chamber k).trans ((State.setChamber_chamber ..).trans (if_pos rfl))
  have unpaired (j : Chamber) (out : j ≠ k ∧ s.unpaired j) : w.unpaired j := by
    obtain ⟨apart, unposted, aside⟩ := out
    have same := plant.untouched j apart
    refine ⟨same.wish unposted, aside.imp same.aside fun idle => ?_⟩
    rw [rested.arbiter]
    exact idle
  rw [whole]
  refine ⟨?_, ?_, fun e => ?_, fun i => ?_, fun unposted => ?_⟩
  · exact (plant.mono fun _ out => out.1).trans ((left.toActs.mono fun j out => .inr (unpaired j out)).trans
      ((Acts.setChamber x k _).mono fun _ out => out.1))
  · rw [State.setChamber_chamber, if_pos rfl, own.chamber, chamber]
    rfl
  · exact (own.gates e).trans (rested.gates e)
  · exact (own.sluices i (by rw [rested.sluices]; exact (SluiceRec.shutBy_facts ..).1)).trans (rested.sluices i)
  · exact own.wish (by rw [State.wish, rested.arbiter]; exact unposted)

end Sys2Proof.Machine
end

section
/-! SUPPORT. A round end up to the guards, and the retries after them, leave alone the chambers that take no part (R9, R10, R12, R30). -/
namespace Sys2Proof.Machine

/-! ## Folds -/

theorem Reacts.foldl_aside {α : Type} {f : State → α → State} (each : ∀ t x, Reacts t.aside t (f t x)) (l : List α) (s : State) :
    Reacts s.aside s (l.foldl f s) := by
  induction l generalizing s with
  | nil => exact .refl _ s
  | cons x l ih => exact (each s x).andThen (ih _)

/-! ## The tests and the hand-over (R8, R10, R9) -/

section
variable {K : Chamber → Prop} (s : State)

theorem State.setBody_reacts (b : Body) (r : BodyRec) : Reacts K s (s.setBody b r) := .of_same rfl rfl rfl fun _ _ => id

theorem State.setPair_reacts (p : Pair) (x : PairState) : Reacts K s (s.setPair p x) := by
  cases p <;> exact .of_same rfl rfl rfl fun _ _ => id

theorem State.levelFault_reacts (b : Body) (old : LevelState) (good : Bool) : Reacts K s (s.levelFault b old good) := by
  unfold State.levelFault
  (repeat' split)
  · exact .refl K s
  · exact s.raiseFault_reacts _ _
  · exact s.raiseFault_reacts _ _
  · exact s.raiseFault_reacts _ _
  · exact s.raiseFault_reacts _ _
  · exact .refl K s

theorem State.testPair_aside (p : Pair) : Reacts s.aside s (s.testPair p) := by
  unfold State.testPair
  (repeat' split)
  · exact (s.setPair_reacts p _).andThen (State.tellEqualised_aside _ p)
  · exact s.setPair_reacts p _
  · exact .refl _ s
  · exact s.setPair_reacts p _
  · exact .refl _ s

/-- R12: with EQ_SETTLE above 0 no pair becomes EQUALISED at a round end. -/
theorem State.testPair_settling (p : Pair) (settles : s.settings.eqSettle ≠ 0) : Reacts K s (s.testPair p) := by
  unfold State.testPair
  (repeat' split)
  · exact s.setPair_reacts p _
  · exact .refl _ s
  · exact s.setPair_reacts p _
  · exact .refl _ s

theorem State.testPairs_settling (l : List Pair) (settles : s.settings.eqSettle ≠ 0) : Reacts K s (l.foldl State.testPair s) := by
  induction l generalizing s with
  | nil => exact .refl K s
  | cons p l ih =>
    have records : SameRecords s (s.testPair p) := (setPair_records ..).trans (.of_core (s.testPair_core p))
    exact (s.testPair_settling p settles).trans (ih _ (by rw [records.settings]; exact settles))

theorem State.handOver_reacts (b : Body) : Reacts K s (s.handOver b) := by
  have late (t : State) (k : Chamber) : Reacts K t (t.lateStart k) := by
    unfold State.lateStart
    dsimp only
    (repeat' split)
    · exact .setWater t k _
    · exact .refl K t
    · exact .refl K t
  unfold State.handOver
  dsimp only
  split
  · exact (s.setBody_reacts b _).trans (late _ _)
  · exact s.setBody_reacts b _

/-- R2, R7 to R10: a round end up to the hand-over. -/
def State.handedOn (b : Body) (goodA goodB : Bool) : State :=
  (b.pairs.foldl State.testPair
    ((s.levelled b goodA goodB).levelFault b (s.body b).state (s.goodValue b .a goodA).isSome)).handOver b

/-- R31, R33: the ramps that the body lets go on. -/
def State.ramped (b : Body) : State := allSluices.foldl (fun u q => u.rampLevel b q) s

/-- R34: the overflow guard, where the body is a chamber. -/
def State.overflowed (b : Body) : State := match b.chamber with | some k => s.overflowGuard k | none => s

theorem State.roundEnd_eq (b : Body) (goodA goodB : Bool) :
    s.roundEnd b goodA goodB =
      (b.surgeGates.foldl State.surgeGuard (((s.handedOn b goodA goodB).ramped b).overflowed b)).retries (.level b) := rfl

theorem State.handedOn_aside (b : Body) (goodA goodB : Bool) : Reacts s.aside s (s.handedOn b goodA goodB) :=
  (s.setBody_reacts b _).andThen ((State.levelFault_reacts _ b _ _).andThen
    ((Reacts.foldl_aside State.testPair_aside b.pairs _).andThen (State.handOver_reacts _ b)))

theorem State.handedOn_settling (b : Body) (goodA goodB : Bool) (settles : s.settings.eqSettle ≠ 0) :
    Reacts K s (s.handedOn b goodA goodB) := by
  have faulted := State.levelFault_core (s.levelled b goodA goodB) b (s.body b).state (s.goodValue b .a goodA).isSome
  refine (s.setBody_reacts b _).trans ((State.levelFault_reacts _ b _ _).trans
    ((State.testPairs_settling _ b.pairs ?_).trans (State.handOver_reacts _ b)))
  exact (congrArg (·.eqSettle) (SameRecords.of_core faulted).settings).trans_ne settles

/-! ## The ramps (R31, R33) -/

theorem State.rampDecide_actuator (q : Sluice) (r : Ramp) : ActuatorMoved s (s.rampDecide q r) (.sluice q) := by
  unfold State.rampDecide
  (repeat' split)
  · exact setRamp_actuator ..
  · exact setRamp_actuator ..
  · exact setRamp_actuator ..
  · exact setRamp_actuator ..
  · exact s.rampOrder_actuator q r

/-- A ramp of a sluice decides again, or there is none to do so. -/
theorem Reacts.of_ramp {t : State} {q : Sluice} (h : ActuatorMoved s t (.sluice q)) (rampless : (s.sluice q).ramp = none → t = s) :
    Reacts K s t :=
  .of_moved h nofun
    (fun _ _ _ same still => by
      obtain rfl := Actuator.sluice.inj same
      rw [rampless still])
    fun same shutting => by
      obtain rfl := Actuator.sluice.inj same
      rw [rampless shutting.2.2]

theorem State.rampLevel_reacts (b : Body) (q : Sluice) : Reacts K s (s.rampLevel b q) := by
  refine .of_ramp s (q := q) ?_ fun still => ?_
  · unfold State.rampLevel
    (repeat' split)
    · exact s.rampDecide_actuator q _
    · exact .refl s _
    · exact .refl s _
  · rw [State.rampLevel, still]

theorem State.rampRetry_reacts (h : Handed) (q : Sluice) : Reacts K s (s.rampRetry h q) := by
  refine .of_ramp s (q := q) ?_ fun still => ?_
  · rcases s.rampRetry_cases h q with same | ⟨r, c, -, -, -, -, same⟩ <;> rw [same]
    · exact .refl s _
    · exact s.rampDecide_actuator q _
  · rw [State.rampRetry, still]

theorem State.ramped_reacts (b : Body) : Reacts K s (s.ramped b) := .foldl (fun t q => t.rampLevel_reacts b q) _ s

/-! ## The orders kept (R30) -/

/-- A chamber out of service or halted. -/
def State.dead (k : Chamber) : Prop := (s.chamber k).state.live = false

theorem Untouched.dead {s t : State} {k : Chamber} (h : Untouched k s t) (out : s.dead k) : t.dead k := by
  unfold State.dead
  rw [h.state]
  exact out

theorem State.retryPending_dead (h : Handed) (k : Chamber) : Reacts s.dead s (s.retryPending h k) := by
  rcases s.retryPending_cases h k with same | ⟨e, c, -, -, same⟩ <;> rw [same]
  · exact .refl _ s
  · split
    · next state =>
      refine (s.sequenceOpen_reacts k e).mono fun j out own => ?_
      subst own
      unfold State.dead at out
      rw [state] at out
      cases e <;> cases out
    · exact (s.restStep_aside k).mono fun j out => .inl out

theorem State.retries_dead (h : Handed) : Reacts s.dead s (s.retries h) := by
  have next {t u : State} (first : Reacts s.dead s t) (second : Reacts t.dead t u) : Reacts s.dead s u :=
    first.trans (second.mono fun k out => (first.untouched k out).dead out)
  exact next (next (.foldl (fun t q => t.rampRetry_reacts h q) _ s) (State.retryPending_dead _ h .c1)) (State.retryPending_dead _ h .c2)

/-- What follows the guards: the retries, and the end of the event. -/
theorem State.afterGuards_dead (h : Handed) : Reacts s.dead s (s.retries h).finish := by
  have first := s.retries_dead h
  exact first.trans ((State.finish_aside _).mono fun k out => .inl ((first.untouched k out).dead out))

end

end Sys2Proof.Machine
end

section
/-! SUPPORT. What the overflow guard and the surge guard do (R34, R35). -/
namespace Sys2Proof.Machine

theorem Untouched.of_moved {s t : State} {a : Actuator} {k : Chamber} (h : ActuatorMoved s t a) (gate : ∀ e, a ≠ .gate k e)
    (sluice : ∀ i, a ≠ .sluice (.chamber k i)) : Untouched k s t where
  chamber := by rw [h.chamber k]
  gates e := h.gates k e (gate e)
  sluices i _ := h.sluices _ (sluice i)
  wish unposted := by rw [State.wish, h.arbiter]; exact unposted

/-! ## A fault that halts a live chamber (R51) -/

theorem State.faultHalt_acts (s : State) (k : Chamber) (f : FaultKind) (spare : Option Side) :
    Acts (fun j => j ≠ k ∧ s.unpaired j) s (s.faultHalt k f spare) := by
  unfold State.faultHalt
  split
  · exact (s.haltChamber_acts k (.fault f) spare (.halt k)).acts
  · exact .refl _ s

theorem State.faultHalt_live {s : State} {k : Chamber} (live : (s.chamber k).state.live = true) (f : FaultKind) (spare : Option Side) :
    HaltActs s (s.faultHalt k f spare) k (.fault f) spare := by
  unfold State.faultHalt
  rw [if_pos live]
  exact s.haltChamber_acts ..

theorem HaltActs.dead {s t : State} {k : Chamber} {why : HaltCause} {spare : Option Side} (h : HaltActs s t k why spare) : t.dead k := by
  show (t.chamber k).state.live = false
  rw [h.chamber]
  rfl

/-! ## The overflow guard (R34) -/

theorem State.forceShut_actuator (s : State) (q : Sluice) : ActuatorMoved s (s.forceShut q) (.sluice q) :=
  (s.sendMove_actuator q 0).trans (State.endRamp_actuator ..)

theorem State.forceShut_sent (s : State) (q : Sluice) :
    (s.forceShut q).drive.sent = s.drive.sent ++ [⟨.sluice q, .move 0, false⟩] := by
  have ended : (s.forceShut q).drive.sent = (s.sendMove q 0).drive.sent := by
    unfold State.forceShut State.endRamp
    cases q <;> rfl
  rw [ended, State.sendMove, State.setSluice_sent]
  rfl

theorem State.forceShut_goesShut (s : State) (q : Sluice) : ((s.forceShut q).sluice q).goesShut := by
  obtain ⟨state, target, ramp, -⟩ := s.forceShut_sluice q
  exact ⟨state, target, ramp⟩

/-- R34: the sluices that fill a chamber ordered to 0. -/
def State.fillingShut (s : State) (k : Chamber) : State :=
  if (s.forceShut (.chamber k .upper)).crossPresent then (s.forceShut (.chamber k .upper)).forceShut .cross
  else s.forceShut (.chamber k .upper)

/-- R34: the overflow guard's orders, its fault and its memory. -/
def State.overflowTold (s : State) (k : Chamber) : State := ((s.fillingShut k).raiseFault .overflow (.chamber k)).setOverflow k true

/-- R34: what the guard's orders leave. -/
structure FillingShut (s t : State) (k : Chamber) : Prop extends PlantMoved s t where
  gates (j : Chamber) (e : Side) : t.gate j e = s.gate j e
  upper : (t.sluice (.chamber k .upper)).goesShut
  cross (present : s.crossPresent = true) : (t.sluice .cross).goesShut
  rampless (q : Sluice) (still : (s.sluice q).ramp = none) : (t.sluice q).ramp = none
  orders : t.drive.sent = s.drive.sent ++ [⟨.sluice (.chamber k .upper), .move 0, false⟩]
    ++ if s.crossPresent then [⟨.sluice .cross, .move 0, false⟩] else []
  journal : t.journal = s.journal
  capture : t.capture = s.capture

theorem State.forceShut_journal (s : State) (q : Sluice) : (s.forceShut q).journal = s.journal := by
  have plant := s.forceShut_plant q
  rw [show s.forceShut q = _ from plant]

theorem State.forceShut_capture (s : State) (q : Sluice) : (s.forceShut q).capture = s.capture := by
  have plant := s.forceShut_plant q
  rw [show s.forceShut q = _ from plant]

theorem State.forceShut_rampless {s : State} {q : Sluice} (still : (s.sluice q).ramp = none) (p : Sluice) :
    ((s.forceShut p).sluice q).ramp = none := by
  by_cases own : p = q
  · subst own
    exact (s.forceShut_goesShut p).2.2
  · rw [(s.forceShut_actuator p).sluices q fun same => own (Actuator.sluice.inj same)]
    exact still

theorem State.fillingShut_shut (s : State) (k : Chamber) : FillingShut s (s.fillingShut k) k := by
  have upper := s.forceShut_actuator (.chamber k .upper)
  have goes := s.forceShut_goesShut (.chamber k .upper)
  have sent := s.forceShut_sent (.chamber k .upper)
  have journal := s.forceShut_journal (.chamber k .upper)
  have capture := s.forceShut_capture (.chamber k .upper)
  unfold State.fillingShut
  have rampless (q : Sluice) (still : (s.sluice q).ramp = none) := State.forceShut_rampless still (.chamber k .upper)
  generalize s.forceShut (.chamber k .upper) = t at upper goes sent journal capture rampless
  have present : t.crossPresent = s.crossPresent := by
    unfold State.crossPresent
    rw [upper.frame]
  rw [present]
  by_cases crossed : s.crossPresent = true
  · have cross := t.forceShut_actuator .cross
    rw [if_pos crossed]
    refine ⟨upper.toPlantMoved.trans cross.toPlantMoved, fun j e => ?_, ?_, fun _ => t.forceShut_goesShut .cross,
      fun q still => State.forceShut_rampless (rampless q still) _, ?_, ?_, ?_⟩
    · exact (cross.gates j e nofun).trans (upper.gates j e nofun)
    · rw [cross.sluices (.chamber k .upper) nofun]
      exact goes
    · rw [t.forceShut_sent, sent, if_pos crossed]
    · rw [t.forceShut_journal, journal]
    · rw [t.forceShut_capture, capture]
  · rw [if_neg crossed]
    exact ⟨upper.toPlantMoved, fun j e => upper.gates j e nofun, goes, fun there => absurd there crossed, rampless,
      by rw [sent, if_neg crossed, List.append_nil], journal, capture⟩

theorem State.overflowGuard_eq (s : State) (k : Chamber) :
    s.overflowGuard k =
      match s.level k.body with
      | some h =>
        if (s.settings.chamber.get k).topLevel < h then
          if s.drive.overflow.get k then s else (s.overflowTold k).faultHalt k .overflow none
        else s.setOverflow k false
      | none => s := by
  unfold State.overflowGuard State.overTop
  cases s.level k.body with
  | none => rfl
  | some h =>
    by_cases above : (s.settings.chamber.get k).topLevel < h
    · simp only [above, decide_true, if_true]
      rfl
    · simp only [above, decide_false, if_false, Bool.false_eq_true]
      rfl

/-! ## The surge guard (R35) -/

/-- R35: the surge guard's order and its fault. -/
def State.surgeTold (s : State) (k : Chamber) (e : Side) : State :=
  ((s.putGate k e { s.gate k e with surge := true }).closeGate k e).1.raiseFault .surge (.gate k e)

/-- R35: the guard acts on the gate. -/
def State.surges (s : State) (k : Chamber) (e : Side) : Prop :=
  (s.gate k e).state = .opening ∧ (s.gate k e).surge = false ∧ s.surging k e = true

theorem State.surgeGuard_acts_on {s : State} {k : Chamber} {e : Side} (surges : s.surges k e) :
    s.surgeGuard (k, e) = (s.surgeTold k e).faultHalt k .surge (some e) := by
  obtain ⟨opening, fresh, surging⟩ := surges
  exact if_pos (by simp [opening, fresh, surging])

theorem State.surgeGuard_rests {s : State} {k : Chamber} {e : Side} (rests : ¬s.surges k e) : s.surgeGuard (k, e) = s := by
  refine if_neg fun acts => rests ?_
  simp only [Bool.and_eq_true, decide_eq_true_eq, Bool.not_eq_true'] at acts
  exact ⟨acts.1.1, acts.1.2, acts.2⟩

theorem State.putGate_actuator (s : State) (k : Chamber) (e : Side) (g : Gate) : ActuatorMoved s (s.putGate k e g) (.gate k e) :=
  ⟨s.putGate_moved k e g, fun _ _ out => (State.putGate_gate ..).trans (if_neg fun ⟨hk, he⟩ => out (by rw [hk, he])), fun _ _ => rfl⟩

theorem State.surgeTold_actuator (s : State) (k : Chamber) (e : Side) : ActuatorMoved s (s.surgeTold k e) (.gate k e) :=
  (s.putGate_actuator k e _).trans ((State.closeGate_actuator ..).trans (State.raiseFault_actuator ..))

theorem State.surgeGuard_acts (s : State) (k : Chamber) (e : Side) : Acts (fun j => j ≠ k ∧ s.unpaired j) s (s.surgeGuard (k, e)) := by
  by_cases surges : s.surges k e
  · have told := s.surgeTold_actuator k e
    rw [State.surgeGuard_acts_on surges]
    refine ((Reacts.of_gate told).toActs.mono fun _ out => out.1).trans ((State.faultHalt_acts ..).mono ?_)
    rintro j ⟨apart, unposted, aside⟩
    have same := (Reacts.of_gate told).untouched j apart
    refine ⟨apart, same.wish unposted, aside.imp same.aside fun idle => ?_⟩
    rw [told.arbiter]
    exact idle
  · rw [State.surgeGuard_rests surges]
    exact .refl _ s

/-- R35: in a chamber that is not live the guard touches its gate alone. -/
theorem State.surgeGuard_dead {s : State} {k : Chamber} (dead : s.dead k) (e : Side) : ActuatorMoved s (s.surgeGuard (k, e)) (.gate k e) := by
  by_cases surges : s.surges k e
  · have told := s.surgeTold_actuator k e
    have still : (s.surgeTold k e).dead k := by
      unfold State.dead
      rw [told.chamber]
      exact dead
    rw [State.surgeGuard_acts_on surges, State.faultHalt_out still]
    exact told
  · rw [State.surgeGuard_rests surges]
    exact .refl s _

/-- R35: what the guards leave alone, whichever act. -/
theorem State.surgeGuards_acts (l : List (Chamber × Side)) (s : State) : Acts (fun _ => False) s (l.foldl State.surgeGuard s) := by
  induction l generalizing s with
  | nil => exact .refl _ s
  | cons g l ih => exact ((s.surgeGuard_acts g.1 g.2).mono fun _ => False.elim).trans (ih _)

end Sys2Proof.Machine
end

section
/-! SUPPORT. The overflow guard's orders and memory at a round end (R34). -/
namespace Sys2Proof.Machine

/-- R34: what the guard of a chamber that rises above its top level leaves, before any halt. -/
structure OverflowTold (s t : State) (k : Chamber) : Prop where
  core : t.core = s.core
  chambers : t.chambers = s.chambers
  arbiter : t.arbiter = s.arbiter
  agenda : t.agenda = s.agenda
  book : t.book = s.book
  gates (j : Chamber) (e : Side) : t.gate j e = s.gate j e
  upper : (t.sluice (.chamber k .upper)).goesShut
  cross (present : s.crossPresent = true) : (t.sluice .cross).goesShut
  rampless (q : Sluice) (still : (s.sluice q).ramp = none) : (t.sluice q).ramp = none
  orders : t.drive.sent = s.drive.sent ++ [⟨.sluice (.chamber k .upper), .move 0, false⟩]
    ++ if s.crossPresent then [⟨.sluice .cross, .move 0, false⟩] else []
  overflow : t.drive.overflow = s.drive.overflow.set k true
  old (st : Station) (n : NoticeKind) (raised : n ∈ (s.station st).notices) : n ∈ (t.station st).notices
  fault (st : Station) : .fault ∈ (t.station st).notices
  journal : t.journal = (s.write (.fault .overflow (.chamber k) s.time)).journal
  capture : t.capture = s.capture.offer (s.captured .overflow (.chamber k))

theorem State.overflowTold_told (s : State) (k : Chamber) : OverflowTold s (s.overflowTold k) k := by
  have shut := s.fillingShut_shut k
  unfold State.overflowTold
  obtain ⟨t, filling⟩ : ∃ t, s.fillingShut k = t := ⟨_, rfl⟩
  rw [filling] at shut ⊢
  have plant := shut.toPlantMoved.trans (t.raiseFault_moved .overflow (.chamber k))
  have drive : (t.raiseFault .overflow (.chamber k)).drive = t.drive := t.raiseFault_drive' _ _
  have loud : t.Loud .overflow := t.loud_of_hard rfl
  refine ⟨plant.core, plant.chambers, plant.arbiter, plant.agenda, plant.book,
    fun j e => (gate_of_drive drive j e).trans (shut.gates j e), ?_, fun present => ?_,
    fun q still => ?_, ?_, ?_, plant.notices, State.raiseFault_fault_mem loud _, ?_, ?_⟩
  · rw [State.setOverflow_sluice, sluice_of_drive drive]
    exact shut.upper
  · rw [State.setOverflow_sluice, sluice_of_drive drive]
    exact shut.cross present
  · rw [State.setOverflow_sluice, sluice_of_drive drive]
    exact shut.rampless q still
  · exact (congrArg Drive.sent drive).trans shut.orders
  · exact congrArg (PerChamber.set · k true) plant.guards.1
  · exact (State.raiseFault_journal ..).trans ((shut.toPlantMoved.write_journal shut.journal _).trans (by rw [shut.toPlantMoved.time]))
  · exact (State.raiseFault_capture loud _).trans (by rw [shut.capture, shut.toPlantMoved.captured])

theorem OverflowTold.untouched {s t : State} {k j : Chamber} (h : OverflowTold s t k) : t.chamber j = s.chamber j := by
  rw [State.chamber, h.chambers]
  rfl

/-! ## The memory (R34) -/

theorem State.faultHalt_overflow (s : State) (k : Chamber) (f : FaultKind) (spare : Option Side) :
    (s.faultHalt k f spare).drive.overflow = s.drive.overflow := (s.faultHalt_acts k f spare).overflow

theorem State.overflowGuard_overflow (s : State) (k : Chamber) :
    (s.overflowGuard k).drive.overflow =
      match s.level k.body with
      | some h => s.drive.overflow.set k (decide ((s.settings.chamber.get k).topLevel < h))
      | none => s.drive.overflow := by
  rw [State.overflowGuard_eq]
  cases s.level k.body with
  | none => rfl
  | some h =>
    dsimp only
    split
    · next above =>
      rw [decide_eq_true above]
      split
      · next risen => exact (show s.drive.overflow.set k true = _ by rw [← risen]; cases k <;> rfl).symm
      · rw [State.faultHalt_overflow, (s.overflowTold_told k).overflow]
    · next below =>
      rw [decide_eq_false below]
      rfl

/-- R34: the guard finds its chamber risen above its top level. -/
theorem State.overflowGuard_rises {s : State} {k : Chamber} (before : s.drive.overflow.get k = false)
    (after : (s.overflowGuard k).drive.overflow.get k = true) :
    s.overflowGuard k = (s.overflowTold k).faultHalt k .overflow none := by
  rw [State.overflowGuard_overflow] at after
  rw [State.overflowGuard_eq]
  cases level : s.level k.body with
  | none =>
    rw [level] at after
    exact absurd (before.symm.trans after) nofun
  | some h =>
    rw [level] at after
    have above : (s.settings.chamber.get k).topLevel < h :=
      of_decide_eq_true (((PerChamber.get_set ..).trans (if_pos rfl)).symm.trans after)
    dsimp only
    rw [if_pos above, if_neg (by rw [before]; nofun)]

/-- R34: else it changes nothing but its memory. -/
theorem State.overflowGuard_rests {s : State} {k : Chamber}
    (rests : ¬(s.drive.overflow.get k = false ∧ (s.overflowGuard k).drive.overflow.get k = true)) :
    ∃ x, s.overflowGuard k = { s with drive.overflow := x } := by
  rw [State.overflowGuard_overflow] at rests
  rw [State.overflowGuard_eq]
  cases level : s.level k.body with
  | none => exact ⟨_, rfl⟩
  | some h =>
    dsimp only
    split
    · next above =>
      split
      · exact ⟨_, rfl⟩
      · next fresh =>
        refine absurd ⟨Bool.eq_false_iff.mpr fresh, ?_⟩ rests
        rw [level]
        exact (PerChamber.get_set ..).trans ((if_pos rfl).trans (decide_eq_true above))
    · exact ⟨_, rfl⟩

end Sys2Proof.Machine
end

section
/-! SUPPORT. A round end taken apart: what comes before the guards, the guards, and what follows them (R9). -/
namespace Sys2Proof.Machine

/-! ## The arbiter before the guards, where no pair becomes EQUALISED -/

theorem State.levelFault_arbiter (s : State) (b : Body) (old : LevelState) (good : Bool) : (s.levelFault b old good).arbiter = s.arbiter := by
  unfold State.levelFault
  (repeat' split)
  · rfl
  · exact (s.raiseFault_moved _ _).arbiter
  · exact (s.raiseFault_moved _ _).arbiter
  · exact (s.raiseFault_moved _ _).arbiter
  · exact (s.raiseFault_moved _ _).arbiter
  · rfl

theorem State.testPair_arbiter (s : State) (p : Pair) (settles : s.settings.eqSettle ≠ 0) : (s.testPair p).arbiter = s.arbiter := by
  unfold State.testPair
  (repeat' split)
  · exact s.setPair_arbiter p _
  · rfl
  · exact s.setPair_arbiter p _
  · rfl

theorem State.testPair_settings (s : State) (p : Pair) : (s.testPair p).settings = s.settings :=
  ((setPair_records ..).trans (.of_core (s.testPair_core p))).settings

theorem State.testPairs_arbiter (l : List Pair) (s : State) (settles : s.settings.eqSettle ≠ 0) :
    (l.foldl State.testPair s).arbiter = s.arbiter := by
  induction l generalizing s with
  | nil => rfl
  | cons p l ih => exact (ih _ (by rw [s.testPair_settings]; exact settles)).trans (s.testPair_arbiter p settles)

theorem State.handOver_arbiter (s : State) (b : Body) : (s.handOver b).arbiter = s.arbiter := by
  unfold State.handOver State.lateStart
  dsimp only
  (repeat' split) <;> rfl

theorem State.handedOn_arbiter (s : State) (b : Body) (goodA goodB : Bool) (settles : s.settings.eqSettle ≠ 0) :
    (s.handedOn b goodA goodB).arbiter = s.arbiter := by
  have faulted := State.levelFault_core (s.levelled b goodA goodB) b (s.body b).state (s.goodValue b .a goodA).isSome
  have same := (SameRecords.of_core faulted).settings
  refine (State.handOver_arbiter ..).trans ((State.testPairs_arbiter _ _ ?_).trans (State.levelFault_arbiter ..))
  rw [same]
  exact settles

theorem State.rampLevel_moved (s : State) (b : Body) (q : Sluice) : PlantMoved s (s.rampLevel b q) := by
  unfold State.rampLevel
  (repeat' split)
  · exact (s.rampDecide_actuator q _).toPlantMoved
  · exact .refl s
  · exact .refl s

theorem foldl_moved {α : Type} {f : State → α → State} (each : ∀ t x, PlantMoved t (f t x)) (l : List α) (s : State) :
    PlantMoved s (l.foldl f s) := by
  induction l generalizing s with
  | nil => exact .refl s
  | cons x l ih => exact (each s x).trans (ih _)

theorem State.ramped_moved (s : State) (b : Body) : PlantMoved s (s.ramped b) := foldl_moved (fun t q => t.rampLevel_moved b q) _ s

/-! ## A round end -/

/-- A round of body b ends in `t`; `v` is the state in which its guards act. -/
structure RoundRun (s v t : State) (b : Body) : Prop where
  before : Reacts s.aside s v
  settling (settles : s.settings.eqSettle ≠ 0) (K : Chamber → Prop) : Reacts K s v
  arbiter (settles : s.settings.eqSettle ≠ 0) : v.arbiter = s.arbiter
  settings : v.settings = s.settings
  present : v.crossPresent = s.crossPresent
  core : t.core = v.core
  ends : t = ((b.surgeGates.foldl State.surgeGuard (v.overflowed b)).retries (.level b)).finish

theorem RoundRun.level {s v t : State} {b : Body} (run : RoundRun s v t b) (c : Body) : v.level c = (t.body c).handedLevel :=
  ((SameLevels.of_core run.core).1 c).handedLevel.symm

theorem roundEnd_run (s : State) (b : Body) (goodA goodB : Bool) :
    RoundRun s ((s.handedOn b goodA goodB).ramped b) (s.roundEnd b goodA goodB).finish b := by
  have records := (roundEnd_ended s b goodA goodB).records
  have ramped := (s.handedOn b goodA goodB).ramped_moved b
  have final : (s.roundEnd b goodA goodB).finish.core = ((s.handedOn b goodA goodB).ramped b).core :=
    (State.finish_core _).trans ((State.readers_core (s.handedOn b goodA goodB) b).trans ramped.core.symm)
  have same : SameRecords ((s.handedOn b goodA goodB).ramped b) (s.roundEnd b goodA goodB).finish := .of_core final
  refine ⟨(s.handedOn_aside b goodA goodB).trans (State.ramped_reacts _ b),
    fun settles K => (s.handedOn_settling b goodA goodB settles).trans (State.ramped_reacts _ b),
    fun settles => ramped.arbiter.trans (s.handedOn_arbiter b goodA goodB settles), ?_, ?_, final, ?_⟩
  · exact same.settings.symm.trans records.settings
  · exact congrArg (fun l : Loaded => l.two && l.cross) (same.loaded.symm.trans records.loaded)
  · rw [State.roundEnd_eq]

/-- The round end that an answer to the poll of gauge B, or its absence, brings about. -/
theorem roundEnd_of_answer {s t : State} {p : Poll} {c : Instr} (polled : s.levels.poll = some p) (gauge : p.gauge = .b)
    (answer : (∃ b1 b2 b3 b4, c = .gaugeReply b1 b2 b3 b4) ∨ c = .noReply) (run : exec c s = .next t) :
    ∃ now st raw, t = ((({ s with now := now } : State).readB p.body st raw).roundEnd p.body p.goodA (decide (st = .ok))).finish
      ∧ RoundRun s (((({ s with now := now } : State).readB p.body st raw).handedOn p.body p.goodA (decide (st = .ok))).ramped p.body) t
        p.body := by
  have runs (now : Nat) (st : GaugeStatus) (raw : Nat) (ends :
      t = ((({ s with now := now } : State).readB p.body st raw).roundEnd p.body p.goodA (decide (st = .ok))).finish) :
      RoundRun s (((({ s with now := now } : State).readB p.body st raw).handedOn p.body p.goodA (decide (st = .ok))).ramped p.body) t
        p.body := by
    have read (K : Chamber → Prop) : Reacts K s (({ s with now := now } : State).readB p.body st raw) :=
      .of_same rfl rfl rfl fun _ _ => id
    obtain ⟨before, settling, arbiter, settings, present, core, ended⟩ :=
      roundEnd_run (({ s with now := now } : State).readB p.body st raw) p.body p.goodA (decide (st = .ok))
    rw [ends]
    exact ⟨(read _).andThen before, fun settles K => (read K).trans (settling settles K), arbiter, settings, present, core, ended⟩
  rcases answer with ⟨b1, b2, b3, b4, rfl⟩ | rfl
  · rw [exec_gaugeReply polled] at run
    have ends := (Host.Outcome.next.inj run).symm.trans (State.closePoll_b gauge ..)
    exact ⟨s.now, _, _, ends, runs _ _ _ ends⟩
  · rw [exec_noReply polled] at run
    have ends := (Host.Outcome.next.inj run).symm.trans (State.closePoll_b gauge ..)
    exact ⟨max s.now p.deadline, _, _, ends, runs _ _ _ ends⟩

section
variable {s v t : State} {b : Body} (run : RoundRun s v t b)
include run

/-- What follows the guards. -/
theorem RoundRun.after : Acts (fun _ => False) (b.surgeGates.foldl State.surgeGuard (v.overflowed b)) t := by
  rw [run.ends]
  exact (State.afterGuards_dead _ _).toActs.mono fun _ => False.elim

/-- What the surge guards leave alone, and what follows them. -/
theorem RoundRun.surged : Acts (fun _ => False) (v.overflowed b) t :=
  (State.surgeGuards_acts ..).trans run.after

/-- R34: a chamber's memory at the end of the round. -/
theorem RoundRun.overflow (k : Chamber) :
    t.drive.overflow.get k =
      match if b = k.body then (t.body b).handedLevel else none with
      | some h => decide ((s.settings.chamber.get k).topLevel < h)
      | none => s.drive.overflow.get k := by
  have kept : v.drive.overflow = s.drive.overflow := run.before.overflow
  rw [run.surged.overflow]
  by_cases own : b = k.body
  · have guarded : v.overflowed b = v.overflowGuard k := by subst own; cases k <;> rfl
    rw [guarded, State.overflowGuard_overflow, if_pos own, own, run.level, run.settings]
    cases (t.body k.body).handedLevel with
    | none => rw [kept]
    | some h => exact (PerChamber.get_set ..).trans (if_pos rfl)
  · rw [if_neg own]
    unfold State.overflowed
    cases chamber : b.chamber with
    | none => rw [kept]
    | some j =>
      have apart : k ≠ j := by
        rintro rfl
        cases b <;> cases k <;> cases chamber <;> exact own rfl
      dsimp only
      rw [State.overflowGuard_overflow, kept]
      cases v.level j.body with
      | none => rfl
      | some h => exact (PerChamber.get_set ..).trans (if_neg apart)

end

end Sys2Proof.Machine
end

section
/-! SUPPORT. A chamber that rises above its top level at a round end (R34). -/
namespace Sys2Proof.Machine

theorem State.dead_or_live (s : State) (k : Chamber) : s.dead k ∨ (s.chamber k).state.live = true := by
  unfold State.dead
  cases (s.chamber k).state.live
  · exact .inl rfl
  · exact .inr rfl

/-- R34, R51: what the overflow guard leaves of a chamber that rises above its top level. -/
structure OverflowHalted (s t : State) (k : Chamber) : Prop where
  dead : t.dead k
  upper : (t.sluice (.chamber k .upper)).goesShut
  cross (present : s.crossPresent = true) : (t.sluice .cross).goesShut
  upperSent : ⟨.sluice (.chamber k .upper), .move 0, false⟩ ∈ t.drive.sent.drop s.drive.sent.length
  crossSent (present : s.crossPresent = true) : ⟨.sluice .cross, .move 0, false⟩ ∈ t.drive.sent.drop s.drive.sent.length
  fault (st : Station) : .fault ∈ (t.station st).notices
  halted (live : (s.chamber k).state.live = true) :
    (t.chamber k).state = .halted ∧ (t.chamber k).haltCause = some (.fault .overflow)
  stays (out : s.dead k) : (t.chamber k).state = (s.chamber k).state ∧ (t.chamber k).haltCause = (s.chamber k).haltCause

theorem OverflowTold.halted {s u : State} {k : Chamber} (told : OverflowTold s u k) : OverflowHalted s (u.faultHalt k .overflow none) k := by
  have acts := u.faultHalt_acts k .overflow none
  have same : u.chamber k = s.chamber k := told.untouched
  have cross (present : s.crossPresent = true) : ((u.faultHalt k .overflow none).sluice .cross).goesShut := by
    rw [acts.cross (told.cross present)]
    exact told.cross present
  have sent : ⟨.sluice (.chamber k .upper), .move 0, false⟩ ∈ (u.faultHalt k .overflow none).drive.sent.drop s.drive.sent.length
      ∧ (s.crossPresent = true → ⟨.sluice .cross, .move 0, false⟩ ∈
        (u.faultHalt k .overflow none).drive.sent.drop s.drive.sent.length) := by
    refine ⟨drop_mem_of_prefix acts.sent ?_, fun present => drop_mem_of_prefix acts.sent ?_⟩
    · rw [told.orders, List.append_assoc, List.drop_left]
      exact List.mem_cons_self
    · rw [told.orders, List.append_assoc, List.drop_left, if_pos present]
      exact List.mem_cons_of_mem _ List.mem_cons_self
  have fault (st : Station) := acts.notices st .fault (told.fault st)
  rcases s.dead_or_live k with dead | live
  · have still : u.dead k := by
      unfold State.dead
      rw [same]
      exact dead
    rw [State.faultHalt_out still] at cross sent fault ⊢
    refine ⟨still, told.upper, cross, sent.1, sent.2, fault, fun live => ?_, fun _ => by rw [same]; exact ⟨rfl, rfl⟩⟩
    exact absurd (live.symm.trans dead) nofun
  · have halt := State.faultHalt_live (same ▸ live) .overflow none
    refine ⟨halt.dead, ?_, cross, sent.1, sent.2, fault, fun _ => ?_, fun dead => ?_⟩
    · rw [halt.sluices, SluiceRec.shutBy_goesShut told.upper]
      exact told.upper
    · rw [halt.chamber]
      exact ⟨rfl, rfl⟩
    · exact absurd (live.symm.trans dead) nofun

/-- R35: the surge guards of a chamber that is not live change its gates alone. -/
theorem State.surgeGuards_dead {w : State} {k : Chamber} (dead : w.dead k) :
    ((k.body.surgeGates.foldl State.surgeGuard w).chamber k) = w.chamber k
      ∧ ∀ q, (k.body.surgeGates.foldl State.surgeGuard w).sluice q = w.sluice q := by
  have gates : k.body.surgeGates = [(k, .upper), (k, .lower)] := by cases k <;> rfl
  rw [gates, List.foldl_cons, List.foldl_cons, List.foldl_nil]
  have upper := State.surgeGuard_dead dead .upper
  have still : (w.surgeGuard (k, .upper)).dead k := by
    unfold State.dead
    rw [upper.chamber]
    exact dead
  have lower := State.surgeGuard_dead still .lower
  exact ⟨(lower.chamber k).trans (upper.chamber k), fun q => (lower.sluices q nofun).trans (upper.sluices q nofun)⟩

/-- R35: the surge guards of a chamber that is not live, and what follows them, leave the chamber and its sluices. -/
theorem RoundRun.after_dead {s v t : State} {k : Chamber} (run : RoundRun s v t k.body) (dead : (v.overflowed k.body).dead k) :
    (t.chamber k).state = ((v.overflowed k.body).chamber k).state
      ∧ (t.chamber k).haltCause = ((v.overflowed k.body).chamber k).haltCause
      ∧ ∀ i, ((v.overflowed k.body).sluice (.chamber k i)).ramp = none →
        t.sluice (.chamber k i) = (v.overflowed k.body).sluice (.chamber k i) := by
  obtain ⟨chamber, sluices⟩ := State.surgeGuards_dead dead
  have rest : Untouched k (k.body.surgeGates.foldl State.surgeGuard (v.overflowed k.body)) t := by
    rw [run.ends]
    refine (State.afterGuards_dead _ _).untouched k ?_
    unfold State.dead
    rw [chamber]
    exact dead
  rw [rest.chamber, chamber]
  refine ⟨rfl, rfl, fun i rampless => ?_⟩
  rw [rest.sluices i (by rw [sluices]; exact rampless), sluices]

/-- R34: a chamber that rises above its top level at a round end. -/
theorem RoundRun.rises {s v t : State} {k : Chamber} (run : RoundRun s v t k.body) (before : s.drive.overflow.get k = false)
    (after : t.drive.overflow.get k = true) :
    OverflowHalted v (v.overflowed k.body) k ∧ v.overflowed k.body = (v.overflowTold k).faultHalt k .overflow none := by
  have guarded : v.overflowed k.body = v.overflowGuard k := by cases k <;> rfl
  rw [guarded]
  rw [run.surged.overflow, guarded] at after
  rw [State.overflowGuard_rises (by rw [run.before.overflow]; exact before) after]
  exact ⟨(v.overflowTold_told k).halted, rfl⟩

/-- R34: what stands of it at the end of the event. -/
theorem RoundRun.risen {s v t : State} {b : Body} {k : Chamber} (run : RoundRun s v t b) (own : b = k.body)
    (before : s.drive.overflow.get k = false)
    (after : t.drive.overflow.get k = true) : OverflowHalted s t k := by
  subst own
  obtain ⟨guarded, -⟩ := run.rises before after
  obtain ⟨state, cause, sluices⟩ := run.after_dead guarded.dead
  have untouched (out : s.dead k) : Untouched k s v := run.before.untouched k (.inl out)
  have late {x : Sent} (sent : x ∈ (v.overflowed k.body).drive.sent.drop v.drive.sent.length) :
      x ∈ t.drive.sent.drop s.drive.sent.length :=
    drop_mem_of_le run.before.sent.length_le (drop_mem_of_prefix run.surged.sent sent)
  refine ⟨?_, ?_, fun present => ?_, late guarded.upperSent,
    fun present => late (guarded.crossSent (run.present.trans present)),
    fun st => run.surged.notices st _ (guarded.fault st), fun live => ?_, fun out => ?_⟩
  · unfold State.dead
    rw [state]
    exact guarded.dead
  · rw [sluices .upper guarded.upper.2.2]
    exact guarded.upper
  · have cross := guarded.cross (run.present.trans present)
    rw [run.surged.cross cross]
    exact cross
  · rw [state, cause]
    exact guarded.halted (run.before.live k live)
  · obtain ⟨same, still⟩ := guarded.stays ((untouched out).dead out)
    rw [state, cause, same, still, (untouched out).chamber]
    exact ⟨rfl, rfl⟩

end Sys2Proof.Machine
end

section
/-! SUPPORT. A gate that the surge guard closes at a round end (R35). -/
namespace Sys2Proof.Machine

/-! ## The guard that acts -/

/-- R35, R51: what the surge guard of a gate OPENING leaves of the gate and its chamber. -/
structure SurgeHalted (s t : State) (k : Chamber) (e : Side) : Prop where
  gate : t.gate k e =
    { state := .closing, outstanding := some .cls, lastMove := some .cls, timer := some (s.gateExpiry k e), surge := false }
  sent : ⟨.gate k e, .cls, false⟩ ∈ t.drive.sent.drop s.drive.sent.length
  fault (st : Station) : .fault ∈ (t.station st).notices
  dead : t.dead k
  wish (unposted : s.wish k = none) : t.wish k = none
  halted (live : (s.chamber k).state.live = true) :
    t.chamber k = { (s.chamber k).haltedBy (.fault .surge) with water := (t.chamber k).water }
      ∧ ∀ i, t.sluice (.chamber k i) = (s.sluice (.chamber k i)).shutBy s.sluiceExpiry
  stays (out : s.dead k) : t.chamber k = s.chamber k

/-- R35: the guard's CLOSE is sent, and its fault raised. -/
theorem State.surgeTold_sent {s : State} {k : Chamber} {e : Side} (opening : (s.gate k e).state = .opening) :
    (s.surgeTold k e).gate k e =
        { state := .closing, outstanding := some .cls, lastMove := some .cls, timer := some (s.gateExpiry k e), surge := false }
      ∧ (s.surgeTold k e).drive.sent = s.drive.sent ++ [⟨.gate k e, .cls, false⟩] := by
  let u := s.putGate k e { s.gate k e with surge := true }
  have own : u.gate k e = { s.gate k e with surge := true } := (State.putGate_gate ..).trans (if_pos ⟨rfl, rfl⟩)
  have state : (u.gate k e).state = .opening := by
    rw [own]
    exact opening
  have started := u.startGate_started k e .cls
  have drive : (s.surgeTold k e).drive = (u.startGate k e .cls).drive := by
    refine (State.raiseFault_drive' ..).trans ?_
    rw [State.closeGate_sends (by rw [state]; nofun) (by rw [state]; nofun) (by rw [state]; nofun)]
  rw [gate_of_drive drive, drive]
  exact ⟨started.gate, started.ordered⟩

theorem State.surgeGuard_halted {s : State} {k : Chamber} {e : Side} (surges : s.surges k e) :
    SurgeHalted s (s.surgeGuard (k, e)) k e := by
  rw [State.surgeGuard_acts_on surges]
  obtain ⟨gate, sent⟩ := State.surgeTold_sent surges.1
  have told := s.surgeTold_actuator k e
  have fault : ∀ st, .fault ∈ ((s.surgeTold k e).station st).notices :=
    fun st => State.raiseFault_fault_mem (State.loud_of_hard _ rfl) _ st
  generalize s.surgeTold k e = u at gate sent told fault ⊢
  have acts := u.faultHalt_acts k .surge (some e)
  have late : ⟨.gate k e, .cls, false⟩ ∈ (u.faultHalt k .surge (some e)).drive.sent.drop s.drive.sent.length := by
    refine drop_mem_of_prefix acts.sent ?_
    rw [sent, List.drop_left]
    exact List.mem_cons_self
  have notices (st : Station) := acts.notices st _ (fault st)
  have same : u.chamber k = s.chamber k := told.chamber k
  have unposted (none : s.wish k = none) : u.wish k = .none := by
    rw [State.wish, told.arbiter]
    exact none
  rcases s.dead_or_live k with dead | live
  · have still : u.dead k := by
      unfold State.dead
      rw [same]
      exact dead
    rw [State.faultHalt_out still] at late notices ⊢
    exact ⟨gate, late, notices, still, unposted, fun live => absurd (live.symm.trans dead) nofun, fun _ => same⟩
  · have halt := State.faultHalt_live (same ▸ live) .surge (some e)
    refine ⟨?_, late, notices, halt.dead, fun none => halt.wish (unposted none), fun _ => ⟨?_, fun i => ?_⟩,
      fun dead => absurd (live.symm.trans dead) nofun⟩
    · rw [halt.gates, if_neg fun spared => spared.1 rfl, gate]
    · rw [halt.chamber, same]
    · rw [halt.sluices, told.sluices _ nofun, told.sluiceExpiry]

/-! ## The guards before it, and what comes after it -/

/-- A chamber that takes no part any more, one gate of it apart from the rest. -/
structure Stays (k : Chamber) (e : Side) (s t : State) : Prop where
  chamber : t.chamber k = { s.chamber k with water := (t.chamber k).water }
  gate : t.gate k e = s.gate k e
  sluices (i : Side) (still : (s.sluice (.chamber k i)).ramp = none) : t.sluice (.chamber k i) = s.sluice (.chamber k i)
  wish (unposted : s.wish k = none) : t.wish k = none

theorem Untouched.stays {k : Chamber} {s t : State} (h : Untouched k s t) (e : Side) : Stays k e s t :=
  ⟨h.chamber, h.gates e, h.sluices, h.wish⟩

theorem Stays.refl (k : Chamber) (e : Side) (s : State) : Stays k e s s := ⟨rfl, rfl, fun _ _ => rfl, id⟩

theorem Stays.trans {k : Chamber} {e : Side} {s t u : State} (h : Stays k e s t) (h' : Stays k e t u) : Stays k e s u where
  chamber := by rw [h'.chamber, h.chamber]
  gate := h'.gate.trans h.gate
  sluices i still := by
    have same := h.sluices i still
    exact (h'.sluices i (by rw [same]; exact still)).trans same
  wish unposted := h'.wish (h.wish unposted)

theorem Stays.dead {k : Chamber} {e : Side} {s t : State} (h : Stays k e s t) (out : s.dead k) : t.dead k := by
  unfold State.dead
  rw [h.chamber]
  exact out

theorem State.surgeGuard_stays {s : State} {k : Chamber} {e : Side} {g : Chamber × Side} (other : g ≠ (k, e)) (dead : s.dead k)
    (unposted : s.wish k = none) : Stays k e s (s.surgeGuard g) := by
  obtain ⟨j, f⟩ := g
  by_cases own : j = k
  · subst own
    have moved := State.surgeGuard_dead dead f
    exact ⟨by rw [moved.chamber], moved.gates j e fun same => other (by cases same; rfl), fun i _ => moved.sluices _ nofun,
      fun none => by rw [State.wish, moved.arbiter]; exact none⟩
  · exact ((s.surgeGuard_acts j f).untouched k ⟨Ne.symm own, unposted, .inl (.inl dead)⟩).stays e

theorem State.surgeGuards_stay {k : Chamber} {e : Side} (l : List (Chamber × Side)) (others : ∀ g ∈ l, g ≠ (k, e)) {s : State}
    (dead : s.dead k) (unposted : s.wish k = none) : Stays k e s (l.foldl State.surgeGuard s) := by
  induction l generalizing s with
  | nil => exact .refl k e s
  | cons g l ih =>
    have first := State.surgeGuard_stays (others g List.mem_cons_self) dead unposted
    exact first.trans (ih (fun g' mem => others g' (List.mem_cons_of_mem _ mem)) (first.dead dead) (first.wish unposted))

theorem State.surgeGuard_untouched {s : State} {k : Chamber} {g : Chamber × Side} (unpaired : s.unpaired k)
    (own : g.1 = k → (s.gate k g.2).state ≠ .opening) : Untouched k s (s.surgeGuard g) := by
  obtain ⟨j, f⟩ := g
  by_cases same : j = k
  · subst same
    rw [State.surgeGuard_rests fun surges => own rfl surges.1]
    exact .refl j s
  · exact (s.surgeGuard_acts j f).untouched k ⟨Ne.symm same, unpaired⟩

/-- R35: the gates across a body, one of them named. -/
theorem surgeGates_of_near {b : Body} {k : Chamber} {e : Side} (near : b = k.body ∨ b = e.pound) :
    ∃ g : Chamber × Side, g ≠ (k, e) ∧ (g.1 = k → g.2 = e.other)
      ∧ (b.surgeGates = [(k, e), g] ∨ b.surgeGates = [g, (k, e)]) := by
  rcases near with rfl | rfl
  · exact ⟨(k, e.other), by cases e <;> nofun, fun _ => rfl, by cases k <;> cases e <;> decide⟩
  · exact ⟨(k.other, e), by cases k <;> nofun, by cases k <;> nofun, by cases k <;> cases e <;> decide⟩

/-- R34: a body whose chamber does not rise: the guard changes no more than its memory. -/
theorem RoundRun.unrisen {s v t : State} {b : Body} (run : RoundRun s v t b)
    (rests : ∀ k, ¬(b = k.body ∧ s.drive.overflow.get k = false ∧ t.drive.overflow.get k = true)) :
    ∃ x, v.overflowed b = { v with drive.overflow := x } := by
  have surged := run.surged.overflow
  have before : v.drive.overflow = s.drive.overflow := run.before.overflow
  unfold State.overflowed at surged ⊢
  cases chamber : b.chamber with
  | none => exact ⟨_, rfl⟩
  | some k =>
    have own : b = k.body := by cases b <;> cases chamber <;> rfl
    rw [chamber] at surged
    refine State.overflowGuard_rests fun ⟨low, high⟩ => rests k ⟨own, ?_, ?_⟩
    · rw [← before]
      exact low
    · rw [surged]
      exact high

end Sys2Proof.Machine
end

section
/-! SUPPORT. A round end at which a gate surges, from its start to its end (R35). -/
namespace Sys2Proof.Machine

theorem Untouched.of_overflow (k : Chamber) (v : State) (x : PerChamber Bool) : Untouched k v { v with drive.overflow := x } :=
  ⟨rfl, fun _ => rfl, fun _ _ => rfl, id⟩

theorem Chamber.body_inj {j k : Chamber} (same : j.body = k.body) : j = k := by
  cases j <;> cases k <;> cases same <;> rfl

/-- R12: a chamber OPENING its gate, or with EQ_SETTLE above 0 any chamber, takes no part before the guards. -/
theorem RoundRun.idle {s v t : State} {b : Body} (run : RoundRun s v t b) (free : s.CrossFree) {k : Chamber} {e : Side}
    (opening : (s.gate k e).state = .opening)
    (waits : s.settings.eqSettle = 0 → (s.chamber k).state.live = true → (s.chamber k).state = openingState e) :
    Untouched k s v ∧ v.unpaired k := by
  obtain ⟨owner, -, wishes⟩ := free
  have unposted : s.wish k = none := by
    rw [State.wish, wishes]
    cases k <;> rfl
  by_cases settles : s.settings.eqSettle = 0
  · have aside : s.aside k := by
      rcases s.dead_or_live k with dead | live
      · exact .inl dead
      · exact .inr ⟨⟨e, waits settles live, opening⟩, unposted⟩
    have same := run.before.untouched k aside
    exact ⟨same, same.wish unposted, .inl (same.aside aside)⟩
  · have same := (run.settling settles fun _ => True).untouched k trivial
    refine ⟨same, same.wish unposted, .inr ?_⟩
    rw [run.arbiter settles, owner]
    nofun

/-- R35: a gate OPENING at a round end of a body across it: `x` is the state in which its guard acts. -/
structure SurgeRun (s x t : State) (k : Chamber) (e : Side) : Prop where
  before : Untouched k s x
  earlier : s.drive.sent <+: x.drive.sent
  core : t.core = x.core
  stays (dead : (x.surgeGuard (k, e)).dead k) (unposted : (x.surgeGuard (k, e)).wish k = none) : Stays k e (x.surgeGuard (k, e)) t
  later : Acts (fun _ => False) (x.surgeGuard (k, e)) t

theorem SurgeRun.of_guards {s x t : State} {k : Chamber} {e : Side} {b : Body} (before : Untouched k s x)
    (earlier : s.drive.sent <+: x.drive.sent) (core : t.core = x.core) {l : List (Chamber × Side)} (others : ∀ g ∈ l, g ≠ (k, e))
    (ends : t = ((l.foldl State.surgeGuard (x.surgeGuard (k, e))).retries (.level b)).finish) : SurgeRun s x t k e := by
  have after := State.afterGuards_dead (l.foldl State.surgeGuard (x.surgeGuard (k, e))) (.level b)
  rw [← ends] at after
  refine ⟨before, earlier, core, fun dead unposted => ?_, (State.surgeGuards_acts l _).trans (after.toActs.mono fun _ => False.elim)⟩
  have stays := State.surgeGuards_stay l others dead unposted
  exact stays.trans ((after.untouched k (stays.dead dead)).stays e)

theorem RoundRun.surgeRun {s v t : State} {b : Body} (run : RoundRun s v t b) (free : s.CrossFree) {k : Chamber} {e : Side}
    (near : b = k.body ∨ b = e.pound)
    (rests : ¬(b = k.body ∧ s.drive.overflow.get k = false ∧ t.drive.overflow.get k = true))
    (opening : (s.gate k e).state = .opening) (other : (s.gate k e.other).state ≠ .opening)
    (waits : s.settings.eqSettle = 0 → (s.chamber k).state.live = true → (s.chamber k).state = openingState e) :
    ∃ x, SurgeRun s x t k e := by
  obtain ⟨idle, unpaired⟩ := run.idle free opening waits
  have still (j : Chamber) : ¬(b = j.body ∧ s.drive.overflow.get j = false ∧ t.drive.overflow.get j = true) := by
    rintro ⟨own, low, high⟩
    have same : j = k := by
      rcases near with mine | pound
      · exact Chamber.body_inj (own.symm.trans mine)
      · exact absurd (own.symm.trans pound) (by cases j <;> cases e <;> nofun)
    subst same
    exact rests ⟨own, low, high⟩
  obtain ⟨m, overflowed⟩ := run.unrisen still
  obtain ⟨g, apart, twin, gates⟩ := surgeGates_of_near (k := k) near
  have ends := run.ends
  have same : Untouched k v (v.overflowed b) := overflowed ▸ .of_overflow k v m
  have arbiter : (v.overflowed b).arbiter = v.arbiter := by rw [overflowed]
  have core : (v.overflowed b).core = v.core := by rw [overflowed]; rfl
  have sent : (v.overflowed b).drive.sent = v.drive.sent := by rw [overflowed]
  generalize v.overflowed b = w at ends same arbiter core sent
  have whole : Untouched k s w := idle.trans same
  have earlier : s.drive.sent <+: w.drive.sent := sent ▸ run.before.sent
  rcases gates with first | last
  · rw [first] at ends
    exact ⟨w, .of_guards (l := [g]) whole earlier (run.core.trans core.symm) (by simpa using apart) ends⟩
  · rw [last] at ends
    have paired : w.unpaired k := ⟨same.wish unpaired.1, unpaired.2.imp same.aside fun idle => by rw [arbiter]; exact idle⟩
    have guarded : Untouched k w (w.surgeGuard g) := State.surgeGuard_untouched paired fun own => by
      rw [twin own, whole.gates]
      exact other
    exact ⟨w.surgeGuard g, .of_guards (l := []) (whole.trans guarded) (earlier.trans (w.surgeGuard_acts g.1 g.2).sent)
      (run.core.trans (core.symm.trans (State.surgeGuard_core ..).symm)) nofun ends⟩

end Sys2Proof.Machine
end

section
/-! SUPPORT. A round end with both chambers OUT_OF_SERVICE and no gate OPENING: its frames and its capture record (R8, R34). -/
namespace Sys2Proof.Machine

/-! ## What changes without a consequence -/

/-- The levels and the water records have changed, and nothing else. -/
structure Measured (s t : State) : Prop where
  frame : t = { s with levels := t.levels, chambers := t.chambers }
  chamber (k : Chamber) : t.chamber k = { s.chamber k with water := (t.chamber k).water }

theorem Measured.refl (s : State) : Measured s s := ⟨rfl, fun _ => rfl⟩

theorem Measured.trans {s t u : State} (h : Measured s t) (h' : Measured t u) : Measured s u where
  frame := by rw [h'.frame, h.frame]
  chamber k := by rw [h'.chamber, h.chamber]

theorem Measured.of_levels {s t : State} (frame : t = { s with levels := t.levels }) : Measured s t := by
  generalize t.levels = l at frame
  subst frame
  exact ⟨rfl, fun _ => rfl⟩

theorem Measured.foldl {α : Type} {f : State → α → State} (each : ∀ t x, t.Quiet → Measured t (f t x))
    (keeps : ∀ t u, Measured t u → t.Quiet → u.Quiet) (l : List α) {s : State} (quiet : s.Quiet) : Measured s (l.foldl f s) := by
  induction l generalizing s with
  | nil => exact .refl s
  | cons x l ih => exact (each s x quiet).trans (ih (keeps _ _ (each s x quiet) quiet))

theorem State.Quiet.congr {s t : State} (quiet : s.Quiet) (agenda : t.agenda = s.agenda) (book : t.book = s.book)
    (drive : t.drive = s.drive) (arbiter : t.arbiter = s.arbiter)
    (chamber : ∀ k, t.chamber k = { s.chamber k with water := (t.chamber k).water }) : t.Quiet := by
  obtain ⟨⟨idle, deferred⟩, out, rampless, owner⟩ := quiet
  refine ⟨⟨agenda.trans idle, (congrArg Book.deferred book).trans deferred⟩, fun k => ?_, fun q => ?_, ?_⟩
  · rw [chamber]
    exact out k
  · rw [sluice_of_drive drive]
    exact rampless q
  · rw [arbiter]
    exact owner

section
variable {s t : State} (h : Measured s t)
include h

theorem Measured.journal : t.journal = s.journal := by rw [h.frame]
theorem Measured.capture : t.capture = s.capture := by rw [h.frame]
theorem Measured.drive : t.drive = s.drive := by rw [h.frame]
theorem Measured.stations : t.stations = s.stations := by rw [h.frame]
theorem Measured.settings : t.settings = s.settings := by rw [h.frame]
theorem Measured.time : t.time = s.time := by rw [h.frame]; rfl
theorem Measured.book : t.book = s.book := by rw [h.frame]
theorem Measured.crossPresent : t.crossPresent = s.crossPresent := by rw [h.frame]; rfl

theorem Measured.quiet (quiet : s.Quiet) : t.Quiet :=
  quiet.congr (by rw [h.frame]) h.book h.drive (by rw [h.frame]) h.chamber

end

/-! ## Up to the guards -/

theorem State.tellEqualised_quiet {s : State} (quiet : s.Quiet) (p : Pair) : s.tellEqualised p = s := by
  rcases s.tellEqualised_cases p with told | ⟨k, kind, -, running, -⟩ | ⟨-, engaged, -⟩
  · rw [told, settle_nil _ _ quiet.1.1]
  · simp only [Sequencer.running, (quiet.2.1 k).1, Bool.and_eq_true, decide_eq_true_eq] at running
    cases kind <;> exact absurd running.1 nofun
  · exact absurd (quiet.2.2.2.symm.trans engaged) nofun

theorem State.setPair_measured (s : State) (p : Pair) (x : PairState) : Measured s (s.setPair p x) :=
  .of_levels (by cases p <;> rfl)

theorem State.testPair_measured {s : State} (quiet : s.Quiet) (p : Pair) : Measured s (s.testPair p) := by
  unfold State.testPair
  (repeat' split)
  · rw [State.tellEqualised_quiet ((s.setPair_measured p _).quiet quiet)]
    exact s.setPair_measured p _
  · exact s.setPair_measured p _
  · exact .refl s
  · exact s.setPair_measured p _
  · exact .refl s

theorem State.setBody_measured (s : State) (b : Body) (r : BodyRec) : Measured s (s.setBody b r) := .of_levels rfl

theorem State.lateStart_measured (s : State) (k : Chamber) : Measured s (s.lateStart k) := by
  unfold State.lateStart
  dsimp only
  (repeat' split)
  · refine ⟨rfl, fun j => ?_⟩
    rw [State.setChamber_chamber]
    split
    · next own => rw [own]
    · rfl
  · exact .refl s
  · exact .refl s

theorem State.handOver_measured (s : State) (b : Body) : Measured s (s.handOver b) := by
  unfold State.handOver
  dsimp only
  split
  · exact (s.setBody_measured b _).trans (State.lateStart_measured ..)
  · exact s.setBody_measured b _

theorem State.ramped_quiet {s : State} (quiet : s.Quiet) (b : Body) : s.ramped b = s := by
  have still (q : Sluice) : s.rampLevel b q = s := by rw [State.rampLevel, quiet.2.2.1 q]
  simp only [State.ramped, allSluices, List.foldl_cons, List.foldl_nil, still]

/-! ## The level fault (R8) -/

/-- R8: the fault that a level state raises, `good` when gauge A counts in the round. -/
def levelFaultOf (b : Body) (old new : LevelState) (good : Prop) [Decidable good] : Option (FaultKind × Subject) :=
  if new = old then none
  else
    match new with
    | .uncertain => some (.gaugeDisagree, .body b)
    | .single => some (.gaugeSingle, .gauge b (if good then .b else .a))
    | .lost => some (.gaugeLost, .body b)
    | _ => none

theorem State.levelFault_eq (s : State) (b : Body) (old : LevelState) (good : Bool) :
    s.levelFault b old good =
      match levelFaultOf b old (s.body b).state (good = true) with
      | some f => s.raiseFault f.1 f.2
      | none => s := by
  unfold State.levelFault levelFaultOf
  by_cases same : old = (s.body b).state
  · rw [if_pos same, if_pos same.symm]
  · rw [if_neg same, if_neg (Ne.symm same)]
    cases (s.body b).state <;> rfl

theorem levelFaultOf_congr (b : Body) (old new : LevelState) {p q : Prop} [Decidable p] [Decidable q] (same : p ↔ q) :
    levelFaultOf b old new p = levelFaultOf b old new q := by
  unfold levelFaultOf
  simp only [same]

theorem levelFaultOf_kind {b : Body} {old new : LevelState} {good : Prop} [Decidable good] {f : FaultKind × Subject}
    (raised : levelFaultOf b old new good = some f) : f.1.hard = true ∨ f.1 = .gaugeSingle := by
  unfold levelFaultOf at raised
  split at raised
  · cases raised
  · cases new <;> cases raised
    · exact .inr rfl
    · exact .inl rfl
    · exact .inl rfl

/-- R8, R172: the state with the frame of a fault written, if there is one. -/
def State.faultWritten (s : State) : Option (FaultKind × Subject) → State
  | some f => s.write (.fault f.1 f.2 s.time)
  | none => s

/-- R8, R173: the capture record once a level fault has been offered to it, if there is one. -/
def State.faultCaptured (s : State) : Option (FaultKind × Subject) → Capture
  | some f => if f.1 = .gaugeSingle ∧ s.settings.quietSoft = true then s.capture else s.capture.offer (s.captured f.1 f.2)
  | none => s.capture

/-- R8, R172: a state after the level fault that a round raises, if any. -/
structure LevelFaulted (s t : State) (fault : Option (FaultKind × Subject)) : Prop where
  journal : t.journal = (s.faultWritten fault).journal
  capture : t.capture = s.faultCaptured fault
  notices (f : FaultKind × Subject) (raised : fault = some f) (loud : ¬(f.1 = .gaugeSingle ∧ s.settings.quietSoft = true)) (st : Station) :
    .fault ∈ (t.station st).notices
  plant : PlantMoved s t
  drive : t.drive = s.drive

theorem State.raiseFault_silent {s : State} {f : FaultKind} (soft : f.hard = false) (silent : s.settings.quietSoft = true) (x : Subject) :
    s.raiseFault f x = s.write (.fault f x s.time) := by
  rw [State.raiseFault, soft, silent]
  rfl

theorem State.levelFault_faulted (s : State) (b : Body) (old : LevelState) (good : Bool) :
    LevelFaulted s (s.levelFault b old good) (levelFaultOf b old (s.body b).state (good = true)) := by
  rw [State.levelFault_eq]
  cases raised : levelFaultOf b old (s.body b).state (good = true) with
  | none => exact ⟨rfl, rfl, nofun, .refl s, rfl⟩
  | some f =>
    by_cases silent : f.1 = .gaugeSingle ∧ s.settings.quietSoft = true
    · refine ⟨State.raiseFault_journal .., ?_, ?_, s.raiseFault_moved .., State.raiseFault_drive' ..⟩
      · have soft : f.1.hard = false := by rw [silent.1]; rfl
        refine Eq.trans ?_ (if_pos silent).symm
        dsimp only
        rw [State.raiseFault_silent soft silent.2, State.write_capture]
      · rintro g same loud
        cases same
        exact absurd silent loud
    · have loud : s.Loud f.1 := by
        rcases levelFaultOf_kind raised with hard | single
        · exact .inr hard
        · exact .inl (Bool.eq_false_iff.mpr fun quiet => silent ⟨single, quiet⟩)
      refine ⟨State.raiseFault_journal .., ?_, fun _ _ _ => State.raiseFault_fault_mem loud _, s.raiseFault_moved ..,
        State.raiseFault_drive' ..⟩
      refine Eq.trans ?_ (if_neg silent).symm
      dsimp only
      rw [State.raiseFault_capture loud]

end Sys2Proof.Machine
end

section
/-! SUPPORT. A round end with both chambers OUT_OF_SERVICE, from its start to its end (R8, R34). -/
namespace Sys2Proof.Machine

/-- R173: what a capture reads. -/
theorem State.captured_congr {s t : State} (time : t.time = s.time) (view : ∀ c, t.bodyView c = s.bodyView c)
    (chamber : ∀ k, t.chamber k = { s.chamber k with water := (t.chamber k).water }) (f : FaultKind) (x : Subject) :
    t.captured f x = s.captured f x := by
  have near : t.nearest x = s.nearest x := by
    cases x with
    | chamber k =>
      unfold State.nearest
      dsimp only
      rw [chamber]
      rfl
    | gate k e => rfl
    | sluice q => cases q <;> rfl
    | body c => rfl
    | gauge c g => rfl
    | lamp l => rfl
    | station st => rfl
    | store => rfl
  have states : ∀ k, (t.chamber k).state = (s.chamber k).state := fun k => by rw [chamber]
  unfold State.captured
  simp only [time, near, view, states]

/-- R8: up to the guards, a round end of a Quiet state with the level fault it raises. -/
structure RoundFaulted (s v : State) (fault : Option (FaultKind × Subject)) : Prop where
  journal : v.journal = (s.faultWritten fault).journal
  capture : v.capture = s.faultCaptured fault
  notices (f : FaultKind × Subject) (raised : fault = some f) (loud : ¬(f.1 = .gaugeSingle ∧ s.settings.quietSoft = true)) (st : Station) :
    .fault ∈ (v.station st).notices
  drive : v.drive = s.drive
  time : v.time = s.time
  book : v.book = s.book
  quiet : v.Quiet

/-- R8, R9: the level measured, its fault raised, and what follows of it before the guards. -/
theorem LevelFaulted.round {s l x v : State} {now : Nat} {fault : Option (FaultKind × Subject)} (quiet : s.Quiet)
    (levelled : Measured { s with now := now } l) (viewed : ∀ c, l.bodyView c = s.bodyView c) (faulted : LevelFaulted l x fault)
    (handed : x.Quiet → Measured x v) : RoundFaulted s v fault := by
  have still : l.Quiet := levelled.quiet (s := { s with now := now }) quiet
  have calmed : x.Quiet :=
    still.congr faulted.plant.agenda faulted.plant.book faulted.drive faulted.plant.arbiter fun k => by rw [faulted.plant.chamber]
  have moved := handed calmed
  have time : l.time = s.time := levelled.time
  have captured (f : FaultKind) (y : Subject) : l.captured f y = s.captured f y :=
    State.captured_congr time viewed levelled.chamber f y
  have settings : l.settings = s.settings := levelled.settings
  have capture : l.capture = s.capture := levelled.capture
  have reserved : l.reserved = s.reserved := by
    have book : l.book = s.book := levelled.book
    simp only [State.reserved, State.reserveOf, State.batch, book]
  refine ⟨moved.journal.trans (faulted.journal.trans ?_), moved.capture.trans (faulted.capture.trans ?_), fun f raised loud st => ?_,
    moved.drive.trans (faulted.drive.trans levelled.drive), moved.time.trans (faulted.plant.time.trans time),
    moved.book.trans (faulted.plant.book.trans levelled.book), moved.quiet calmed⟩
  · cases fault with
    | none => exact levelled.journal
    | some f =>
      rw [State.faultWritten, time]
      exact State.write_journal_congr (s := s) levelled.journal reserved _
  · cases fault with
    | none => exact capture
    | some f =>
      rw [State.faultCaptured, settings, captured, capture]
      rfl
  · rw [State.station, moved.stations]
    exact faulted.notices f raised (by rw [settings]; exact loud) st

theorem roundEnd_faulted {s a : State} {now : Nat} (quiet : s.Quiet) (read : Measured { s with now := now } a)
    (view : ∀ c, a.bodyView c = s.bodyView c) (b : Body) (goodA goodB : Bool) :
    RoundFaulted s ((a.handedOn b goodA goodB).ramped b)
      (levelFaultOf b (a.body b).state (a.reconciled b goodA goodB).2 ((a.goodValue b .a goodA).isSome = true)) := by
  have viewed (c : Body) : (a.levelled b goodA goodB).bodyView c = s.bodyView c := by
    rw [← view c]
    unfold State.bodyView State.levelled
    rw [State.setBody_body]
    split
    · next own => rw [own]
    · rfl
  have state : ((a.levelled b goodA goodB).body b).state = (a.reconciled b goodA goodB).2 := by
    rw [State.levelled, State.setBody_body, if_pos rfl]
  have faulted := (a.levelled b goodA goodB).levelFault_faulted b (a.body b).state (a.goodValue b .a goodA).isSome
  rw [state] at faulted
  refine faulted.round quiet (read.trans (a.setBody_measured b _)) viewed fun calmed => ?_
  have handed : Measured _ (a.handedOn b goodA goodB) :=
    (Measured.foldl (fun t p still => State.testPair_measured still p) (fun _ _ moved still => moved.quiet still) b.pairs calmed).trans
      (State.handOver_measured ..)
  rw [State.ramped_quiet (handed.quiet calmed)]
  exact handed

/-! ## The guards, and the end of the event -/

theorem State.surgeGuards_rest {s : State} (shut : ∀ k e, (s.gate k e).state ≠ .opening) (l : List (Chamber × Side)) :
    l.foldl State.surgeGuard s = s := by
  induction l with
  | nil => rfl
  | cons g l ih =>
    rw [List.foldl_cons, State.surgeGuard_rests fun surges => shut g.1 g.2 surges.1]
    exact ih

/-- With nothing kept and no gate OPENING, what is done by the overflow guard ends the event. -/
theorem RoundRun.ends_quiet {s v t : State} {b : Body} (run : RoundRun s v t b) (calm : (v.overflowed b).Calm)
    (kept : (v.overflowed b).NothingKept) (shut : ∀ k e, ((v.overflowed b).gate k e).state ≠ .opening) :
    t = (v.overflowed b).derive := by
  rw [run.ends, State.surgeGuards_rest shut, State.retries_kept kept, State.finish_calm calm]

/-- R34: of a Quiet state whose chamber rises above its top level. -/
theorem RoundRun.rises_quiet {s v t : State} {b : Body} {k : Chamber} (run : RoundRun s v t b) (own : b = k.body) (quiet : v.Quiet)
    (shut : ∀ j e, (v.gate j e).state ≠ .opening) (before : s.drive.overflow.get k = false) (after : t.drive.overflow.get k = true) :
    t.journal = (v.write (.fault .overflow (.chamber k) v.time)).journal
      ∧ t.capture = v.capture.offer (t.captured .overflow (.chamber k))
      ∧ t.drive.sent = v.drive.sent ++ [⟨.sluice (.chamber k .upper), .move 0, false⟩]
        ++ if v.crossPresent then [⟨.sluice .cross, .move 0, false⟩] else [] := by
  subst own
  have guarded := (run.rises before after).2
  have told := v.overflowTold_told k
  have out : ((v.overflowTold k).chamber k).state.live = false := by
    rw [told.untouched]
    exact quiet.out k
  rw [State.faultHalt_out out] at guarded
  have ended := run.ends_quiet
  rw [guarded] at ended
  have calm : (v.overflowTold k).Calm := ⟨told.agenda.trans quiet.1.1, (congrArg Book.deferred told.book).trans quiet.1.2⟩
  have kept : (v.overflowTold k).NothingKept := by
    refine ⟨fun j => ?_, fun q r ramp => ?_⟩
    · rw [told.untouched]
      exact (quiet.2.1 j).2
    · rw [told.rampless q (quiet.2.2.1 q)] at ramp
      cases ramp
  have ends := ended calm kept fun j e => by
    rw [told.gates]
    exact shut j e
  have captured : t.captured .overflow (.chamber k) = v.captured .overflow (.chamber k) := by
    have core : t.core = v.core := by
      rw [ends]
      exact told.core
    have levels := SameLevels.of_core core
    have time : t.time = v.time := by rw [State.time, (SameRecords.of_core core).clock, State.time]
    refine State.captured_congr time (fun c => ?_) (fun j => ?_) _ _
    · rw [State.bodyView, State.bodyView, (levels.1 c).handedLevel, (levels.1 c).handedState]
    · rw [ends, State.derive_chamber, told.untouched]
  rw [captured, ends]
  exact ⟨told.journal, told.capture, told.orders⟩

/-- R34: of a Quiet state in which no chamber rises. -/
theorem RoundRun.rests_quiet {s v t : State} {b : Body} (run : RoundRun s v t b) (quiet : v.Quiet)
    (shut : ∀ j e, (v.gate j e).state ≠ .opening)
    (rests : ∀ k, ¬(b = k.body ∧ s.drive.overflow.get k = false ∧ t.drive.overflow.get k = true)) :
    t.journal = v.journal ∧ t.capture = v.capture ∧ t.drive.sent = v.drive.sent ∧ ∀ st, t.station st = v.station st := by
  obtain ⟨m, overflowed⟩ := run.unrisen rests
  have ended := run.ends_quiet
  rw [overflowed] at ended
  have ends := ended quiet.1 quiet.nothingKept shut
  rw [ends]
  exact ⟨rfl, rfl, rfl, fun _ => rfl⟩

theorem State.faultWritten_reserved (s : State) (fault : Option (FaultKind × Subject)) :
    (s.faultWritten fault).reserved = s.reserved := by
  cases fault with
  | none => rfl
  | some f => exact (s.write_moved _).reserved

/-- R8, R34: the frames, the capture record and the orders of a round end of a Quiet state with no gate OPENING. -/
theorem RoundRun.quiet_frames {s v t : State} {b : Body} {fault : Option (FaultKind × Subject)} (run : RoundRun s v t b)
    (faulted : RoundFaulted s v fault) (shut : ∀ j e, (s.gate j e).state ≠ .opening) :
    (∀ k, b = k.body ∧ s.drive.overflow.get k = false ∧ t.drive.overflow.get k = true →
      t.journal = ((s.faultWritten fault).write (.fault .overflow (.chamber k) s.time)).journal
        ∧ t.capture = (s.faultCaptured fault).offer (t.captured .overflow (.chamber k))
        ∧ t.drive.sent = s.drive.sent ++ [⟨.sluice (.chamber k .upper), .move 0, false⟩]
          ++ if s.crossPresent then [⟨.sluice .cross, .move 0, false⟩] else [])
    ∧ ((∀ k, ¬(b = k.body ∧ s.drive.overflow.get k = false ∧ t.drive.overflow.get k = true)) →
      t.journal = (s.faultWritten fault).journal ∧ t.capture = s.faultCaptured fault ∧ t.drive.sent = s.drive.sent
      ∧ ∀ f, fault = some f → ¬(f.1 = .gaugeSingle ∧ s.settings.quietSoft = true) → ∀ st, .fault ∈ (t.station st).notices) := by
  have still (j : Chamber) (e : Side) : (v.gate j e).state ≠ .opening := by
    rw [gate_of_drive faulted.drive]
    exact shut j e
  refine ⟨fun k ⟨own, low, high⟩ => ?_, fun rests => ?_⟩
  · obtain ⟨journal, capture, sent⟩ := run.rises_quiet own faulted.quiet still low high
    have reserved : v.reserved = (s.faultWritten fault).reserved := by
      rw [s.faultWritten_reserved]
      simp only [State.reserved, State.reserveOf, State.batch, faulted.book]
    rw [faulted.time] at journal
    rw [faulted.drive, run.present] at sent
    exact ⟨journal.trans (State.write_journal_congr faulted.journal reserved _), capture.trans (by rw [faulted.capture]), sent⟩
  · obtain ⟨journal, capture, sent, stations⟩ := run.rests_quiet faulted.quiet still rests
    refine ⟨journal.trans faulted.journal, capture.trans faulted.capture, sent.trans (congrArg Drive.sent faulted.drive),
      fun f raised loud st => ?_⟩
    rw [stations]
    exact faulted.notices f raised loud st

end Sys2Proof.Machine
end

section
/-! A round end raises the level faults and acts by the overflow and surge guards (R8, R34, R35). -/
namespace Sys2Proof.Machine

/-- R35: at the end of an event whose round end finds a gate surging. -/
structure SurgeClosed (s t : State) (k : Chamber) (e : Side) : Prop where
  gate : t.gate k e =
    { state := .closing, outstanding := some .cls, lastMove := some .cls, surge := false
      timer := some (t.now + seconds ((s.settings.chamber.get k).gateLimit.get e)) }
  sent : ⟨.gate k e, .cls, false⟩ ∈ t.drive.sent.drop s.drive.sent.length
  fault (st : Station) : .fault ∈ (t.station st).notices
  halted (live : (s.chamber k).state.live = true) :
    t.chamber k = { (s.chamber k).haltedBy (.fault .surge) with water := (t.chamber k).water }
      ∧ ∀ i, ∃ x, t.sluice (.chamber k i) = SluiceRec.shutBy x t.sluiceExpiry
  stays (out : s.dead k) : (t.chamber k).state = (s.chamber k).state

theorem State.surging_iff {s : State} {k : Chamber} {e : Side} {x y : Nat} (pound : s.level e.pound = some x)
    (chamber : s.level k.body = some y) :
    s.surging k e = true ↔ x + 2 * s.settings.eqBand < y ∨ y + 2 * s.settings.eqBand < x := by
  rw [State.surging, pound, chamber]
  show decide (2 * s.settings.eqBand < distance x y) = true ↔ _
  rw [decide_eq_true_eq, distance]
  omega

theorem SurgeRun.closed {s x t : State} {k : Chamber} {e : Side} (run : SurgeRun s x t k e) (settings : x.settings = s.settings)
    (unposted : s.wish k = none) (surges : x.surges k e) : SurgeClosed s t k e := by
  have halted := State.surgeGuard_halted surges
  obtain ⟨y, guarded⟩ : ∃ y, x.surgeGuard (k, e) = y := ⟨_, rfl⟩
  have stays := run.stays
  have later := run.later
  rw [guarded] at halted stays later
  have stays := stays halted.dead (halted.wish (run.before.wish unposted))
  have now : t.now = x.now := now_of_core run.core
  have expiry : t.sluiceExpiry = x.sluiceExpiry := by
    rw [State.sluiceExpiry, State.sluiceExpiry, now, (SameRecords.of_core run.core).settings]
  refine ⟨?_, ?_, fun st => later.notices st _ (halted.fault st), fun live => ?_, fun dead => ?_⟩
  · rw [stays.gate, halted.gate, now, ← settings]
    rfl
  · exact drop_mem_of_le run.earlier.length_le (drop_mem_of_prefix later.sent halted.sent)
  · have was : (x.chamber k).state.live = true := by
      rw [run.before.state]
      exact live
    obtain ⟨chamber, sluices⟩ := halted.halted was
    refine ⟨?_, fun i => ⟨x.sluice (.chamber k i), ?_⟩⟩
    · rw [stays.chamber, chamber, run.before.chamber]
      rfl
    · rw [stays.sluices i (by rw [sluices]; exact (SluiceRec.shutBy_facts ..).1), sluices, expiry]
  · rw [stays.chamber]
    exact (congrArg Sequencer.state (halted.stays (run.before.dead dead))).trans run.before.state

/-- R35: a gate OPENING whose levels differ by more than 2 x EQ_BAND. -/
theorem RoundRun.surge {s v t : State} {b : Body} (run : RoundRun s v t b) (free : s.CrossFree) {k : Chamber} {e : Side}
    (near : b = k.body ∨ b = e.pound)
    (rests : ¬(b = k.body ∧ s.drive.overflow.get k = false ∧ t.drive.overflow.get k = true))
    (opening : (s.gate k e).state = .opening) (fresh : (s.gate k e).surge = false) (other : (s.gate k e.other).state ≠ .opening)
    {x y : Nat} (pound : (t.body e.pound).handedLevel = some x) (chamber : (t.body k.body).handedLevel = some y)
    (apart : x + 2 * s.settings.eqBand < y ∨ y + 2 * s.settings.eqBand < x)
    (waits : s.settings.eqSettle = 0 → (s.chamber k).state.live = true → (s.chamber k).state = openingState e) :
    SurgeClosed s t k e := by
  obtain ⟨w, surged⟩ := run.surgeRun free near rests opening other waits
  have level (c : Body) : w.level c = (t.body c).handedLevel := ((SameLevels.of_core surged.core).1 c).handedLevel.symm
  have settings : w.settings = s.settings :=
    (SameRecords.of_core surged.core).settings.symm.trans ((SameRecords.of_core run.core).settings.trans run.settings)
  refine surged.closed settings ?_ ⟨?_, ?_, ?_⟩
  · rw [State.wish, free.2.2]
    cases k <;> rfl
  · rw [surged.before.gates]
    exact opening
  · rw [surged.before.gates]
    exact fresh
  · rw [State.surging_iff ((level _).trans pound) ((level _).trans chamber), settings]
    exact apart

/-- R8: the fault of a round end, by the reading of gauge B and what stands of gauge A's history. -/
theorem roundFault_eq {s a t : State} {b : Body} {goodA goodB : Bool} (state : (a.body b).state = (s.body b).state)
    (history : (a.body b).gauges.a.history = (s.body b).gauges.a.history)
    (ended : t = (a.roundEnd b goodA goodB).finish) :
    levelFaultOf b (a.body b).state (a.reconciled b goodA goodB).2 ((a.goodValue b .a goodA).isSome = true)
      = levelFaultOf b (s.body b).state (t.body b).state (goodA = true ∧ (s.body b).gauges.a.history ≠ []) := by
  have level : (t.body b).state = (a.reconciled b goodA goodB).2 := by
    rw [ended]
    exact congrArg Prod.snd (roundEnd_ended a b goodA goodB).level
  rw [state, level]
  refine levelFaultOf_congr _ _ _ ?_
  unfold State.goodValue
  rw [show (a.body b).gauges.get .a = (a.body b).gauges.a from rfl, history, gaugeValue_eq]
  cases goodA with
  | false => simp
  | true => by_cases empty : (s.body b).gauges.a.history = [] <;> simp [empty]

end Sys2Proof.Machine
end

section
/-! A round end raises the level faults and acts by the overflow and surge guards (R8, R34, R35). -/
namespace Sys2Proof.Machine

/-- Settles O15. -/
theorem roundEndRaisesLevelFaultsAndGuards : Obligations.RoundEndRaisesLevelFaultsAndGuards := by
  intro s p c polled gauge answer t run b top rises live ordered
  obtain ⟨now, st, raw, ends, round⟩ := roundEnd_of_answer polled gauge answer run
  have alive {k : Chamber} : live k ↔ (s.chamber k).state.live = true := (ChamberState.live_iff _).symm
  have asleep {k : Chamber} (out : ¬live k) : s.dead k := Bool.eq_false_iff.mpr fun lives => out (alive.mpr lives)
  refine ⟨round.overflow, fun k ⟨own, low, high⟩ => ?_, ?_, fun quiet shut => ?_⟩
  · have risen := round.risen own low high
    refine ⟨⟨risen.upper.1, risen.upper.2.1, risen.upper.2.2, risen.upperSent⟩, fun present => ?_, risen.fault,
      fun lives => risen.halted (alive.mp lives), fun out => risen.stays (asleep out)⟩
    obtain ⟨state, target, ramp⟩ := risen.cross present
    exact ⟨state, target, ramp, risen.crossSent present⟩
  · intro k e x y calm free near rests opening fresh other pound chamber apart waits
    have closed := round.surge free near rests opening fresh other pound chamber apart fun settles lives =>
      waits settles (alive.mpr lives)
    refine ⟨closed.gate, closed.sent, closed.fault, fun lives => ?_, fun out => closed.stays (asleep out)⟩
    obtain ⟨halted, sluices⟩ := closed.halted (alive.mp lives)
    refine ⟨halted, fun i => ?_⟩
    obtain ⟨r, shutting⟩ := sluices i
    obtain ⟨ramp, rest⟩ := r.shutBy_facts t.sluiceExpiry
    rw [shutting]
    refine ⟨ramp, rest.imp_left fun ⟨state, step, same⟩ => ?_⟩
    rw [SluiceRec.shutBy_step, same]
    exact ⟨step, state⟩
  · intro level u record
    have read : Measured { s with now := now } (({ s with now := now } : State).readB p.body st raw) := .of_levels rfl
    have own := ({ s with now := now } : State).readB_body p.body st raw p.body
    rw [if_pos rfl] at own
    have faulted := roundEnd_faulted quiet read (fun c => ?_) p.body p.goodA (decide (st = .ok))
    · have same := roundFault_eq (s := s) (by rw [own]; rfl) (by rw [own]; rfl) ends
      rw [same] at faulted
      exact round.quiet_frames faulted shut
    · rw [State.bodyView, State.readB_body]
      split
      · next mine => rw [mine]; rfl
      · rfl

end Sys2Proof.Machine
end
